-- ==== Sys2Proof/Word.lean ====
section
/-! DEFINITION. The register word and the byte (R5), and nothing else: every helper over them stands in
Sys2Proof/Machine/. -/

namespace Sys2Proof

/-- A register: 32 bits, little-endian (R5). -/
abbrev Word := BitVec 32

/-- A byte of LMEM, of a packet or of a record. -/
abbrev Byte := BitVec 8

end Sys2Proof
end

