-- ==== Sys2Proof/Syntax.lean ====
section
/-! DEFINITION. The commands: one constructor per row of spec/opcode_table.json, in the table's order. An operand is what
the writer chooses (an instance, a value), or what the outside world presents (a measured value, a level, the bytes of a
packet, the errors of a read): the device does not make it up. -/

namespace Sys2Proof

/-- The access path of a register access (R7). -/
inductive Path where
  | host | cascade | eyepiece
  deriving DecidableEq, Repr

/-- The size of a register read (R6): some bytes of one register, named by byte enables; one register; or 64 bits. -/
inductive Size where
  | part (be : BitVec 4)
  | word
  | double
  deriving DecidableEq, Repr

/-- Who writes the keep store (R385): the KPS page at the word KPS_SEL names, or SEC or SEQ at a word of its region. -/
inductive KeepSrc where
  | kps
  | sec (index : Nat)
  | seq (index : Nat)
  deriving DecidableEq, Repr

/-- The symbols in error in one codeword as a read finds it (R303): the codeword's address, and for each wrong symbol its
number and what it differs by; or a read that failed for parity after its retries (R299). -/
structure CwErr where
  addr : Nat
  syms : List (Nat × Byte)
  parity : Bool
  deriving DecidableEq, Repr

/-- The strap balls as three samples show them; none where the samples disagree (R296, R368, R409). -/
structure Straps where
  mstrap : Option (BitVec 7)
  casen : Option Bool
  cnode : Option (BitVec 6)
  deriving DecidableEq, Repr

/-- A packet as it arrives at a port (R370); its TYPE is the command's. -/
structure RxPacket where
  portB : Bool
  dst : Nat
  src : Nat
  hseq : Nat
  reflected : Bool
  hops : Nat
  tag : Nat
  data : List Byte
  deriving DecidableEq, Repr

/-- The commands of the block. An operand left out stands for the plain form: a 32-bit access, a selected edge of a pulse long
enough, a flash that every delay setting reads, a Function Mask that is clear. -/
inductive Instr where
  /-- HOST_REG_WRITE (R11). A host write to a register that has no row of its own, applied under its access type. -/
  | hostRegWrite (addr : Nat) (be : BitVec 4) (ep : Bool) (v : Word) (hi : Option (BitVec 4 × Word) := none)
  /-- COUNTER_LOW_READ (R7). A read of the low word of a 64-bit counter returns it and latches the high word for that access path. -/
  | counterLowRead (path : Path) (addr : Nat) (sz : Size := .word)
  /-- COUNTER_HIGH_READ (R7). A read of the high word returns the value latched on that path, or 0 if none was latched. -/
  | counterHighRead (path : Path) (addr : Nat) (sz : Size := .word)
  /-- PRISM_WRITE (R364). A write through a Prism address is applied to each member instance one KCLK cycle apart, and is carried ring-wide where PRS_RING selects it. -/
  | prismWrite (blk inst off : Nat) (v : Word)
  /-- PRISM_READ (R10). A read through a Prism address returns the register of the lowest-numbered member, or 0 when the group has no member. -/
  | prismRead (path : Path) (blk inst off : Nat) (sz : Size := .word)
  /-- EVT_FORCE_WRITE (R14). A write to EVT_FORCE sets the EVT_STAT bits written, for test. -/
  | evtForceWrite (blk inst : Nat) (v : Word)
  /-- BLK_RST (R14). A write of PAGE_CTRL.BLK_RST resets the block's non-RWK state, except what its own chapter keeps, then applies EN. -/
  | blkRst (blk inst : Nat) (en : Bool)
  /-- BLOCK_RESET_DONE (R14). The block reset ends, and BLK_RST and BUSY clear. -/
  | blockResetDone (blk inst : Nat)
  /-- PAGE_DISABLE (R417). A write of PAGE_CTRL.EN = 0 takes the block out of service, darkening or stopping its outputs. -/
  | pageDisable (blk inst : Nat)
  /-- PAGE_ENABLE (R417). A write of PAGE_CTRL.EN = 1 lets the block take work again, without re-issuing any command. -/
  | pageEnable (blk inst : Nat)
  /-- PAGE_LOCK (R15). A write of PAGE_LOCK.LOCK makes the page's RWL registers read-only until a chip reset or BOOT. -/
  | pageLock (blk inst : Nat)
  /-- PAGE_GROUP_WRITE (R16). A write to PAGE_GROUP changes Prism group membership once the write has completed. -/
  | pageGroupWrite (blk inst : Nat) (v : Word)
  /-- MODE_REQ_CANCEL (R27). SYS_MODE_REQ.TARGET = 0x0 cancels a pending request that has not yet begun. -/
  | modeReqCancel
  /-- MODE_REQ_HIBERNATE (R25). The host requests HIBERNATE from IDLE. -/
  | modeReqHibernate
  /-- MODE_REQ_IDLE (R25). The host requests IDLE from CONFIG, WARMUP, READY, PRINT, DRAIN or SAFEHOLD. -/
  | modeReqIdle
  /-- MODE_REQ_WARMUP (R25). The host requests WARMUP from IDLE. -/
  | modeReqWarmup
  /-- MODE_REQ_DRAIN (R25). The host requests DRAIN from PRINT. -/
  | modeReqDrain
  /-- MODE_REQ_CALIBRATE (R25). The host requests CALIBRATE from IDLE or READY. -/
  | modeReqCalibrate
  /-- MODE_REQ_SAFEHOLD (R25). The host requests SAFEHOLD; during BOOT the request is held in PEND. -/
  | modeReqSafehold
  /-- MODE_REQ_INVALID (R27). A TARGET value that is not listed is refused with BADTARGET. -/
  | modeReqInvalid (target : Nat)
  /-- MODE_CHANGE_COMPLETE (R269). Every domain reaches the state the new mode needs; the mode change completes, SYS.MODE_CHG is raised, and the entry actions and any pending request follow. -/
  | modeChangeComplete
  /-- DOMAIN_SWITCH (R269). The next domain in the switching order starts on or off in its 10 µs slot. -/
  | domainSwitch
  /-- WARMUP_COMPLETE (R25). Every warm-up condition of the loaded bundle is met, and the device moves from WARMUP to READY. -/
  | warmupComplete
  /-- VSTBY_VALID (R25). VSTBY becomes valid from OFF; the device enters HIBERNATE, or BOOT when the main supplies are valid, and press time starts at 0. -/
  | vstbyValid (mains : Bool) (straps : Straps)
  /-- VSTBY_LOST (R409). VSTBY falls below its valid threshold; the device acts as for a supply loss, then enters OFF. -/
  | vstbyLost
  /-- MAIN_SUPPLIES_VALID (R267). Every main-supply detector has stayed above its threshold for 100 µs. -/
  | mainSuppliesValid (straps : Straps)
  /-- MAIN_SUPPLIES_LOST (R290). A main-supply detector stays low for 2 µs; SEQ releases the rails, isolates the domains, and the device enters HIBERNATE or OFF. -/
  | mainSuppliesLost (low : Nat)
  /-- HIB_WAKE (R25). HIB_WAKE_N is held low long enough, and SEQ starts the power-up toward BOOT. -/
  | hibWake
  /-- BOOT_EXIT (R25). Zeroization, fill and bundle load have all finished, and the device leaves BOOT for CONFIG or SAFEHOLD. -/
  | bootExit
  /-- RING_TAIL_WRITE (R38). The host advances the tail of a host-to-device ring, or discards the write with BADPTR. -/
  | ringTailWrite (r v : Nat)
  /-- RING_HEAD_WRITE (R39). The host advances the head of a device-to-host ring, or discards the write with BADPTR; passing a receipt may retire contexts. -/
  | ringHeadWrite (r v : Nat)
  /-- RING_CTRL_WRITE (R56). A write to RING_CTRL; a change of EN from 1 to 0 on a ring holding reservations is discarded with BADPTR. -/
  | ringCtrlWrite (r : Nat) (v : Word)
  /-- STAGE (R33). A STAGE command copies the descriptor into a FREE or RETIRED context, sets it STAGED and runs an examination. -/
  | stage (errs : List CwErr)
  /-- RESTAGE (R33). A RESTAGE command replaces the speed class, start position and trims of a STAGED context and runs an examination. -/
  | restage (errs : List CwErr)
  /-- ABORT (R33). An ABORT command spoils an ADMITTED or EXPOSING frame with cause HOST_ABORT. -/
  | abort (errs : List CwErr)
  /-- RELEASE (R33). A RELEASE command clears a STAGED frame's block ownership and sets the context FREE. -/
  | release (errs : List CwErr)
  /-- APR_STN_STOP_CLEAR (R55). A 1 written to APR_STN_STOP clears a station's stop bit only while its array is below warning, ending the cut. -/
  | aprStnStopClear (v : Word)
  /-- FRAME_FUSED (R29). The transport passes E + APR_FUSE_DIST, and an EXPOSED frame becomes FUSED. -/
  | frameFused
  /-- FRAME_DELIVERED (R29). The transport passes E + APR_DLV_DIST; a FUSED frame becomes DELIVERED, and a record is written. -/
  | frameDelivered
  /-- EVENT_QUEUE_DRAIN (R40). A ring gains space, and event records waiting in the on-die queue or the reserved-record store are written to it in order. -/
  | eventQueueDrain
  /-- RECEIPT_TIMEOUT (R330). A receipt is not written within tRECEIPT, and F_341 is raised. -/
  | receiptTimeout
  /-- POST (R62). An image-ring POST opens the named index if needed, and tests the header of each entry it covers. -/
  | post (errs : List CwErr)
  /-- DROP (R65). An image-ring DROP frees a plane record that no context holds. -/
  | drop (errs : List CwErr)
  /-- INDEX_OPEN_DONE (R64). A background open of an index named at STAGE completes once a record is free, and the claiming context holds the record. -/
  | indexOpenDone (errs : List CwErr)
  /-- POISON_MARK (R68). MEM or ECC marks an LMEM address poisoned; FST starts resolving it against every protected range. -/
  | poisonMark
  /-- POISON_HANDOVER (R68). The poison resolution ends, and each block address is handed to the Aperture, which judges revocation. -/
  | poisonHandover
  /-- DEC_BAND_DELIVERED (R83). DEC completes rebuilding a band and delivers its lines with each block's verdict to FMT. -/
  | decBandDelivered (n : Nat) (errs : List CwErr)
  /-- DEC_BAND_LATE (R87). A band is not delivered by the start of facet b − 1; it is counted, its lines go dark, and the frame spoils FAULT. -/
  | decBandLate (n : Nat)
  /-- ENC_START (R88). ENC_CTRL.START starts a host encode job, or is refused with BUSY or BADCFG. -/
  | encStart
  /-- ENC_SAVE (R91). ENC_CTRL.SAVE stores the encoder state, at the next band boundary if a job is running. -/
  | encSave
  /-- ENC_RESTORE (R91). ENC_CTRL.RESTORE loads an encoder state record, or refuses it with BADSTATE. -/
  | encRestore (errs : List CwErr)
  /-- ENC_ABORT (R92). ENC_CTRL.ABORT stops the host job at once with ABORTED and discards the partial band. -/
  | encAbort
  /-- ENC_BAND_DONE (R88). ENC completes a band, emitting its blocks and entries; a pending save or Loupe pre-emption acts at this boundary. -/
  | encBandDone
  /-- ENC_LOUPE_JOB (R91). A Loupe dump request runs a trace-mode job on ENC, pre-empting the host job at a band boundary. -/
  | encLoupeJob (b : Nat)
  /-- FACET_BOUNDARY (R98). At a station's facet boundary, FMT samples the position, forms the base and the debt, and acts on first facets, debt, governor, bank swaps and frame-state changes. -/
  | facetBoundary (n : Nat)
  /-- SPEED_HOLD_CLEAR (R123). A 1 written to FMT_HOLD clears SPEED_HOLD only while |D| ≤ 1. -/
  | speedHoldClear (n : Nat) (v : Word)
  /-- COR_LOAD (R111). COR_CTRL.LOAD starts hashing a correction set into a bank, or refuses the load with INUSE, NOSET or BUSY. -/
  | corLoad (n : Nat)
  /-- COR_LOAD_DONE (R111). A correction-set load ends with a digest match (LOADED) or with an error (LOAD_ERR). -/
  | corLoadDone (n : Nat) (errs : List CwErr)
  /-- BD_EDGE (R126). A beam-detect edge is timestamped and judged against the window; periods, identification, lock and the class target are updated. -/
  | bdEdge (n frac : Nat) (rising : Bool := true) (width : Nat := 64)
  /-- BD_WINDOW_CLOSE (R126). The beam-detect window closes with no edge; BD_LOSS is raised and BD_OK and ID_OK clear. -/
  | bdWindowClose (n : Nat)
  /-- SYN_LOCK (R133). The synthesizer locks after a retune. -/
  | synLock (n : Nat)
  /-- SYN_UNLOCK (R134). The synthesizer loses lock, which also clears DLL_LOCK. -/
  | synUnlock (n : Nat)
  /-- DLL_LOCK (R130). The delay-locked line has calibrated its taps to span one synthesizer period. -/
  | dllLock (n : Nat)
  /-- DLL_UNLOCK (R130). Calibration finds that the taps no longer span the period, and DLL_LOCK clears. -/
  | dllUnlock (n : Nat)
  /-- CLASS_CHANGE_START (R133). At the first inactive interval of a facet of no frame, CLK gates PXO_n, FAC sets RETUNE, and the synthesizer retunes to the new class. -/
  | classChangeStart (n : Nat)
  /-- RELOCK_DEADLINE (R133). The line coordinate of a new-class frame reaches −96 with the station not LOCKED; RELOCK_FAIL is raised and the frame is revoked or written dark. -/
  | relockDeadline (n : Nat)
  /-- FACET_PACKET_SEND (R140). BLN sends a facet's FSTART, FMASK, data blocks and FEND, paced to the beam-detect time. -/
  | facetPacketSend (n : Nat)
  /-- KEEP_TIMER (R142). tKEEP expires, and BLN sends a KEEP column with STATE 0x5A or 0xA5. -/
  | keepTimer (n : Nat)
  /-- BC_STATUS (R150). A STATUS block arrives on the back channel; faults, CRC or sync errors and lane lock are acted on. -/
  | bcStatus (n flags seq lanes : Nat)
  /-- BC_TEMP (R147). A TEMP block arrives and is passed to TMP as an array temperature source. -/
  | bcTemp (n idx : Nat) (temp : BitVec 16)
  /-- BC_APC (R147). An APC reading arrives and is stored for its emitter. -/
  | bcApc (n e ps power : Nat)
  /-- BC_IDDATA (R149). An IDDATA block arrives with four bytes of identity memory. -/
  | bcIddata (n addr : Nat) (w : Word)
  /-- BC_IDLE (R147). An IDLE block arrives on the back channel. -/
  | bcIdle (n : Nat)
  /-- BC_BAD_BLOCK (R150). A back-channel block with an unlisted type or a bad CRC-8 is counted; too many in a facet enter FAULT with BCERR. -/
  | bcBadBlock (n : Nat) (crc : Bool)
  /-- BCLOSS (R150). tBCLOSS passes with no valid back-channel block, and the link enters FAULT with BCLOSS. -/
  | bcloss (n : Nat)
  /-- BLN_ENABLE (R146). A write of BLN_CTRL.EN = 1 starts training; a write of EN = 0 takes the link DOWN. -/
  | blnEnable (n : Nat)
  /-- BLN_DISABLE (R146). A write of BLN_CTRL.EN = 0 holds the TX lanes idle in DOWN. -/
  | blnDisable (n : Nat)
  /-- BLN_RETRAIN (R146). BLN_CTRL.RETRAIN retrains the link, held while frames use the station. -/
  | blnRetrain (n : Nat)
  /-- BLN_AUTO_RETRAIN (R146). With AUTO = 1, BLN retrains from FAULT on its own at the first facet of no frame. -/
  | blnAutoRetrain (n : Nat)
  /-- BLN_IDREAD (R149). BLN_CTRL.IDREAD reads the identity memory again. -/
  | blnIdread (n : Nat)
  /-- ID_ACK (R149). BLN_CTRL.ID_ACK clears ID_CHG. -/
  | idAck (n : Nat)
  /-- TRAIN_DONE (R146). Training completes, and the link enters IDREAD. -/
  | trainDone (n : Nat)
  /-- TRAIN_TIMEOUT (R146). Training does not finish within 10 ms, and the link enters FAULT with TRAIN. -/
  | trainTimeout (n : Nat)
  /-- IDREAD_DONE (R149). The identity read finishes; ID_VALID, RANK_OK and ID_CHG are set, and the link goes UP or stays in IDREAD. -/
  | idreadDone (n : Nat)
  /-- IDREAD_TIMEOUT (R149). The identity read does not finish within tIDREAD, and BLN.ID_ERR is raised. -/
  | idreadTimeout (n : Nat)
  /-- SEC_PROVISION (R166). PROVISION generates the identity key, stores the keys, increments EPOCH and writes PROVISIONED. -/
  | secProvision (tap : Bool)
  /-- SEC_COMMISSION (R166). COMMISSION with a valid token writes FIELD. -/
  | secCommission (tap : Bool)
  /-- SEC_RETURN (R166). RETURN with a valid token zeroizes, writes RETURNED, then clears ZPEND. -/
  | secReturn (tap : Bool)
  /-- SEC_REPROVISION (R166). REPROVISION with a valid token provisions again, keeping OWNER. -/
  | secReprovision (tap : Bool)
  /-- SEC_OPEN (R171). OPEN verifies the token, zeroizes the keys, and opens the Eyepiece in OPEN-SCAN. -/
  | secOpen (tap : Bool)
  /-- SEC_NONCE (R167). NONCE creates a fresh nonce in SEC_NONCE, replacing any live one. -/
  | secNonce (tap : Bool)
  /-- SEC_BADOP (R176). An unlisted SEC_CMD OP is refused with BADOP. -/
  | secBadop (tap : Bool)
  /-- NONCE_EXPIRE (R167). A nonce lapses after tNONCE. -/
  | nonceExpire
  /-- BUNDLE_PUSH (R170). SEC_BUNDLE_CTRL.PUSH starts loading a bundle from LMEM in CONFIG, or is refused with STATE. -/
  | bundlePush
  /-- BUNDLE_LOAD_DONE (R169). A bundle load from flash or push ends; on success, sections are applied and BUNDLE_OK is set, otherwise the error is recorded. -/
  | bundleLoadDone (flash : Option (List Byte)) (errs : List CwErr) (sfdp : BitVec 16 := 0xFFFF)
  /-- STATION_ROOT_FINAL (R161). A station root closes; when the frame's outcome becomes final, ATT assigns the counter and signing starts. -/
  | stationRootFinal (c n : Nat)
  /-- RECEIPT_WRITE (R161). SEC finishes a signature, and the evidence record and receipt are written to the audit ring in counter order. -/
  | receiptWrite
  /-- CKPT_DONE (R163). A checkpoint commit completes, or fails with CKPT_ERR. -/
  | ckptDone (ok : Bool)
  /-- DRBG_HEALTH_FAIL (R175). The entropy source fails its health test during signing; SEC reseeds and retries. -/
  | drbgHealthFail
  /-- SIGN_RETRY_TIMEOUT (R175). 10 ms pass without a sound k; the receipt is written with SIGFAIL and SIGN_OK clears. -/
  | signRetryTimeout
  /-- TAP_RESET (R411). TRST_N held low resets the TAP only. -/
  | tapReset
  /-- BYPASS (R172). TAP instruction BYPASS, also loaded for an instruction not permitted. -/
  | tapBypass
  /-- IDCODE (R172). TAP instruction IDCODE returns 0x16480A5B. -/
  | idcode
  /-- SAMPLE_PRELOAD (R172). TAP instruction SAMPLE/PRELOAD. -/
  | samplePreload
  /-- EXTEST (R172). TAP instruction EXTEST, permitted only where R174 allows, with safety cells held inactive. -/
  | extest
  /-- EXTEST_PULSE (R172). TAP instruction EXTEST_PULSE of IEEE 1149.6. -/
  | extestPulse
  /-- EXTEST_TRAIN (R172). TAP instruction EXTEST_TRAIN of IEEE 1149.6. -/
  | extestTrain
  /-- SECACC (R172). TAP instruction SECACC reaches the SEC and DBG pages over JTAG. -/
  | secacc (write : Bool) (addr : Nat) (v : Word)
  /-- SCAN (R172). TAP instruction SCAN reaches the internal scan chains, in OPEN-SCAN only. -/
  | scan
  /-- DBG_WIN_READ (R178). A read of DBG_WIN_DATA returns the internal word at the window address, advancing it when INC = 1. -/
  | dbgWinRead
  /-- DBG_WIN_WRITE (R178). A write of DBG_WIN_DATA stores the internal word at the window address, advancing it when INC = 1. -/
  | dbgWinWrite (v : Word) (tap : Bool)
  /-- MOT_RUN (R186). MOT_CTRL.CMD = RUN starts a commutation channel by catch, alignment, a sensor, or beam-detect angles. -/
  | motRun (m : Nat)
  /-- MOT_STOP (R188). MOT_CTRL.CMD = STOP stops a channel through its generator, or goes straight to OFF before RUN. -/
  | motStop (m : Nat)
  /-- MOT_RELEASE (R186). MOT_CTRL.CMD = RELEASE drives the gates low and enters OFF, leaving FAULT. -/
  | motRelease (m : Nat)
  /-- MOT_BRAKE (R186). MOT_CTRL.CMD = BRAKE pulses the low sides at BRAKE_DUTY. -/
  | motBrake (m : Nat)
  /-- MOT_CATCH_DECIDE (R187). After measuring two electrical periods, the catch phase chooses a flying start, braking, or waiting. -/
  | motCatchDecide (m : Nat) (speed duty : Int)
  /-- MOT_CATCH_TIMEOUT (R187). No crossing for 50 ms enters ALIGN, or CATCH_TO expires with reverse rotation and the channel enters OFF with F_112. -/
  | motCatchTimeout (m : Nat) (still : Bool)
  /-- MOT_LOW_SPEED (R188). The rotor falls below 2 % of RATED while braking or stopping; the channel aligns, brakes to OFF, or enters FAULT. -/
  | motLowSpeed (m : Nat)
  /-- MOT_ALIGN_DONE (R186). ALIGN_T expires; the channel enters OPENLOOP, or RUN in encoder mode. -/
  | motAlignDone (m : Nat)
  /-- MOT_BEMF_CROSSING (R184). A back-EMF zero crossing updates the observer; lock, re-catch or commutation follow. -/
  | motBemfCrossing (m half : Nat) (order : Bool)
  /-- MOT_OL_TIMEOUT (R188). No lock within 1 s at OL_END raises F_114. -/
  | motOlTimeout (m : Nat)
  /-- MOT_OBSERVER_LOSS (R189). A crossing is missed at its predicted time, or LOCKQ stays low; the channel enters COAST and raises MOT.LOST. -/
  | motObserverLoss (m : Nat)
  /-- MOT_COAST_TIMEOUT (R190). COAST_T expires without re-catch, and the channel enters STOPPING with F_113. -/
  | motCoastTimeout (m : Nat)
  /-- MOT_FLT_INPUT (R180). MC_n_FLT_N is held low for 100 ns; the gates go low and the channel enters FAULT with F_110. -/
  | motFltInput (m : Nat)
  /-- MOT_ENC_ERROR (R193). An encoder or resolver error raises F_111 and the channel coasts into FAULT. -/
  | motEncError (m : Nat)
  /-- STP_OFF (R211). STP_CTRL.CMD = OFF releases a stepper channel. -/
  | stpOff (m : Nat)
  /-- STP_ENABLE (R204). STP_CTRL.CMD = ENABLE drives the coils to follow the generator. -/
  | stpEnable (m : Nat)
  /-- STP_HOME (R208). STP_CTRL.CMD = HOME starts the homing sequence, or is discarded when the switch is unassigned. -/
  | stpHome (m : Nat)
  /-- STP_CMD_DISCARD (R211). STP_CTRL.CMD = 0x3 is discarded. -/
  | stpCmdDiscard (m : Nat)
  /-- STP_CLR (R180). STP_CTRL.CLR takes a stepper from FAULT to OFF once no faulting switch is active. -/
  | stpClr (m : Nat)
  /-- STP_SWITCH_CHANGE (R209). A debounced switch changes; homing proceeds, or a limit or chatter stops the channel into FAULT. -/
  | stpSwitchChange (m w : Nat) (level : Bool) (edge : Nat) (earlier : List Nat)
  /-- STP_STANDSTILL (R205). The generator has stood still for TPD; the current ramps to IHOLD and STILL is set. -/
  | stpStandstill (m : Nat)
  /-- STP_COIL_FAULT (R180). A coil fails its threshold timing; F_142 is raised and the channel enters FAULT. -/
  | stpCoilFault (m : Nat)
  /-- PGN_GO (R199). PGN_CTRL.GO commits or queues a target, or is refused when the queue is full. -/
  | pgnGo (g : Nat)
  /-- PGN_STOP (R199). PGN_CTRL.STOP clears the queue and decelerates to rest within the limits. -/
  | pgnStop (g : Nat)
  /-- PGN_PRESET (R199). PGN_CTRL.PRESET sets the position to the target while idle, or is refused. -/
  | pgnPreset (g : Nat)
  /-- PGN_VTGT_WRITE (R199). A write of PGN_VTGT in velocity mode acts from the next update. -/
  | pgnVtgtWrite (g : Nat) (v : Word)
  /-- PGN_MOVE_DONE (R198). A position move ends at its target; DONE is raised and a queued move starts. -/
  | pgnMoveDone (g : Nat)
  /-- PGN_CAPTURE (R197). A selected GIO edge latches the generator or transport position. -/
  | pgnCapture (g : Nat) (rising : Bool) (ago : Nat)
  /-- CTL_SAMPLE (R213). A slot's sample instant arrives; it latches inputs, applies a pending swap, computes its law and publishes U. -/
  | ctlSample (n : Nat) (aR aY aF : Int) (lat : Nat)
  /-- CTL_ENABLE (R217). CTL_CTRL.EN = 1 enables a slot within the MAC and conversion budgets, clearing its state, or is refused. -/
  | ctlEnable (n : Nat)
  /-- CTL_DISABLE (R218). CTL_CTRL.EN = 0 publishes U = 0 at once. -/
  | ctlDisable (n : Nat)
  /-- CTL_SWAP (R223). CTL_CTRL.SWAP sets PEND for a bumpless bank swap at the next sample instant. -/
  | ctlSwap (n : Nat)
  /-- CTL_BANK_WRITE (R222). A write to a coefficient bank; a write to the active bank is discarded with ACTWR. -/
  | ctlBankWrite (n : Nat) (b : Bool) (idx : Nat) (v : Word)
  /-- HVO_ENABLE (R230). HVO_CTRL.EN = 1 enables a high-voltage output in the permitted modes. -/
  | hvoEnable (o : Nat)
  /-- HVO_DISABLE (R230). HVO_CTRL.EN = 0 ramps the output down, or clears FAULT to OFF. -/
  | hvoDisable (o : Nat)
  /-- HVO_MEASURE (R228). A measurement period ends; V and I are published, and over-current or arc faults are judged. -/
  | hvoMeasure (o : Nat) (vs is : List Int)
  /-- HVO_RAMPED (R230). An output's demand reaches 0; it drops HV_n_EN, and stage 2 starts when stage 1 is done. -/
  | hvoRamped (o : Nat)
  /-- HVO_SYNC (R227). A write of HVO_SYNC resets the NCO phase of the selected outputs. -/
  | hvoSync (mask : Word)
  /-- LUP_ARM (R233). LUP_CTRL.ARM starts recording and waits for the trigger. -/
  | lupArm (b : Nat)
  /-- LUP_TRIG (R233). LUP_CTRL.TRIG triggers the buffer now. -/
  | lupTrig (b : Nat)
  /-- LUP_STOP (R233). LUP_CTRL.STOP ends recording at once and dumps. -/
  | lupStop (b : Nat)
  /-- LUP_TICK (R232). A tick records one word and evaluates the trigger. -/
  | lupTick (b late : Nat)
  /-- LUP_RECORD_END (R233). 65,536 − PRE words after the trigger have been recorded; recording stops and the dump starts. -/
  | lupRecordEnd (b : Nat)
  /-- LUP_DUMP_DONE (R234). The dump through ENC ends, and the buffer writes its record to ring 24 + b or stalls. -/
  | lupDumpDone (b : Nat)
  /-- LUP_RECORD_WRITE (R234). A stalled dump record is written once a ring slot frees, and the buffer rearms if REARM = 1. -/
  | lupRecordWrite (b : Nat)
  /-- MAINS_CROSSING (R245). A mains zero crossing drives the phase loop, U½, event classification, heater scheduling and flicker accounting. -/
  | mainsCrossing (pos : Bool) (ago uhalf i1 : Nat)
  /-- MAINS_CROSSING_MISSING (R245). A predicted crossing passes its window with none; the loop enters or continues COAST, and LOST after COAST half-cycles. -/
  | mainsCrossingMissing (uhalf : Nat)
  /-- MNS_WINDOW_END (R243). A measurement window ends; U10, I10 and P are updated and P_avail is recomputed. -/
  | mnsWindowEnd (u10 i10 : Nat) (p : Int)
  /-- MNS_F10_UPDATE (R243). Every 10 s of press time, f10 is updated. -/
  | mnsF10Update (f : Nat)
  /-- HTR_ENABLE (R253). HTR_CTRL.EN = 1 lets a heater fire in the permitted modes. -/
  | htrEnable (h : Nat)
  /-- HTR_DISABLE (R253). HTR_CTRL.EN = 0 stops a heater at the next positive-going crossing, or clears FAULT. -/
  | htrDisable (h : Nat)
  /-- THR_ENFORCE (R259). The grace timer expires, and classes faster than THR_CLASS are treated as not programmed. -/
  | thrEnforce
  /-- THR_END (R259). Every trigger stays clear for HOLD, or clears before grace expires; the ceiling is lifted. -/
  | thrEnd
  /-- TMP_SENSOR_UPDATE (R257). A TS channel updates; its state, rate-of-rise and sensor faults are judged, and heaters are stopped where needed. -/
  | tmpSensorUpdate (n raw : Nat)
  /-- TMP_ARRAY_UPDATE (R258). An array source value reaches TMP; the array state is judged and passed to FMT. -/
  | tmpArrayUpdate (n idx : Nat)
  /-- TMP_SOURCE_STALE (R258). An array source has not reported for 10 ms; SRC_LOST is raised and the array is held at least at LIMIT. -/
  | tmpSourceStale (n idx : Nat)
  /-- FED_CONDITION (R273). A supervisor condition holds for FILT; it enters FAULT or hands the token off. -/
  | fedCondition (n cond vin vbus : Nat) (shunt : Int)
  /-- FED_RENEW_TIMER (R275). tRENEW expires, and the owner sends RENEW with the next LSEQ. -/
  | fedRenewTimer (n : Nat)
  /-- FED_RX_RENEW (R275). A RENEW is received; the standby answers ACK, and a SYNC supervisor counts it. -/
  | fedRxRenew (n : Nat) (w : Word)
  /-- FED_RX_ACK (R275). An ACK is received, and the owner's lease is renewed. -/
  | fedRxAck (n : Nat) (w : Word)
  /-- FED_RX_HANDOFF (R275). A HANDOFF is received; a STANDBY receiver becomes OWNER and pumps. -/
  | fedRxHandoff (n : Nat) (w : Word) (gap : Nat)
  /-- FED_RX_CLAIM (R275). A CLAIM is received; an owner stops pumping and enters FAULT with CLAIMED. -/
  | fedRxClaim (n : Nat) (w : Word)
  /-- FED_SWITCH_OFF (R275). After the pump stops, GS goes low and the shunt reads below IOFF; HANDOFF is sent. -/
  | fedSwitchOff (n : Nat)
  /-- FED_OFF_TIMEOUT (R275). The owner cannot see its switch off within 2 µs; it keeps the token and raises SHORT. -/
  | fedOffTimeout (n : Nat)
  /-- FED_XGS_LOSS (R275). A standby sees XGS low for 1.0 µs with no HANDOFF; it claims and raises F_276 + (1 − n). -/
  | fedXgsLoss (n gap : Nat)
  /-- FED_LEASE_EXPIRE (R275). No valid message arrives for tLEASE; the standby claims if XGS is low, and F_274 is raised. -/
  | fedLeaseExpire (n : Nat) (xgs : Bool) (vin gap : Nat)
  /-- FED_STARTUP (R276). 20 µs after power-up, the preferred supervisor claims the token. -/
  | fedStartup (vin0 vin1 : Nat)
  /-- FED_NOFEED (R276). No supervisor owns a bus at BUS_OK within 10 ms; SEQ returns to HIBERNATE with NOFEED. -/
  | fedNofeed
  /-- FED_HANDOVER (R280). FED_CTRL.HANDOVER on the owner's page hands the token to a healthy standby, or is refused. -/
  | fedHandover (n : Nat)
  /-- FED_CLR (R278). FED_CTRL.CLR clears a fault cause that needs it. -/
  | fedClr (n : Nat)
  /-- FED_REPAIR (R278). VIN stays within range for REPAIR_T, and a faulted supervisor enters SYNC. -/
  | fedRepair (n vin : Nat)
  /-- SV_SCAN (R281). A rail scan updates every rail's value and state, and raises F_(224 + r) on a fault. -/
  | svScan (vals : List Nat)
  /-- RAIL_LOG_TIMER (R283). 600 s have passed since a changed rail's last commit, and its counts are committed to the keep store. -/
  | railLogTimer (r : Nat)
  /-- LOG_COMMIT (R283). PWR_LOG_CTRL.COMMIT commits every changed rail now. -/
  | logCommit
  /-- LOG_CLEAR (R293). PWR_LOG_CTRL.CLEAR zeroes both records of every rail and the AON counts, in CONFIG only. -/
  | logClear
  /-- PWR_BLN_EN_WRITE (R271). A write of PWR_BLN_EN in CONFIG or IDLE switches station domains and restores their configuration. -/
  | pwrBlnEnWrite (v : Word)
  /-- SEQ_REQ_ON (R288). SEQ_REQ with ON = 1 requests power-up of an engine scope, or is refused. -/
  | seqReqOn (sc : Nat)
  /-- SEQ_REQ_OFF (R288). SEQ_REQ with ON = 0 requests power-down of an engine scope, or is refused. -/
  | seqReqOff (sc : Nat)
  /-- SEQ_DN_START (R288). A DN program's first step begins at the first tSVSCAN boundary after its request. -/
  | seqDnStart
  /-- SEQ_ENABLE (R286). An ENABLE step asserts or releases SV_r_EN or SV_r_DIS, skipping a DIS that would collide with EN. -/
  | seqEnable
  /-- SEQ_WAIT (R286). A WAIT step starts a timed wait, or a barrier that releases SEQSYNC. -/
  | seqWait
  /-- SEQ_WAIT_EXPIRE (R286). A WAIT's COUNT × UNIT expires, and the program continues. -/
  | seqWaitExpire
  /-- SEQ_CHECK (R286). A CHECK step waits for its rail or GIO condition. -/
  | seqCheck (gio : Bool)
  /-- SEQ_CHECK_TIMEOUT (R286). A CHECK's timeout passes first, and the program goes to ALT or aborts. -/
  | seqCheckTimeout
  /-- SEQ_JUMP (R286). A JUMP step goes to TARGET when its condition holds, or ends the program at END. -/
  | seqJump (gio : Bool)
  /-- SEQ_BARRIER_PASS (R289). At a barrier, SEQSYNC has been seen high for tSYNCHI; the state moves and the program continues. -/
  | seqBarrierPass
  /-- SEQ_BARRIER_TIMEOUT (R289). A barrier times out, raising F_282 and taking ALT. -/
  | seqBarrierTimeout
  /-- SEQSYNC_REPULL (R289). tSYNCHOLD after advancing, the device pulls SEQSYNC low again. -/
  | seqsyncRepull
  /-- MAINOK_TIMEOUT (R288). The main supplies are not valid within tMAINOK; F_281 is raised and the device returns to HIBERNATE with ABORT. -/
  | mainokTimeout
  /-- MEM_TRAINED (R298). Training ends; MEM.TRAINED is raised, or channels that failed raise TRAIN_ERR and F_304. -/
  | memTrained (verified : Bool) (failed : Nat) (delays : List Byte) (storeOk : Bool)
  /-- LMEM_FILL_DONE (R306). The last fill write is acknowledged; the fill-complete flag is set and MEM.FILLED is raised. -/
  | lmemFillDone
  /-- MEM_PARITY_ALERT (R299). A parity alert makes MEM retry the commands, failing them after three retries with F_303. -/
  | memParityAlert (tries : Nat) (failed : Bool) (chans hostOffs : List Nat)
  /-- SCRUB_READ (R308). The scrubber reads the next codeword at its rate, writing back corrections and marking uncorrectables. -/
  | scrubRead (errs : List CwErr) (lag : Bool)
  /-- ECC_DEV_WINDOW (R305). A WIN-minute correction window ends, and the window counts restart. -/
  | eccDevWindow
  /-- ECC_ERASE_WRITE (R305). A write of ECC_ERASE marks or unmarks a device for erasure decoding. -/
  | eccEraseWrite (ch : Nat) (v : Word)
  /-- ECC_TBL_CLEAR (R312). ECC_TBL_CTRL.CLEAR empties the correctable table and ECC_TBL_OVF. -/
  | eccTblClear
  /-- BAR2_WRITE (R357). A host write through BAR 2 reaches LMEM under the fill, ownership, region and poison rules. -/
  | bar2Write (off : Nat) (data : List Byte) (ep : Bool) (errs : List CwErr)
  /-- BAR2_READ (R357). A host read through BAR 2 returns LMEM data, 0, or poisoned data with EP. -/
  | bar2Read (off len : Nat) (errs : List CwErr)
  /-- B2_BASE_WRITE (R357). A write of HST_B2_BASE moves the BAR 2 window for later TLPs. -/
  | b2BaseWrite (hi : Bool) (v : Word)
  /-- DMA_START (R315). DMA_CTRL.START checks and starts a transfer, or refuses it with a code. -/
  | dmaStart (c : Nat)
  /-- DMA_ABORT (R321). DMA_CTRL.ABORT stops a channel with ABORTED, with no read-back. -/
  | dmaAbort (c : Nat)
  /-- DMA_REQUEST (R318). A paced channel samples its request asserted and runs one burst. -/
  | dmaRequest (c : Nat)
  /-- DMA_BURST (R316). A channel issues one burst of elements, reading and writing them. -/
  | dmaBurst (c : Nat) (withdrawn : Bool) (errs : List CwErr)
  /-- DMA_RESPONSE (R321). A read completion or write answer returns; errors stop the channel with a code. -/
  | dmaResponse (c : Nat) (ok : Bool) (data : List Byte) (errs : List CwErr)
  /-- DMA_READBACK_DONE (R319). The read-back returns; the channel sets DONE, or stops with READBACK. -/
  | dmaReadbackDone (c : Nat) (ok : Bool) (errs : List CwErr)
  /-- FAULT_REPORT (R331). A source changes from clear to asserted; FLT applies its class and reactions, records it, and escalates by count. -/
  | faultReport (src : Nat)
  /-- FAULT_WIRE (R328). A pair's wires stay equal for 16 ns; the source reads WIRE and reports at its class. -/
  | faultWire (src : Nat)
  /-- FAULT_CLEAR (R331). A source's pair reads clear again, ending its active state. -/
  | faultClear (src : Nat)
  /-- XIN_FILTER_EXPIRE (R329). An external input's filter passes, and R328 is applied to its ball levels. -/
  | xinFilterExpire (k : Nat)
  /-- XIN_CFG_WRITE (R329). A write to FLT_XIN_k that enables or reconfigures an input restarts its filters. -/
  | xinCfgWrite (k : Nat) (v : Word)
  /-- FAULT_N_INPUT (R333). FAULT_N is seen low, through the filter, while not driven by this device; F_016 is raised. -/
  | faultNInput (low : Bool)
  /-- FLT_LATCH_CLEAR (R333). A W1C write of FLT_LATCH clears latched bits and may release FAULT_N. -/
  | fltLatchClear (page j : Nat) (v : Word)
  /-- FAULT_N_MIN_HOLD (R333). The 1 µs minimum hold of FAULT_N expires, and the line is released if its source is clear. -/
  | faultNMinHold
  /-- CRST_RESET (R334). After the CRST wait, engine scopes are powered down, switched domains reset, and BOOT is entered. -/
  | crstReset (straps : Straps)
  /-- STORM_WINDOW_CLOSE (R338). A storm window closes; the head elects the root, folds partners into a storm record, and raises one urgent vector. -/
  | stormWindowClose (tag : Nat)
  /-- INT_EDGE (R344). An edge source receives an edge and becomes PENDING or ACTIVE+PENDING. -/
  | intEdge (src : Nat)
  /-- INT_LEVEL (R344). A level source's input rises or falls, changing its state. -/
  | intLevel (src : Nat)
  /-- INT_ARBITRATION (R346). A 64 ns arbitration pass commits a message to each target with a deliverable source that moderation allows. -/
  | intArbitration
  /-- INT_MOD_EXPIRE (R347). A target's moderation interval ends. -/
  | intModExpire (t : Nat)
  /-- INT_CLAIM (R348). A read of INT_TGT_CLAIM claims the highest-ranked deliverable source, or returns VALID = 0. -/
  | intClaim (t : Nat)
  /-- INT_COMPLETE (R348). A write of INT_TGT_COMPLETE ends a claim and pops its group, re-pending a high level source. -/
  | intComplete (t src : Nat)
  /-- INT_SWI (R353). A write of INT_SWI raises the selected software sources. -/
  | intSwi (v : Word)
  /-- INT_SOURCE_CONFIG (R346). A write to INT_SRC changes a source's enable, target or priority from the next pass. -/
  | intSourceConfig (src : Nat) (v : Word)
  /-- INT_TARGET_STATE (R349). A write of INT_TGT_STATE makes a target ACTIVE, IDLE or PARKED, moving its sources to the fallback or raising wake. -/
  | intTargetState (t : Nat) (v : Word)
  /-- LINK_UP (R381). The PCIe link trains and comes up. -/
  | linkUp (width speed : Nat)
  /-- LINK_DOWN (R359). The PCIe link goes down; the HST state resets, DMA stops, and the MSI-X targets park. -/
  | linkDown
  /-- HOT_RESET (R359). A hot reset is received, handled as link down. -/
  | hotReset
  /-- FLR (R359). A function level reset is received, handled as link down. -/
  | flr
  /-- PERST (R359). PERST_N is asserted; it resets the link, or acts as a CRST when HST_CFG.PERST = 1. -/
  | perst
  /-- D3HOT_ENTRY (R359). The function enters D3hot and answers only configuration requests. -/
  | d3hotEntry
  /-- BME_CLEAR (R359). Bus Master Enable is cleared, and every device request for host memory is held. -/
  | bmeClear
  /-- PCIE_CPL_TIMEOUT (R360). A device request meets a completion timeout, reported through AER with F_308. -/
  | pcieCplTimeout (c : Option Nat)
  /-- PCIE_INTERNAL_ERROR (R360). An uncorrectable parity error in the PCIe core is reported fatal with F_307. -/
  | pcieInternalError
  /-- PCIE_CORRECTABLE_ERROR (R360). A receiver, bad-TLP, bad-DLLP or replay error is counted in HST_AER_CNT. -/
  | pcieCorrectableError
  /-- BAR4_WRITE (R374). A host write through BAR 4 is applied locally, or sent as WR to another node. -/
  | bar4Write (off : Nat) (be : BitVec 4) (ep : Bool) (v : Word) (hi : Option (BitVec 4 × Word) := none)
  /-- BAR4_READ (R374). A host read through BAR 4 is made locally, or sent as RD to another node. -/
  | bar4Read (off : Nat) (sz : Size := .word)
  /-- REMOTE_READ_TIMEOUT (R374). No RDR arrives within tREMTO; the read completes with 0 and F_327 is raised. -/
  | remoteReadTimeout
  /-- CAS_RX_WR (R368). A WR packet is applied as a remote write, or refused. -/
  | casRxWr (x : RxPacket)
  /-- CAS_RX_RD (R368). An RD packet is read, and an RDR is returned. -/
  | casRxRd (x : RxPacket)
  /-- CAS_RX_RDR (R374). An RDR completes a pending BAR 4 read. -/
  | casRxRdr (x : RxPacket)
  /-- CAS_RX_PWR (R366). A ring-wide write copy is applied once, or absorbed at the originator, counting toward PRS.DONE. -/
  | casRxPwr (x : RxPacket)
  /-- CAS_RX_MSG (R375). A message is written to ring 30 or 31, or dropped with NACK. -/
  | casRxMsg (x : RxPacket)
  /-- CAS_RX_NACK (R375). A NACK counts a refused message and raises F_328. -/
  | casRxNack (x : RxPacket)
  /-- CAS_RX_FLT (R338). The head receives a forwarded fault record for storm election. -/
  | casRxFlt (x : RxPacket)
  /-- CAS_RX_EVT (R376). The head writes a forwarded event record to its ring 31 as EVENT. -/
  | casRxEvt (x : RxPacket)
  /-- CAS_RX_TRIG (R376). A trigger broadcast triggers every Loupe buffer with TSRC 0x8 on its first copy. -/
  | casRxTrig (x : RxPacket)
  /-- CAS_RX_LEASE (R373). A LEASE sets HEAD_OK and restarts the head lease timer. -/
  | casRxLease (x : RxPacket)
  /-- CAS_RX_TSREQ (R377). A parent answers TSREQ with TSRSP carrying t2 and t3. -/
  | casRxTsreq (b : Bool) (frac gap : Nat)
  /-- CAS_RX_TSRSP (R377). A TSRSP gives θ; the node steers or steps its counter and judges TB_LOCK. -/
  | casRxTsrsp (b : Bool) (frac : Nat) (data : List Byte)
  /-- CAS_RX_DISC (R373). A DISC updates CAS_MAP and detects duplicate IDs and heads. -/
  | casRxDisc (x : RxPacket)
  /-- CAS_RX_LACK (R371). An LACK frees acknowledged packets at the sender. -/
  | casRxLack (b : Bool) (h : Nat)
  /-- CAS_RX_LNAK (R371). An LNAK makes the sender resend from the HSEQ named. -/
  | casRxLnak (b : Bool) (h : Nat)
  /-- CAS_RX_IDLE (R370). An IDLE neighbour packet is received. -/
  | casRxIdle (b : Bool)
  /-- CAS_DISC_TIMER (R373). Every 1 ms a node broadcasts DISC, and drops nodes after three missing DISC. -/
  | casDiscTimer
  /-- CAS_LEASE_TIMER (R373). Every 50 µs the head broadcasts LEASE. -/
  | casLeaseTimer
  /-- HEAD_LEASE_EXPIRE (R373). No LEASE for tHLEASE; HEAD_OK clears, F_323 is raised, and the node acts as its own head. -/
  | headLeaseExpire
  /-- CAS_TB_TIMER (R377). Every 10 µs a node sends TSREQ to its parent. -/
  | casTbTimer (frac : Nat)
  /-- CAS_PORT_UP (R369). A cascade port's link trains. -/
  | casPortUp (b : Bool)
  /-- CAS_PORT_DOWN (R369). A cascade port's link fails and the ring folds around the break. -/
  | casPortDown (b : Bool)
  /-- CAS_BYPASS (R382). CAS_CTRL.BYPASS puts the node into BYPASS. -/
  | casBypass
  /-- CAS_REJOIN (R382). CAS_CTRL.REJOIN leaves BYPASS or DUP and reruns discovery. -/
  | casRejoin
  /-- KEEP_WRITE (R385). A keep-store write from KPS, SEC or SEQ is queued, or discarded with DENIED or for wear. -/
  | keepWrite (src : KeepSrc) (v : Word)
  /-- KEEP_WRITE_APPLIED (R385). A queued keep write programs and verifies its slot; it is applied, or fails with F_379. -/
  | keepWriteApplied (verified oldGood : Bool)
  /-- CAL_RUN_DONE (R393). A calibration run pair of one kind and instance ends, and PASS, retry, DISAGREE or LIMIT is recorded. -/
  | calRunDone (k idx : Nat) (a b : List Int) (lost storeOk : Bool)
  /-- CAL_CLEAR (R397). CAL_CTRL.CLEAR erases both banks and seals bank A with EPOCH 0, in CONFIG only. -/
  | calClear
  /-- MAIN_UP_START (R288). Once KCLK is locked and a feed owns a bus at BUS_OK, SEQ starts the MAIN UP program, or waits for the main supplies when none is stored. -/
  | mainUpStart
  /-- SEC_CMD_DONE (R166). A running lifecycle command (token check, zeroization, PROVISION or REPROVISION) finishes its keep-store sequence, clears BUSY and raises CMD_DONE or CMD_ERR. -/
  | secCmdDone (ok : Bool)
  /-- PGN_STOPPED (R199). A generator decelerating after STOP, or after VMAX = 0, reaches rest and returns to IDLE. -/
  | pgnStopped (g : Nat)
  /-- ESC_WINDOW_EXPIRE (R336). Reports age out of a source's ESC_WIN window, the count falls below ESC_N, and the source stops being escalated (FLT_ESCD clears). -/
  | escWindowExpire (src : Nat)
  /-- LUP_GIO_EDGE (R233). An edge on GIO pin ARG triggers a Loupe buffer armed with TSRC 0x6. -/
  | lupGioEdge (pin : Nat) (level : Bool)
  /-- CAS_RX_BAD_PACKET (R371). A cascade packet arrives with a bad CRC, or with an HSEQ gap, and the receiver answers LNAK. -/
  | casRxBadPacket (b : Bool)
  /-- FED_SUPERVISOR_LOST (R280). The owner's supervisor or its oscillator stops; its pump stops and its switch opens. -/
  | fedSupervisorLost (n : Nat)
  /-- BME_SET (R359). Bus Master Enable is set again; held host-memory requests and waiting DMA channels proceed, and waiting ring records drain. -/
  | bmeSet
  /-- D0_RETURN (R359). The function returns from D3hot to D0, and the BARs may be used again. -/
  | d0Return
  /-- MSIX_ENABLE_CHANGE (R349). MSI-X Enable in configuration space changes; targets 0 to 13 act as PARKED while it is 0, and take messages again when it is 1. -/
  | msixEnableChange (on : Bool) (mask : Bool := false)
  deriving DecidableEq, Repr

end Sys2Proof
end

