-- ==== Sys2Proof/Decode.lean ====
section
/-! DEFINITION. Decoding of table words. The hardware is a block that takes commands, and no row of its opcode table gives
bits: no word spells a command. -/

namespace Sys2Proof

/-- The command that a word of `nbits` bits spells: none, since no row of the table gives bits. -/
def decodeTableWord (_nbits _w : Nat) : Option Instr := none

end Sys2Proof
end

