-- ==== Sys2Proof/Machine/Sparse.lean ====
section
/-! DEFINITION. Sparse maps from numbers to values, in one canonical form: keys strictly rising, and no entry equal to
what an unlisted key reads as. LMEM, the register space and the keep store are held so. -/

namespace Sys2Proof.Machine

/-- A sparse map: listed entries in rising key order. -/
abbrev Sparse (α : Type) := List (Nat × α)

/-- The listed value of a key. -/
def Sparse.find {α : Type} : Sparse α → Nat → Option α
  | [], _ => none
  | (k, v) :: m, a => if a = k then some v else Sparse.find m a

/-- The value a key reads as: the listed one, or what `d` gives for an unlisted key. -/
def Sparse.get {α : Type} (d : Nat → α) (m : Sparse α) (a : Nat) : α :=
  match m.find a with
  | some v => v
  | none => d a

/-- The map without the key. -/
def Sparse.erase {α : Type} (m : Sparse α) (a : Nat) : Sparse α :=
  m.filter (fun e => decide (e.1 ≠ a))

/-- The map with the key listed at its place in rising order; the key must not be listed yet. -/
def Sparse.insert {α : Type} (a : Nat) (v : α) : Sparse α → Sparse α
  | [] => [(a, v)]
  | (k, w) :: m => if a < k then (a, v) :: (k, w) :: m else (k, w) :: Sparse.insert a v m

/-- The map after a write: a value equal to what an unlisted key reads as removes the entry. -/
def Sparse.set {α : Type} [DecidableEq α] (d : Nat → α) (m : Sparse α) (a : Nat) (v : α) : Sparse α :=
  if v = d a then m.erase a else Sparse.insert a v (m.erase a)

/-- The canonical form: keys strictly rising, and no entry equal to what an unlisted key reads as. -/
abbrev Sparse.wf {α : Type} (d : Nat → α) (m : Sparse α) : Prop :=
  m.Pairwise (fun x y => x.1 < y.1) ∧ ∀ e ∈ m, e.2 ≠ d e.1

/-- Writes of consecutive values from key `a` on. -/
def Sparse.setList {α : Type} [DecidableEq α] (d : Nat → α) : Sparse α → Nat → List α → Sparse α
  | m, _, [] => m
  | m, a, v :: vs => Sparse.setList d (m.set d a v) (a + 1) vs

/-- The `n` values read from key `a` on. -/
def Sparse.getList {α : Type} (d : Nat → α) (m : Sparse α) (a : Nat) : Nat → List α
  | 0 => []
  | n + 1 => m.get d a :: Sparse.getList d m (a + 1) n

end Sys2Proof.Machine
end

