-- ==== Sys2Proof/Machine/Codes.lean ====
section
/-! DEFINITION. The check codes: CRC-32C (R2), and the CRC-8 of the control blocks (R138); and the sine of R204 and R227. -/

namespace Sys2Proof.Machine

/-- One bit step of the reflected CRC-32C, polynomial 0x1EDC6F41. -/
def crc32cBit (c : BitVec 32) : BitVec 32 := if c.getLsbD 0 then (c >>> 1) ^^^ 0x82F63B78#32 else c >>> 1

/-- `n` bit steps. -/
def crc32cBits : Nat → BitVec 32 → BitVec 32
  | 0, c => c
  | n + 1, c => crc32cBits n (crc32cBit c)

/-- CRC-32C register after more bytes. -/
def crc32cFrom (c : BitVec 32) (bs : List Byte) : BitVec 32 :=
  bs.foldl (fun c b => crc32cBits 8 (c ^^^ b.setWidth 32)) c

/-- CRC-32C: initial value 0xFFFFFFFF, reflected, final inversion (R2). -/
def crc32c (bs : List Byte) : BitVec 32 := ~~~ crc32cFrom 0xFFFFFFFF#32 bs

/-- One bit step of the CRC-8, polynomial x^8 + x^2 + x + 1. -/
def crc8Bit (c : BitVec 8) : BitVec 8 := if c.getLsbD 7 then (c <<< 1) ^^^ 0x07#8 else c <<< 1

/-- `n` bit steps. -/
def crc8Bits : Nat → BitVec 8 → BitVec 8
  | 0, c => c
  | n + 1, c => crc8Bits n (crc8Bit c)

/-- CRC-8: initial value 0, no reflection (R138). -/
def crc8 (bs : List Byte) : BitVec 8 := bs.foldl (fun c b => crc8Bits 8 (c ^^^ b)) 0

/-- One bit step of the CRC-16, polynomial x^16 + x^12 + x^5 + 1. -/
def crc16Bit (c : BitVec 16) : BitVec 16 := if c.getLsbD 15 then (c <<< 1) ^^^ 0x1021#16 else c <<< 1

/-- CRC-16 by the convention of the CRC-8: initial value 0, no reflection (R138, R387). -/
def crc16 (bs : List Byte) : BitVec 16 :=
  bs.foldl (fun c b => (List.range 8).foldl (fun c _ => crc16Bit c) (c ^^^ BitVec.ofNat 16 (b.toNat * 256))) 0

/-- `n` further terms of the series of a sine: `x2` is the square of the angle and `t` the last term, with 60 fraction bits;
`k` counts the factors. -/
def sineTerms : Nat → Int → Int → Nat → Int
  | 0, _, t, _ => t
  | n + 1, x2, t, k => t + sineTerms n x2 (-(t * x2 / 2 ^ 60 / ((k + 1) * (k + 2) : Nat))) (k + 2)

/-- Sine of an angle in 1/2^32 turn, with 30 fraction bits, rounded down. How it is rounded is the model's choice
(assumption 109). -/
def sine (p : Nat) : Int :=
  let q := p % 2 ^ 30
  let y : Nat := if bits4 p % 2 = 0 then q else 2 ^ 30 - q
  let x : Int := (y * 7244019458077122842 / 2 ^ 32 : Nat)
  let v := sineTerms 14 (x * x / 2 ^ 60) x 1 / 2 ^ 30
  if bits4 p < 2 then v else -v
where
  /-- The quadrant. -/
  bits4 (p : Nat) : Nat := p % 2 ^ 32 / 2 ^ 30

/-- Cosine of an angle in 1/2^32 turn, with 30 fraction bits. -/
def cosine (p : Nat) : Int := sine (p + 2 ^ 30)

end Sys2Proof.Machine
end

