-- ==== Sys2Proof/Config.lean ====
section
/-! DEFINITION. What the spec leaves open for the machine as a whole: free values, applied to the counter that State
holds (or to the operands they depend on). They have no body, so no proof can rest on a value of one. -/

namespace Sys2Proof.Config

/-- A value the spec leaves open (assumption 1): the `k`-th one a run draws. -/
opaque free : Nat → Nat

/-- PAGE_CAPS of a block's pages: "block-specific capabilities", no value given (R14; assumption 2). -/
opaque pageCaps : Nat → Nat → Word

/-- What the on-die entropy source gives the HMAC_DRBG at a seeding (R2), as a number of 576 bits (assumption 3). -/
opaque entropy : Nat → Nat

/-- The last ACLK period AON measured against KCLK, in ns × 65,536 (R21: ±2 % of 1/32.768 kHz; assumption 4). -/
opaque aclkPeriod : Nat → Nat

/-- A factory trim word of the keep store, written by the maker before shipment (R384; assumption 5). -/
opaque keepTrim : Nat → Word

/-- How long a write into the calibration store that begins at a press time takes, in ns: the spec gives no figure. -/
opaque calWriteNs : Nat → Nat

/-- The rank that holds an LMEM codeword of a two-rank channel: the spec gives the channel only (R297; assumption 7). -/
opaque rankOf : Nat → Nat

/-- What the scrambler of a lane holds before its first block: a Beam Link's station and lane, or 6 + port and lane of the
cascade ring (R2, R137, R366; assumption 103). -/
opaque scrambler : Nat → Nat → Nat

end Sys2Proof.Config
end

