-- ==== Sys2Proof/Machine/Fields.lean ====
section
/-! DEFINITION. The registers and bit fields the spec names, each at the block, offset and bits its own register
table gives (spec/01 to spec/14; block IDs R363; page header R14). A field of an indexed register `X_i` is the field
of `X_0`; `Field.at` moves it to index `i`. -/

namespace Sys2Proof.Machine

/-- A bit field of a register: block ID (R363), page offset (R8), lowest bit, width, and the distance to the next
register of an indexed family. -/
structure Field where
  blk : Nat
  off : Nat
  lo : Nat
  len : Nat
  stride : Nat := 4
  deriving DecidableEq, Repr

/-- The same field of the `i`-th register of an indexed family. -/
def Field.at (f : Field) (i : Nat) : Field := { f with off := f.off + f.stride * i }

/-- BAR 0 offset of a register (R8). -/
def regAddr (blk inst off : Nat) : Nat := blk * 0x100000 + inst * 0x1000 + off

/-- BAR 0 offset of the register that holds the field, in one instance. -/
def Field.addr (f : Field) (inst : Nat) : Nat := regAddr f.blk inst f.off

namespace B

/-! Block IDs (R363). -/

abbrev SYS : Nat := 0x00
abbrev SEC : Nat := 0x01
abbrev KPS : Nat := 0x02
abbrev DBG : Nat := 0x03
abbrev HST : Nat := 0x04
abbrev DMA : Nat := 0x05
abbrev INT : Nat := 0x06
abbrev PRS : Nat := 0x07
abbrev CAS : Nat := 0x08
abbrev APR : Nat := 0x10
abbrev FST : Nat := 0x11
abbrev DEC : Nat := 0x12
abbrev ENC : Nat := 0x13
abbrev FMT : Nat := 0x14
abbrev COR : Nat := 0x15
abbrev ATT : Nat := 0x16
abbrev FAC : Nat := 0x18
abbrev CLK : Nat := 0x19
abbrev BLN : Nat := 0x1A
abbrev MOT : Nat := 0x20
abbrev STP : Nat := 0x21
abbrev PGN : Nat := 0x22
abbrev CTL : Nat := 0x23
abbrev HVO : Nat := 0x24
abbrev LUP : Nat := 0x25
abbrev FLT : Nat := 0x26
abbrev CAL : Nat := 0x27
abbrev ANA : Nat := 0x28
abbrev MNS : Nat := 0x29
abbrev HTR : Nat := 0x2A
abbrev TMP : Nat := 0x2B
abbrev GIO : Nat := 0x2C
abbrev PWR : Nat := 0x30
abbrev SEQ : Nat := 0x31
abbrev FED : Nat := 0x32
abbrev MEM : Nat := 0x38
abbrev ECC : Nat := 0x39

end B

namespace H

/-- `PAGE_CTRL` of a page of block `b` (R14). -/
def PAGE_CTRL (b : Nat) : Field := ⟨b, 0x008, 0, 32, 4⟩
/-- `PAGE_CTRL_EN` of a page of block `b` (R14). -/
def PAGE_CTRL_EN (b : Nat) : Field := ⟨b, 0x008, 0, 1, 4⟩
/-- `PAGE_CTRL_BLK_RST` of a page of block `b` (R14). -/
def PAGE_CTRL_BLK_RST (b : Nat) : Field := ⟨b, 0x008, 1, 1, 4⟩
/-- `PAGE_STATUS_BUSY` of a page of block `b` (R14). -/
def PAGE_STATUS_BUSY (b : Nat) : Field := ⟨b, 0x00C, 1, 1, 4⟩
/-- `EVT_STAT` of a page of block `b` (R14). -/
def EVT_STAT (b : Nat) : Field := ⟨b, 0x010, 0, 32, 4⟩
/-- `EVT_EN` of a page of block `b` (R14). -/
def EVT_EN (b : Nat) : Field := ⟨b, 0x014, 0, 32, 4⟩
/-- `PAGE_LOCK_LOCK` of a page of block `b` (R14). -/
def PAGE_LOCK_LOCK (b : Nat) : Field := ⟨b, 0x020, 0, 1, 4⟩
/-- `PAGE_GROUP_GRP` of a page of block `b` (R14). -/
def PAGE_GROUP_GRP (b : Nat) : Field := ⟨b, 0x024, 0, 16, 4⟩

end H

namespace F

/-! SYS pages 0x0 to 0x0 -/
abbrev SYS_MODE_REQ : Field := ⟨0x00, 0x040, 0, 32, 4⟩
abbrev SYS_MODE_REQ_TARGET : Field := ⟨0x00, 0x040, 0, 4, 4⟩
abbrev SYS_MODE_STAT : Field := ⟨0x00, 0x044, 0, 32, 4⟩
abbrev SYS_MODE_STAT_REFUSE : Field := ⟨0x00, 0x044, 16, 4, 4⟩
abbrev SYS_MODE_STAT_ZPEND : Field := ⟨0x00, 0x044, 15, 1, 4⟩
abbrev SYS_MODE_STAT_FILL_DONE : Field := ⟨0x00, 0x044, 14, 1, 4⟩
abbrev SYS_MODE_STAT_BUNDLE_OK : Field := ⟨0x00, 0x044, 13, 1, 4⟩
abbrev SYS_MODE_STAT_IN_TRANS : Field := ⟨0x00, 0x044, 12, 1, 4⟩
abbrev SYS_MODE_STAT_PEND : Field := ⟨0x00, 0x044, 8, 4, 4⟩
abbrev SYS_MODE_STAT_PREV : Field := ⟨0x00, 0x044, 4, 4, 4⟩
abbrev SYS_MODE_STAT_MODE : Field := ⟨0x00, 0x044, 0, 4, 4⟩
abbrev SYS_MODE_CAUSE : Field := ⟨0x00, 0x048, 0, 32, 4⟩
abbrev SYS_MODE_CAUSE_SRC : Field := ⟨0x00, 0x048, 0, 16, 4⟩
abbrev SYS_MODE_TIME_LO : Field := ⟨0x00, 0x04C, 0, 32, 4⟩
abbrev SYS_MODE_TIME_HI : Field := ⟨0x00, 0x050, 0, 32, 4⟩
/-! APR pages 0x0 to 0x0 -/
abbrev APR_CTRL : Field := ⟨0x10, 0x040, 0, 32, 4⟩
abbrev APR_CTRL_STN_HOLD : Field := ⟨0x10, 0x040, 8, 6, 4⟩
abbrev APR_CTRL_HOLD : Field := ⟨0x10, 0x040, 0, 1, 4⟩
abbrev APR_STAT : Field := ⟨0x10, 0x044, 0, 32, 4⟩
abbrev APR_STAT_N_FLIGHT : Field := ⟨0x10, 0x044, 24, 6, 4⟩
abbrev APR_STAT_N_ADMITTED : Field := ⟨0x10, 0x044, 16, 8, 4⟩
abbrev APR_STAT_N_STAGED : Field := ⟨0x10, 0x044, 8, 8, 4⟩
abbrev APR_STAT_EXAM : Field := ⟨0x10, 0x044, 0, 1, 4⟩
abbrev APR_LINK_RATE : Field := ⟨0x10, 0x048, 0, 32, 4⟩
abbrev APR_LINK_RATE_RATE : Field := ⟨0x10, 0x048, 0, 10, 4⟩
abbrev APR_LEAD : Field := ⟨0x10, 0x04C, 0, 32, 4⟩
abbrev APR_LEAD_LINES : Field := ⟨0x10, 0x04C, 0, 20, 4⟩
abbrev APR_GAP_MIN : Field := ⟨0x10, 0x050, 0, 32, 4⟩
abbrev APR_GAP_MIN_LINES : Field := ⟨0x10, 0x050, 0, 20, 4⟩
abbrev APR_GAP_CLASS : Field := ⟨0x10, 0x054, 0, 32, 4⟩
abbrev APR_GAP_CLASS_LINES : Field := ⟨0x10, 0x054, 0, 20, 4⟩
abbrev APR_DEC_MARGIN : Field := ⟨0x10, 0x058, 0, 32, 4⟩
abbrev APR_DEC_MARGIN_MARGIN : Field := ⟨0x10, 0x058, 0, 10, 4⟩
abbrev APR_STN_STOP : Field := ⟨0x10, 0x05C, 0, 32, 4⟩
abbrev APR_STN_STOP_STOP : Field := ⟨0x10, 0x05C, 0, 6, 4⟩
abbrev APR_LAST_SERIAL_LO : Field := ⟨0x10, 0x060, 0, 32, 4⟩
abbrev APR_LAST_SERIAL_HI : Field := ⟨0x10, 0x064, 0, 32, 4⟩
abbrev APR_POS_LO : Field := ⟨0x10, 0x068, 0, 32, 4⟩
abbrev APR_POS_HI : Field := ⟨0x10, 0x06C, 0, 32, 4⟩
abbrev APR_CTX_SEL : Field := ⟨0x10, 0x070, 0, 32, 4⟩
abbrev APR_CTX_SEL_CTX : Field := ⟨0x10, 0x070, 0, 8, 4⟩
abbrev APR_CTX_STATE : Field := ⟨0x10, 0x074, 0, 32, 4⟩
abbrev APR_CTX_STATE_STN_DONE : Field := ⟨0x10, 0x074, 16, 6, 4⟩
abbrev APR_CTX_STATE_CLASS : Field := ⟨0x10, 0x074, 12, 4, 4⟩
abbrev APR_CTX_STATE_LOST : Field := ⟨0x10, 0x074, 9, 1, 4⟩
abbrev APR_CTX_STATE_DEGRADED : Field := ⟨0x10, 0x074, 8, 1, 4⟩
abbrev APR_CTX_STATE_CAUSE : Field := ⟨0x10, 0x074, 4, 4, 4⟩
abbrev APR_CTX_STATE_STATE : Field := ⟨0x10, 0x074, 0, 4, 4⟩
abbrev APR_CTX_REASON : Field := ⟨0x10, 0x078, 0, 32, 4⟩
abbrev APR_XPORT : Field := ⟨0x10, 0x07C, 0, 32, 4⟩
abbrev APR_XPORT_SRC : Field := ⟨0x10, 0x07C, 0, 8, 4⟩
abbrev APR_STN_DIST : Field := ⟨0x10, 0x080, 0, 32, 4⟩
abbrev APR_FUSE_DIST : Field := ⟨0x10, 0x098, 0, 32, 4⟩
abbrev APR_DLV_DIST : Field := ⟨0x10, 0x09C, 0, 32, 4⟩
abbrev APR_SC_PERIOD : Field := ⟨0x10, 0x0A0, 0, 32, 4⟩
abbrev APR_PRSV : Field := ⟨0x10, 0x0E0, 0, 32, 4⟩
abbrev APR_PRSV_WATTS : Field := ⟨0x10, 0x0E0, 0, 16, 4⟩
/-! APR pages 0x20 to 0x3f -/
abbrev RING_CTRL : Field := ⟨0x10, 0x040, 0, 32, 4⟩
abbrev RING_CTRL_SHADOW_EN : Field := ⟨0x10, 0x040, 2, 1, 4⟩
abbrev RING_CTRL_LOC : Field := ⟨0x10, 0x040, 1, 1, 4⟩
abbrev RING_CTRL_EN : Field := ⟨0x10, 0x040, 0, 1, 4⟩
abbrev RING_SIZE : Field := ⟨0x10, 0x044, 0, 32, 4⟩
abbrev RING_SIZE_LOG2 : Field := ⟨0x10, 0x044, 0, 5, 4⟩
abbrev RING_BASE_LO : Field := ⟨0x10, 0x048, 0, 32, 4⟩
abbrev RING_BASE_HI : Field := ⟨0x10, 0x04C, 0, 32, 4⟩
abbrev RING_HEAD : Field := ⟨0x10, 0x050, 0, 32, 4⟩
abbrev RING_HEAD_INDEX : Field := ⟨0x10, 0x050, 0, 16, 4⟩
abbrev RING_TAIL : Field := ⟨0x10, 0x054, 0, 32, 4⟩
abbrev RING_TAIL_INDEX : Field := ⟨0x10, 0x054, 0, 16, 4⟩
abbrev RING_RSV : Field := ⟨0x10, 0x058, 0, 32, 4⟩
abbrev RING_RSV_COUNT : Field := ⟨0x10, 0x058, 0, 17, 4⟩
abbrev RING_SHADOW_LO : Field := ⟨0x10, 0x05C, 0, 32, 4⟩
abbrev RING_SHADOW_HI : Field := ⟨0x10, 0x060, 0, 32, 4⟩
abbrev RING_OVF : Field := ⟨0x10, 0x064, 0, 32, 4⟩
/-! FST pages 0x0 to 0x0 -/
abbrev FST_CTRL : Field := ⟨0x11, 0x040, 0, 32, 4⟩
abbrev FST_CTRL_PAUSE : Field := ⟨0x11, 0x040, 0, 1, 4⟩
abbrev FST_STAT : Field := ⟨0x11, 0x044, 0, 32, 4⟩
abbrev FST_STAT_OWNCHK : Field := ⟨0x11, 0x044, 17, 1, 4⟩
abbrev FST_STAT_OPENING : Field := ⟨0x11, 0x044, 16, 1, 4⟩
abbrev FST_STAT_N_REC : Field := ⟨0x11, 0x044, 0, 12, 4⟩
abbrev FST_REC_SEL : Field := ⟨0x11, 0x048, 0, 32, 4⟩
abbrev FST_REC_SEL_REC : Field := ⟨0x11, 0x048, 0, 11, 4⟩
abbrev FST_REC_ADDR_LO : Field := ⟨0x11, 0x04C, 0, 32, 4⟩
abbrev FST_REC_ADDR_HI : Field := ⟨0x11, 0x050, 0, 32, 4⟩
abbrev FST_REC_INFO : Field := ⟨0x11, 0x054, 0, 32, 4⟩
abbrev FST_REC_INFO_VALID : Field := ⟨0x11, 0x054, 31, 1, 4⟩
abbrev FST_REC_INFO_BAD : Field := ⟨0x11, 0x054, 30, 1, 4⟩
abbrev FST_REC_INFO_CTX : Field := ⟨0x11, 0x054, 20, 8, 4⟩
abbrev FST_REC_INFO_STATION : Field := ⟨0x11, 0x054, 17, 3, 4⟩
abbrev FST_REC_INFO_PLANE : Field := ⟨0x11, 0x054, 16, 1, 4⟩
abbrev FST_REC_INFO_K : Field := ⟨0x11, 0x054, 12, 4, 4⟩
abbrev FST_REC_INFO_BPP : Field := ⟨0x11, 0x054, 10, 2, 4⟩
abbrev FST_REC_BLOCKS : Field := ⟨0x11, 0x058, 0, 32, 4⟩
abbrev FST_REC_BLOCKS_N_RES : Field := ⟨0x11, 0x058, 16, 16, 4⟩
abbrev FST_REC_BLOCKS_N_BLOCKS : Field := ⟨0x11, 0x058, 0, 16, 4⟩
abbrev FST_REC_ERRS : Field := ⟨0x11, 0x05C, 0, 32, 4⟩
abbrev FST_REC_ERRS_N_HDRERR : Field := ⟨0x11, 0x05C, 16, 16, 4⟩
abbrev FST_REC_ERRS_N_POISON : Field := ⟨0x11, 0x05C, 0, 16, 4⟩
abbrev FST_REC_MISS_LO : Field := ⟨0x11, 0x060, 0, 32, 4⟩
abbrev FST_REC_MISS_HI : Field := ⟨0x11, 0x064, 0, 32, 4⟩
abbrev FST_BADPOST : Field := ⟨0x11, 0x068, 0, 32, 4⟩
abbrev FST_NOREC : Field := ⟨0x11, 0x06C, 0, 32, 4⟩
/-! DEC pages 0x0 to 0x5 -/
abbrev DEC_STAT : Field := ⟨0x12, 0x040, 0, 32, 4⟩
abbrev DEC_STAT_CTX : Field := ⟨0x12, 0x040, 16, 8, 4⟩
abbrev DEC_STAT_LANE_BUSY : Field := ⟨0x12, 0x040, 0, 16, 4⟩
abbrev DEC_BAND : Field := ⟨0x12, 0x044, 0, 32, 4⟩
abbrev DEC_BAND_BAND : Field := ⟨0x12, 0x044, 0, 12, 4⟩
abbrev DEC_BAD_CNT : Field := ⟨0x12, 0x048, 0, 32, 4⟩
abbrev DEC_DUTY_CNT : Field := ⟨0x12, 0x04C, 0, 32, 4⟩
abbrev DEC_LATE_CNT : Field := ⟨0x12, 0x050, 0, 32, 4⟩
abbrev DEC_BAD_ADDR_LO : Field := ⟨0x12, 0x054, 0, 32, 4⟩
abbrev DEC_BAD_ADDR_HI : Field := ⟨0x12, 0x058, 0, 32, 4⟩
abbrev DEC_BAD_WHY : Field := ⟨0x12, 0x05C, 0, 32, 4⟩
abbrev DEC_BAD_WHY_WHY : Field := ⟨0x12, 0x05C, 0, 4, 4⟩
/-! ENC pages 0x0 to 0x0 -/
abbrev ENC_CTRL : Field := ⟨0x13, 0x040, 0, 32, 4⟩
abbrev ENC_CTRL_ABORT : Field := ⟨0x13, 0x040, 3, 1, 4⟩
abbrev ENC_CTRL_RESTORE : Field := ⟨0x13, 0x040, 2, 1, 4⟩
abbrev ENC_CTRL_SAVE : Field := ⟨0x13, 0x040, 1, 1, 4⟩
abbrev ENC_CTRL_START : Field := ⟨0x13, 0x040, 0, 1, 4⟩
abbrev ENC_STAT : Field := ⟨0x13, 0x044, 0, 32, 4⟩
abbrev ENC_STAT_BAND : Field := ⟨0x13, 0x044, 8, 12, 4⟩
abbrev ENC_STAT_ERR : Field := ⟨0x13, 0x044, 4, 4, 4⟩
abbrev ENC_STAT_DONE : Field := ⟨0x13, 0x044, 3, 1, 4⟩
abbrev ENC_STAT_SAVING : Field := ⟨0x13, 0x044, 2, 1, 4⟩
abbrev ENC_STAT_LOUPE : Field := ⟨0x13, 0x044, 1, 1, 4⟩
abbrev ENC_STAT_BUSY : Field := ⟨0x13, 0x044, 0, 1, 4⟩
abbrev ENC_CFG : Field := ⟨0x13, 0x048, 0, 32, 4⟩
abbrev ENC_CFG_CH : Field := ⟨0x13, 0x048, 12, 4, 4⟩
abbrev ENC_CFG_SKIP_ZERO : Field := ⟨0x13, 0x048, 8, 1, 4⟩
abbrev ENC_CFG_HIST : Field := ⟨0x13, 0x048, 6, 2, 4⟩
abbrev ENC_CFG_WIDTH : Field := ⟨0x13, 0x048, 2, 4, 4⟩
abbrev ENC_CFG_BPP : Field := ⟨0x13, 0x048, 0, 2, 4⟩
abbrev ENC_BANDS : Field := ⟨0x13, 0x04C, 0, 32, 4⟩
abbrev ENC_BANDS_BANDS : Field := ⟨0x13, 0x04C, 0, 12, 4⟩
abbrev ENC_BAND0 : Field := ⟨0x13, 0x050, 0, 32, 4⟩
abbrev ENC_BAND0_BANDS : Field := ⟨0x13, 0x050, 0, 12, 4⟩
abbrev ENC_DST_LO : Field := ⟨0x13, 0x054, 0, 32, 4⟩
abbrev ENC_DST_HI : Field := ⟨0x13, 0x058, 0, 32, 4⟩
abbrev ENC_IDX_LO : Field := ⟨0x13, 0x05C, 0, 32, 4⟩
abbrev ENC_IDX_HI : Field := ⟨0x13, 0x060, 0, 32, 4⟩
abbrev ENC_ENTRY : Field := ⟨0x13, 0x064, 0, 32, 4⟩
abbrev ENC_ENTRY_ENTRY : Field := ⟨0x13, 0x064, 0, 16, 4⟩
abbrev ENC_IDX_CRC : Field := ⟨0x13, 0x068, 0, 32, 4⟩
abbrev ENC_COMP_LO : Field := ⟨0x13, 0x06C, 0, 32, 4⟩
abbrev ENC_COMP_HI : Field := ⟨0x13, 0x070, 0, 32, 4⟩
abbrev ENC_SAVE_LO : Field := ⟨0x13, 0x074, 0, 32, 4⟩
abbrev ENC_SAVE_HI : Field := ⟨0x13, 0x078, 0, 32, 4⟩
/-! FMT pages 0x0 to 0x5 -/
abbrev FMT_CFG : Field := ⟨0x14, 0x040, 0, 32, 4⟩
abbrev FMT_CFG_LINE_DEBT_MAX : Field := ⟨0x14, 0x040, 16, 4, 4⟩
abbrev FMT_CFG_PAT_LEN : Field := ⟨0x14, 0x040, 8, 4, 4⟩
abbrev FMT_CFG_MERGE : Field := ⟨0x14, 0x040, 4, 1, 4⟩
abbrev FMT_CFG_ILACE : Field := ⟨0x14, 0x040, 0, 2, 4⟩
abbrev FMT_STAT : Field := ⟨0x14, 0x044, 0, 32, 4⟩
abbrev FMT_STAT_CTX : Field := ⟨0x14, 0x044, 16, 8, 4⟩
abbrev FMT_STAT_CFG_ERR : Field := ⟨0x14, 0x044, 15, 1, 4⟩
abbrev FMT_STAT_CUT : Field := ⟨0x14, 0x044, 14, 1, 4⟩
abbrev FMT_STAT_SPEED_HOLD : Field := ⟨0x14, 0x044, 13, 1, 4⟩
abbrev FMT_STAT_TIGHT : Field := ⟨0x14, 0x044, 12, 1, 4⟩
abbrev FMT_STAT_PIDX : Field := ⟨0x14, 0x044, 8, 4, 4⟩
abbrev FMT_STAT_YMAX : Field := ⟨0x14, 0x044, 0, 8, 4⟩
abbrev FMT_DEBT : Field := ⟨0x14, 0x048, 0, 32, 4⟩
abbrev FMT_DEBT_D : Field := ⟨0x14, 0x048, 0, 8, 4⟩
abbrev FMT_CAP : Field := ⟨0x14, 0x04C, 0, 32, 4⟩
abbrev FMT_CAP_EMI : Field := ⟨0x14, 0x04C, 16, 10, 4⟩
abbrev FMT_CAP_ARR : Field := ⟨0x14, 0x04C, 0, 10, 4⟩
abbrev FMT_TIGHT : Field := ⟨0x14, 0x050, 0, 32, 4⟩
abbrev FMT_TIGHT_FACTOR : Field := ⟨0x14, 0x050, 0, 6, 4⟩
abbrev FMT_HOLD : Field := ⟨0x14, 0x054, 0, 32, 4⟩
abbrev FMT_HOLD_SPEED_HOLD : Field := ⟨0x14, 0x054, 0, 1, 4⟩
abbrev FMT_PAT : Field := ⟨0x14, 0x058, 0, 32, 4⟩
abbrev FMT_LVLW : Field := ⟨0x14, 0x068, 0, 32, 4⟩
abbrev FMT_LVLW_LW0 : Field := ⟨0x14, 0x068, 0, 5, 4⟩
abbrev FMT_LVLW_LW1 : Field := ⟨0x14, 0x068, 8, 5, 4⟩
abbrev FMT_LVLW_LW2 : Field := ⟨0x14, 0x068, 16, 5, 4⟩
abbrev FMT_LVLW_LW3 : Field := ⟨0x14, 0x068, 24, 5, 4⟩
abbrev FMT_OVMAP : Field := ⟨0x14, 0x078, 0, 32, 4⟩
abbrev FMT_OVMAP_E0 : Field := ⟨0x14, 0x078, 0, 5, 4⟩
abbrev FMT_OVMAP_E1 : Field := ⟨0x14, 0x078, 8, 5, 4⟩
abbrev FMT_OVMAP_E2 : Field := ⟨0x14, 0x078, 16, 5, 4⟩
abbrev FMT_OVMAP_E3 : Field := ⟨0x14, 0x078, 24, 5, 4⟩
abbrev FMT_PSTEP : Field := ⟨0x14, 0x088, 0, 32, 4⟩
abbrev FMT_PSTEP_HI : Field := ⟨0x14, 0x088, 16, 11, 4⟩
abbrev FMT_PSTEP_LO : Field := ⟨0x14, 0x088, 0, 11, 4⟩
abbrev FMT_MISSED : Field := ⟨0x14, 0x098, 0, 32, 4⟩
abbrev FMT_GOV_CNT : Field := ⟨0x14, 0x09C, 0, 32, 4⟩
abbrev FMT_DUTY_ARR : Field := ⟨0x14, 0x0A0, 0, 32, 4⟩
abbrev FMT_DUTY_ARR_CAP : Field := ⟨0x14, 0x0A0, 16, 10, 4⟩
abbrev FMT_DUTY_ARR_DUTY : Field := ⟨0x14, 0x0A0, 0, 10, 4⟩
abbrev FMT_DUTY_EMI : Field := ⟨0x14, 0x0A4, 0, 32, 4⟩
abbrev FMT_DUTY_EMI_EMITTER : Field := ⟨0x14, 0x0A4, 16, 6, 4⟩
abbrev FMT_DUTY_EMI_DUTY : Field := ⟨0x14, 0x0A4, 0, 10, 4⟩
/-! COR pages 0x0 to 0x5 -/
abbrev COR_CTRL : Field := ⟨0x15, 0x040, 0, 32, 4⟩
abbrev COR_CTRL_LOAD : Field := ⟨0x15, 0x040, 0, 1, 4⟩
abbrev COR_LOAD_CFG : Field := ⟨0x15, 0x044, 0, 32, 4⟩
abbrev COR_LOAD_CFG_BANK : Field := ⟨0x15, 0x044, 8, 1, 4⟩
abbrev COR_LOAD_CFG_SET : Field := ⟨0x15, 0x044, 0, 8, 4⟩
abbrev COR_STAT : Field := ⟨0x15, 0x048, 0, 32, 4⟩
abbrev COR_STAT_ERR : Field := ⟨0x15, 0x048, 20, 4, 4⟩
abbrev COR_STAT_BUSY : Field := ⟨0x15, 0x048, 19, 1, 4⟩
abbrev COR_STAT_ACTIVE : Field := ⟨0x15, 0x048, 18, 1, 4⟩
abbrev COR_STAT_VER_1 : Field := ⟨0x15, 0x048, 17, 1, 4⟩
abbrev COR_STAT_VER_0 : Field := ⟨0x15, 0x048, 16, 1, 4⟩
abbrev COR_STAT_SET_1 : Field := ⟨0x15, 0x048, 8, 8, 4⟩
abbrev COR_STAT_SET_0 : Field := ⟨0x15, 0x048, 0, 8, 4⟩
abbrev COR_CLIP_CNT : Field := ⟨0x15, 0x04C, 0, 32, 4⟩
abbrev COR_NODE_SEL : Field := ⟨0x15, 0x050, 0, 32, 4⟩
abbrev COR_NODE_SEL_BANK : Field := ⟨0x15, 0x050, 16, 1, 4⟩
abbrev COR_NODE_SEL_NODE : Field := ⟨0x15, 0x050, 0, 16, 4⟩
abbrev COR_NODE_DATA : Field := ⟨0x15, 0x054, 0, 32, 4⟩
abbrev COR_DIGEST : Field := ⟨0x15, 0x058, 0, 32, 4⟩
/-! FAC pages 0x0 to 0x5 -/
abbrev FAC_CFG : Field := ⟨0x18, 0x040, 0, 32, 4⟩
abbrev FAC_CFG_LOCK_TOL : Field := ⟨0x18, 0x040, 20, 8, 4⟩
abbrev FAC_CFG_LOCK_N : Field := ⟨0x18, 0x040, 16, 4, 4⟩
abbrev FAC_CFG_BD_WIN : Field := ⟨0x18, 0x040, 8, 8, 4⟩
abbrev FAC_CFG_NFACETS : Field := ⟨0x18, 0x040, 4, 4, 4⟩
abbrev FAC_CFG_TRACK : Field := ⟨0x18, 0x040, 1, 1, 4⟩
abbrev FAC_CFG_EDGE : Field := ⟨0x18, 0x040, 0, 1, 4⟩
abbrev FAC_IDCFG : Field := ⟨0x18, 0x044, 0, 32, 4⟩
abbrev FAC_IDCFG_ID_REVS : Field := ⟨0x18, 0x044, 16, 4, 4⟩
abbrev FAC_IDCFG_ID_TOL : Field := ⟨0x18, 0x044, 0, 16, 4⟩
abbrev FAC_START : Field := ⟨0x18, 0x048, 0, 32, 4⟩
abbrev FAC_START_OFS : Field := ⟨0x18, 0x048, 0, 22, 4⟩
abbrev FAC_STAT : Field := ⟨0x18, 0x04C, 0, 32, 4⟩
abbrev FAC_STAT_SEQ : Field := ⟨0x18, 0x04C, 16, 16, 4⟩
abbrev FAC_STAT_PIDX : Field := ⟨0x18, 0x04C, 8, 4, 4⟩
abbrev FAC_STAT_CLASS : Field := ⟨0x18, 0x04C, 4, 4, 4⟩
abbrev FAC_STAT_RETUNE : Field := ⟨0x18, 0x04C, 3, 1, 4⟩
abbrev FAC_STAT_LOCKED : Field := ⟨0x18, 0x04C, 2, 1, 4⟩
abbrev FAC_STAT_ID_OK : Field := ⟨0x18, 0x04C, 1, 1, 4⟩
abbrev FAC_STAT_BD_OK : Field := ⟨0x18, 0x04C, 0, 1, 4⟩
abbrev FAC_BD_TS_LO : Field := ⟨0x18, 0x050, 0, 32, 4⟩
abbrev FAC_BD_TS_HI : Field := ⟨0x18, 0x054, 0, 32, 4⟩
abbrev FAC_BD_FRAC : Field := ⟨0x18, 0x058, 0, 32, 4⟩
abbrev FAC_BD_FRAC_FRAC : Field := ⟨0x18, 0x058, 0, 5, 4⟩
abbrev FAC_PERIOD : Field := ⟨0x18, 0x05C, 0, 32, 4⟩
abbrev FAC_PERR_CNT : Field := ⟨0x18, 0x060, 0, 32, 4⟩
abbrev FAC_FACET : Field := ⟨0x18, 0x064, 0, 32, 4⟩
abbrev FAC_FACET_SIG : Field := ⟨0x18, 0x064, 16, 16, 4⟩
abbrev FAC_FACET_FOFS : Field := ⟨0x18, 0x064, 0, 16, 4⟩
/-! CLK pages 0x0 to 0x5 -/
abbrev CLK_OUT : Field := ⟨0x19, 0x040, 0, 32, 4⟩
abbrev CLK_OUT_FMT : Field := ⟨0x19, 0x040, 4, 2, 4⟩
abbrev CLK_OUT_EN : Field := ⟨0x19, 0x040, 0, 1, 4⟩
abbrev CLK_STAT : Field := ⟨0x19, 0x044, 0, 32, 4⟩
abbrev CLK_STAT_CLASS : Field := ⟨0x19, 0x044, 12, 4, 4⟩
abbrev CLK_STAT_TAP : Field := ⟨0x19, 0x044, 3, 7, 4⟩
abbrev CLK_STAT_GATED : Field := ⟨0x19, 0x044, 2, 1, 4⟩
abbrev CLK_STAT_DLL_LOCK : Field := ⟨0x19, 0x044, 1, 1, 4⟩
abbrev CLK_STAT_SYN_LOCK : Field := ⟨0x19, 0x044, 0, 1, 4⟩
abbrev CLK_TRIM : Field := ⟨0x19, 0x048, 0, 32, 4⟩
abbrev CLK_TRIM_TRIM : Field := ⟨0x19, 0x048, 0, 16, 4⟩
abbrev CLK_GATE_CNT : Field := ⟨0x19, 0x04C, 0, 32, 4⟩
abbrev CLK_FREQ : Field := ⟨0x19, 0x050, 0, 32, 4⟩
/-! BLN pages 0x0 to 0x5 -/
abbrev BLN_CTRL : Field := ⟨0x1A, 0x040, 0, 32, 4⟩
abbrev BLN_CTRL_IDREAD : Field := ⟨0x1A, 0x040, 4, 1, 4⟩
abbrev BLN_CTRL_ID_ACK : Field := ⟨0x1A, 0x040, 3, 1, 4⟩
abbrev BLN_CTRL_RETRAIN : Field := ⟨0x1A, 0x040, 2, 1, 4⟩
abbrev BLN_CTRL_AUTO : Field := ⟨0x1A, 0x040, 1, 1, 4⟩
abbrev BLN_CTRL_EN : Field := ⟨0x1A, 0x040, 0, 1, 4⟩
abbrev BLN_STAT : Field := ⟨0x1A, 0x044, 0, 32, 4⟩
abbrev BLN_STAT_FCAUSE : Field := ⟨0x1A, 0x044, 16, 4, 4⟩
abbrev BLN_STAT_LANE_LOCK : Field := ⟨0x1A, 0x044, 8, 6, 4⟩
abbrev BLN_STAT_DARK : Field := ⟨0x1A, 0x044, 6, 1, 4⟩
abbrev BLN_STAT_ID_CHG : Field := ⟨0x1A, 0x044, 5, 1, 4⟩
abbrev BLN_STAT_RANK_OK : Field := ⟨0x1A, 0x044, 4, 1, 4⟩
abbrev BLN_STAT_ID_VALID : Field := ⟨0x1A, 0x044, 3, 1, 4⟩
abbrev BLN_STAT_LSTATE : Field := ⟨0x1A, 0x044, 0, 3, 4⟩
abbrev BLN_CFG : Field := ⟨0x1A, 0x048, 0, 32, 4⟩
abbrev BLN_CFG_APC_SLOTS : Field := ⟨0x1A, 0x048, 28, 3, 4⟩
abbrev BLN_CFG_SEARCH : Field := ⟨0x1A, 0x048, 27, 1, 4⟩
abbrev BLN_CFG_BD_PS : Field := ⟨0x1A, 0x048, 24, 3, 4⟩
abbrev BLN_CFG_BD_EMIT : Field := ⟨0x1A, 0x048, 16, 6, 4⟩
abbrev BLN_CFG_BC_ERR_MAX : Field := ⟨0x1A, 0x048, 8, 8, 4⟩
abbrev BLN_CFG_KEEP : Field := ⟨0x1A, 0x048, 0, 4, 4⟩
abbrev BLN_RANK : Field := ⟨0x1A, 0x04C, 0, 32, 4⟩
abbrev BLN_RANK_MASK : Field := ⟨0x1A, 0x04C, 0, 16, 4⟩
abbrev BLN_APC_CFG : Field := ⟨0x1A, 0x050, 0, 32, 4⟩
abbrev BLN_APC_CFG_FIRST : Field := ⟨0x1A, 0x050, 16, 16, 4⟩
abbrev BLN_APC_CFG_LEN : Field := ⟨0x1A, 0x050, 0, 16, 4⟩
abbrev BLN_CRC_CNT : Field := ⟨0x1A, 0x054, 0, 32, 4⟩
abbrev BLN_BCERR_CNT : Field := ⟨0x1A, 0x058, 0, 32, 4⟩
abbrev BLN_FAULT_CNT : Field := ⟨0x1A, 0x05C, 0, 32, 4⟩
abbrev BLN_DRV_STAT : Field := ⟨0x1A, 0x060, 0, 32, 4⟩
abbrev BLN_DRV_STAT_SEQ : Field := ⟨0x1A, 0x060, 16, 16, 4⟩
abbrev BLN_DRV_STAT_LANE_LOCK : Field := ⟨0x1A, 0x060, 8, 6, 4⟩
abbrev BLN_DRV_STAT_FLAGS : Field := ⟨0x1A, 0x060, 0, 8, 4⟩
abbrev BLN_TEMP : Field := ⟨0x1A, 0x064, 0, 32, 4⟩
abbrev BLN_TEMP_VALID : Field := ⟨0x1A, 0x064, 31, 1, 4⟩
abbrev BLN_TEMP_TEMP : Field := ⟨0x1A, 0x064, 0, 16, 4⟩
abbrev BLN_APC_SEL : Field := ⟨0x1A, 0x074, 0, 32, 4⟩
abbrev BLN_APC_SEL_EMITTER : Field := ⟨0x1A, 0x074, 0, 6, 4⟩
abbrev BLN_APC_DATA : Field := ⟨0x1A, 0x078, 0, 32, 4⟩
abbrev BLN_APC_DATA_VALID : Field := ⟨0x1A, 0x078, 31, 1, 4⟩
abbrev BLN_APC_DATA_PS : Field := ⟨0x1A, 0x078, 16, 3, 4⟩
abbrev BLN_APC_DATA_POWER : Field := ⟨0x1A, 0x078, 0, 16, 4⟩
abbrev BLN_ID_SEL : Field := ⟨0x1A, 0x07C, 0, 32, 4⟩
abbrev BLN_ID_SEL_ADDR : Field := ⟨0x1A, 0x07C, 2, 10, 4⟩
abbrev BLN_ID_DATA : Field := ⟨0x1A, 0x080, 0, 32, 4⟩
abbrev BLN_UNIT_ID : Field := ⟨0x1A, 0x084, 0, 32, 4⟩
/-! SEC pages 0x0 to 0x0 -/
abbrev SEC_STAT : Field := ⟨0x01, 0x040, 0, 32, 4⟩
abbrev SEC_STAT_DRBG_OK : Field := ⟨0x01, 0x040, 23, 1, 4⟩
abbrev SEC_STAT_SIGN_OK : Field := ⟨0x01, 0x040, 22, 1, 4⟩
abbrev SEC_STAT_UNSIGNED : Field := ⟨0x01, 0x040, 21, 1, 4⟩
abbrev SEC_STAT_OWNER : Field := ⟨0x01, 0x040, 20, 1, 4⟩
abbrev SEC_STAT_BEK : Field := ⟨0x01, 0x040, 19, 1, 4⟩
abbrev SEC_STAT_ZPEND : Field := ⟨0x01, 0x040, 17, 2, 4⟩
abbrev SEC_STAT_DBG : Field := ⟨0x01, 0x040, 16, 1, 4⟩
abbrev SEC_STAT_KEY : Field := ⟨0x01, 0x040, 12, 2, 4⟩
abbrev SEC_STAT_LC : Field := ⟨0x01, 0x040, 0, 2, 4⟩
abbrev SEC_CMD : Field := ⟨0x01, 0x044, 0, 32, 4⟩
abbrev SEC_CMD_OP : Field := ⟨0x01, 0x044, 0, 4, 4⟩
abbrev SEC_CMD_STAT : Field := ⟨0x01, 0x048, 0, 32, 4⟩
abbrev SEC_CMD_STAT_BUSY : Field := ⟨0x01, 0x048, 31, 1, 4⟩
abbrev SEC_CMD_STAT_FAILS : Field := ⟨0x01, 0x048, 8, 4, 4⟩
abbrev SEC_CMD_STAT_ERR : Field := ⟨0x01, 0x048, 0, 8, 4⟩
abbrev SEC_EPOCH : Field := ⟨0x01, 0x04C, 0, 32, 4⟩
abbrev SEC_EPOCH_EPOCH : Field := ⟨0x01, 0x04C, 0, 16, 4⟩
abbrev SEC_MINVER : Field := ⟨0x01, 0x050, 0, 32, 4⟩
abbrev SEC_CFG_ID : Field := ⟨0x01, 0x054, 0, 32, 4⟩
abbrev SEC_BUNDLE_CTRL : Field := ⟨0x01, 0x058, 0, 32, 4⟩
abbrev SEC_BUNDLE_CTRL_PUSH : Field := ⟨0x01, 0x058, 0, 1, 4⟩
abbrev SEC_BUNDLE_STAT : Field := ⟨0x01, 0x05C, 0, 32, 4⟩
abbrev SEC_BUNDLE_STAT_BUSY : Field := ⟨0x01, 0x05C, 31, 1, 4⟩
abbrev SEC_BUNDLE_STAT_SRC : Field := ⟨0x01, 0x05C, 16, 2, 4⟩
abbrev SEC_BUNDLE_STAT_ERR : Field := ⟨0x01, 0x05C, 0, 8, 4⟩
abbrev SEC_BUNDLE_ADDR_LO : Field := ⟨0x01, 0x060, 0, 32, 4⟩
abbrev SEC_BUNDLE_ADDR_HI : Field := ⟨0x01, 0x064, 0, 32, 4⟩
abbrev SEC_NONCE : Field := ⟨0x01, 0x080, 0, 32, 4⟩
abbrev SEC_BUNDLE_DIG : Field := ⟨0x01, 0x0B0, 0, 32, 4⟩
abbrev SEC_TOKEN : Field := ⟨0x01, 0x100, 0, 32, 4⟩
abbrev SEC_OWNER : Field := ⟨0x01, 0x180, 0, 32, 4⟩
abbrev SEC_IDPUB : Field := ⟨0x01, 0x200, 0, 32, 4⟩
abbrev SEC_BEK : Field := ⟨0x01, 0x280, 0, 32, 4⟩
/-! ATT pages 0x0 to 0x0 -/
abbrev ATT_STAT : Field := ⟨0x16, 0x040, 0, 32, 4⟩
abbrev ATT_STAT_CKPT_BUSY : Field := ⟨0x16, 0x040, 7, 1, 4⟩
abbrev ATT_STAT_PEND : Field := ⟨0x16, 0x040, 0, 6, 4⟩
abbrev ATT_CKPT : Field := ⟨0x16, 0x044, 0, 32, 4⟩
abbrev ATT_CKPT_LOG2 : Field := ⟨0x16, 0x044, 0, 5, 4⟩
abbrev ATT_EVID_LO : Field := ⟨0x16, 0x048, 0, 32, 4⟩
abbrev ATT_EVID_HI : Field := ⟨0x16, 0x04C, 0, 32, 4⟩
abbrev ATT_CTR_LO : Field := ⟨0x16, 0x050, 0, 32, 4⟩
abbrev ATT_CTR_HI : Field := ⟨0x16, 0x054, 0, 32, 4⟩
abbrev ATT_CEIL_LO : Field := ⟨0x16, 0x058, 0, 32, 4⟩
abbrev ATT_CEIL_HI : Field := ⟨0x16, 0x05C, 0, 32, 4⟩
abbrev ATT_GAP_CNT : Field := ⟨0x16, 0x060, 0, 32, 4⟩
abbrev ATT_HEAD : Field := ⟨0x16, 0x080, 0, 32, 4⟩
/-! DBG pages 0x0 to 0x0 -/
abbrev DBG_STAT : Field := ⟨0x03, 0x040, 0, 32, 4⟩
abbrev DBG_STAT_VIA : Field := ⟨0x03, 0x040, 1, 2, 4⟩
abbrev DBG_STAT_OPEN : Field := ⟨0x03, 0x040, 0, 1, 4⟩
abbrev DBG_WIN_CTRL : Field := ⟨0x03, 0x044, 0, 32, 4⟩
abbrev DBG_WIN_CTRL_INC : Field := ⟨0x03, 0x044, 1, 1, 4⟩
abbrev DBG_WIN_CTRL_EN : Field := ⟨0x03, 0x044, 0, 1, 4⟩
abbrev DBG_WIN_ADDR_LO : Field := ⟨0x03, 0x048, 0, 32, 4⟩
abbrev DBG_WIN_ADDR_HI : Field := ⟨0x03, 0x04C, 0, 32, 4⟩
abbrev DBG_WIN_DATA : Field := ⟨0x03, 0x050, 0, 32, 4⟩
abbrev DBG_IDCODE : Field := ⟨0x03, 0x054, 0, 32, 4⟩
abbrev DBG_IDCODE_VERSION : Field := ⟨0x03, 0x054, 28, 4, 4⟩
abbrev DBG_IDCODE_PART : Field := ⟨0x03, 0x054, 12, 16, 4⟩
abbrev DBG_IDCODE_MFR : Field := ⟨0x03, 0x054, 1, 11, 4⟩
abbrev DBG_IDCODE_ONE : Field := ⟨0x03, 0x054, 0, 1, 4⟩
/-! MOT pages 0x0 to 0x17 -/
abbrev MOT_CTRL : Field := ⟨0x20, 0x040, 0, 32, 4⟩
abbrev MOT_CTRL_CMD : Field := ⟨0x20, 0x040, 0, 2, 4⟩
abbrev MOT_CFG : Field := ⟨0x20, 0x044, 0, 32, 4⟩
abbrev MOT_CFG_POLES : Field := ⟨0x20, 0x044, 12, 4, 4⟩
abbrev MOT_CFG_MODE : Field := ⟨0x20, 0x044, 8, 2, 4⟩
abbrev MOT_CFG_DIR : Field := ⟨0x20, 0x044, 4, 1, 4⟩
abbrev MOT_CFG_POLY : Field := ⟨0x20, 0x044, 0, 1, 4⟩
abbrev MOT_BIND : Field := ⟨0x20, 0x048, 0, 32, 4⟩
abbrev MOT_BIND_PSTN : Field := ⟨0x20, 0x048, 24, 3, 4⟩
abbrev MOT_BIND_XPORT : Field := ⟨0x20, 0x048, 22, 1, 4⟩
abbrev MOT_BIND_STN : Field := ⟨0x20, 0x048, 16, 6, 4⟩
abbrev MOT_BIND_PG_EN : Field := ⟨0x20, 0x048, 13, 1, 4⟩
abbrev MOT_BIND_PG : Field := ⟨0x20, 0x048, 8, 5, 4⟩
abbrev MOT_BIND_WARM : Field := ⟨0x20, 0x048, 7, 1, 4⟩
abbrev MOT_BIND_SLOT : Field := ⟨0x20, 0x048, 0, 7, 4⟩
abbrev MOT_PWM : Field := ⟨0x20, 0x04C, 0, 32, 4⟩
abbrev MOT_PWM_SAMP_MIN : Field := ⟨0x20, 0x04C, 28, 4, 4⟩
abbrev MOT_PWM_BLANK : Field := ⟨0x20, 0x04C, 24, 4, 4⟩
abbrev MOT_PWM_DEAD : Field := ⟨0x20, 0x04C, 16, 8, 4⟩
abbrev MOT_PWM_PERIOD : Field := ⟨0x20, 0x04C, 0, 16, 4⟩
abbrev MOT_CATCH : Field := ⟨0x20, 0x050, 0, 32, 4⟩
abbrev MOT_CATCH_BRAKE_MAX : Field := ⟨0x20, 0x050, 16, 16, 4⟩
abbrev MOT_CATCH_CATCH_MIN : Field := ⟨0x20, 0x050, 0, 16, 4⟩
abbrev MOT_START : Field := ⟨0x20, 0x054, 0, 32, 4⟩
abbrev MOT_START_BRAKE_DUTY : Field := ⟨0x20, 0x054, 24, 8, 4⟩
abbrev MOT_START_ALIGN_DUTY : Field := ⟨0x20, 0x054, 16, 8, 4⟩
abbrev MOT_START_ALIGN_T : Field := ⟨0x20, 0x054, 8, 8, 4⟩
abbrev MOT_START_CATCH_TO : Field := ⟨0x20, 0x054, 0, 8, 4⟩
abbrev MOT_OL : Field := ⟨0x20, 0x058, 0, 32, 4⟩
abbrev MOT_OL_OL_ACC : Field := ⟨0x20, 0x058, 16, 16, 4⟩
abbrev MOT_OL_OL_END : Field := ⟨0x20, 0x058, 0, 16, 4⟩
abbrev MOT_OBS : Field := ⟨0x20, 0x05C, 0, 32, 4⟩
abbrev MOT_OBS_COAST_T : Field := ⟨0x20, 0x05C, 24, 8, 4⟩
abbrev MOT_OBS_LOSS_WIN : Field := ⟨0x20, 0x05C, 16, 8, 4⟩
abbrev MOT_OBS_LOSS_Q : Field := ⟨0x20, 0x05C, 8, 8, 4⟩
abbrev MOT_OBS_LOCK_ON : Field := ⟨0x20, 0x05C, 0, 8, 4⟩
abbrev MOT_RATED : Field := ⟨0x20, 0x060, 0, 32, 4⟩
abbrev MOT_RATED_ADV : Field := ⟨0x20, 0x060, 16, 8, 4⟩
abbrev MOT_RATED_RATED : Field := ⟨0x20, 0x060, 0, 16, 4⟩
abbrev MOT_POLY : Field := ⟨0x20, 0x064, 0, 32, 4⟩
abbrev MOT_POLY_PH_OFS : Field := ⟨0x20, 0x064, 0, 14, 4⟩
abbrev MOT_ENC : Field := ⟨0x20, 0x068, 0, 32, 4⟩
abbrev MOT_ENC_EXC_F : Field := ⟨0x20, 0x068, 24, 8, 4⟩
abbrev MOT_ENC_FILT : Field := ⟨0x20, 0x068, 16, 8, 4⟩
abbrev MOT_ENC_IDX_CHK : Field := ⟨0x20, 0x068, 2, 1, 4⟩
abbrev MOT_ENC_IDX_POL : Field := ⟨0x20, 0x068, 1, 1, 4⟩
abbrev MOT_ENC_SWAP : Field := ⟨0x20, 0x068, 0, 1, 4⟩
abbrev MOT_XSCALE : Field := ⟨0x20, 0x06C, 0, 32, 4⟩
abbrev MOT_STAT : Field := ⟨0x20, 0x070, 0, 32, 4⟩
abbrev MOT_STAT_LOCKQ : Field := ⟨0x20, 0x070, 24, 8, 4⟩
abbrev MOT_STAT_FCAUSE : Field := ⟨0x20, 0x070, 16, 4, 4⟩
abbrev MOT_STAT_MODLIM : Field := ⟨0x20, 0x070, 8, 1, 4⟩
abbrev MOT_STAT_REV : Field := ⟨0x20, 0x070, 7, 1, 4⟩
abbrev MOT_STAT_STATE : Field := ⟨0x20, 0x070, 0, 4, 4⟩
abbrev MOT_SPEED : Field := ⟨0x20, 0x074, 0, 32, 4⟩
abbrev MOT_ANGLE : Field := ⟨0x20, 0x078, 0, 32, 4⟩
abbrev MOT_ANGLE_PIDX : Field := ⟨0x20, 0x078, 16, 4, 4⟩
abbrev MOT_ANGLE_ANGLE : Field := ⟨0x20, 0x078, 0, 16, 4⟩
abbrev MOT_ENCPOS : Field := ⟨0x20, 0x07C, 0, 32, 4⟩
abbrev MOT_LPOS_LO : Field := ⟨0x20, 0x080, 0, 32, 4⟩
abbrev MOT_LPOS_HI : Field := ⟨0x20, 0x084, 0, 32, 4⟩
abbrev MOT_PHASE : Field := ⟨0x20, 0x088, 0, 32, 4⟩
abbrev MOT_PHASE_ERR : Field := ⟨0x20, 0x088, 0, 16, 4⟩
abbrev MOT_EVCNT : Field := ⟨0x20, 0x08C, 0, 32, 4⟩
abbrev MOT_EVCNT_RECATCH : Field := ⟨0x20, 0x08C, 16, 16, 4⟩
abbrev MOT_EVCNT_LOSS : Field := ⟨0x20, 0x08C, 0, 16, 4⟩
/-! STP pages 0x0 to 0xf -/
abbrev STP_CTRL : Field := ⟨0x21, 0x040, 0, 32, 4⟩
abbrev STP_CTRL_CLR : Field := ⟨0x21, 0x040, 2, 1, 4⟩
abbrev STP_CTRL_CMD : Field := ⟨0x21, 0x040, 0, 2, 4⟩
abbrev STP_CFG : Field := ⟨0x21, 0x044, 0, 32, 4⟩
abbrev STP_CFG_STN : Field := ⟨0x21, 0x044, 24, 6, 4⟩
abbrev STP_CFG_XPORT : Field := ⟨0x21, 0x044, 23, 1, 4⟩
abbrev STP_CFG_WARM : Field := ⟨0x21, 0x044, 22, 1, 4⟩
abbrev STP_CFG_PG : Field := ⟨0x21, 0x044, 16, 5, 4⟩
abbrev STP_CFG_VLIM_EN : Field := ⟨0x21, 0x044, 8, 1, 4⟩
abbrev STP_CFG_DIR : Field := ⟨0x21, 0x044, 4, 1, 4⟩
abbrev STP_CFG_MRES : Field := ⟨0x21, 0x044, 0, 4, 4⟩
abbrev STP_CUR : Field := ⟨0x21, 0x048, 0, 32, 4⟩
abbrev STP_CUR_TPD : Field := ⟨0x21, 0x048, 24, 8, 4⟩
abbrev STP_CUR_HYST : Field := ⟨0x21, 0x048, 16, 8, 4⟩
abbrev STP_CUR_IHOLD : Field := ⟨0x21, 0x048, 8, 8, 4⟩
abbrev STP_CUR_IRUN : Field := ⟨0x21, 0x048, 0, 8, 4⟩
abbrev STP_CHOP : Field := ⟨0x21, 0x04C, 0, 32, 4⟩
abbrev STP_CHOP_ADAPT : Field := ⟨0x21, 0x04C, 24, 1, 4⟩
abbrev STP_CHOP_OFS_MAX : Field := ⟨0x21, 0x04C, 16, 8, 4⟩
abbrev STP_CHOP_TOFF : Field := ⟨0x21, 0x04C, 8, 8, 4⟩
abbrev STP_CHOP_TBLANK : Field := ⟨0x21, 0x04C, 0, 8, 4⟩
abbrev STP_SW : Field := ⟨0x21, 0x050, 0, 32, 4⟩
abbrev STP_SW_POL : Field := ⟨0x21, 0x050, 24, 3, 4⟩
abbrev STP_SW_IX_EN : Field := ⟨0x21, 0x050, 23, 1, 4⟩
abbrev STP_SW_IX : Field := ⟨0x21, 0x050, 16, 7, 4⟩
abbrev STP_SW_HI_EN : Field := ⟨0x21, 0x050, 15, 1, 4⟩
abbrev STP_SW_HI : Field := ⟨0x21, 0x050, 8, 7, 4⟩
abbrev STP_SW_LO_EN : Field := ⟨0x21, 0x050, 7, 1, 4⟩
abbrev STP_SW_LO : Field := ⟨0x21, 0x050, 0, 7, 4⟩
abbrev STP_DEB : Field := ⟨0x21, 0x054, 0, 32, 4⟩
abbrev STP_DEB_CHATTER_MAX : Field := ⟨0x21, 0x054, 8, 4, 4⟩
abbrev STP_DEB_DEB : Field := ⟨0x21, 0x054, 0, 8, 4⟩
abbrev STP_HOME : Field := ⟨0x21, 0x058, 0, 32, 4⟩
abbrev STP_HOME_CREEP : Field := ⟨0x21, 0x058, 16, 16, 4⟩
abbrev STP_HOME_BACKOFF : Field := ⟨0x21, 0x058, 4, 12, 4⟩
abbrev STP_HOME_DIR : Field := ⟨0x21, 0x058, 2, 1, 4⟩
abbrev STP_HOME_SW : Field := ⟨0x21, 0x058, 0, 2, 4⟩
abbrev STP_VLIM_LO : Field := ⟨0x21, 0x05C, 0, 32, 4⟩
abbrev STP_VLIM_HI : Field := ⟨0x21, 0x060, 0, 32, 4⟩
abbrev STP_POS : Field := ⟨0x21, 0x064, 0, 32, 4⟩
abbrev STP_STAT : Field := ⟨0x21, 0x068, 0, 32, 4⟩
abbrev STP_STAT_FCAUSE : Field := ⟨0x21, 0x068, 16, 4, 4⟩
abbrev STP_STAT_SW : Field := ⟨0x21, 0x068, 12, 3, 4⟩
abbrev STP_STAT_HOMED : Field := ⟨0x21, 0x068, 11, 1, 4⟩
abbrev STP_STAT_STILL : Field := ⟨0x21, 0x068, 10, 1, 4⟩
abbrev STP_STAT_VLIM : Field := ⟨0x21, 0x068, 9, 1, 4⟩
abbrev STP_STAT_HSTEP : Field := ⟨0x21, 0x068, 4, 4, 4⟩
abbrev STP_STAT_STATE : Field := ⟨0x21, 0x068, 0, 4, 4⟩
abbrev STP_OFS : Field := ⟨0x21, 0x06C, 0, 32, 4⟩
abbrev STP_OFS_B_LO : Field := ⟨0x21, 0x06C, 24, 8, 4⟩
abbrev STP_OFS_B_HI : Field := ⟨0x21, 0x06C, 16, 8, 4⟩
abbrev STP_OFS_A_LO : Field := ⟨0x21, 0x06C, 8, 8, 4⟩
abbrev STP_OFS_A_HI : Field := ⟨0x21, 0x06C, 0, 8, 4⟩
/-! PGN pages 0x0 to 0x1f -/
abbrev PGN_CTRL : Field := ⟨0x22, 0x040, 0, 32, 4⟩
abbrev PGN_CTRL_PRESET : Field := ⟨0x22, 0x040, 2, 1, 4⟩
abbrev PGN_CTRL_STOP : Field := ⟨0x22, 0x040, 1, 1, 4⟩
abbrev PGN_CTRL_GO : Field := ⟨0x22, 0x040, 0, 1, 4⟩
abbrev PGN_CFG : Field := ⟨0x22, 0x044, 0, 32, 4⟩
abbrev PGN_CFG_MODE : Field := ⟨0x22, 0x044, 0, 2, 4⟩
abbrev PGN_VMAX : Field := ⟨0x22, 0x048, 0, 32, 4⟩
abbrev PGN_AMAX : Field := ⟨0x22, 0x04C, 0, 32, 4⟩
abbrev PGN_DMAX : Field := ⟨0x22, 0x050, 0, 32, 4⟩
abbrev PGN_JMAX : Field := ⟨0x22, 0x054, 0, 32, 4⟩
abbrev PGN_TGT_LO : Field := ⟨0x22, 0x058, 0, 32, 4⟩
abbrev PGN_TGT_HI : Field := ⟨0x22, 0x05C, 0, 32, 4⟩
abbrev PGN_VTGT : Field := ⟨0x22, 0x060, 0, 32, 4⟩
abbrev PGN_POS_LO : Field := ⟨0x22, 0x064, 0, 32, 4⟩
abbrev PGN_POS_HI : Field := ⟨0x22, 0x068, 0, 32, 4⟩
abbrev PGN_VEL : Field := ⟨0x22, 0x06C, 0, 32, 4⟩
abbrev PGN_ACC : Field := ⟨0x22, 0x070, 0, 32, 4⟩
abbrev PGN_STAT : Field := ⟨0x22, 0x074, 0, 32, 4⟩
abbrev PGN_STAT_OVERSHOOT : Field := ⟨0x22, 0x074, 6, 1, 4⟩
abbrev PGN_STAT_CAPPED : Field := ⟨0x22, 0x074, 5, 1, 4⟩
abbrev PGN_STAT_QUEUED : Field := ⟨0x22, 0x074, 4, 1, 4⟩
abbrev PGN_STAT_STATE : Field := ⟨0x22, 0x074, 0, 4, 4⟩
abbrev PGN_CAP_CFG : Field := ⟨0x22, 0x078, 0, 32, 4⟩
abbrev PGN_CAP_CFG_WHAT : Field := ⟨0x22, 0x078, 12, 1, 4⟩
abbrev PGN_CAP_CFG_EDGE : Field := ⟨0x22, 0x078, 8, 2, 4⟩
abbrev PGN_CAP_CFG_EN : Field := ⟨0x22, 0x078, 7, 1, 4⟩
abbrev PGN_CAP_CFG_PIN : Field := ⟨0x22, 0x078, 0, 7, 4⟩
abbrev PGN_CAP_LO : Field := ⟨0x22, 0x07C, 0, 32, 4⟩
abbrev PGN_CAP_HI : Field := ⟨0x22, 0x080, 0, 32, 4⟩
/-! CTL pages 0x0 to 0x5f -/
abbrev CTL_CTRL : Field := ⟨0x23, 0x040, 0, 32, 4⟩
abbrev CTL_CTRL_SWAP : Field := ⟨0x23, 0x040, 1, 1, 4⟩
abbrev CTL_CTRL_EN : Field := ⟨0x23, 0x040, 0, 1, 4⟩
abbrev CTL_CFG : Field := ⟨0x23, 0x044, 0, 32, 4⟩
abbrev CTL_CFG_NSEC : Field := ⟨0x23, 0x044, 4, 3, 4⟩
abbrev CTL_CFG_FORM : Field := ⟨0x23, 0x044, 0, 2, 4⟩
abbrev CTL_PERIOD : Field := ⟨0x23, 0x048, 0, 32, 4⟩
abbrev CTL_PERIOD_VALUE : Field := ⟨0x23, 0x048, 0, 18, 4⟩
abbrev CTL_PHASE : Field := ⟨0x23, 0x04C, 0, 32, 4⟩
abbrev CTL_PHASE_VALUE : Field := ⟨0x23, 0x04C, 0, 18, 4⟩
abbrev CTL_IN_R : Field := ⟨0x23, 0x050, 0, 32, 4⟩
abbrev CTL_IN_R_GAIN : Field := ⟨0x23, 0x050, 16, 16, 4⟩
abbrev CTL_IN_R_SH : Field := ⟨0x23, 0x050, 10, 6, 4⟩
abbrev CTL_IN_R_SRC : Field := ⟨0x23, 0x050, 0, 10, 4⟩
abbrev CTL_IN_Y : Field := ⟨0x23, 0x054, 0, 32, 4⟩
abbrev CTL_IN_Y_GAIN : Field := ⟨0x23, 0x054, 16, 16, 4⟩
abbrev CTL_IN_Y_SH : Field := ⟨0x23, 0x054, 10, 6, 4⟩
abbrev CTL_IN_Y_SRC : Field := ⟨0x23, 0x054, 0, 10, 4⟩
abbrev CTL_IN_F : Field := ⟨0x23, 0x058, 0, 32, 4⟩
abbrev CTL_IN_F_GAIN : Field := ⟨0x23, 0x058, 16, 16, 4⟩
abbrev CTL_IN_F_SH : Field := ⟨0x23, 0x058, 10, 6, 4⟩
abbrev CTL_IN_F_SRC : Field := ⟨0x23, 0x058, 0, 10, 4⟩
abbrev CTL_STAT : Field := ⟨0x23, 0x05C, 0, 32, 4⟩
abbrev CTL_STAT_REFUSE : Field := ⟨0x23, 0x05C, 8, 4, 4⟩
abbrev CTL_STAT_ACC_SAT : Field := ⟨0x23, 0x05C, 4, 1, 4⟩
abbrev CTL_STAT_SAT : Field := ⟨0x23, 0x05C, 3, 1, 4⟩
abbrev CTL_STAT_PEND : Field := ⟨0x23, 0x05C, 2, 1, 4⟩
abbrev CTL_STAT_ACTIVE : Field := ⟨0x23, 0x05C, 1, 1, 4⟩
abbrev CTL_STAT_RUN : Field := ⟨0x23, 0x05C, 0, 1, 4⟩
abbrev CTL_RY : Field := ⟨0x23, 0x060, 0, 32, 4⟩
abbrev CTL_RY_R : Field := ⟨0x23, 0x060, 16, 16, 4⟩
abbrev CTL_RY_Y : Field := ⟨0x23, 0x060, 0, 16, 4⟩
abbrev CTL_EU : Field := ⟨0x23, 0x064, 0, 32, 4⟩
abbrev CTL_EU_E : Field := ⟨0x23, 0x064, 16, 16, 4⟩
abbrev CTL_EU_U : Field := ⟨0x23, 0x064, 0, 16, 4⟩
abbrev CTL_F : Field := ⟨0x23, 0x068, 0, 32, 4⟩
abbrev CTL_F_F : Field := ⟨0x23, 0x068, 0, 16, 4⟩
abbrev CTL_INT : Field := ⟨0x23, 0x06C, 0, 32, 4⟩
abbrev CTL_LAT : Field := ⟨0x23, 0x070, 0, 32, 4⟩
abbrev CTL_LAT_LATE : Field := ⟨0x23, 0x070, 16, 16, 4⟩
abbrev CTL_LAT_MAX : Field := ⟨0x23, 0x070, 0, 16, 4⟩
abbrev CTL_A : Field := ⟨0x23, 0x200, 0, 32, 4⟩
abbrev CTL_B : Field := ⟨0x23, 0x300, 0, 32, 4⟩
/-! CTL pages 0x60 to 0x60 -/
abbrev CTL_ENG_LOAD : Field := ⟨0x23, 0x040, 0, 32, 4⟩
abbrev CTL_ENG_LOAD_MACS : Field := ⟨0x23, 0x040, 0, 20, 4⟩
abbrev CTL_ENG_CONV : Field := ⟨0x23, 0x044, 0, 32, 4⟩
abbrev CTL_ENG_CONV_CONV : Field := ⟨0x23, 0x044, 0, 16, 4⟩
/-! HVO pages 0x0 to 0x1f -/
abbrev HVO_CTRL : Field := ⟨0x24, 0x040, 0, 32, 4⟩
abbrev HVO_CTRL_EN : Field := ⟨0x24, 0x040, 0, 1, 4⟩
abbrev HVO_CFG : Field := ⟨0x24, 0x044, 0, 32, 4⟩
abbrev HVO_CFG_IMON : Field := ⟨0x24, 0x044, 24, 8, 4⟩
abbrev HVO_CFG_VMON : Field := ⟨0x24, 0x044, 16, 8, 4⟩
abbrev HVO_CFG_SLOT : Field := ⟨0x24, 0x044, 8, 7, 4⟩
abbrev HVO_CFG_STAGE : Field := ⟨0x24, 0x044, 4, 1, 4⟩
abbrev HVO_CFG_KIND : Field := ⟨0x24, 0x044, 0, 2, 4⟩
abbrev HVO_PWM : Field := ⟨0x24, 0x048, 0, 32, 4⟩
abbrev HVO_PWM_DMAX : Field := ⟨0x24, 0x048, 16, 8, 4⟩
abbrev HVO_PWM_PERIOD : Field := ⟨0x24, 0x048, 0, 16, 4⟩
abbrev HVO_NCO : Field := ⟨0x24, 0x04C, 0, 32, 4⟩
abbrev HVO_PHASE : Field := ⟨0x24, 0x050, 0, 32, 4⟩
abbrev HVO_PHASE_PHASE : Field := ⟨0x24, 0x050, 0, 16, 4⟩
abbrev HVO_LIM : Field := ⟨0x24, 0x054, 0, 32, 4⟩
abbrev HVO_LIM_ARC : Field := ⟨0x24, 0x054, 16, 16, 4⟩
abbrev HVO_LIM_ILIM : Field := ⟨0x24, 0x054, 0, 16, 4⟩
abbrev HVO_TDN : Field := ⟨0x24, 0x058, 0, 32, 4⟩
abbrev HVO_TDN_TDN : Field := ⟨0x24, 0x058, 0, 8, 4⟩
abbrev HVO_STAT : Field := ⟨0x24, 0x05C, 0, 32, 4⟩
abbrev HVO_STAT_SATREP : Field := ⟨0x24, 0x05C, 8, 1, 4⟩
abbrev HVO_STAT_FCAUSE : Field := ⟨0x24, 0x05C, 4, 2, 4⟩
abbrev HVO_STAT_STATE : Field := ⟨0x24, 0x05C, 0, 3, 4⟩
abbrev HVO_MEAS : Field := ⟨0x24, 0x060, 0, 32, 4⟩
abbrev HVO_MEAS_V : Field := ⟨0x24, 0x060, 16, 16, 4⟩
abbrev HVO_MEAS_I : Field := ⟨0x24, 0x060, 0, 16, 4⟩
abbrev HVO_DEMAND : Field := ⟨0x24, 0x064, 0, 32, 4⟩
abbrev HVO_DEMAND_DEMAND : Field := ⟨0x24, 0x064, 0, 16, 4⟩
/-! LUP pages 0x0 to 0x3 -/
abbrev LUP_CTRL : Field := ⟨0x25, 0x040, 0, 32, 4⟩
abbrev LUP_CTRL_STOP : Field := ⟨0x25, 0x040, 2, 1, 4⟩
abbrev LUP_CTRL_TRIG : Field := ⟨0x25, 0x040, 1, 1, 4⟩
abbrev LUP_CTRL_ARM : Field := ⟨0x25, 0x040, 0, 1, 4⟩
abbrev LUP_CFG : Field := ⟨0x25, 0x044, 0, 32, 4⟩
abbrev LUP_CFG_REARM : Field := ⟨0x25, 0x044, 18, 1, 4⟩
abbrev LUP_CFG_PACK : Field := ⟨0x25, 0x044, 16, 1, 4⟩
abbrev LUP_CFG_SLOT : Field := ⟨0x25, 0x044, 8, 7, 4⟩
abbrev LUP_CFG_TICK : Field := ⟨0x25, 0x044, 0, 1, 4⟩
abbrev LUP_DIV : Field := ⟨0x25, 0x048, 0, 32, 4⟩
abbrev LUP_DIV_DIV : Field := ⟨0x25, 0x048, 0, 16, 4⟩
abbrev LUP_NODE_A : Field := ⟨0x25, 0x04C, 0, 32, 4⟩
abbrev LUP_NODE_A_OFS : Field := ⟨0x25, 0x04C, 2, 25, 4⟩
abbrev LUP_NODE_B : Field := ⟨0x25, 0x050, 0, 32, 4⟩
abbrev LUP_NODE_B_OFS : Field := ⟨0x25, 0x050, 2, 25, 4⟩
abbrev LUP_TRIG : Field := ⟨0x25, 0x054, 0, 32, 4⟩
abbrev LUP_TRIG_ARG : Field := ⟨0x25, 0x054, 16, 9, 4⟩
abbrev LUP_TRIG_TSRC : Field := ⟨0x25, 0x054, 0, 4, 4⟩
abbrev LUP_LEVEL : Field := ⟨0x25, 0x058, 0, 32, 4⟩
abbrev LUP_PRE : Field := ⟨0x25, 0x05C, 0, 32, 4⟩
abbrev LUP_PRE_PRE : Field := ⟨0x25, 0x05C, 0, 16, 4⟩
abbrev LUP_STAT : Field := ⟨0x25, 0x060, 0, 32, 4⟩
abbrev LUP_STAT_COUNT : Field := ⟨0x25, 0x060, 16, 16, 4⟩
abbrev LUP_STAT_STATE : Field := ⟨0x25, 0x060, 0, 3, 4⟩
abbrev LUP_TTIME_LO : Field := ⟨0x25, 0x064, 0, 32, 4⟩
abbrev LUP_TTIME_HI : Field := ⟨0x25, 0x068, 0, 32, 4⟩
abbrev LUP_AREA_LO : Field := ⟨0x25, 0x06C, 0, 32, 4⟩
abbrev LUP_AREA_HI : Field := ⟨0x25, 0x070, 0, 32, 4⟩
/-! MNS pages 0x0 to 0x0 -/
abbrev MNS_CFG : Field := ⟨0x29, 0x040, 0, 32, 4⟩
abbrev MNS_CFG_UDIN : Field := ⟨0x29, 0x040, 16, 16, 4⟩
abbrev MNS_CFG_COAST : Field := ⟨0x29, 0x040, 8, 8, 4⟩
abbrev MNS_CFG_NOMF : Field := ⟨0x29, 0x040, 0, 1, 4⟩
abbrev MNS_SCALE : Field := ⟨0x29, 0x044, 0, 32, 4⟩
abbrev MNS_SCALE_VFS : Field := ⟨0x29, 0x044, 16, 16, 4⟩
abbrev MNS_SCALE_IFS : Field := ⟨0x29, 0x044, 0, 16, 4⟩
abbrev MNS_AVAIL : Field := ⟨0x29, 0x048, 0, 32, 4⟩
abbrev MNS_AVAIL_AWIN : Field := ⟨0x29, 0x048, 24, 8, 4⟩
abbrev MNS_AVAIL_NPH : Field := ⟨0x29, 0x048, 16, 2, 4⟩
abbrev MNS_AVAIL_ILIM : Field := ⟨0x29, 0x048, 0, 16, 4⟩
abbrev MNS_EVCFG : Field := ⟨0x29, 0x04C, 0, 32, 4⟩
abbrev MNS_EVCFG_HYS : Field := ⟨0x29, 0x04C, 24, 8, 4⟩
abbrev MNS_EVCFG_INT_TH : Field := ⟨0x29, 0x04C, 16, 8, 4⟩
abbrev MNS_EVCFG_SWELL_TH : Field := ⟨0x29, 0x04C, 8, 8, 4⟩
abbrev MNS_EVCFG_DIP_TH : Field := ⟨0x29, 0x04C, 0, 8, 4⟩
abbrev MNS_STAT : Field := ⟨0x29, 0x050, 0, 32, 4⟩
abbrev MNS_STAT_FREQ_ERR : Field := ⟨0x29, 0x050, 6, 1, 4⟩
abbrev MNS_STAT_SWELL : Field := ⟨0x29, 0x050, 5, 1, 4⟩
abbrev MNS_STAT_DIP : Field := ⟨0x29, 0x050, 4, 1, 4⟩
abbrev MNS_STAT_INTR : Field := ⟨0x29, 0x050, 3, 1, 4⟩
abbrev MNS_STAT_PSTATE : Field := ⟨0x29, 0x050, 0, 3, 4⟩
abbrev MNS_URMS : Field := ⟨0x29, 0x054, 0, 32, 4⟩
abbrev MNS_URMS_U10 : Field := ⟨0x29, 0x054, 16, 16, 4⟩
abbrev MNS_URMS_UHALF : Field := ⟨0x29, 0x054, 0, 16, 4⟩
abbrev MNS_IRMS : Field := ⟨0x29, 0x058, 0, 32, 4⟩
abbrev MNS_IRMS_I10 : Field := ⟨0x29, 0x058, 0, 16, 4⟩
abbrev MNS_FREQ : Field := ⟨0x29, 0x05C, 0, 32, 4⟩
abbrev MNS_FREQ_F10 : Field := ⟨0x29, 0x05C, 16, 16, 4⟩
abbrev MNS_FREQ_FCYC : Field := ⟨0x29, 0x05C, 0, 16, 4⟩
abbrev MNS_POWER : Field := ⟨0x29, 0x060, 0, 32, 4⟩
abbrev MNS_PAVAIL : Field := ⟨0x29, 0x064, 0, 32, 4⟩
abbrev MNS_PHERR : Field := ⟨0x29, 0x068, 0, 32, 4⟩
abbrev MNS_PHERR_ERR : Field := ⟨0x29, 0x068, 0, 16, 4⟩
abbrev MNS_EVT_INFO : Field := ⟨0x29, 0x06C, 0, 32, 4⟩
abbrev MNS_EVT_INFO_TYPE : Field := ⟨0x29, 0x06C, 30, 2, 4⟩
abbrev MNS_EVT_INFO_RESID : Field := ⟨0x29, 0x06C, 16, 8, 4⟩
abbrev MNS_EVT_INFO_DUR : Field := ⟨0x29, 0x06C, 0, 16, 4⟩
abbrev MNS_EVT_TIME_LO : Field := ⟨0x29, 0x070, 0, 32, 4⟩
abbrev MNS_EVT_TIME_HI : Field := ⟨0x29, 0x074, 0, 32, 4⟩
abbrev MNS_CNT : Field := ⟨0x29, 0x078, 0, 32, 4⟩
abbrev MNS_CNT_LOSS : Field := ⟨0x29, 0x078, 24, 8, 4⟩
abbrev MNS_CNT_RESYNC : Field := ⟨0x29, 0x078, 16, 8, 4⟩
abbrev MNS_CNT_DIP : Field := ⟨0x29, 0x078, 0, 16, 4⟩
/-! HTR pages 0x0 to 0x7 -/
abbrev HTR_CTRL : Field := ⟨0x2A, 0x040, 0, 32, 4⟩
abbrev HTR_CTRL_EN : Field := ⟨0x2A, 0x040, 0, 1, 4⟩
abbrev HTR_CFG : Field := ⟨0x2A, 0x044, 0, 32, 4⟩
abbrev HTR_CFG_PROT_EN : Field := ⟨0x2A, 0x044, 21, 1, 4⟩
abbrev HTR_CFG_PROT : Field := ⟨0x2A, 0x044, 16, 5, 4⟩
abbrev HTR_CFG_SLOT : Field := ⟨0x2A, 0x044, 8, 7, 4⟩
abbrev HTR_CFG_PH : Field := ⟨0x2A, 0x044, 4, 2, 4⟩
abbrev HTR_CFG_GATE : Field := ⟨0x2A, 0x044, 2, 1, 4⟩
abbrev HTR_CFG_MODE : Field := ⟨0x2A, 0x044, 0, 2, 4⟩
abbrev HTR_TIME : Field := ⟨0x2A, 0x048, 0, 32, 4⟩
abbrev HTR_TIME_AMIN : Field := ⟨0x2A, 0x048, 24, 8, 4⟩
abbrev HTR_TIME_GPW : Field := ⟨0x2A, 0x048, 16, 8, 4⟩
abbrev HTR_TIME_GDLY : Field := ⟨0x2A, 0x048, 8, 8, 4⟩
abbrev HTR_TIME_N : Field := ⟨0x2A, 0x048, 0, 8, 4⟩
abbrev HTR_INOM : Field := ⟨0x2A, 0x04C, 0, 32, 4⟩
abbrev HTR_INOM_INOM : Field := ⟨0x2A, 0x04C, 0, 16, 4⟩
abbrev HTR_STAT : Field := ⟨0x2A, 0x050, 0, 32, 4⟩
abbrev HTR_STAT_ANGLE : Field := ⟨0x2A, 0x050, 20, 12, 4⟩
abbrev HTR_STAT_FCAUSE : Field := ⟨0x2A, 0x050, 8, 2, 4⟩
abbrev HTR_STAT_ON : Field := ⟨0x2A, 0x050, 5, 1, 4⟩
abbrev HTR_STAT_SAT : Field := ⟨0x2A, 0x050, 4, 1, 4⟩
abbrev HTR_STAT_STATE : Field := ⟨0x2A, 0x050, 0, 3, 4⟩
abbrev HTR_DEMAND : Field := ⟨0x2A, 0x054, 0, 32, 4⟩
abbrev HTR_DEMAND_CARRY : Field := ⟨0x2A, 0x054, 16, 16, 4⟩
abbrev HTR_DEMAND_DEMAND : Field := ⟨0x2A, 0x054, 0, 16, 4⟩
abbrev HTR_ON_CNT : Field := ⟨0x2A, 0x058, 0, 32, 4⟩
/-! HTR pages 0x8 to 0x8 -/
abbrev HTR_FLK_CFG : Field := ⟨0x2A, 0x040, 0, 32, 4⟩
abbrev HTR_FLK_CFG_ZREF : Field := ⟨0x2A, 0x040, 16, 16, 4⟩
abbrev HTR_FLK_CFG_DLIM : Field := ⟨0x2A, 0x040, 8, 8, 4⟩
abbrev HTR_FLK_CFG_PST_LIM : Field := ⟨0x2A, 0x040, 0, 8, 4⟩
abbrev HTR_FLK_STAT : Field := ⟨0x2A, 0x044, 0, 32, 4⟩
abbrev HTR_FLK_STAT_PST_2 : Field := ⟨0x2A, 0x044, 20, 10, 4⟩
abbrev HTR_FLK_STAT_PST_1 : Field := ⟨0x2A, 0x044, 10, 10, 4⟩
abbrev HTR_FLK_STAT_PST_0 : Field := ⟨0x2A, 0x044, 0, 10, 4⟩
abbrev HTR_THR_CFG : Field := ⟨0x2A, 0x048, 0, 32, 4⟩
abbrev HTR_THR_CFG_SAT_T : Field := ⟨0x2A, 0x048, 24, 8, 4⟩
abbrev HTR_THR_CFG_HOLD : Field := ⟨0x2A, 0x048, 16, 8, 4⟩
abbrev HTR_THR_CFG_GRACE : Field := ⟨0x2A, 0x048, 8, 8, 4⟩
abbrev HTR_THR_CFG_CLASS : Field := ⟨0x2A, 0x048, 0, 4, 4⟩
abbrev HTR_THR_EN : Field := ⟨0x2A, 0x04C, 0, 32, 4⟩
abbrev HTR_THR_EN_SAT : Field := ⟨0x2A, 0x04C, 25, 1, 4⟩
abbrev HTR_THR_EN_MAINS : Field := ⟨0x2A, 0x04C, 24, 1, 4⟩
abbrev HTR_THR_EN_TS : Field := ⟨0x2A, 0x04C, 0, 24, 4⟩
abbrev HTR_THR_STAT : Field := ⟨0x2A, 0x050, 0, 32, 4⟩
abbrev HTR_THR_STAT_REMAIN : Field := ⟨0x2A, 0x050, 16, 16, 4⟩
abbrev HTR_THR_STAT_CAUSE : Field := ⟨0x2A, 0x050, 4, 3, 4⟩
abbrev HTR_THR_STAT_STATE : Field := ⟨0x2A, 0x050, 0, 2, 4⟩
/-! TMP pages 0x0 to 0x17 -/
abbrev TMP_CFG : Field := ⟨0x2B, 0x040, 0, 32, 4⟩
abbrev TMP_CFG_TYPE : Field := ⟨0x2B, 0x040, 0, 2, 4⟩
abbrev TMP_SENS : Field := ⟨0x2B, 0x044, 0, 32, 4⟩
abbrev TMP_SENS_OFS : Field := ⟨0x2B, 0x044, 16, 16, 4⟩
abbrev TMP_SENS_IDEAL : Field := ⟨0x2B, 0x044, 0, 16, 4⟩
abbrev TMP_TH_A : Field := ⟨0x2B, 0x048, 0, 32, 4⟩
abbrev TMP_TH_A_LIMIT : Field := ⟨0x2B, 0x048, 16, 16, 4⟩
abbrev TMP_TH_A_WARN : Field := ⟨0x2B, 0x048, 0, 16, 4⟩
abbrev TMP_TH_B : Field := ⟨0x2B, 0x04C, 0, 32, 4⟩
abbrev TMP_TH_B_HYST : Field := ⟨0x2B, 0x04C, 16, 16, 4⟩
abbrev TMP_TH_B_ABS : Field := ⟨0x2B, 0x04C, 0, 16, 4⟩
abbrev TMP_RATE : Field := ⟨0x2B, 0x050, 0, 32, 4⟩
abbrev TMP_RATE_RWIN : Field := ⟨0x2B, 0x050, 16, 8, 4⟩
abbrev TMP_RATE_RATE : Field := ⟨0x2B, 0x050, 0, 16, 4⟩
abbrev TMP_STAT : Field := ⟨0x2B, 0x054, 0, 32, 4⟩
abbrev TMP_STAT_VALID : Field := ⟨0x2B, 0x054, 8, 1, 4⟩
abbrev TMP_STAT_CAUSE : Field := ⟨0x2B, 0x054, 4, 2, 4⟩
abbrev TMP_STAT_STATE : Field := ⟨0x2B, 0x054, 0, 2, 4⟩
abbrev TMP_VALUE : Field := ⟨0x2B, 0x058, 0, 32, 4⟩
abbrev TMP_VALUE_TEMP : Field := ⟨0x2B, 0x058, 0, 16, 4⟩
/-! PWR pages 0x0 to 0x2f -/
abbrev PWR_RAIL_CFG : Field := ⟨0x30, 0x040, 0, 32, 4⟩
abbrev PWR_RAIL_CFG_MON : Field := ⟨0x30, 0x040, 31, 1, 4⟩
abbrev PWR_RAIL_CFG_CTRL : Field := ⟨0x30, 0x040, 30, 1, 4⟩
abbrev PWR_RAIL_CFG_SCOPE : Field := ⟨0x30, 0x040, 28, 2, 4⟩
abbrev PWR_RAIL_CFG_EDIS : Field := ⟨0x30, 0x040, 27, 1, 4⟩
abbrev PWR_RAIL_CFG_FILT : Field := ⟨0x30, 0x040, 16, 4, 4⟩
abbrev PWR_RAIL_CFG_OFF_LV : Field := ⟨0x30, 0x040, 0, 16, 4⟩
abbrev PWR_RAIL_UV : Field := ⟨0x30, 0x044, 0, 32, 4⟩
abbrev PWR_RAIL_UV_WARN : Field := ⟨0x30, 0x044, 16, 16, 4⟩
abbrev PWR_RAIL_UV_FAULT : Field := ⟨0x30, 0x044, 0, 16, 4⟩
abbrev PWR_RAIL_OV : Field := ⟨0x30, 0x048, 0, 32, 4⟩
abbrev PWR_RAIL_OV_FAULT : Field := ⟨0x30, 0x048, 16, 16, 4⟩
abbrev PWR_RAIL_OV_WARN : Field := ⟨0x30, 0x048, 0, 16, 4⟩
abbrev PWR_RAIL_STAT : Field := ⟨0x30, 0x04C, 0, 32, 4⟩
abbrev PWR_RAIL_STAT_VALUE : Field := ⟨0x30, 0x04C, 16, 16, 4⟩
abbrev PWR_RAIL_STAT_DIS : Field := ⟨0x30, 0x04C, 9, 1, 4⟩
abbrev PWR_RAIL_STAT_EN : Field := ⟨0x30, 0x04C, 8, 1, 4⟩
abbrev PWR_RAIL_STAT_STATE : Field := ⟨0x30, 0x04C, 0, 3, 4⟩
abbrev PWR_RAIL_EXT : Field := ⟨0x30, 0x050, 0, 32, 4⟩
abbrev PWR_RAIL_EXT_MAX : Field := ⟨0x30, 0x050, 16, 16, 4⟩
abbrev PWR_RAIL_EXT_MIN : Field := ⟨0x30, 0x050, 0, 16, 4⟩
abbrev PWR_RAIL_LOG : Field := ⟨0x30, 0x054, 0, 32, 4⟩
abbrev PWR_RAIL_LOG_WARN_CNT : Field := ⟨0x30, 0x054, 16, 16, 4⟩
abbrev PWR_RAIL_LOG_FAULT_CNT : Field := ⟨0x30, 0x054, 0, 16, 4⟩
abbrev PWR_RAIL_FTIME_LO : Field := ⟨0x30, 0x058, 0, 32, 4⟩
abbrev PWR_RAIL_FTIME_HI : Field := ⟨0x30, 0x05C, 0, 32, 4⟩
/-! PWR pages 0x40 to 0x40 -/
abbrev PWR_DOM_STAT : Field := ⟨0x30, 0x040, 0, 32, 4⟩
abbrev PWR_DOM_STAT_BLN_STN : Field := ⟨0x30, 0x040, 22, 6, 4⟩
abbrev PWR_DOM_STAT_DOM : Field := ⟨0x30, 0x040, 0, 12, 4⟩
abbrev PWR_BLN_EN : Field := ⟨0x30, 0x044, 0, 32, 4⟩
abbrev PWR_BLN_EN_STN : Field := ⟨0x30, 0x044, 0, 6, 4⟩
abbrev PWR_MAIN_STAT : Field := ⟨0x30, 0x048, 0, 32, 4⟩
abbrev PWR_MAIN_STAT_LAST : Field := ⟨0x30, 0x048, 28, 4, 4⟩
abbrev PWR_MAIN_STAT_ALL_OK : Field := ⟨0x30, 0x048, 7, 1, 4⟩
abbrev PWR_MAIN_STAT_OK : Field := ⟨0x30, 0x048, 0, 7, 4⟩
abbrev PWR_LOG_CTRL : Field := ⟨0x30, 0x04C, 0, 32, 4⟩
abbrev PWR_LOG_CTRL_CLEAR : Field := ⟨0x30, 0x04C, 1, 1, 4⟩
abbrev PWR_LOG_CTRL_COMMIT : Field := ⟨0x30, 0x04C, 0, 1, 4⟩
/-! SEQ pages 0x0 to 0x0 -/
abbrev SEQ_REQ : Field := ⟨0x31, 0x040, 0, 32, 4⟩
abbrev SEQ_REQ_ON : Field := ⟨0x31, 0x040, 8, 1, 4⟩
abbrev SEQ_REQ_SCOPE : Field := ⟨0x31, 0x040, 0, 2, 4⟩
abbrev SEQ_STAT : Field := ⟨0x31, 0x044, 0, 32, 4⟩
abbrev SEQ_STAT_STEP : Field := ⟨0x31, 0x044, 24, 8, 4⟩
abbrev SEQ_STAT_REFUSE : Field := ⟨0x31, 0x044, 20, 4, 4⟩
abbrev SEQ_STAT_SYNC_HELD : Field := ⟨0x31, 0x044, 19, 1, 4⟩
abbrev SEQ_STAT_SYNC_LINE : Field := ⟨0x31, 0x044, 18, 1, 4⟩
abbrev SEQ_STAT_RUN : Field := ⟨0x31, 0x044, 17, 1, 4⟩
abbrev SEQ_STAT_ABORT : Field := ⟨0x31, 0x044, 16, 1, 4⟩
abbrev SEQ_STAT_STATE : Field := ⟨0x31, 0x044, 8, 5, 4⟩
abbrev SEQ_STAT_PSCOPE : Field := ⟨0x31, 0x044, 4, 2, 4⟩
abbrev SEQ_STAT_UP : Field := ⟨0x31, 0x044, 3, 1, 4⟩
abbrev SEQ_SCOPE : Field := ⟨0x31, 0x048, 0, 32, 4⟩
abbrev SEQ_SCOPE_WORD : Field := ⟨0x31, 0x048, 0, 16, 4⟩
abbrev SEQ_ALT : Field := ⟨0x31, 0x04C, 0, 32, 4⟩
abbrev SEQ_ALT_STEP : Field := ⟨0x31, 0x04C, 24, 8, 4⟩
abbrev SEQ_ALT_WHY : Field := ⟨0x31, 0x04C, 20, 4, 4⟩
abbrev SEQ_ALT_DN : Field := ⟨0x31, 0x04C, 19, 1, 4⟩
abbrev SEQ_ALT_ARG : Field := ⟨0x31, 0x04C, 0, 7, 4⟩
abbrev SEQ_CFG : Field := ⟨0x31, 0x050, 0, 32, 4⟩
abbrev SEQ_CFG_SYNC_EN : Field := ⟨0x31, 0x050, 0, 1, 4⟩
abbrev SEQ_PROG_SEL : Field := ⟨0x31, 0x054, 0, 32, 4⟩
abbrev SEQ_PROG_SEL_STEP : Field := ⟨0x31, 0x054, 0, 8, 4⟩
abbrev SEQ_PROG_DATA : Field := ⟨0x31, 0x058, 0, 32, 4⟩
abbrev SEQ_ENTRY : Field := ⟨0x31, 0x05C, 0, 32, 4⟩
abbrev SEQ_ENTRY_DN : Field := ⟨0x31, 0x05C, 8, 8, 4⟩
abbrev SEQ_ENTRY_UP : Field := ⟨0x31, 0x05C, 0, 8, 4⟩
/-! FED pages 0x0 to 0x1 -/
abbrev FED_CTRL : Field := ⟨0x32, 0x040, 0, 32, 4⟩
abbrev FED_CTRL_CLR : Field := ⟨0x32, 0x040, 2, 1, 4⟩
abbrev FED_CTRL_HANDOVER : Field := ⟨0x32, 0x040, 1, 1, 4⟩
abbrev FED_CFG : Field := ⟨0x32, 0x044, 0, 32, 4⟩
abbrev FED_CFG_REPAIR_T : Field := ⟨0x32, 0x044, 24, 8, 4⟩
abbrev FED_CFG_FILT : Field := ⟨0x32, 0x044, 8, 4, 4⟩
abbrev FED_CFG_PREF : Field := ⟨0x32, 0x044, 0, 1, 4⟩
abbrev FED_VTH : Field := ⟨0x32, 0x048, 0, 32, 4⟩
abbrev FED_VTH_VIN_OV : Field := ⟨0x32, 0x048, 16, 16, 4⟩
abbrev FED_VTH_VIN_UV : Field := ⟨0x32, 0x048, 0, 16, 4⟩
abbrev FED_BTH : Field := ⟨0x32, 0x04C, 0, 32, 4⟩
abbrev FED_BTH_BUS_OK : Field := ⟨0x32, 0x04C, 16, 10, 4⟩
abbrev FED_BTH_BUS_FAULT : Field := ⟨0x32, 0x04C, 0, 10, 4⟩
abbrev FED_ITH : Field := ⟨0x32, 0x050, 0, 32, 4⟩
abbrev FED_ITH_DROP_MAX : Field := ⟨0x32, 0x050, 24, 8, 4⟩
abbrev FED_ITH_IOC : Field := ⟨0x32, 0x050, 12, 12, 4⟩
abbrev FED_ITH_IOFF : Field := ⟨0x32, 0x050, 0, 12, 4⟩
abbrev FED_STAT : Field := ⟨0x32, 0x054, 0, 32, 4⟩
abbrev FED_STAT_CAUSE : Field := ⟨0x32, 0x054, 28, 4, 4⟩
abbrev FED_STAT_LSEQ : Field := ⟨0x32, 0x054, 8, 16, 4⟩
abbrev FED_STAT_LINK_OK : Field := ⟨0x32, 0x054, 7, 1, 4⟩
abbrev FED_STAT_XGS : Field := ⟨0x32, 0x054, 6, 1, 4⟩
abbrev FED_STAT_GS : Field := ⟨0x32, 0x054, 5, 1, 4⟩
abbrev FED_STAT_PUMP : Field := ⟨0x32, 0x054, 4, 1, 4⟩
abbrev FED_STAT_STATE : Field := ⟨0x32, 0x054, 0, 3, 4⟩
abbrev FED_MEAS : Field := ⟨0x32, 0x058, 0, 32, 4⟩
abbrev FED_MEAS_VBUS : Field := ⟨0x32, 0x058, 16, 16, 4⟩
abbrev FED_MEAS_VIN : Field := ⟨0x32, 0x058, 0, 16, 4⟩
abbrev FED_IMEAS : Field := ⟨0x32, 0x05C, 0, 32, 4⟩
abbrev FED_IMEAS_SHUNT : Field := ⟨0x32, 0x05C, 0, 16, 4⟩
abbrev FED_CNT : Field := ⟨0x32, 0x060, 0, 32, 4⟩
abbrev FED_CNT_OWNER : Field := ⟨0x32, 0x060, 16, 16, 4⟩
abbrev FED_CNT_FAULTS : Field := ⟨0x32, 0x060, 0, 16, 4⟩
abbrev FED_GAP : Field := ⟨0x32, 0x064, 0, 32, 4⟩
abbrev FED_GAP_GAP : Field := ⟨0x32, 0x064, 0, 16, 4⟩
/-! MEM pages 0x0 to 0x0 -/
abbrev MEM_CFG : Field := ⟨0x38, 0x040, 0, 32, 4⟩
abbrev MEM_CFG_VALID : Field := ⟨0x38, 0x040, 8, 1, 4⟩
abbrev MEM_CFG_RATE : Field := ⟨0x38, 0x040, 5, 2, 4⟩
abbrev MEM_CFG_DENS : Field := ⟨0x38, 0x040, 4, 1, 4⟩
abbrev MEM_CFG_RANKS : Field := ⟨0x38, 0x040, 3, 1, 4⟩
abbrev MEM_CFG_RDIMM : Field := ⟨0x38, 0x040, 2, 1, 4⟩
abbrev MEM_CFG_CHANS : Field := ⟨0x38, 0x040, 0, 2, 4⟩
abbrev MEM_STAT : Field := ⟨0x38, 0x044, 0, 32, 4⟩
abbrev MEM_STAT_FILL_PCT : Field := ⟨0x38, 0x044, 16, 8, 4⟩
abbrev MEM_STAT_TRAIN_ERR : Field := ⟨0x38, 0x044, 8, 4, 4⟩
abbrev MEM_STAT_TRAIN : Field := ⟨0x38, 0x044, 4, 2, 4⟩
abbrev MEM_STAT_FILLING : Field := ⟨0x38, 0x044, 2, 1, 4⟩
abbrev MEM_STAT_FILL_DONE : Field := ⟨0x38, 0x044, 1, 1, 4⟩
abbrev MEM_STAT_TRAINED : Field := ⟨0x38, 0x044, 0, 1, 4⟩
abbrev MEM_SIZE : Field := ⟨0x38, 0x048, 0, 32, 4⟩
abbrev MEM_SIZE_VALUE : Field := ⟨0x38, 0x048, 0, 12, 4⟩
abbrev MEM_BWG : Field := ⟨0x38, 0x04C, 0, 32, 4⟩
abbrev MEM_BWG_VALUE : Field := ⟨0x38, 0x04C, 0, 12, 4⟩
abbrev MEM_CTRL : Field := ⟨0x38, 0x050, 0, 32, 4⟩
abbrev MEM_CTRL_FULLTRAIN : Field := ⟨0x38, 0x050, 0, 1, 4⟩
abbrev MEM_PAR_CNT : Field := ⟨0x38, 0x054, 0, 32, 4⟩
abbrev MEM_PAR_CNT_FAIL : Field := ⟨0x38, 0x054, 16, 16, 4⟩
abbrev MEM_PAR_CNT_RETRY : Field := ⟨0x38, 0x054, 0, 16, 4⟩
/-! ECC pages 0x0 to 0x3 -/
abbrev ECC_CE_CNT : Field := ⟨0x39, 0x040, 0, 32, 4⟩
abbrev ECC_UE_CNT : Field := ⟨0x39, 0x044, 0, 32, 4⟩
abbrev ECC_ERASE : Field := ⟨0x39, 0x048, 0, 32, 4⟩
abbrev ECC_ERASE_V_1 : Field := ⟨0x39, 0x048, 15, 1, 4⟩
abbrev ECC_ERASE_DEV_1 : Field := ⟨0x39, 0x048, 8, 5, 4⟩
abbrev ECC_ERASE_V_0 : Field := ⟨0x39, 0x048, 7, 1, 4⟩
abbrev ECC_ERASE_DEV_0 : Field := ⟨0x39, 0x048, 0, 5, 4⟩
abbrev ECC_DEV_SEL : Field := ⟨0x39, 0x04C, 0, 32, 4⟩
abbrev ECC_DEV_SEL_RANK : Field := ⟨0x39, 0x04C, 5, 1, 4⟩
abbrev ECC_DEV_SEL_DEVICE : Field := ⟨0x39, 0x04C, 0, 5, 4⟩
abbrev ECC_DEV_CNT : Field := ⟨0x39, 0x050, 0, 32, 4⟩
abbrev ECC_DEV_CNT_WIN : Field := ⟨0x39, 0x050, 16, 16, 4⟩
abbrev ECC_DEV_CNT_TOTAL : Field := ⟨0x39, 0x050, 0, 16, 4⟩
/-! ECC pages 0x10 to 0x10 -/
abbrev ECC_SCRUB_CFG : Field := ⟨0x39, 0x040, 0, 32, 4⟩
abbrev ECC_SCRUB_CFG_RATE : Field := ⟨0x39, 0x040, 8, 6, 4⟩
abbrev ECC_SCRUB_CFG_EN : Field := ⟨0x39, 0x040, 0, 1, 4⟩
abbrev ECC_SCRUB_STAT : Field := ⟨0x39, 0x044, 0, 32, 4⟩
abbrev ECC_SCRUB_STAT_PASSES : Field := ⟨0x39, 0x044, 16, 16, 4⟩
abbrev ECC_SCRUB_STAT_LAG : Field := ⟨0x39, 0x044, 1, 1, 4⟩
abbrev ECC_SCRUB_STAT_ACTIVE : Field := ⟨0x39, 0x044, 0, 1, 4⟩
abbrev ECC_SCRUB_POS_LO : Field := ⟨0x39, 0x048, 0, 32, 4⟩
abbrev ECC_SCRUB_POS_HI : Field := ⟨0x39, 0x04C, 0, 32, 4⟩
abbrev ECC_DEV_CFG : Field := ⟨0x39, 0x050, 0, 32, 4⟩
abbrev ECC_DEV_CFG_AUTO : Field := ⟨0x39, 0x050, 24, 1, 4⟩
abbrev ECC_DEV_CFG_WIN : Field := ⟨0x39, 0x050, 16, 8, 4⟩
abbrev ECC_DEV_CFG_THR : Field := ⟨0x39, 0x050, 0, 16, 4⟩
abbrev ECC_TBL_CTRL : Field := ⟨0x39, 0x054, 0, 32, 4⟩
abbrev ECC_TBL_CTRL_CLEAR : Field := ⟨0x39, 0x054, 0, 1, 4⟩
abbrev ECC_TBL_SEL : Field := ⟨0x39, 0x058, 0, 32, 4⟩
abbrev ECC_TBL_SEL_ENTRY : Field := ⟨0x39, 0x058, 0, 6, 4⟩
abbrev ECC_TBL_ADDR_LO : Field := ⟨0x39, 0x05C, 0, 32, 4⟩
abbrev ECC_TBL_ADDR_HI : Field := ⟨0x39, 0x060, 0, 32, 4⟩
abbrev ECC_TBL_INFO : Field := ⟨0x39, 0x064, 0, 32, 4⟩
abbrev ECC_TBL_INFO_VALID : Field := ⟨0x39, 0x064, 31, 1, 4⟩
abbrev ECC_TBL_INFO_RANK : Field := ⟨0x39, 0x064, 30, 1, 4⟩
abbrev ECC_TBL_INFO_CHANNEL : Field := ⟨0x39, 0x064, 28, 2, 4⟩
abbrev ECC_TBL_INFO_DEVICE : Field := ⟨0x39, 0x064, 23, 5, 4⟩
abbrev ECC_TBL_INFO_HITS : Field := ⟨0x39, 0x064, 0, 16, 4⟩
abbrev ECC_TBL_OVF : Field := ⟨0x39, 0x068, 0, 32, 4⟩
abbrev ECC_UE_ADDR_LO : Field := ⟨0x39, 0x06C, 0, 32, 4⟩
abbrev ECC_UE_ADDR_HI : Field := ⟨0x39, 0x070, 0, 32, 4⟩
/-! DMA pages 0x0 to 0xf -/
abbrev DMA_CTRL : Field := ⟨0x05, 0x040, 0, 32, 4⟩
abbrev DMA_CTRL_ABORT : Field := ⟨0x05, 0x040, 1, 1, 4⟩
abbrev DMA_CTRL_START : Field := ⟨0x05, 0x040, 0, 1, 4⟩
abbrev DMA_CFG : Field := ⟨0x05, 0x044, 0, 32, 4⟩
abbrev DMA_CFG_PIN : Field := ⟨0x05, 0x044, 18, 7, 4⟩
abbrev DMA_CFG_ALIGN_FB : Field := ⟨0x05, 0x044, 17, 1, 4⟩
abbrev DMA_CFG_PRIO : Field := ⟨0x05, 0x044, 16, 1, 4⟩
abbrev DMA_CFG_REQ : Field := ⟨0x05, 0x044, 12, 3, 4⟩
abbrev DMA_CFG_BURST : Field := ⟨0x05, 0x044, 8, 3, 4⟩
abbrev DMA_CFG_DSPACE : Field := ⟨0x05, 0x044, 6, 2, 4⟩
abbrev DMA_CFG_SSPACE : Field := ⟨0x05, 0x044, 4, 2, 4⟩
abbrev DMA_CFG_ESIZE : Field := ⟨0x05, 0x044, 0, 3, 4⟩
abbrev DMA_SRC_LO : Field := ⟨0x05, 0x048, 0, 32, 4⟩
abbrev DMA_SRC_HI : Field := ⟨0x05, 0x04C, 0, 32, 4⟩
abbrev DMA_DST_LO : Field := ⟨0x05, 0x050, 0, 32, 4⟩
abbrev DMA_DST_HI : Field := ⟨0x05, 0x054, 0, 32, 4⟩
abbrev DMA_CNT : Field := ⟨0x05, 0x058, 0, 32, 4⟩
abbrev DMA_CNT_COUNT : Field := ⟨0x05, 0x058, 0, 24, 4⟩
abbrev DMA_SSTEP : Field := ⟨0x05, 0x064, 0, 32, 4⟩
abbrev DMA_DSTEP : Field := ⟨0x05, 0x070, 0, 32, 4⟩
abbrev DMA_STAT : Field := ⟨0x05, 0x07C, 0, 32, 4⟩
abbrev DMA_STAT_ECODE : Field := ⟨0x05, 0x07C, 8, 4, 4⟩
abbrev DMA_STAT_POISON : Field := ⟨0x05, 0x07C, 6, 1, 4⟩
abbrev DMA_STAT_WITHDRAWN : Field := ⟨0x05, 0x07C, 5, 1, 4⟩
abbrev DMA_STAT_ERR : Field := ⟨0x05, 0x07C, 4, 1, 4⟩
abbrev DMA_STAT_DONE : Field := ⟨0x05, 0x07C, 3, 1, 4⟩
abbrev DMA_STAT_STATE : Field := ⟨0x05, 0x07C, 0, 3, 4⟩
abbrev DMA_REMAIN_LO : Field := ⟨0x05, 0x080, 0, 32, 4⟩
abbrev DMA_REMAIN_HI : Field := ⟨0x05, 0x084, 0, 32, 4⟩
abbrev DMA_ERR_ADDR_LO : Field := ⟨0x05, 0x088, 0, 32, 4⟩
abbrev DMA_ERR_ADDR_HI : Field := ⟨0x05, 0x08C, 0, 32, 4⟩
/-! DMA pages 0x10 to 0x10 -/
abbrev DMA_ARB : Field := ⟨0x05, 0x040, 0, 32, 4⟩
abbrev DMA_ARB_LMEM_RATE : Field := ⟨0x05, 0x040, 0, 8, 4⟩
abbrev DMA_BUSY : Field := ⟨0x05, 0x044, 0, 32, 4⟩
abbrev DMA_BUSY_BUSY : Field := ⟨0x05, 0x044, 0, 16, 4⟩
/-! FLT pages 0x0 to 0x5 -/
abbrev FLT_CFG : Field := ⟨0x26, 0x040, 0, 32, 8⟩
abbrev FLT_CFG_TAG : Field := ⟨0x26, 0x040, 16, 16, 8⟩
abbrev FLT_CFG_REACT : Field := ⟨0x26, 0x040, 8, 5, 8⟩
abbrev FLT_CFG_CLASS : Field := ⟨0x26, 0x040, 0, 3, 8⟩
abbrev FLT_ESC : Field := ⟨0x26, 0x044, 0, 32, 8⟩
abbrev FLT_ESC_N : Field := ⟨0x26, 0x044, 24, 8, 8⟩
abbrev FLT_ESC_ECLASS : Field := ⟨0x26, 0x044, 16, 3, 8⟩
abbrev FLT_ESC_WIN : Field := ⟨0x26, 0x044, 0, 16, 8⟩
abbrev FLT_LIVE : Field := ⟨0x26, 0x240, 0, 32, 4⟩
abbrev FLT_LATCH : Field := ⟨0x26, 0x248, 0, 32, 4⟩
abbrev FLT_WIRE : Field := ⟨0x26, 0x250, 0, 32, 4⟩
abbrev FLT_ESCD : Field := ⟨0x26, 0x258, 0, 32, 4⟩
/-! FLT pages 0x10 to 0x10 -/
abbrev FLT_GSTAT : Field := ⟨0x26, 0x040, 0, 32, 4⟩
abbrev FLT_GSTAT_HEAD : Field := ⟨0x26, 0x040, 6, 1, 4⟩
abbrev FLT_GSTAT_FN_LINE : Field := ⟨0x26, 0x040, 5, 1, 4⟩
abbrev FLT_GSTAT_FN_DRIVE : Field := ⟨0x26, 0x040, 4, 1, 4⟩
abbrev FLT_GSTAT_LOCKDOWN : Field := ⟨0x26, 0x040, 3, 1, 4⟩
abbrev FLT_GSTAT_CLASS : Field := ⟨0x26, 0x040, 0, 3, 4⟩
abbrev FLT_STORM_CFG : Field := ⟨0x26, 0x044, 0, 32, 4⟩
abbrev FLT_STORM_CFG_WIN : Field := ⟨0x26, 0x044, 0, 10, 4⟩
abbrev FLT_LOG_HEAD : Field := ⟨0x26, 0x048, 0, 32, 4⟩
abbrev FLT_LOG_HEAD_OVF : Field := ⟨0x26, 0x048, 8, 24, 4⟩
abbrev FLT_LOG_HEAD_NEXT : Field := ⟨0x26, 0x048, 0, 8, 4⟩
abbrev FLT_LOG_SEL : Field := ⟨0x26, 0x04C, 0, 32, 4⟩
abbrev FLT_LOG_SEL_SLOT : Field := ⟨0x26, 0x04C, 0, 8, 4⟩
abbrev FLT_GRAVE : Field := ⟨0x26, 0x050, 0, 32, 4⟩
abbrev FLT_GRAVE_VALID : Field := ⟨0x26, 0x050, 31, 1, 4⟩
abbrev FLT_GRAVE_SOURCE : Field := ⟨0x26, 0x050, 0, 9, 4⟩
abbrev FLT_GRAVE_TIME_LO : Field := ⟨0x26, 0x054, 0, 32, 4⟩
abbrev FLT_GRAVE_TIME_HI : Field := ⟨0x26, 0x058, 0, 32, 4⟩
abbrev FLT_XIN : Field := ⟨0x26, 0x060, 0, 32, 4⟩
abbrev FLT_XIN_FILT : Field := ⟨0x26, 0x060, 24, 8, 4⟩
abbrev FLT_XIN_EN : Field := ⟨0x26, 0x060, 16, 1, 4⟩
abbrev FLT_XIN_PIN_C : Field := ⟨0x26, 0x060, 8, 7, 4⟩
abbrev FLT_XIN_PIN_T : Field := ⟨0x26, 0x060, 0, 7, 4⟩
abbrev FLT_LOG_DATA : Field := ⟨0x26, 0x0A0, 0, 32, 4⟩
/-! INT pages 0x0 to 0x3 -/
abbrev INT_SRC : Field := ⟨0x06, 0x040, 0, 32, 4⟩
abbrev INT_SRC_STATE : Field := ⟨0x06, 0x040, 16, 2, 4⟩
abbrev INT_SRC_TRIG : Field := ⟨0x06, 0x040, 13, 1, 4⟩
abbrev INT_SRC_EN : Field := ⟨0x06, 0x040, 12, 1, 4⟩
abbrev INT_SRC_TGT : Field := ⟨0x06, 0x040, 8, 4, 4⟩
abbrev INT_SRC_PRIO : Field := ⟨0x06, 0x040, 0, 8, 4⟩
abbrev INT_PEND : Field := ⟨0x06, 0x240, 0, 32, 4⟩
abbrev INT_ACT : Field := ⟨0x06, 0x250, 0, 32, 4⟩
/-! INT pages 0x10 to 0x10 -/
abbrev INT_CFG : Field := ⟨0x06, 0x040, 0, 32, 4⟩
abbrev INT_CFG_HIBWAKE : Field := ⟨0x06, 0x040, 8, 1, 4⟩
abbrev INT_CFG_PRIGRP : Field := ⟨0x06, 0x040, 0, 3, 4⟩
abbrev INT_SWI : Field := ⟨0x06, 0x044, 0, 32, 4⟩
abbrev INT_SWI_SWI : Field := ⟨0x06, 0x044, 0, 8, 4⟩
abbrev INT_SPUR_CNT : Field := ⟨0x06, 0x048, 0, 32, 4⟩
abbrev INT_SPUR_CNT_EMPTY : Field := ⟨0x06, 0x048, 16, 16, 4⟩
abbrev INT_SPUR_CNT_LEVEL : Field := ⟨0x06, 0x048, 0, 16, 4⟩
abbrev INT_STALE : Field := ⟨0x06, 0x04C, 0, 32, 4⟩
abbrev INT_STALE_COUNT : Field := ⟨0x06, 0x04C, 16, 16, 4⟩
abbrev INT_STALE_TGT : Field := ⟨0x06, 0x04C, 12, 4, 4⟩
abbrev INT_STALE_SOURCE : Field := ⟨0x06, 0x04C, 0, 9, 4⟩
/-! INT pages 0x20 to 0x2f -/
abbrev INT_TGT_CFG : Field := ⟨0x06, 0x040, 0, 32, 4⟩
abbrev INT_TGT_CFG_MOD : Field := ⟨0x06, 0x040, 24, 8, 4⟩
abbrev INT_TGT_CFG_FB_EN : Field := ⟨0x06, 0x040, 16, 1, 4⟩
abbrev INT_TGT_CFG_FALLBACK : Field := ⟨0x06, 0x040, 12, 4, 4⟩
abbrev INT_TGT_CFG_VBASE : Field := ⟨0x06, 0x040, 0, 10, 4⟩
abbrev INT_TGT_STATE : Field := ⟨0x06, 0x044, 0, 32, 4⟩
abbrev INT_TGT_STATE_WAKE : Field := ⟨0x06, 0x044, 8, 1, 4⟩
abbrev INT_TGT_STATE_STATE : Field := ⟨0x06, 0x044, 0, 2, 4⟩
abbrev INT_TGT_CLAIM : Field := ⟨0x06, 0x048, 0, 32, 4⟩
abbrev INT_TGT_CLAIM_VALID : Field := ⟨0x06, 0x048, 31, 1, 4⟩
abbrev INT_TGT_CLAIM_PRIO : Field := ⟨0x06, 0x048, 16, 8, 4⟩
abbrev INT_TGT_CLAIM_SOURCE : Field := ⟨0x06, 0x048, 0, 9, 4⟩
abbrev INT_TGT_COMPLETE : Field := ⟨0x06, 0x04C, 0, 32, 4⟩
abbrev INT_TGT_COMPLETE_SOURCE : Field := ⟨0x06, 0x04C, 0, 9, 4⟩
abbrev INT_TGT_INSVC : Field := ⟨0x06, 0x050, 0, 32, 4⟩
abbrev INT_TGT_INSVC_DEPTH : Field := ⟨0x06, 0x050, 16, 4, 4⟩
abbrev INT_TGT_INSVC_GROUP : Field := ⟨0x06, 0x050, 0, 8, 4⟩
abbrev INT_TGT_MSGCNT : Field := ⟨0x06, 0x054, 0, 32, 4⟩
/-! HST pages 0x0 to 0x0 -/
abbrev HST_LINK : Field := ⟨0x04, 0x040, 0, 32, 4⟩
abbrev HST_LINK_WIDTH : Field := ⟨0x04, 0x040, 8, 4, 4⟩
abbrev HST_LINK_SPEED : Field := ⟨0x04, 0x040, 4, 4, 4⟩
abbrev HST_LINK_MSIX_EN : Field := ⟨0x04, 0x040, 3, 1, 4⟩
abbrev HST_LINK_BME : Field := ⟨0x04, 0x040, 2, 1, 4⟩
abbrev HST_LINK_D3 : Field := ⟨0x04, 0x040, 1, 1, 4⟩
abbrev HST_LINK_UP : Field := ⟨0x04, 0x040, 0, 1, 4⟩
abbrev HST_CFG : Field := ⟨0x04, 0x044, 0, 32, 4⟩
abbrev HST_CFG_PERST : Field := ⟨0x04, 0x044, 0, 1, 4⟩
abbrev HST_B2_BASE_LO : Field := ⟨0x04, 0x048, 0, 32, 4⟩
abbrev HST_B2_BASE_LO_ADDR : Field := ⟨0x04, 0x048, 30, 2, 4⟩
abbrev HST_B2_BASE_HI : Field := ⟨0x04, 0x04C, 0, 32, 4⟩
abbrev HST_ACC_CNT : Field := ⟨0x04, 0x050, 0, 32, 4⟩
abbrev HST_ACC_INFO : Field := ⟨0x04, 0x054, 0, 32, 4⟩
abbrev HST_ACC_INFO_CAUSE : Field := ⟨0x04, 0x054, 28, 4, 4⟩
abbrev HST_ACC_INFO_VIA : Field := ⟨0x04, 0x054, 26, 2, 4⟩
abbrev HST_ACC_INFO_WRITE : Field := ⟨0x04, 0x054, 25, 1, 4⟩
abbrev HST_ACC_INFO_NODE : Field := ⟨0x04, 0x054, 0, 6, 4⟩
abbrev HST_ACC_ADDR_LO : Field := ⟨0x04, 0x058, 0, 32, 4⟩
abbrev HST_ACC_ADDR_HI : Field := ⟨0x04, 0x05C, 0, 32, 4⟩
abbrev HST_AER_CNT : Field := ⟨0x04, 0x060, 0, 32, 4⟩
/-! CAS pages 0x0 to 0x0 -/
abbrev CAS_CFG : Field := ⟨0x08, 0x040, 0, 32, 4⟩
abbrev CAS_CFG_TRIG : Field := ⟨0x08, 0x040, 16, 4, 4⟩
abbrev CAS_CFG_EVFWD : Field := ⟨0x08, 0x040, 8, 4, 4⟩
abbrev CAS_CFG_REMOTE_WR : Field := ⟨0x08, 0x040, 1, 1, 4⟩
abbrev CAS_CFG_HEAD : Field := ⟨0x08, 0x040, 0, 1, 4⟩
abbrev CAS_CTRL : Field := ⟨0x08, 0x044, 0, 32, 4⟩
abbrev CAS_CTRL_REJOIN : Field := ⟨0x08, 0x044, 1, 1, 4⟩
abbrev CAS_CTRL_BYPASS : Field := ⟨0x08, 0x044, 0, 1, 4⟩
abbrev CAS_STAT : Field := ⟨0x08, 0x048, 0, 32, 4⟩
abbrev CAS_STAT_HEAD_ID : Field := ⟨0x08, 0x048, 26, 6, 4⟩
abbrev CAS_STAT_HEAD_OK : Field := ⟨0x08, 0x048, 25, 1, 4⟩
abbrev CAS_STAT_IS_HEAD : Field := ⟨0x08, 0x048, 24, 1, 4⟩
abbrev CAS_STAT_TB_MASTER : Field := ⟨0x08, 0x048, 23, 1, 4⟩
abbrev CAS_STAT_TB_LOCK : Field := ⟨0x08, 0x048, 22, 1, 4⟩
abbrev CAS_STAT_FOLD : Field := ⟨0x08, 0x048, 21, 1, 4⟩
abbrev CAS_STAT_B_UP : Field := ⟨0x08, 0x048, 20, 1, 4⟩
abbrev CAS_STAT_A_UP : Field := ⟨0x08, 0x048, 19, 1, 4⟩
abbrev CAS_STAT_STATE : Field := ⟨0x08, 0x048, 16, 3, 4⟩
abbrev CAS_STAT_NODES : Field := ⟨0x08, 0x048, 8, 7, 4⟩
abbrev CAS_STAT_CASEN : Field := ⟨0x08, 0x048, 6, 1, 4⟩
abbrev CAS_STAT_NODE_ID : Field := ⟨0x08, 0x048, 0, 6, 4⟩
abbrev CAS_MAP_LO : Field := ⟨0x08, 0x04C, 0, 32, 4⟩
abbrev CAS_MAP_HI : Field := ⟨0x08, 0x050, 0, 32, 4⟩
abbrev CAS_TB : Field := ⟨0x08, 0x054, 0, 32, 4⟩
abbrev CAS_ASYM : Field := ⟨0x08, 0x058, 0, 32, 4⟩
abbrev CAS_ASYM_B_PS : Field := ⟨0x08, 0x058, 16, 16, 4⟩
abbrev CAS_ASYM_A_PS : Field := ⟨0x08, 0x058, 0, 16, 4⟩
abbrev CAS_LINK_CNT : Field := ⟨0x08, 0x05C, 0, 32, 4⟩
abbrev CAS_LINK_CNT_B : Field := ⟨0x08, 0x05C, 16, 16, 4⟩
abbrev CAS_LINK_CNT_A : Field := ⟨0x08, 0x05C, 0, 16, 4⟩
abbrev CAS_RD_TO_CNT : Field := ⟨0x08, 0x060, 0, 32, 4⟩
abbrev CAS_NACK_CNT : Field := ⟨0x08, 0x064, 0, 32, 4⟩
/-! PRS pages 0x0 to 0x0 -/
abbrev PRS_RING : Field := ⟨0x07, 0x040, 0, 32, 4⟩
abbrev PRS_RING_ALL : Field := ⟨0x07, 0x040, 16, 1, 4⟩
abbrev PRS_RING_GRP : Field := ⟨0x07, 0x040, 0, 16, 4⟩
abbrev PRS_STAT : Field := ⟨0x07, 0x044, 0, 32, 4⟩
abbrev PRS_STAT_OUT : Field := ⟨0x07, 0x044, 0, 8, 4⟩
abbrev PRS_RX_CNT : Field := ⟨0x07, 0x048, 0, 32, 4⟩
/-! CAL pages 0x0 to 0x0 -/
abbrev CAL_REQ : Field := ⟨0x27, 0x040, 0, 32, 4⟩
abbrev CAL_REQ_STN : Field := ⟨0x27, 0x040, 8, 6, 4⟩
abbrev CAL_REQ_KIND : Field := ⟨0x27, 0x040, 0, 5, 4⟩
abbrev CAL_ZC_MASK : Field := ⟨0x27, 0x044, 0, 32, 4⟩
abbrev CAL_ZC_MASK_CH : Field := ⟨0x27, 0x044, 0, 24, 4⟩
abbrev CAL_CFG : Field := ⟨0x27, 0x048, 0, 32, 4⟩
abbrev CAL_CFG_STORE : Field := ⟨0x27, 0x048, 16, 1, 4⟩
abbrev CAL_CFG_RETRY : Field := ⟨0x27, 0x048, 8, 2, 4⟩
abbrev CAL_CFG_CLASS : Field := ⟨0x27, 0x048, 0, 4, 4⟩
abbrev CAL_STAT : Field := ⟨0x27, 0x04C, 0, 32, 4⟩
abbrev CAL_STAT_STALE : Field := ⟨0x27, 0x04C, 16, 6, 4⟩
abbrev CAL_STAT_BUSY : Field := ⟨0x27, 0x04C, 8, 1, 4⟩
abbrev CAL_STAT_KIND : Field := ⟨0x27, 0x04C, 0, 3, 4⟩
abbrev CAL_RESULT : Field := ⟨0x27, 0x050, 0, 32, 4⟩
abbrev CAL_CTRL : Field := ⟨0x27, 0x054, 0, 32, 4⟩
abbrev CAL_CTRL_CLEAR : Field := ⟨0x27, 0x054, 0, 1, 4⟩
abbrev CAL_STORE_STAT : Field := ⟨0x27, 0x058, 0, 32, 4⟩
abbrev CAL_STORE_STAT_BANK : Field := ⟨0x27, 0x058, 31, 1, 4⟩
abbrev CAL_STORE_STAT_FREE : Field := ⟨0x27, 0x058, 16, 15, 4⟩
abbrev CAL_STORE_STAT_TORN : Field := ⟨0x27, 0x058, 8, 8, 4⟩
abbrev CAL_STORE_STAT_RECS : Field := ⟨0x27, 0x058, 0, 8, 4⟩
abbrev CAL_LIM : Field := ⟨0x27, 0x060, 0, 32, 4⟩
abbrev CAL_IDLE : Field := ⟨0x27, 0x080, 0, 32, 4⟩
/-! KPS pages 0x0 to 0x0 -/
abbrev KPS_SEL : Field := ⟨0x02, 0x040, 0, 32, 4⟩
abbrev KPS_SEL_WORD : Field := ⟨0x02, 0x040, 0, 12, 4⟩
abbrev KPS_DATA : Field := ⟨0x02, 0x044, 0, 32, 4⟩
abbrev KPS_WEAR : Field := ⟨0x02, 0x048, 0, 32, 4⟩
abbrev KPS_WEAR_WORN : Field := ⟨0x02, 0x048, 31, 1, 4⟩
abbrev KPS_WEAR_WARNED : Field := ⟨0x02, 0x048, 30, 1, 4⟩
abbrev KPS_WEAR_COUNT : Field := ⟨0x02, 0x048, 0, 18, 4⟩
abbrev KPS_STAT : Field := ⟨0x02, 0x04C, 0, 32, 4⟩
abbrev KPS_STAT_BUSY : Field := ⟨0x02, 0x04C, 8, 1, 4⟩
abbrev KPS_STAT_QUEUE : Field := ⟨0x02, 0x04C, 0, 5, 4⟩
abbrev KPS_WEAR_CFG : Field := ⟨0x02, 0x050, 0, 32, 4⟩
abbrev KPS_WEAR_CFG_WARN : Field := ⟨0x02, 0x050, 0, 18, 4⟩
abbrev KPS_LAST : Field := ⟨0x02, 0x054, 0, 32, 4⟩
abbrev KPS_LAST_WHY : Field := ⟨0x02, 0x054, 12, 4, 4⟩
abbrev KPS_LAST_WORD : Field := ⟨0x02, 0x054, 0, 12, 4⟩
/-! CLK pages 0x6 to 0x6 -/
abbrev CLK_GCO : Field := ⟨0x19, 0x040, 0, 32, 4⟩
abbrev CLK_GCO_DIV : Field := ⟨0x19, 0x040, 16, 8, 4⟩
abbrev CLK_GCO_SRC : Field := ⟨0x19, 0x040, 8, 4, 4⟩
abbrev CLK_GCO_FMT : Field := ⟨0x19, 0x040, 4, 2, 4⟩
abbrev CLK_GCO_EN : Field := ⟨0x19, 0x040, 0, 1, 4⟩
/-! HVO pages 0x20 to 0x20 -/
abbrev HVO_SYNC : Field := ⟨0x24, 0x040, 0, 32, 4⟩
abbrev HVO_GSTAT : Field := ⟨0x24, 0x044, 0, 32, 4⟩
/-! TMP pages 0x20 to 0x25 -/
abbrev TMP_ASRC : Field := ⟨0x2B, 0x040, 0, 32, 4⟩
abbrev TMP_ASRC_TS_EN : Field := ⟨0x2B, 0x040, 13, 1, 4⟩
abbrev TMP_ASRC_TS : Field := ⟨0x2B, 0x040, 8, 5, 4⟩
abbrev TMP_ASRC_BLN : Field := ⟨0x2B, 0x040, 0, 4, 4⟩

end F

end Sys2Proof.Machine
end

