-- ==== Sys2Proof/Machine/RegTable.lean ====
section
/-! DEFINITION. The register tables of spec/01 to spec/14: for every register its page instances, offset, reset value
and which bits a write sets, clears or acts on (R11, R12). -/

namespace Sys2Proof.Machine

/-- One register, or one indexed family of `n` registers, of a block's pages `lo` to `hi`. `resets` gives the reset
value of each index, the last one standing for the rest. `rw`: bits a write sets (RW, RWL). `w1c`, `w1s`: bits a 1
clears, bits a 1 acts on. `lock`: RWL, discarded while PAGE_LOCK.LOCK = 1. -/
structure RegRow where
  lo : Nat
  hi : Nat
  off : Nat
  n : Nat
  stride : Nat
  resets : List Nat
  rw : Nat
  w1c : Nat
  w1s : Nat
  lock : Bool
  deriving DecidableEq, Repr

/-- Registers of block SYS. -/
def rowsSYS : List RegRow := [
  ⟨0, 0, 0x040, 1, 4, [0], 0xF, 0, 0, false⟩,
  ⟨0, 0, 0x044, 1, 4, [0], 0, 0, 0, false⟩,
  ⟨0, 0, 0x048, 1, 4, [0x8001], 0, 0, 0, false⟩,
  ⟨0, 0, 0x04C, 1, 4, [0], 0, 0, 0, false⟩,
  ⟨0, 0, 0x050, 1, 4, [0], 0, 0, 0, false⟩]

/-- Registers of block APR. -/
def rowsAPR : List RegRow := [
  ⟨0, 0, 0x040, 1, 4, [0], 0x3F01, 0, 0, false⟩,
  ⟨0, 0, 0x044, 1, 4, [0], 0, 0, 0, false⟩,
  ⟨0, 0, 0x048, 1, 4, [0x118], 0x3FF, 0, 0, false⟩,
  ⟨0, 0, 0x04C, 1, 4, [0x90], 0xFFFFF, 0, 0, false⟩,
  ⟨0, 0, 0x050, 1, 4, [0], 0xFFFFF, 0, 0, false⟩,
  ⟨0, 0, 0x054, 1, 4, [0x3c0], 0xFFFFF, 0, 0, false⟩,
  ⟨0, 0, 0x058, 1, 4, [0x3e1], 0x3FF, 0, 0, false⟩,
  ⟨0, 0, 0x05C, 1, 4, [0], 0, 0x3F, 0, false⟩,
  ⟨0, 0, 0x060, 1, 4, [0], 0, 0, 0, false⟩,
  ⟨0, 0, 0x064, 1, 4, [0], 0, 0, 0, false⟩,
  ⟨0, 0, 0x068, 1, 4, [0], 0, 0, 0, false⟩,
  ⟨0, 0, 0x06C, 1, 4, [0], 0, 0, 0, false⟩,
  ⟨0, 0, 0x070, 1, 4, [0], 0xFF, 0, 0, false⟩,
  ⟨0, 0, 0x074, 1, 4, [0], 0, 0, 0, false⟩,
  ⟨0, 0, 0x078, 1, 4, [0], 0, 0, 0, false⟩,
  ⟨0, 0, 0x07C, 1, 4, [0], 0xFF, 0, 0, true⟩,
  ⟨0, 0, 0x080, 6, 4, [0], 0xFFFFFFFF, 0, 0, true⟩,
  ⟨0, 0, 0x098, 1, 4, [0], 0xFFFFFFFF, 0, 0, true⟩,
  ⟨0, 0, 0x09C, 1, 4, [0], 0xFFFFFFFF, 0, 0, true⟩,
  ⟨0, 0, 0x0A0, 16, 4, [0], 0, 0, 0, false⟩,
  ⟨0, 0, 0x0E0, 1, 4, [0x3e8], 0xFFFF, 0, 0, false⟩,
  ⟨0x20, 0x3F, 0x040, 1, 4, [0], 7, 0, 0, false⟩,
  ⟨0x20, 0x3F, 0x044, 1, 4, [4], 0x1F, 0, 0, false⟩,
  ⟨0x20, 0x3F, 0x048, 1, 4, [0], 0xFFFFF000, 0, 0, false⟩,
  ⟨0x20, 0x3F, 0x04C, 1, 4, [0], 0xFFFFFFFF, 0, 0, false⟩,
  ⟨0x20, 0x3F, 0x050, 1, 4, [0], 0, 0, 0, false⟩,
  ⟨0x20, 0x3F, 0x054, 1, 4, [0], 0, 0, 0, false⟩,
  ⟨0x20, 0x3F, 0x058, 1, 4, [0], 0, 0, 0, false⟩,
  ⟨0x20, 0x3F, 0x05C, 1, 4, [0], 0xFFFFFFFC, 0, 0, false⟩,
  ⟨0x20, 0x3F, 0x060, 1, 4, [0], 0xFFFFFFFF, 0, 0, false⟩,
  ⟨0x20, 0x3F, 0x064, 1, 4, [0], 0, 0, 0, false⟩]

/-- Registers of block FST. -/
def rowsFST : List RegRow := [
  ⟨0, 0, 0x040, 1, 4, [0], 1, 0, 0, false⟩,
  ⟨0, 0, 0x044, 1, 4, [0], 0, 0, 0, false⟩,
  ⟨0, 0, 0x048, 1, 4, [0], 0x7FF, 0, 0, false⟩,
  ⟨0, 0, 0x04C, 1, 4, [0], 0, 0, 0, false⟩,
  ⟨0, 0, 0x050, 1, 4, [0], 0, 0, 0, false⟩,
  ⟨0, 0, 0x054, 1, 4, [0xff00000], 0, 0, 0, false⟩,
  ⟨0, 0, 0x058, 1, 4, [0], 0, 0, 0, false⟩,
  ⟨0, 0, 0x05C, 1, 4, [0], 0, 0, 0, false⟩,
  ⟨0, 0, 0x060, 1, 4, [0], 0, 0, 0, false⟩,
  ⟨0, 0, 0x064, 1, 4, [0], 0, 0, 0, false⟩,
  ⟨0, 0, 0x068, 1, 4, [0], 0, 0, 0, false⟩,
  ⟨0, 0, 0x06C, 1, 4, [0], 0, 0, 0, false⟩]

/-- Registers of block DEC. -/
def rowsDEC : List RegRow := [
  ⟨0, 5, 0x040, 1, 4, [0xff0000], 0, 0, 0, false⟩,
  ⟨0, 5, 0x044, 1, 4, [0], 0, 0, 0, false⟩,
  ⟨0, 5, 0x048, 1, 4, [0], 0, 0, 0, false⟩,
  ⟨0, 5, 0x04C, 1, 4, [0], 0, 0, 0, false⟩,
  ⟨0, 5, 0x050, 1, 4, [0], 0, 0, 0, false⟩,
  ⟨0, 5, 0x054, 1, 4, [0], 0, 0, 0, false⟩,
  ⟨0, 5, 0x058, 1, 4, [0], 0, 0, 0, false⟩,
  ⟨0, 5, 0x05C, 1, 4, [0], 0, 0, 0, false⟩]

/-- Registers of block ENC. -/
def rowsENC : List RegRow := [
  ⟨0, 0, 0x040, 1, 4, [0], 0, 0, 0xF, false⟩,
  ⟨0, 0, 0x044, 1, 4, [0], 0, 0, 0, false⟩,
  ⟨0, 0, 0x048, 1, 4, [8], 0xF1FF, 0, 0, false⟩,
  ⟨0, 0, 0x04C, 1, 4, [1], 0xFFF, 0, 0, false⟩,
  ⟨0, 0, 0x050, 1, 4, [0], 0xFFF, 0, 0, false⟩,
  ⟨0, 0, 0x054, 1, 4, [0], 0xFFFFFFC0, 0, 0, false⟩,
  ⟨0, 0, 0x058, 1, 4, [0], 0xFFFFFFFF, 0, 0, false⟩,
  ⟨0, 0, 0x05C, 1, 4, [0], 0xFFFFFFC0, 0, 0, false⟩,
  ⟨0, 0, 0x060, 1, 4, [0], 0xFFFFFFFF, 0, 0, false⟩,
  ⟨0, 0, 0x064, 1, 4, [0], 0xFFFF, 0, 0, false⟩,
  ⟨0, 0, 0x068, 1, 4, [0], 0, 0, 0, false⟩,
  ⟨0, 0, 0x06C, 1, 4, [0], 0, 0, 0, false⟩,
  ⟨0, 0, 0x070, 1, 4, [0], 0, 0, 0, false⟩,
  ⟨0, 0, 0x074, 1, 4, [0], 0xFFFFFFC0, 0, 0, false⟩,
  ⟨0, 0, 0x078, 1, 4, [0], 0xFFFFFFFF, 0, 0, false⟩]

/-- Registers of block FMT. -/
def rowsFMT : List RegRow := [
  ⟨0, 5, 0x040, 1, 4, [0x20800], 0xF0F13, 0, 0, true⟩,
  ⟨0, 5, 0x044, 1, 4, [0xff0028], 0, 0, 0, false⟩,
  ⟨0, 5, 0x048, 1, 4, [0], 0, 0, 0, false⟩,
  ⟨0, 5, 0x04C, 1, 4, [0x2ee0258], 0x3FF03FF, 0, 0, true⟩,
  ⟨0, 5, 0x050, 1, 4, [0x14], 0x3F, 0, 0, true⟩,
  ⟨0, 5, 0x054, 1, 4, [0], 0, 1, 0, false⟩,
  ⟨0, 5, 0x058, 4, 4, [0x30303030], 0xFFFFFFFF, 0, 0, true⟩,
  ⟨0, 5, 0x068, 4, 4, [0x6040200, 0xe0c0a08, 0x17151311, 0x1f1d1b19], 0x1F1F1F1F, 0, 0, true⟩,
  ⟨0, 5, 0x078, 4, 4, [0x1f1f1f00, 0x1f1f1f1f, 0x1f1f1f1f, 0x1f1f1f1f], 0x1F1F1F1F, 0, 0, true⟩,
  ⟨0, 5, 0x088, 4, 4, [0x3400300, 0x3c00380, 0x4400400, 0x4c00480], 0x7FF07FF, 0, 0, true⟩,
  ⟨0, 5, 0x098, 1, 4, [0], 0, 0, 0, false⟩,
  ⟨0, 5, 0x09C, 1, 4, [0], 0, 0, 0, false⟩,
  ⟨0, 5, 0x0A0, 1, 4, [0], 0, 0, 0, false⟩,
  ⟨0, 5, 0x0A4, 1, 4, [0], 0, 0, 0, false⟩]

/-- Registers of block COR. -/
def rowsCOR : List RegRow := [
  ⟨0, 5, 0x040, 1, 4, [0], 0, 0, 1, false⟩,
  ⟨0, 5, 0x044, 1, 4, [0], 0x1FF, 0, 0, false⟩,
  ⟨0, 5, 0x048, 1, 4, [0], 0, 0, 0, false⟩,
  ⟨0, 5, 0x04C, 1, 4, [0], 0, 0, 0, false⟩,
  ⟨0, 5, 0x050, 1, 4, [0], 0x1FFFF, 0, 0, false⟩,
  ⟨0, 5, 0x054, 1, 4, [0], 0, 0, 0, false⟩,
  ⟨0, 5, 0x058, 12, 4, [0], 0, 0, 0, false⟩]

/-- Registers of block FAC. -/
def rowsFAC : List RegRow := [
  ⟨0, 5, 0x040, 1, 4, [0xa81480], 0xFFFFFF3, 0, 0, true⟩,
  ⟨0, 5, 0x044, 1, 4, [0x30020], 0xFFFFF, 0, 0, true⟩,
  ⟨0, 5, 0x048, 1, 4, [0x25800], 0x3FFFFF, 0, 0, true⟩,
  ⟨0, 5, 0x04C, 1, 4, [0], 0, 0, 0, false⟩,
  ⟨0, 5, 0x050, 1, 4, [0], 0, 0, 0, false⟩,
  ⟨0, 5, 0x054, 1, 4, [0], 0, 0, 0, false⟩,
  ⟨0, 5, 0x058, 1, 4, [0], 0, 0, 0, false⟩,
  ⟨0, 5, 0x05C, 1, 4, [0], 0, 0, 0, false⟩,
  ⟨0, 5, 0x060, 1, 4, [0], 0, 0, 0, false⟩,
  ⟨0, 5, 0x064, 16, 4, [0], 0xFFFFFFFF, 0, 0, false⟩]

/-- Registers of block CLK. -/
def rowsCLK : List RegRow := [
  ⟨0, 5, 0x040, 1, 4, [0], 0x31, 0, 0, false⟩,
  ⟨0, 5, 0x044, 1, 4, [4], 0, 0, 0, false⟩,
  ⟨0, 5, 0x048, 1, 4, [0], 0, 0, 0, false⟩,
  ⟨0, 5, 0x04C, 1, 4, [0], 0, 0, 0, false⟩,
  ⟨0, 5, 0x050, 16, 4, [0], 0xFFFFFFFF, 0, 0, true⟩,
  ⟨6, 6, 0x040, 4, 4, [0], 0xFF0F31, 0, 0, false⟩]

/-- Registers of block BLN. -/
def rowsBLN : List RegRow := [
  ⟨0, 5, 0x040, 1, 4, [0], 3, 0, 0x1C, false⟩,
  ⟨0, 5, 0x044, 1, 4, [0], 0, 0, 0, false⟩,
  ⟨0, 5, 0x048, 1, 4, [0x44000408], 0x7F3FFF0F, 0, 0, true⟩,
  ⟨0, 5, 0x04C, 1, 4, [0xffff], 0xFFFF, 0, 0, true⟩,
  ⟨0, 5, 0x050, 1, 4, [0x2000100], 0xFFFFFFFF, 0, 0, true⟩,
  ⟨0, 5, 0x054, 1, 4, [0], 0, 0, 0, false⟩,
  ⟨0, 5, 0x058, 1, 4, [0], 0, 0, 0, false⟩,
  ⟨0, 5, 0x05C, 1, 4, [0], 0, 0, 0, false⟩,
  ⟨0, 5, 0x060, 1, 4, [0], 0, 0, 0, false⟩,
  ⟨0, 5, 0x064, 4, 4, [0], 0, 0, 0, false⟩,
  ⟨0, 5, 0x074, 1, 4, [0], 0x3F, 0, 0, false⟩,
  ⟨0, 5, 0x078, 1, 4, [0], 0, 0, 0, false⟩,
  ⟨0, 5, 0x07C, 1, 4, [0], 0xFFC, 0, 0, false⟩,
  ⟨0, 5, 0x080, 1, 4, [0], 0, 0, 0, false⟩,
  ⟨0, 5, 0x084, 4, 4, [0], 0, 0, 0, false⟩]

/-- Registers of block SEC. -/
def rowsSEC : List RegRow := [
  ⟨0, 0, 0x040, 1, 4, [0], 0, 0, 0, false⟩,
  ⟨0, 0, 0x044, 1, 4, [0], 0, 0, 0xF, false⟩,
  ⟨0, 0, 0x048, 1, 4, [0], 0, 0, 0, false⟩,
  ⟨0, 0, 0x04C, 1, 4, [0], 0, 0, 0, false⟩,
  ⟨0, 0, 0x050, 1, 4, [0], 0, 0, 0, false⟩,
  ⟨0, 0, 0x054, 1, 4, [0], 0, 0, 0, false⟩,
  ⟨0, 0, 0x058, 1, 4, [0], 0, 0, 1, false⟩,
  ⟨0, 0, 0x05C, 1, 4, [0], 0, 0, 0, false⟩,
  ⟨0, 0, 0x060, 1, 4, [0], 0xFFFFF000, 0, 0, false⟩,
  ⟨0, 0, 0x064, 1, 4, [0], 0xFFFFFFFF, 0, 0, false⟩,
  ⟨0, 0, 0x080, 12, 4, [0], 0, 0, 0, false⟩,
  ⟨0, 0, 0x0B0, 12, 4, [0], 0, 0, 0, false⟩,
  ⟨0, 0, 0x100, 24, 4, [0], 0, 0, 0xFFFFFFFF, false⟩,
  ⟨0, 0, 0x180, 24, 4, [0], 0, 0, 0, false⟩,
  ⟨0, 0, 0x200, 24, 4, [0], 0, 0, 0, false⟩,
  ⟨0, 0, 0x280, 8, 4, [0], 0, 0, 0xFFFFFFFF, false⟩]

/-- Registers of block ATT. -/
def rowsATT : List RegRow := [
  ⟨0, 0, 0x040, 1, 4, [0], 0, 0, 0, false⟩,
  ⟨0, 0, 0x044, 1, 4, [0x10], 0x1F, 0, 0, true⟩,
  ⟨0, 0, 0x048, 1, 4, [0], 0xFFFFF000, 0, 0, true⟩,
  ⟨0, 0, 0x04C, 1, 4, [0], 0xFFFFFFFF, 0, 0, true⟩,
  ⟨0, 0, 0x050, 1, 4, [0], 0, 0, 0, false⟩,
  ⟨0, 0, 0x054, 1, 4, [0], 0, 0, 0, false⟩,
  ⟨0, 0, 0x058, 1, 4, [0], 0, 0, 0, false⟩,
  ⟨0, 0, 0x05C, 1, 4, [0], 0, 0, 0, false⟩,
  ⟨0, 0, 0x060, 1, 4, [0], 0, 0, 0, false⟩,
  ⟨0, 0, 0x080, 12, 4, [0], 0, 0, 0, false⟩]

/-- Registers of block DBG. -/
def rowsDBG : List RegRow := [
  ⟨0, 0, 0x040, 1, 4, [0], 0, 0, 0, false⟩,
  ⟨0, 0, 0x044, 1, 4, [0], 3, 0, 0, false⟩,
  ⟨0, 0, 0x048, 1, 4, [0], 0xFFFFFFFC, 0, 0, false⟩,
  ⟨0, 0, 0x04C, 1, 4, [0], 0xFFFFFFFF, 0, 0, false⟩,
  ⟨0, 0, 0x050, 1, 4, [0], 0, 0, 0, false⟩,
  ⟨0, 0, 0x054, 1, 4, [0x16480a5b], 0, 0, 0, false⟩]

/-- Registers of block MOT. -/
def rowsMOT : List RegRow := [
  ⟨0, 0x17, 0x040, 1, 4, [0], 3, 0, 0, false⟩,
  ⟨0, 0x17, 0x044, 1, 4, [0x2000], 0xF311, 0, 0, true⟩,
  ⟨0, 0x17, 0x048, 1, 4, [0x7f], 0x77F3FFF, 0, 0, true⟩,
  ⟨0, 0x17, 0x04C, 1, 4, [0x6419186a], 0xFFFFFFFF, 0, 0, true⟩,
  ⟨0, 0x17, 0x050, 1, 4, [0xbb803e8], 0xFFFFFFFF, 0, 0, true⟩,
  ⟨0, 0x17, 0x054, 1, 4, [0x28140a32], 0xFFFFFFFF, 0, 0, true⟩,
  ⟨0, 0x17, 0x058, 1, 4, [0x1f405dc], 0xFFFFFFFF, 0, 0, true⟩,
  ⟨0, 0x17, 0x05C, 1, 4, [0x143240c0], 0xFFFFFFFF, 0, 0, true⟩,
  ⟨0, 0x17, 0x060, 1, 4, [0x2710], 0xFFFFFF, 0, 0, true⟩,
  ⟨0, 0x17, 0x064, 1, 4, [0], 0x3FFF, 0, 0, true⟩,
  ⟨0, 0x17, 0x068, 1, 4, [0x64050000], 0xFFFF0007, 0, 0, true⟩,
  ⟨0, 0x17, 0x06C, 1, 4, [0], 0xFFFFFFFF, 0, 0, true⟩,
  ⟨0, 0x17, 0x070, 1, 4, [0], 0, 0, 0, false⟩,
  ⟨0, 0x17, 0x074, 1, 4, [0], 0, 0, 0, false⟩,
  ⟨0, 0x17, 0x078, 1, 4, [0], 0, 0, 0, false⟩,
  ⟨0, 0x17, 0x07C, 1, 4, [0], 0, 0, 0, false⟩,
  ⟨0, 0x17, 0x080, 1, 4, [0], 0, 0, 0, false⟩,
  ⟨0, 0x17, 0x084, 1, 4, [0], 0, 0, 0, false⟩,
  ⟨0, 0x17, 0x088, 1, 4, [0], 0, 0, 0, false⟩,
  ⟨0, 0x17, 0x08C, 1, 4, [0], 0, 0, 0, false⟩]

/-- Registers of block STP. -/
def rowsSTP : List RegRow := [
  ⟨0, 0xF, 0x040, 1, 4, [0], 3, 0, 4, false⟩,
  ⟨0, 0xF, 0x044, 1, 4, [0], 0x3FDF011F, 0, 0, true⟩,
  ⟨0, 0xF, 0x048, 1, 4, [0x32104080], 0xFFFFFFFF, 0, 0, true⟩,
  ⟨0, 0xF, 0x04C, 1, 4, [0x1201419], 0x1FFFFFF, 0, 0, true⟩,
  ⟨0, 0xF, 0x050, 1, 4, [0], 0x7FFFFFF, 0, 0, true⟩,
  ⟨0, 0xF, 0x054, 1, 4, [0x40a], 0xFFF, 0, 0, true⟩,
  ⟨0, 0xF, 0x058, 1, 4, [0x1000200], 0xFFFFFFF7, 0, 0, true⟩,
  ⟨0, 0xF, 0x05C, 1, 4, [0x80000000], 0xFFFFFFFF, 0, 0, true⟩,
  ⟨0, 0xF, 0x060, 1, 4, [0x7fffffff], 0xFFFFFFFF, 0, 0, true⟩,
  ⟨0, 0xF, 0x064, 1, 4, [0], 0, 0, 0, false⟩,
  ⟨0, 0xF, 0x068, 1, 4, [0], 0, 0, 0, false⟩,
  ⟨0, 0xF, 0x06C, 1, 4, [0], 0, 0, 0, false⟩]

/-- Registers of block PGN. -/
def rowsPGN : List RegRow := [
  ⟨0, 0x1F, 0x040, 1, 4, [0], 0, 0, 7, false⟩,
  ⟨0, 0x1F, 0x044, 1, 4, [0], 3, 0, 0, true⟩,
  ⟨0, 0x1F, 0x048, 1, 4, [0], 0xFFFFFFFF, 0, 0, false⟩,
  ⟨0, 0x1F, 0x04C, 1, 4, [0], 0xFFFFFFFF, 0, 0, false⟩,
  ⟨0, 0x1F, 0x050, 1, 4, [0], 0xFFFFFFFF, 0, 0, false⟩,
  ⟨0, 0x1F, 0x054, 1, 4, [0], 0xFFFFFFFF, 0, 0, false⟩,
  ⟨0, 0x1F, 0x058, 1, 4, [0], 0xFFFFFFFF, 0, 0, false⟩,
  ⟨0, 0x1F, 0x05C, 1, 4, [0], 0xFFFFFFFF, 0, 0, false⟩,
  ⟨0, 0x1F, 0x060, 1, 4, [0], 0xFFFFFFFF, 0, 0, false⟩,
  ⟨0, 0x1F, 0x064, 1, 4, [0], 0, 0, 0, false⟩,
  ⟨0, 0x1F, 0x068, 1, 4, [0], 0, 0, 0, false⟩,
  ⟨0, 0x1F, 0x06C, 1, 4, [0], 0, 0, 0, false⟩,
  ⟨0, 0x1F, 0x070, 1, 4, [0], 0, 0, 0, false⟩,
  ⟨0, 0x1F, 0x074, 1, 4, [0], 0, 0, 0, false⟩,
  ⟨0, 0x1F, 0x078, 1, 4, [0], 0x13FF, 0, 0, false⟩,
  ⟨0, 0x1F, 0x07C, 1, 4, [0], 0, 0, 0, false⟩,
  ⟨0, 0x1F, 0x080, 1, 4, [0], 0, 0, 0, false⟩]

/-- Registers of block CTL. -/
def rowsCTL : List RegRow := [
  ⟨0, 0x5F, 0x040, 1, 4, [0], 1, 0, 2, false⟩,
  ⟨0, 0x5F, 0x044, 1, 4, [1], 0x73, 0, 0, true⟩,
  ⟨0, 0x5F, 0x048, 1, 4, [0x3d090], 0x3FFFF, 0, 0, true⟩,
  ⟨0, 0x5F, 0x04C, 1, 4, [0], 0x3FFFF, 0, 0, true⟩,
  ⟨0, 0x5F, 0x050, 1, 4, [0x3ff], 0xFFFFFFFF, 0, 0, true⟩,
  ⟨0, 0x5F, 0x054, 1, 4, [0x3ff], 0xFFFFFFFF, 0, 0, true⟩,
  ⟨0, 0x5F, 0x058, 1, 4, [0x3ff], 0xFFFFFFFF, 0, 0, true⟩,
  ⟨0, 0x5F, 0x05C, 1, 4, [0], 0, 0, 0, false⟩,
  ⟨0, 0x5F, 0x060, 1, 4, [0], 0, 0, 0, false⟩,
  ⟨0, 0x5F, 0x064, 1, 4, [0], 0, 0, 0, false⟩,
  ⟨0, 0x5F, 0x068, 1, 4, [0], 0, 0, 0, false⟩,
  ⟨0, 0x5F, 0x06C, 1, 4, [0], 0, 0, 0, false⟩,
  ⟨0, 0x5F, 0x070, 1, 4, [0], 0, 0, 0, false⟩,
  ⟨0, 0x5F, 0x200, 48, 4, [0], 0xFFFFFFFF, 0, 0, true⟩,
  ⟨0, 0x5F, 0x300, 48, 4, [0], 0xFFFFFFFF, 0, 0, true⟩,
  ⟨0x60, 0x60, 0x040, 1, 4, [0], 0, 0, 0, false⟩,
  ⟨0x60, 0x60, 0x044, 1, 4, [0], 0, 0, 0, false⟩]

/-- Registers of block HVO. -/
def rowsHVO : List RegRow := [
  ⟨0, 0x1F, 0x040, 1, 4, [0], 1, 0, 0, false⟩,
  ⟨0, 0x1F, 0x044, 1, 4, [0], 0xFFFF7F13, 0, 0, true⟩,
  ⟨0, 0x1F, 0x048, 1, 4, [0xb404e2], 0xFFFFFF, 0, 0, true⟩,
  ⟨0, 0x1F, 0x04C, 1, 4, [0], 0xFFFFFFFF, 0, 0, true⟩,
  ⟨0, 0x1F, 0x050, 1, 4, [0], 0xFFFF, 0, 0, true⟩,
  ⟨0, 0x1F, 0x054, 1, 4, [0x10007fff], 0xFFFFFFFF, 0, 0, true⟩,
  ⟨0, 0x1F, 0x058, 1, 4, [0xa], 0xFF, 0, 0, true⟩,
  ⟨0, 0x1F, 0x05C, 1, 4, [0], 0, 0, 0, false⟩,
  ⟨0, 0x1F, 0x060, 1, 4, [0], 0, 0, 0, false⟩,
  ⟨0, 0x1F, 0x064, 1, 4, [0], 0, 0, 0, false⟩,
  ⟨0x20, 0x20, 0x040, 1, 4, [0], 0, 0, 0xFFFFFFFF, false⟩,
  ⟨0x20, 0x20, 0x044, 1, 4, [0], 0, 0, 0, false⟩]

/-- Registers of block LUP. -/
def rowsLUP : List RegRow := [
  ⟨0, 3, 0x040, 1, 4, [0], 0, 0, 7, false⟩,
  ⟨0, 3, 0x044, 1, 4, [1], 0x57F01, 0, 0, false⟩,
  ⟨0, 3, 0x048, 1, 4, [0xf9], 0xFFFF, 0, 0, false⟩,
  ⟨0, 3, 0x04C, 1, 4, [0], 0x7FFFFFC, 0, 0, false⟩,
  ⟨0, 3, 0x050, 1, 4, [0], 0x7FFFFFC, 0, 0, false⟩,
  ⟨0, 3, 0x054, 1, 4, [0], 0x1FF000F, 0, 0, false⟩,
  ⟨0, 3, 0x058, 1, 4, [0], 0xFFFFFFFF, 0, 0, false⟩,
  ⟨0, 3, 0x05C, 1, 4, [0x4000], 0xFFFF, 0, 0, false⟩,
  ⟨0, 3, 0x060, 1, 4, [0], 0, 0, 0, false⟩,
  ⟨0, 3, 0x064, 1, 4, [0], 0, 0, 0, false⟩,
  ⟨0, 3, 0x068, 1, 4, [0], 0, 0, 0, false⟩,
  ⟨0, 3, 0x06C, 1, 4, [0], 0xFFFFF000, 0, 0, false⟩,
  ⟨0, 3, 0x070, 1, 4, [0], 0xFFFFFFFF, 0, 0, false⟩]

/-- Registers of block MNS. -/
def rowsMNS : List RegRow := [
  ⟨0, 0, 0x040, 1, 4, [0x8fc1400], 0xFFFFFF01, 0, 0, true⟩,
  ⟨0, 0, 0x044, 1, 4, [0], 0xFFFFFFFF, 0, 0, true⟩,
  ⟨0, 0, 0x048, 1, 4, [0x1e010000], 0xFF03FFFF, 0, 0, true⟩,
  ⟨0, 0, 0x04C, 1, 4, [0x14056e5a], 0xFFFFFFFF, 0, 0, true⟩,
  ⟨0, 0, 0x050, 1, 4, [0], 0, 0, 0, false⟩,
  ⟨0, 0, 0x054, 1, 4, [0], 0, 0, 0, false⟩,
  ⟨0, 0, 0x058, 1, 4, [0], 0, 0, 0, false⟩,
  ⟨0, 0, 0x05C, 1, 4, [0], 0, 0, 0, false⟩,
  ⟨0, 0, 0x060, 1, 4, [0], 0, 0, 0, false⟩,
  ⟨0, 0, 0x064, 1, 4, [0], 0, 0, 0, false⟩,
  ⟨0, 0, 0x068, 1, 4, [0], 0, 0, 0, false⟩,
  ⟨0, 0, 0x06C, 1, 4, [0], 0, 0, 0, false⟩,
  ⟨0, 0, 0x070, 1, 4, [0], 0, 0, 0, false⟩,
  ⟨0, 0, 0x074, 1, 4, [0], 0, 0, 0, false⟩,
  ⟨0, 0, 0x078, 1, 4, [0], 0, 0, 0, false⟩]

/-- Registers of block HTR. -/
def rowsHTR : List RegRow := [
  ⟨0, 7, 0x040, 1, 4, [0], 1, 0, 0, false⟩,
  ⟨0, 7, 0x044, 1, 4, [0x7f00], 0x3F7F37, 0, 0, true⟩,
  ⟨0, 7, 0x048, 1, 4, [0x50a0032], 0xFFFFFFFF, 0, 0, true⟩,
  ⟨0, 7, 0x04C, 1, 4, [0], 0xFFFF, 0, 0, true⟩,
  ⟨0, 7, 0x050, 1, 4, [0], 0, 0, 0, false⟩,
  ⟨0, 7, 0x054, 1, 4, [0], 0, 0, 0, false⟩,
  ⟨0, 7, 0x058, 1, 4, [0], 0, 0, 0, false⟩,
  ⟨8, 8, 0x040, 1, 4, [0x1d81e5a], 0xFFFFFFFF, 0, 0, true⟩,
  ⟨8, 8, 0x044, 1, 4, [0], 0, 0, 0, false⟩,
  ⟨8, 8, 0x048, 1, 4, [0x320a1400], 0xFFFFFF0F, 0, 0, true⟩,
  ⟨8, 8, 0x04C, 1, 4, [0x3000000], 0x3FFFFFF, 0, 0, true⟩,
  ⟨8, 8, 0x050, 1, 4, [0], 0, 0, 0, false⟩]

/-- Registers of block TMP. -/
def rowsTMP : List RegRow := [
  ⟨0, 0x17, 0x040, 1, 4, [0], 3, 0, 0, true⟩,
  ⟨0, 0x17, 0x044, 1, 4, [0x271a], 0xFFFFFFFF, 0, 0, true⟩,
  ⟨0, 0x17, 0x048, 1, 4, [0x7800640], 0xFFFFFFFF, 0, 0, true⟩,
  ⟨0, 0x17, 0x04C, 1, 4, [0x3008c0], 0xFFFFFFFF, 0, 0, true⟩,
  ⟨0, 0x17, 0x050, 1, 4, [0xa0000], 0xFFFFFF, 0, 0, true⟩,
  ⟨0, 0x17, 0x054, 1, 4, [0], 0, 0, 0, false⟩,
  ⟨0, 0x17, 0x058, 1, 4, [0], 0, 0, 0, false⟩,
  ⟨0x20, 0x25, 0x040, 1, 4, [0xf], 0x3F0F, 0, 0, true⟩,
  ⟨0x20, 0x25, 0x048, 1, 4, [0x4100370], 0xFFFFFFFF, 0, 0, true⟩,
  ⟨0x20, 0x25, 0x04C, 1, 4, [0x2004b0], 0xFFFFFFFF, 0, 0, true⟩,
  ⟨0x20, 0x25, 0x054, 1, 4, [0], 0, 0, 0, false⟩,
  ⟨0x20, 0x25, 0x058, 1, 4, [0], 0, 0, 0, false⟩]

/-- Registers of block PWR. -/
def rowsPWR : List RegRow := [
  ⟨0, 0x2F, 0x040, 1, 4, [0], 0, 0, 0, false⟩,
  ⟨0, 0x2F, 0x044, 1, 4, [0], 0, 0, 0, false⟩,
  ⟨0, 0x2F, 0x048, 1, 4, [0], 0, 0, 0, false⟩,
  ⟨0, 0x2F, 0x04C, 1, 4, [0], 0, 0, 0, false⟩,
  ⟨0, 0x2F, 0x050, 1, 4, [0xffff], 0, 0, 0, false⟩,
  ⟨0, 0x2F, 0x054, 1, 4, [0], 0, 0, 0, false⟩,
  ⟨0, 0x2F, 0x058, 1, 4, [0], 0, 0, 0, false⟩,
  ⟨0, 0x2F, 0x05C, 1, 4, [0], 0, 0, 0, false⟩,
  ⟨0x40, 0x40, 0x040, 1, 4, [0], 0, 0, 0, false⟩,
  ⟨0x40, 0x40, 0x044, 1, 4, [0x3f], 0x3F, 0, 0, false⟩,
  ⟨0x40, 0x40, 0x048, 1, 4, [0], 0, 0, 0, false⟩,
  ⟨0x40, 0x40, 0x04C, 1, 4, [0], 0, 0, 3, false⟩]

/-- Registers of block SEQ. -/
def rowsSEQ : List RegRow := [
  ⟨0, 0, 0x040, 1, 4, [0], 0x103, 0, 0, false⟩,
  ⟨0, 0, 0x044, 1, 4, [0], 0, 0, 0, false⟩,
  ⟨0, 0, 0x048, 1, 4, [0], 0, 0, 0, false⟩,
  ⟨0, 0, 0x04C, 1, 4, [0], 0, 0, 0, false⟩,
  ⟨0, 0, 0x050, 1, 4, [0], 0, 0, 0, false⟩,
  ⟨0, 0, 0x054, 1, 4, [0], 0xFF, 0, 0, false⟩,
  ⟨0, 0, 0x058, 1, 4, [0], 0, 0, 0, false⟩,
  ⟨0, 0, 0x05C, 4, 4, [0], 0, 0, 0, false⟩]

/-- Registers of block FED. -/
def rowsFED : List RegRow := [
  ⟨0, 1, 0x040, 1, 4, [0], 0, 0, 6, false⟩,
  ⟨0, 1, 0x044, 1, 4, [0x64000501], 0, 0, 0, false⟩,
  ⟨0, 1, 0x048, 1, 4, [0x26c0190], 0, 0, 0, false⟩,
  ⟨0, 1, 0x04C, 1, 4, [0x1b80168], 0, 0, 0, false⟩,
  ⟨0, 1, 0x050, 1, 4, [0x141f4032], 0, 0, 0, false⟩,
  ⟨0, 1, 0x054, 1, 4, [0], 0, 0, 0, false⟩,
  ⟨0, 1, 0x058, 1, 4, [0], 0, 0, 0, false⟩,
  ⟨0, 1, 0x05C, 1, 4, [0], 0, 0, 0, false⟩,
  ⟨0, 1, 0x060, 1, 4, [0], 0, 0, 0, false⟩,
  ⟨0, 1, 0x064, 1, 4, [0], 0, 0, 0, false⟩]

/-- Registers of block MEM. -/
def rowsMEM : List RegRow := [
  ⟨0, 0, 0x040, 1, 4, [0], 0, 0, 0, false⟩,
  ⟨0, 0, 0x044, 1, 4, [0], 0, 0, 0, false⟩,
  ⟨0, 0, 0x048, 1, 4, [0], 0, 0, 0, false⟩,
  ⟨0, 0, 0x04C, 1, 4, [0], 0, 0, 0, false⟩,
  ⟨0, 0, 0x050, 1, 4, [0], 1, 0, 0, false⟩,
  ⟨0, 0, 0x054, 1, 4, [0], 0, 0, 0, false⟩]

/-- Registers of block ECC. -/
def rowsECC : List RegRow := [
  ⟨0, 3, 0x040, 1, 4, [0], 0, 0, 0, false⟩,
  ⟨0, 3, 0x044, 1, 4, [0], 0, 0, 0, false⟩,
  ⟨0, 3, 0x048, 1, 4, [0], 0x9F9F, 0, 0, false⟩,
  ⟨0, 3, 0x04C, 1, 4, [0], 0x3F, 0, 0, false⟩,
  ⟨0, 3, 0x050, 1, 4, [0], 0, 0, 0, false⟩,
  ⟨0x10, 0x10, 0x040, 1, 4, [0x801], 0x3F01, 0, 0, false⟩,
  ⟨0x10, 0x10, 0x044, 1, 4, [0], 0, 0, 0, false⟩,
  ⟨0x10, 0x10, 0x048, 1, 4, [0], 0, 0, 0, false⟩,
  ⟨0x10, 0x10, 0x04C, 1, 4, [0], 0, 0, 0, false⟩,
  ⟨0x10, 0x10, 0x050, 1, 4, [0xa0400], 0x1FFFFFF, 0, 0, false⟩,
  ⟨0x10, 0x10, 0x054, 1, 4, [0], 0, 0, 1, false⟩,
  ⟨0x10, 0x10, 0x058, 1, 4, [0], 0x3F, 0, 0, false⟩,
  ⟨0x10, 0x10, 0x05C, 1, 4, [0], 0, 0, 0, false⟩,
  ⟨0x10, 0x10, 0x060, 1, 4, [0], 0, 0, 0, false⟩,
  ⟨0x10, 0x10, 0x064, 1, 4, [0], 0, 0, 0, false⟩,
  ⟨0x10, 0x10, 0x068, 1, 4, [0], 0, 0, 0, false⟩,
  ⟨0x10, 0x10, 0x06C, 1, 4, [0], 0, 0, 0, false⟩,
  ⟨0x10, 0x10, 0x070, 1, 4, [0], 0, 0, 0, false⟩]

/-- Registers of block DMA. -/
def rowsDMA : List RegRow := [
  ⟨0, 0xF, 0x040, 1, 4, [0], 0, 0, 3, false⟩,
  ⟨0, 0xF, 0x044, 1, 4, [0x106], 0x1FF77F7, 0, 0, false⟩,
  ⟨0, 0xF, 0x048, 1, 4, [0], 0xFFFFFFFF, 0, 0, false⟩,
  ⟨0, 0xF, 0x04C, 1, 4, [0], 0xFFFFFFFF, 0, 0, false⟩,
  ⟨0, 0xF, 0x050, 1, 4, [0], 0xFFFFFFFF, 0, 0, false⟩,
  ⟨0, 0xF, 0x054, 1, 4, [0], 0xFFFFFFFF, 0, 0, false⟩,
  ⟨0, 0xF, 0x058, 3, 4, [1], 0xFFFFFF, 0, 0, false⟩,
  ⟨0, 0xF, 0x064, 3, 4, [0], 0xFFFFFFFF, 0, 0, false⟩,
  ⟨0, 0xF, 0x070, 3, 4, [0], 0xFFFFFFFF, 0, 0, false⟩,
  ⟨0, 0xF, 0x07C, 1, 4, [0], 0, 0, 0, false⟩,
  ⟨0, 0xF, 0x080, 1, 4, [0], 0, 0, 0, false⟩,
  ⟨0, 0xF, 0x084, 1, 4, [0], 0, 0, 0, false⟩,
  ⟨0, 0xF, 0x088, 1, 4, [0], 0, 0, 0, false⟩,
  ⟨0, 0xF, 0x08C, 1, 4, [0], 0, 0, 0, false⟩,
  ⟨0x10, 0x10, 0x040, 1, 4, [0x14], 0xFF, 0, 0, false⟩,
  ⟨0x10, 0x10, 0x044, 1, 4, [0], 0, 0, 0, false⟩]

/-- Registers of block FLT. -/
def rowsFLT : List RegRow := [
  ⟨0, 5, 0x040, 64, 8, [0], 0xFFFF1F07, 0, 0, true⟩,
  ⟨0, 5, 0x044, 64, 8, [0], 0xFF07FFFF, 0, 0, true⟩,
  ⟨0, 5, 0x240, 2, 4, [0], 0, 0, 0, false⟩,
  ⟨0, 5, 0x248, 2, 4, [0], 0, 0xFFFFFFFF, 0, false⟩,
  ⟨0, 5, 0x250, 2, 4, [0], 0, 0xFFFFFFFF, 0, false⟩,
  ⟨0, 5, 0x258, 2, 4, [0], 0, 0, 0, false⟩,
  ⟨0x10, 0x10, 0x040, 1, 4, [0], 0, 0, 0, false⟩,
  ⟨0x10, 0x10, 0x044, 1, 4, [0x64], 0x3FF, 0, 0, true⟩,
  ⟨0x10, 0x10, 0x048, 1, 4, [0], 0, 0, 0, false⟩,
  ⟨0x10, 0x10, 0x04C, 1, 4, [0], 0xFF, 0, 0, false⟩,
  ⟨0x10, 0x10, 0x050, 1, 4, [0], 0, 0, 0, false⟩,
  ⟨0x10, 0x10, 0x054, 1, 4, [0], 0, 0, 0, false⟩,
  ⟨0x10, 0x10, 0x058, 1, 4, [0], 0, 0, 0, false⟩,
  ⟨0x10, 0x10, 0x060, 16, 4, [0], 0xFF017F7F, 0, 0, true⟩,
  ⟨0x10, 0x10, 0x0A0, 8, 4, [0], 0, 0, 0, false⟩]

/-- Registers of block INT. -/
def rowsINT : List RegRow := [
  ⟨0, 3, 0x040, 128, 4, [0x80], 0x1FFF, 0, 0, false⟩,
  ⟨0, 3, 0x240, 4, 4, [0], 0, 0, 0, false⟩,
  ⟨0, 3, 0x250, 4, 4, [0], 0, 0, 0, false⟩,
  ⟨0x10, 0x10, 0x040, 1, 4, [0], 0x107, 0, 0, false⟩,
  ⟨0x10, 0x10, 0x044, 1, 4, [0], 0, 0, 0xFF, false⟩,
  ⟨0x10, 0x10, 0x048, 1, 4, [0], 0, 0, 0, false⟩,
  ⟨0x10, 0x10, 0x04C, 1, 4, [0], 0, 0, 0, false⟩,
  ⟨0x20, 0x2F, 0x040, 1, 4, [0], 0xFF01F3FF, 0, 0, false⟩,
  ⟨0x20, 0x2F, 0x044, 1, 4, [0], 3, 0, 0, false⟩,
  ⟨0x20, 0x2F, 0x048, 1, 4, [0], 0, 0, 0, false⟩,
  ⟨0x20, 0x2F, 0x04C, 1, 4, [0], 0, 0, 0x1FF, false⟩,
  ⟨0x20, 0x2F, 0x050, 1, 4, [0], 0, 0, 0, false⟩,
  ⟨0x20, 0x2F, 0x054, 1, 4, [0], 0, 0, 0, false⟩]

/-- Registers of block HST. -/
def rowsHST : List RegRow := [
  ⟨0, 0, 0x040, 1, 4, [0], 0, 0, 0, false⟩,
  ⟨0, 0, 0x044, 1, 4, [0], 1, 0, 0, true⟩,
  ⟨0, 0, 0x048, 1, 4, [0], 0xC0000000, 0, 0, false⟩,
  ⟨0, 0, 0x04C, 1, 4, [0], 0xFFFFFFFF, 0, 0, false⟩,
  ⟨0, 0, 0x050, 1, 4, [0], 0, 0, 0, false⟩,
  ⟨0, 0, 0x054, 1, 4, [0], 0, 0, 0, false⟩,
  ⟨0, 0, 0x058, 1, 4, [0], 0, 0, 0, false⟩,
  ⟨0, 0, 0x05C, 1, 4, [0], 0, 0, 0, false⟩,
  ⟨0, 0, 0x060, 1, 4, [0], 0, 0, 0, false⟩]

/-- Registers of block CAS. -/
def rowsCAS : List RegRow := [
  ⟨0, 0, 0x040, 1, 4, [2], 0xF0F03, 0, 0, true⟩,
  ⟨0, 0, 0x044, 1, 4, [0], 0, 0, 3, false⟩,
  ⟨0, 0, 0x048, 1, 4, [0], 0, 0, 0, false⟩,
  ⟨0, 0, 0x04C, 1, 4, [0], 0, 0, 0, false⟩,
  ⟨0, 0, 0x050, 1, 4, [0], 0, 0, 0, false⟩,
  ⟨0, 0, 0x054, 1, 4, [0], 0, 0, 0, false⟩,
  ⟨0, 0, 0x058, 1, 4, [0], 0xFFFFFFFF, 0, 0, true⟩,
  ⟨0, 0, 0x05C, 1, 4, [0], 0, 0, 0, false⟩,
  ⟨0, 0, 0x060, 1, 4, [0], 0, 0, 0, false⟩,
  ⟨0, 0, 0x064, 1, 4, [0], 0, 0, 0, false⟩]

/-- Registers of block PRS. -/
def rowsPRS : List RegRow := [
  ⟨0, 0, 0x040, 1, 4, [0], 0x1FFFF, 0, 0, true⟩,
  ⟨0, 0, 0x044, 1, 4, [0], 0, 0, 0, false⟩,
  ⟨0, 0, 0x048, 1, 4, [0], 0, 0, 0, false⟩]

/-- Registers of block CAL. -/
def rowsCAL : List RegRow := [
  ⟨0, 0, 0x040, 1, 4, [0], 0x3F1F, 0, 0, false⟩,
  ⟨0, 0, 0x044, 1, 4, [0], 0xFFFFFF, 0, 0, false⟩,
  ⟨0, 0, 0x048, 1, 4, [0x10100], 0x1030F, 0, 0, false⟩,
  ⟨0, 0, 0x04C, 1, 4, [0], 0, 0, 0, false⟩,
  ⟨0, 0, 0x050, 1, 4, [0], 0, 0, 0, false⟩,
  ⟨0, 0, 0x054, 1, 4, [0], 0, 0, 1, false⟩,
  ⟨0, 0, 0x058, 1, 4, [0], 0, 0, 0, false⟩,
  ⟨0, 0, 0x060, 8, 4, [0x401002, 0x801, 0x80201, 0x4000001, 0x4000202, 0, 0, 0], 0xFFFFFFFF, 0, 0, true⟩,
  ⟨0, 0, 0x080, 6, 4, [0], 0xFFFFFFFF, 0, 0, true⟩]

/-- Registers of block KPS. -/
def rowsKPS : List RegRow := [
  ⟨0, 0, 0x040, 1, 4, [0], 0xFFF, 0, 0, false⟩,
  ⟨0, 0, 0x044, 1, 4, [0], 0, 0, 0, false⟩,
  ⟨0, 0, 0x048, 1, 4, [0], 0, 0, 0, false⟩,
  ⟨0, 0, 0x04C, 1, 4, [0], 0, 0, 0, false⟩,
  ⟨0, 0, 0x050, 1, 4, [0x2bf20], 0x3FFFF, 0, 0, true⟩,
  ⟨0, 0, 0x054, 1, 4, [0], 0, 0, 0, false⟩]

/-- The registers of a block, by block ID (R363). -/
def blockRows : Nat → List RegRow
  | 0x00 => rowsSYS
  | 0x10 => rowsAPR
  | 0x11 => rowsFST
  | 0x12 => rowsDEC
  | 0x13 => rowsENC
  | 0x14 => rowsFMT
  | 0x15 => rowsCOR
  | 0x18 => rowsFAC
  | 0x19 => rowsCLK
  | 0x1A => rowsBLN
  | 0x01 => rowsSEC
  | 0x16 => rowsATT
  | 0x03 => rowsDBG
  | 0x20 => rowsMOT
  | 0x21 => rowsSTP
  | 0x22 => rowsPGN
  | 0x23 => rowsCTL
  | 0x24 => rowsHVO
  | 0x25 => rowsLUP
  | 0x29 => rowsMNS
  | 0x2A => rowsHTR
  | 0x2B => rowsTMP
  | 0x30 => rowsPWR
  | 0x31 => rowsSEQ
  | 0x32 => rowsFED
  | 0x38 => rowsMEM
  | 0x39 => rowsECC
  | 0x05 => rowsDMA
  | 0x26 => rowsFLT
  | 0x06 => rowsINT
  | 0x04 => rowsHST
  | 0x08 => rowsCAS
  | 0x07 => rowsPRS
  | 0x27 => rowsCAL
  | 0x02 => rowsKPS
  | _ => []

end Sys2Proof.Machine
end

