-- ==== Sys2Proof/Machine/State.lean ====
section
/-! DEFINITION. The state of the block: every register, memory, queue and status the spec gives it, as plain data, and
the queue of commands that wait. A register that software reads as a word stands in `regs`; state that no register
shows, or shows only in part, stands in a structure of its own. -/

namespace Sys2Proof.Machine

/-- Why the machine stops with a fault. -/
inductive Fault where
  /-- Raised by no command: the spec gives every row of the table an effect. Safe. -/
  | none
  deriving DecidableEq, Repr

/-- Why a command has no meaning. -/
inductive Refusal where
  /-- Raised by the dispatcher alone, for a row not modelled yet. Safe. -/
  | notModelled (mnemonic : String)
  deriving DecidableEq, Repr

/-! ### Modes and supplies (spec/01, spec/10) -/

/-- Operating modes (R24). -/
inductive Mode where
  | off | hibernate | boot | config | idle | warmup | ready | print | drain | calibrate | safehold | lockdown
  deriving DecidableEq, Repr

/-- A mode change that runs (R26): its target, whether a host request began it, when, and its SYS_MODE_CAUSE. -/
structure Trans where
  target : Mode
  host : Bool
  began : Nat
  cause : Nat
  deriving DecidableEq, Repr

/-- The mode machine (R24 to R27). -/
structure Sys where
  mode : Mode
  prev : Mode
  trans : Option Trans
  /-- The request held in PEND (R26). -/
  pend : Option Mode
  /-- IDLE held pending in DRAIN (R26). -/
  drainIdle : Bool
  /-- SYS_MODE_STAT.REFUSE. -/
  refuse : Nat
  /-- The mode CALIBRATE was entered from (R25). -/
  calFrom : Mode
  /-- The first SEVERE or CRST source recorded during BOOT (R25, R334). -/
  bootSevere : Option Nat
  /-- Press time at which a device-initiated change last began (R26, first row). -/
  devAt : Option Nat
  /-- When the wait of a CRST reaction began (R334). -/
  crst : Option Nat
  /-- SEQ powers up toward BOOT: since when it waits for the main supplies (R288). -/
  mainWait : Option Nat
  /-- SEQ powers up from HIBERNATE or OFF (R288). -/
  waking : Bool
  /-- HIB_WAKE_N is low while an entry to HIBERNATE runs (R26). -/
  wakeHeld : Bool
  /-- The first domain that the change running switched: when, its position, and whether on (R269). -/
  domAt : Option (Nat × Nat × Bool)
  deriving DecidableEq, Repr

/-- Balls sampled or driven at the level of the whole device. -/
structure Balls where
  /-- MSTRAP_6 to MSTRAP_0; none when the samples disagree (R296, R409). -/
  mstrap : Option (BitVec 7)
  /-- CASEN; none when the samples disagree. -/
  casen : Option Bool
  /-- CNODE_5 to CNODE_0; none when the samples disagree. -/
  cnode : Option (BitVec 6)
  /-- Levels last seen on GIO_0 to GIO_127. -/
  gio : BitVec 128
  /-- WAKE_N held low (R349, R350). -/
  wakeN : Bool
  /-- VSTBY valid (R267). -/
  vstby : Bool
  deriving DecidableEq, Repr

/-- State in AON retention flops beside the registers (R17, R283, R335). -/
structure Aon where
  /-- The LOCKDOWN latch (R335). -/
  lockdown : Bool
  /-- The LMEM fill-complete flag (R306). -/
  fillDone : Bool
  /-- A loss of the main supplies to be raised as F_283 at the next BOOT (R290). -/
  lossSeen : Bool
  /-- VSTBY came up since the rail logs were last loaded (R283: a BOOT from OFF). -/
  fromOff : Bool
  deriving DecidableEq, Repr

/-- One supervised rail's hidden state (R281, R283). -/
structure Rail where
  /-- Scans in a row between the warning levels. -/
  runGood : Nat
  /-- Scans in a row beyond a warning level but no fault level. -/
  runWarn : Nat
  /-- Scans in a row beyond a fault level. -/
  runFault : Nat
  /-- GOOD since EN was last asserted. -/
  beenGood : Bool
  /-- Counts changed since the last commit. -/
  changed : Bool
  /-- Press time of the last commit. -/
  commitAt : Nat
  deriving DecidableEq, Repr

/-- What SEQ's running step waits for (R286, R289). -/
inductive SeqWait where
  /-- The next step may start. -/
  | ready
  /-- A timed wait runs; SEQ_WAIT_EXPIRE ends it. -/
  | timer
  /-- A CHECK waits for its condition. -/
  | check
  /-- A barrier waits for SEQSYNC. -/
  | barrier
  deriving DecidableEq, Repr

/-- Why SEQ runs down scopes (R288): what follows when all are OFF. -/
inductive SeqAfter where
  | none | hibernate | crst | lockdown
  deriving DecidableEq, Repr

/-- The sequencer's hidden state (R286 to R291); the rest stands in SEQ_STAT, SEQ_SCOPE and SEQ_ALT. -/
structure Seq where
  wait : SeqWait
  /-- The running DN program's first step has started (R288). -/
  begun : Bool
  /-- When the running program was requested. -/
  reqAt : Nat
  /-- STATE when the aborted UP program began (R289). -/
  state0 : Nat
  /-- A barrier of this DN program has timed out (R289). -/
  barTimeout : Bool
  /-- SEQSYNC is released after an advance and will be pulled low again (R289); and when it advanced. -/
  repull : Bool
  passAt : Nat
  /-- When the step that waits began to wait (R286). -/
  waitAt : Nat
  /-- The scope last asked on, and when (R291). -/
  onAt : Option (Nat × Nat)
  /-- Scopes asked on in the cycle that asked them off: taken after the DN program (R291). -/
  heldOn : List Nat
  after : SeqAfter
  deriving DecidableEq, Repr

/-- One feed supervisor's hidden state (R273 to R280); the rest stands in its FED page. -/
structure Fed where
  /-- The token is held (R275). -/
  token : Bool
  /-- A HANDOFF is owed once the switch is seen off, and the state entered then. -/
  giving : Option Nat
  /-- When this supervisor last sent CLAIM: a CLAIM received while that one is under way crosses it (R275). -/
  claimAt : Option Nat
  /-- VIN_OK in the last message received. -/
  otherVinOk : Bool
  /-- Acknowledged RENEWs in a row while in SYNC (R278). -/
  acks : Nat
  /-- The fault cause is cleared as far as VIN goes (REPAIR_T passed). -/
  repaired : Bool
  /-- CLR was written since the fault (R278). -/
  clr : Bool
  /-- When a valid message last arrived, or the supervisor started; and when RENEW was last sent (R275, R276). -/
  heardAt : Nat
  sentAt : Nat
  deriving DecidableEq, Repr

/-! ### Keep store and calibration (spec/14) -/

/-- A queued keep-store write (R385). -/
structure KeepWrite where
  word : Nat
  value : Word
  deriving DecidableEq, Repr

/-- The keep store (R384 to R386): values, wear, warned and unreadable words, and the write queue. -/
structure Keep where
  words : Sparse Word
  wear : Sparse Nat
  warned : List Nat
  bad : List Nat
  queue : List KeepWrite
  deriving DecidableEq, Repr

/-- A calibration record (R388): torn when its MAGIC or CRC is not good. -/
structure CalRec where
  typ : Nat
  inst : Nat
  gen : Nat
  time : Nat
  key : List Byte
  data : List Byte
  torn : Bool
  deriving DecidableEq, Repr

/-- One bank of the calibration store (R387): its EPOCH when sealed, and its records in order of appending. -/
structure CalBank where
  epoch : Option Nat
  recs : List CalRec
  deriving DecidableEq, Repr

/-- One instance's part of a calibration run (R393): pairs run so far and, once it is over, its result code. -/
structure CalJob where
  kind : Nat
  inst : Nat
  pairs : Nat
  deriving DecidableEq, Repr

/-- The calibration store and the run in progress (R387 to R397). -/
structure Cal where
  bankA : CalBank
  bankB : CalBank
  jobs : List CalJob
  /-- The store failed in this run: nothing further is stored (R396). -/
  storeErr : Bool
  /-- Trims in force that no register shows: (TYPE, INST) numbered `TYPE * 256 + INST`, with the record's DATA. -/
  trims : List (Nat × List Byte)
  /-- Stations whose identity read has completed since BOOT (R389). -/
  idChecked : List Nat
  /-- When the last record write began, and whether it compacted the store (R387, R396). -/
  wrote : Option (Nat × Bool)
  deriving DecidableEq, Repr

/-! ### Faults and interrupts (spec/12) -/

/-- A fault record (R337). -/
structure FltRec where
  source : Nat
  cls : Nat
  esc : Bool
  wire : Bool
  root : Bool
  storm : Bool
  node : Nat
  react : Nat
  count : Nat
  tag : Nat
  tFirst : Nat
  tLast : Nat
  nodes : BitVec 64
  deriving DecidableEq, Repr

/-- A storm window at the head (R338): its tag, when it opened, and the records that fell into it. -/
structure Storm where
  tag : Nat
  opened : Nat
  recs : List FltRec
  deriving DecidableEq, Repr

/-- The fault collector's hidden state (R327 to R339); the rest stands in the FLT pages. -/
structure Flt where
  /-- Sources whose pair is asserted at the collector's input by their block. -/
  pair : List Nat
  /-- Sources that read WIRE now (R328). -/
  wireNow : List Nat
  /-- The last 256 records by slot (R337). -/
  log : Sparse FltRec
  /-- Report times that count toward escalation: (source, press time) (R336). -/
  counts : List (Nat × Nat)
  storms : List Storm
  /-- Sources for which this device drives FAULT_N, (R333). -/
  drivers : List Nat
  /-- External inputs whose filter runs: they read clear until it ends (R329). -/
  xinFilt : List Nat
  /-- When an input's balls last changed, or its filter last restarted, in press time (R329). -/
  xinAt : Sparse Nat
  /-- The 1 µs minimum hold of FAULT_N has passed; and the press time of the last report that drove it (R333). -/
  fnHeld : Bool
  fnAt : Nat
  deriving DecidableEq, Repr

/-- One interrupt target's hidden state (R347 to R349). -/
structure Tgt where
  /-- Sources claimed here and not completed, newest first, each with its group. -/
  stack : List (Nat × Nat)
  /-- No message before this time (R347). -/
  heldTill : Nat
  /-- A pin target's ball is low (R346). -/
  pinLow : Bool
  /-- The last message was sent for this source and is not claimed yet. -/
  sentFor : Option Nat
  /-- A pass since has found that source not deliverable here: when it waits again, that is a new occasion. -/
  lapsed : Bool
  deriving DecidableEq, Repr

/-- The interrupt controller's hidden state; source state stands in INT_SRC. -/
structure Ints where
  tgts : Sparse Tgt
  /-- Level sources whose input is high, as last taken (R344). -/
  high : List Nat
  /-- Level inputs frozen at entry to HIBERNATE (R350). -/
  frozen : Bool
  /-- MSI-X Function Mask in configuration space (R346, R355). -/
  fnMask : Bool
  deriving DecidableEq, Repr

/-! ### Host link and cascade (spec/13) -/

/-- A cascade packet (R370). -/
structure Packet where
  typ : Nat
  dst : Nat
  src : Nat
  hseq : Nat
  reflected : Bool
  cls : Nat
  hops : Nat
  tag : Nat
  data : List Byte
  deriving DecidableEq, Repr

/-- One cascade port (R371). -/
structure Port where
  /-- Packets sent and not yet acknowledged, oldest first: at most 32. -/
  unacked : List Packet
  /-- Packets waiting to be sent, in order. -/
  queue : List Packet
  hseqTx : Nat
  hseqRx : Nat
  /-- Resends of the last second: press time and number (F_329, R379). -/
  resends : List (Nat × Nat)
  deriving DecidableEq, Repr

/-- A BAR 4 read waiting for its RDR (R374). -/
structure RemoteRead where
  tag : Nat
  node : Nat
  off : Nat
  /-- Bytes of the register it asks for (R6). -/
  be : BitVec 4
  at_ : Nat
  deriving DecidableEq, Repr

/-- The cascade's hidden state (R368 to R377). -/
structure Cas where
  portA : Port
  portB : Port
  /-- This node's DISC nonce (R373). -/
  nonce : Nat
  /-- Missing DISC intervals in a row, per node present (R373). -/
  missing : Sparse Nat
  /-- When the last LEASE arrived; when this node last broadcast DISC, and LEASE, and sent TSREQ (R373, R377). -/
  leaseAt : Nat
  discAt : Nat
  leaseSent : Nat
  tbAt : Nat
  /-- LSEQ this node sends as head. -/
  lseq : Nat
  /-- Pairs (TYPE, SRC, OSEQ) and triples (SRC, TAG, SEQ) already delivered (R371). -/
  seen : List (Nat × Nat × Nat)
  /-- OSEQ this node last used. -/
  oseq : Nat
  /-- Entries sent on ring 28 and on ring 29 (R375). -/
  sent28 : Nat
  sent29 : Nat
  /-- Ring-wide writes out: OSEQ, and copies still to return (R367). -/
  ringOut : List (Nat × Nat)
  reads : List RemoteRead
  /-- Exchanges in a row with |θ| at most 2 ns (R377). -/
  tbGood : Nat
  /-- t1 of the exchange that runs, in 31.25 ps. -/
  tsT1 : Nat
  /-- Still to be slewed, in 1/65,536 ns (signed). -/
  slew : Int
  /-- The timebase master this node follows; none while its island has not chosen one. -/
  master : Option Nat
  /-- Nodes whose DISC showed them in UP while this one was in DISC: they belong to an island that has a master. -/
  upSeen : List Nat
  /-- An island in UP has joined this node's, which has no head: the head's time is adopted at its LEASE (R380). -/
  merging : Bool
  /-- A step is still allowed: the node is joining (R377). -/
  joining : Bool
  /-- The timebase parent is the neighbour on port B. -/
  parentB : Bool
  /-- Hops to each node as its last DISC on port A, and on port B, showed; 64 = none. -/
  hopsA : Sparse Nat
  hopsB : Sparse Nat
  /-- A port has trained since BOOT: discovery runs (R373). -/
  trained : Bool
  deriving DecidableEq, Repr

/-! ### LMEM and DMA (spec/11) -/

/-- An entry of the correctable table (R312). -/
structure EccEntry where
  addr : Nat
  rank : Nat
  channel : Nat
  /-- Device corrected last; 0x1F = more than one. -/
  device : Nat
  hits : Nat
  deriving DecidableEq, Repr

/-- ECC's hidden state (R305, R310, R312). -/
structure Ecc where
  /-- Corrected codewords per device: (channel × 2 + rank) × 32 + device. Since BLK_RST, and in this window. -/
  total : Sparse Nat
  window : Sparse Nat
  /-- Press time at which the present window began (R305). -/
  windowAt : Nat
  /-- The correctable table, by entry number. -/
  table : Sparse (Option EccEntry)
  /-- TBL_FULL has been raised since the table was emptied. -/
  fullSaid : Bool
  /-- Codeword addresses marked poisoned and not yet handed to FST (R310). -/
  handed : List Nat
  /-- Codewords whose read failed for parity in the read now served (R299). -/
  parity : List Nat
  deriving DecidableEq, Repr

/-- A DMA channel's hidden state (R315 to R321); the rest stands in its page. -/
structure Dma where
  /-- The next element to issue. -/
  next : Nat
  /-- Elements of the burst whose read completion, or whose write answer, is awaited. -/
  reading : Nat
  writing : Nat
  /-- Where in LMEM, or in host memory, the burst in flight is written: address and bytes. -/
  dst : Nat × Nat
  /-- Stopping code to be reported once every response is in (R321). -/
  stopping : Nat
  /-- The request was withdrawn in the burst that runs (R318). -/
  withdrawn : Bool
  /-- The request has been sampled and no burst issued for it yet. -/
  asked : Bool
  deriving DecidableEq, Repr

/-- ENC's hidden state (R88 to R92). -/
structure Enc where
  /-- Bytes the input port has taken and no band has used. -/
  port : List Byte
  /-- The history line of each column. -/
  hist : Sparse (List Nat)
  /-- A SAVE waits for the next band boundary. -/
  saveReq : Bool
  /-- A job has run since BLK_RST. -/
  ran : Bool
  /-- The Loupe buffer whose job runs, and those that wait. -/
  loupe : Option Nat
  loupeReq : List Nat
  deriving DecidableEq, Repr

/-- A checkpoint commit under way (R163): the receipt it records, where it does; the CEIL it raises to, where it does; and
CLEAN. -/
structure Ckpt where
  head : Option (Nat × List Byte)
  ceil : Option Nat
  clean : Bool
  deriving DecidableEq, Repr

/-- ATT's hidden receipt state (spec/06). -/
structure Att where
  /-- Checkpoint commits under way, oldest first (R163). -/
  ckpts : List Ckpt
  /-- A commit has failed since BOOT (R175). -/
  ckptFailed : Bool
  /-- The next counter, and whether the receipt that takes it carries GAP or the genesis link (R164). -/
  next : Nat
  gapNext : Bool
  genNext : Bool
  /-- Digest of the body of the receipt before the next one (R162). -/
  prev : List Byte
  /-- Contexts whose receipts are to be written, in counter order (R157). -/
  queue : List Nat
  /-- Receipts written and not yet consumed or superseded: counter, audit ring, slot, and digest of the body (R163). -/
  written : List (Nat × Nat × Nat × List Byte)
  /-- The receipt last consumed, in this BOOT or before: counter, and digest of its body, which is zeros where none has
  been. -/
  consumed : Nat × List Byte
  /-- The first receipt after BOOT has been written. -/
  firstDone : Bool
  /-- The evidence area is protected: ATT_EVID has been written since BOOT (R160). -/
  evidSet : Bool
  /-- SEC reseeds and retries for a sound k (R175). -/
  retrying : Bool
  deriving DecidableEq, Repr

/-- SEC commands that run on after the write of SEC_CMD (R166, R171). -/
inductive SecOp where
  | provision | commission | ret | reprovision | opn
  deriving DecidableEq, Repr

/-- The TAP (R172): its instruction register, and whether the safety cells hold their inactive values in EXTEST. -/
structure Tap where
  ir : Nat
  safe : Bool
  deriving DecidableEq, Repr

/-- SEC's and DBG's hidden state (R166, R167, R171, R178). -/
structure Sec where
  /-- The nonce in SEC_NONCE is live. -/
  nonce : Bool
  /-- The command that runs, and whether it came over the TAP. -/
  cmd : Option (SecOp × Bool)
  tap : Tap
  /-- Internal words that the debug window has stored, by address. -/
  win : Sparse (Option Word)
  /-- K and V of the HMAC_DRBG (R2). -/
  drbgK : List Byte
  drbgV : List Byte
  deriving DecidableEq, Repr

/-- A line as CLK places it: press time of pixel 0 in 31.25 ps, the pixel frequency in 10^-5 × 2^-23 MHz, and the polygon
facet (R130, R132). -/
structure PixLine where
  t0 : Nat
  freq : Nat
  facet : Nat
  deriving DecidableEq, Repr

/-- What leaves the device and no register keeps: messages, columns and packets, in order of leaving. -/
inductive Emit where
  /-- An MSI-X message: vector (R345). -/
  | msix (vector : Nat)
  /-- A PCIe PME message (R349). -/
  | pme
  /-- A packet handed to a cascade port (`true` = B). -/
  | packet (b : Bool) (p : Packet)
  /-- A facet packet (R140): its SEQ, bytes 1 to 6 of FSTART, MASK, data blocks in transmit order without padding, FEND's
  CRC, and the line it is paced to (R141). What travels on each lane follows from it in Sys2Proof/Machine/Lanes.lean. -/
  | facet (stn seq : Nat) (fstart : List Byte) (mask : Nat) (blocks : List (List Byte)) (crc : Nat) (line : Option PixLine)
  /-- A column of another control block on every lane of a station: its type and bytes 1 to 6 (R139). -/
  | control (stn typ : Nat) (payload : List Byte)
  /-- A line starts on PXO_n: its start-of-line mark and pixel clock (R132). -/
  | line (stn : Nat) (l : PixLine)
  /-- A feed message of supervisor n (R275). -/
  | fedMsg (n : Nat) (word : Word)
  /-- Memory write TLPs with EP set: a DMA channel writes host memory from a poisoned source (R311). -/
  | epWrite (a n : Nat)
  /-- An AER report (R360): 0 poisoned TLP, 1 completion timeout, 2 internal error. -/
  | aer (kind : Nat)
  deriving DecidableEq, Repr

/-- What the last access that returns data returned: one register's word; and the bytes of a narrower or wider access, or
of a memory read, lowest address first. -/
structure Reply where
  word : Word
  bytes : List Byte
  /-- Read completion marked poisoned (EP, R311). -/
  poisoned : Bool
  deriving DecidableEq, Repr

/-- W1C bits that hardware has set in the clock cycle of press time `at_`, by register (R13). -/
structure Fresh where
  at_ : Nat
  bits : Sparse Word
  deriving DecidableEq, Repr

/-! ### Rings (spec/02) -/

/-- The 64-record queue and the 144-record store of R40, each in order of arrival, with each record's ring. -/
structure RingQ where
  queue : List (Nat × List Byte)
  store : List (Nat × List Byte)
  deriving DecidableEq, Repr

/-! ### Frame store (spec/03) -/

/-- A plane record (R62, R64, R65). -/
structure PlaneRec where
  /-- LMEM address of the block index. -/
  addr : Nat
  bad : Bool
  /-- The context that holds it. -/
  ctx : Option Nat
  station : Nat
  plane : Nat
  bpp : Nat
  width : Nat
  length : Nat
  nTables : Nat
  nBlocks : Nat
  serial : Nat
  tables : Nat
  k : Nat
  /-- Extents: base address and size in bytes. -/
  extents : List (Nat × Nat)
  nRes : Nat
  nPoison : Nat
  nHdrerr : Nat
  missing : Nat
  deriving DecidableEq, Repr

/-- An unopened index claimed at STAGE (R65): its address and context; it is opened in the background (R64). -/
structure Claim where
  addr : Nat
  ctx : Nat
  deriving DecidableEq, Repr

/-- A block found by a poison resolution and not yet handed to the Aperture (R68): its context and its address. -/
structure Hit where
  ctx : Option Nat
  addr : Nat
  deriving DecidableEq, Repr

/-- FST's hidden state. -/
structure Fst where
  recs : Sparse (Option PlaneRec)
  claims : List Claim
  hits : List Hit
  /-- The image ring served last, for the round robin of R62. -/
  lastRing : Nat
  deriving DecidableEq, Repr

/-! ### Frames (spec/02, spec/06) -/

/-- Context states (R28). -/
inductive CtxSt where
  | free | staged | admitted | exposing | exposed | fused | delivered | spoiled | retired
  deriving DecidableEq, Repr

/-- What one station exposed of a frame (R104, R158 to R160). -/
structure Expo where
  /-- Digests of the lines that are not wholly dark, by line. -/
  digs : Sparse (List Byte)
  /-- Lines of the station that passed under the beam. -/
  lines : Nat
  /-- Digest of the correction bank active for the frame. -/
  bank : List Byte
  /-- The station root, once closed. -/
  root : Option (List Byte)
  /-- The next band DEC has to begin for the frame at this station. -/
  nextBand : Nat
  deriving DecidableEq, Repr

/-- A frame context (R28 to R35, R49 to R54). Sets of stations are bit masks. -/
structure Ctx where
  st : CtxSt
  /-- The stored descriptor, 256 bytes. -/
  desc : List Byte
  /-- First spoil cause, the fault source it came from, and the facet each station was in when it struck (R49, R54). -/
  cause : Nat
  causeSrc : Nat
  causeFacets : List Nat
  /-- Mask of the last DENY or REVOKE. -/
  reason : Nat
  degraded : Bool
  lost : Bool
  /-- APR.LOST waits for the receipt (R54), with the cause it will carry. -/
  lostPend : Option Nat
  /-- Place in the order of admission. -/
  order : Nat
  /-- Stations whose span is open or has been (R419), that have passed their last line, that write the rest of the
  frame dark, and at which decode has begun (R30). -/
  opened : Nat
  done : Nat
  dark : Nat
  begun : Nat
  /-- The device has stopped exposing the frame (R51). -/
  stopped : Bool
  /-- A line has been exposed on some station. -/
  exposedAny : Bool
  tFirst : Nat
  tEnd : Nat
  /-- Event-ring slots still reserved (R40). -/
  evRsv : Nat
  /-- The outcome is final: the receipt's counter, and whether it carries GAP (R157, R164). -/
  counter : Option Nat
  gap : Bool
  genesis : Bool
  /-- Slot of the receipt in its audit ring, and whether the head has passed it. -/
  rcpt : Option Nat
  passed : Bool
  expo : Sparse Expo
  deriving DecidableEq, Repr

/-- The Aperture's hidden state: serials admitted since BOOT and not revoked (R52), and the next admission number. -/
structure Apr where
  serials : List Nat
  order : Nat
  deriving DecidableEq, Repr

/-! ### The loaded bundle (spec/06) -/

/-- A section of the loaded bundle (R168). -/
structure Section where
  typ : Nat
  id : Nat
  station : Nat
  offset : Nat
  length : Nat
  digest : List Byte
  deriving DecidableEq, Repr

/-- The loaded bundle and the load that runs (R168 to R170). -/
structure Bundle where
  ok : Bool
  enc : Bool
  digest : List Byte
  sections : List Section
  /-- FUS_BASE_c in W and FUS_GSM_c in 0.1 W per g/m², by class. -/
  fusBase : List Nat
  fusGsm : List Nat
  /-- Control laws by number, the fault policy and the calibration limits, as the sections hold them. -/
  laws : Sparse (List Byte)
  faultPol : List Byte
  calLim : List Byte
  /-- REGS pairs deferred to the entry into CONFIG (R270). -/
  deferred : List (Nat × Word)
  /-- A load runs: from flash (none), or pushed from the LMEM address. -/
  loading : Option (Option Nat)
  /-- The flash's sampling delay that BOOT has chosen, in 0.25 ns; none where no setting reads the signature (R410). -/
  delay : Option Nat
  deriving DecidableEq, Repr

/-! ### Stations (spec/04, spec/05) -/

/-- A slot of the line store: the line at one line coordinate of the station, merged, with the frame it was decoded for, in
the landing buffer or in band memory (R83, R96, R101). -/
structure Slot where
  line : Int
  ctx : Nat
  /-- The frame's place in the order of admission. -/
  frame : Nat
  /-- Band memory, not the landing buffer. -/
  band : Bool
  px : List Nat
  deriving DecidableEq, Repr

/-- One facet's demand, in levels: of the array, and of each emitter (R115), as charged (R117). -/
structure Duty where
  arr : Nat
  emi : List Nat
  deriving DecidableEq, Repr

/-- DEC's history of one column of one plane: the band it follows, and that band's line 47 (R79). -/
structure Hist where
  /-- The frame, by its place in the order of admission. -/
  frame : Nat
  band : Nat
  pixels : List Nat
  deriving DecidableEq, Repr

/-- FMT and DEC of a station. -/
structure Fmt where
  /-- Facet boundaries that have fallen. -/
  facetNo : Nat
  /-- N_k and N_pos, in transport lines less the station's distance (R98). -/
  base : Int
  npos : Int
  /-- The previous facet wrote an output line of some frame. -/
  wrote : Bool
  /-- MASK of the present facet, the emitters of it that are lit, and the frames whose lines it writes. -/
  mask : Nat
  lit : Nat
  facetCtx : List Nat
  /-- The frames to which the present facet belongs (R112). -/
  owners : List Nat
  /-- What the present facet writes: emitter, context, line of the frame. -/
  writes : List (Nat × Nat × Nat)
  /-- Governor factors of the present facet, by emitter. -/
  gov : List Nat
  /-- Pattern offset d_j of the present facet. -/
  offset : Int
  /-- First pixel of the present facet forced dark by a cut. -/
  cutPix : Option Nat
  /-- The line store (R96). -/
  slots : List Slot
  duty : List Duty
  /-- Bands DEC is at work on, in order: context and band (R82, R83). -/
  decoding : List (Nat × Nat)
  /-- Press times at which DEC's sixteen lanes are free, in ns (R82). -/
  lanes : List Nat
  hist : Sparse Hist
  /-- The array state last passed by TMP (R116): 0 NORMAL, 1 WARNING, 2 LIMIT, 3 ABSOLUTE. -/
  arrState : Nat
  /-- LIMIT has reached FMT and waits for the facet boundary. -/
  limitPend : Bool
  /-- Class of the frame spoiled OVERSPEED for which SPEED_HOLD stands (R201). -/
  holdClass : Nat
  deriving DecidableEq, Repr

/-- FAC and CLK of a station. -/
structure Fac where
  /-- Last timestamp, in 31.25 ps. -/
  ts : Nat
  /-- Periods taken, newest first, each with its facet number j. -/
  periods : List (Nat × Nat)
  /-- BD_OK has been set since BOOT. -/
  everOk : Bool
  /-- Periods since the last whole revolution was scored. -/
  sinceRev : Nat
  /-- The rotation last found as candidate, and how many revolutions in a row gave it. -/
  cand : Nat
  candRuns : Nat
  /-- Revolutions in a row without the current rotation as candidate. -/
  missRevs : Nat
  /-- Periods in a row outside LOCK_TOL. -/
  outRun : Nat
  /-- Writes of FAC_START and FAC_FACET held until a facet of no frame (R135): page offset and value. -/
  held : List (Nat × Word)
  /-- The class change's deadline has passed without lock (R133). -/
  relockFail : Bool
  /-- The synthesizer's phase, in 2^-23 of a cycle, at a press time in 31.25 ps (R129, R130). -/
  phase : Nat
  phaseAt : Nat
  /-- The line of the present facet, once its beam detect has placed pixel 0 (R130). -/
  line : Option PixLine
  deriving DecidableEq, Repr

/-- BLN of a station. -/
structure Bln where
  /-- A retrain is held until no frame uses the station (R146). -/
  retrainHeld : Bool
  /-- When AUTO last retrained. -/
  autoAt : Option Nat
  /-- Laser-dark requests in force (R144): fault sources, and 0x200 for loss of lock. -/
  dark : List Nat
  /-- Identity memory as read so far, whether the read has failed or timed out, and the UNIT_ID last read since BOOT
  (R149). -/
  idMem : List Byte
  idFailed : Bool
  unitSeen : Option (List Byte)
  /-- Last APC reading of each emitter since the link came UP (R154). -/
  apc : Sparse Word
  apcNext : Nat
  /-- Back-channel blocks rejected in this facet period (R150). -/
  bcErrs : Nat
  /-- The present facet's beam detect has reached BLN (R141). -/
  bdSeen : Bool
  /-- Facets sent: SEQ, and the frames whose lines it carried (R150). -/
  sent : List (Nat × List Nat)
  deriving DecidableEq, Repr

/-- COR of a station: node words of both banks (bank × 65,536 + node), their digests, and the load that runs. -/
structure Cor where
  nodes : Sparse Word
  dig0 : List Byte
  dig1 : List Byte
  /-- Bank and set being loaded (R111). -/
  loading : Option (Nat × Nat)
  deriving DecidableEq, Repr

/-- A station. -/
structure Stn where
  fmt : Fmt
  fac : Fac
  bln : Bln
  cor : Cor
  deriving DecidableEq, Repr

/-! ### Motion, loops and high voltage (spec/07, spec/08) -/

/-- Why a commutation channel is in BRAKE (R186). -/
inductive BrakeFor where
  | catch | stop | command
  deriving DecidableEq, Repr

/-- An input behind its glitch filter: the filtered level, and KCLK samples in a row that differed from it (R193). -/
structure Filt where
  level : Bool
  run : Nat
  deriving DecidableEq, Repr

/-- The inputs of an encoder channel, the counts since the last index pulse, and the spacing learned from the first two
(R193). -/
structure Quad where
  a : Filt
  b : Filt
  z : Filt
  sinceIdx : Option Int
  spacing : Option Nat
  /-- The count at which the rotor was aligned. -/
  zero : Nat
  deriving DecidableEq, Repr

/-- A commutation channel's hidden state (R182 to R195); the rest stands in its MOT page. -/
structure Mot where
  /-- An encoder channel has aligned its rotor since enable (R193). -/
  aligned : Bool
  braking : BrakeFor
  /-- STOPPING, or COAST out of it, followed a failure of R180 (R188, R190). -/
  failed : Bool
  /-- COAST was entered from STOPPING: no re-catch (R190). -/
  released : Bool
  /-- Speed at the loss, in 1/16 rpm (R189). -/
  lossSpeed : Nat
  /-- Time of the last back-EMF crossing, in ns. -/
  last : Option Nat
  /-- The last crossing intervals in ns, newest first, at most six (R184). -/
  gaps : List Nat
  /-- Six times the last differences between actual and predicted crossing times, newest first, at most six. -/
  errs : List Nat
  /-- Crossings in a row with LOCKQ at LOCK_ON or above, and with LOCKQ below LOSS_Q. -/
  good : Nat
  low : Nat
  /-- Line position of an encoder channel in 2^-28 lines (R195). -/
  lpos : Int
  /-- Electrical angle A_j at the beam detect of facet j, as averaged; none before the first (R191). -/
  angles : Sparse (Option Nat)
  /-- When the present state was entered, in ns (R180, R187 to R190). -/
  since : Nat
  /-- The sector of 60° the rotor is in, as the last crossing showed it, and when the observer commutates (R184). -/
  sector : Nat
  comAt : Nat
  /-- The encoder's inputs and index (R193). -/
  quad : Quad
  /-- Excitation periods in a row with an amplitude out of range, and the resolver's angle (R194). -/
  ampBad : Nat
  resolver : Nat
  /-- The velocity an encoder channel published last, in 1/65,536 line per second, and when (R196). -/
  pubVel : Int
  pubAt : Nat
  deriving DecidableEq, Repr

/-- A profile generator's hidden state (R198 to R201). -/
structure Pgn where
  /-- Velocity in 10^-12 counts/s. -/
  vel : Int
  /-- Change of velocity in the last update, in the same unit. -/
  acc : Int
  /-- Position below PGN_POS's last bit, in 10^-18 of it. -/
  rem : Nat
  /-- Target of the move that runs, and the queued one, in counts. -/
  target : Int
  queued : Int
  /-- Velocity a homing phase drives the generator to, in counts/s (R208). -/
  drive : Option Int
  /-- STOP has been taken in velocity mode and PGN_VTGT not written since. -/
  held : Bool
  /-- The move that runs is a position move though MODE is velocity: homing's back-off (R208). -/
  seek : Bool
  /-- The velocity target a class change has set, until PGN_VTGT is written (R133). -/
  classV : Option Int
  deriving DecidableEq, Repr

/-- A stepper channel's hidden state (R180, R203, R205). -/
structure Stp where
  /-- Switches that caused its fault. -/
  faultSw : List Nat
  /-- When STILL was set: the current ramps from there. -/
  stillAt : Nat
  /-- When the chopper's offsets last moved. -/
  ofsAt : Nat
  deriving DecidableEq, Repr

/-- History of one biquad section: x1, x2, y1, y2 in Q1.15 (R216). -/
structure Biq where
  x1 : Int
  x2 : Int
  y1 : Int
  y2 : Int
  deriving DecidableEq, Repr

/-- A loop slot's hidden state (R216, R223). -/
structure Ctl where
  /-- Integrator, Q10.30. -/
  i : Int
  dst : Int
  yPrev : Int
  /-- PID-stage output of the previous sample. -/
  uPid : Int
  hist : List Biq
  /-- Press time of the write that set PEND. -/
  swapAt : Nat
  /-- The sample instant last taken (R213). -/
  sampAt : Option Nat
  deriving DecidableEq, Repr

/-- A high-voltage output's hidden state (R227 to R230). -/
structure Hvo where
  /-- NCO phase, and the press time at which it stood there. -/
  phi : Nat
  phiAt : Nat
  /-- Measurement periods in a row with I above ILIM; I of the last period. -/
  ocRun : Nat
  lastI : Option Int
  /-- Demand from which the ramp-down runs, and when it began; none while a stage-2 output waits for stage 1. -/
  rampFrom : Nat
  rampAt : Option Nat
  /-- The output ramps with its stage, not alone. -/
  staged : Bool
  /-- Duty of the carrier period that runs, in 1/32,768 (R227). -/
  duty : Nat
  deriving DecidableEq, Repr

/-- A heater's hidden state (R249 to R255). Fractions of full power are in 1/32,767. -/
structure Htr where
  /-- Cycles of the burst window passed, and cycles of it to fire. -/
  win : Nat
  k : Nat
  /-- Carry, in 1/32,767 of a cycle. -/
  carry : Int
  /-- Fraction now fired, as the flicker account has charged it. -/
  cur : Nat
  /-- Misses in a row of the current check. -/
  miss : Nat
  /-- Cycles in a row for which a change has been postponed. -/
  post : Nat
  /-- Since when saturation is reported. -/
  satAt : Option Nat
  /-- Predicted crossing at which the burst that is fired began (R250). -/
  onAt : Nat
  deriving DecidableEq, Repr

/-- A flicker charge: phase, press time, and t_f in ns (R255). -/
structure Charge where
  ph : Nat
  at_ : Nat
  tf : Nat
  deriving DecidableEq, Repr

/-- The heater scheduler's hidden state (R246, R254, R255, R259). -/
structure Sched where
  charges : List Charge
  /-- Full cycles still to be suppressed after a resync. -/
  suppress : Nat
  /-- The heater whose lone change on phase 0 is being measured, and the one-cycle RMS current before it. -/
  probe : Option (Nat × Nat)
  /-- When the throttle was requested, and since when every trigger is clear in ENFORCED. -/
  thrAt : Nat
  clearAt : Option Nat
  deriving DecidableEq, Repr

/-- A voltage event in progress (R244): start, half-cycles, and the residual voltage. -/
structure VEvt where
  start : Nat
  dur : Nat
  resid : Nat
  deriving DecidableEq, Repr

/-- The mains monitor's hidden state (R243 to R247). -/
structure Mns where
  /-- Time and direction (`true` = positive-going) of the last crossing taken, in COAST of the last one predicted; and half
  a period in ns. -/
  last : Option (Nat × Bool)
  half : Nat
  /-- Times of the last positive-going and negative-going crossings taken. -/
  posAt : Option Nat
  negAt : Option Nat
  /-- Consecutive valid crossings in SEARCH. -/
  valid : Nat
  /-- Half-cycles in COAST, and the first crossing of a return. -/
  coast : Nat
  cand : Option (Nat × Bool)
  /-- Phase still to be slewed, in 0.01°: the prediction runs ahead of the measured phase by it. -/
  slew : Int
  /-- The last positive-going crossing met, of which fcyc counts (R243). -/
  fcycAt : Option Nat
  /-- The predicted crossing from which firing counts in the present half-cycle (R249). -/
  fireAt : Nat
  /-- U10 of the windows of the last AWIN, newest first, with the time each ended. -/
  wins : List (Nat × Nat)
  /-- Last time in SEARCH or LOST. -/
  badAt : Option Nat
  dip : Option VEvt
  intr : Option VEvt
  swell : Option VEvt
  /-- The dip in progress has reached the interruption threshold; and its interruption, once recorded. -/
  merged : Bool
  gone : Option VEvt
  deriving DecidableEq, Repr

/-- A temperature page's hidden state (R256 to R258). -/
structure Tmp where
  /-- Sound values of a TS channel, newest first, with their times: as far back as RWIN. -/
  hist : List (Nat × Int)
  /-- A rate-of-rise fault, and a sensor fault, is present. -/
  rating : Bool
  failing : Bool
  /-- Sources of an array that are fresh, and that have gone stale: bits 3 to 0 BLN_TEMP, bit 4 TS. -/
  fresh : Nat
  stale : Nat
  /-- When each source of an array last reported. -/
  heard : List (Nat × Nat)
  deriving DecidableEq, Repr

/-- A Loupe buffer's hidden state (R232 to R234). -/
structure Lup where
  /-- Recorded words, newest first, at most 65,536. -/
  words : List Word
  /-- Words recorded since ARM. -/
  total : Nat
  /-- Words recorded before the trigger word, and words since it. -/
  trigAt : Option Nat
  /-- The trigger has come and its word is not recorded yet. -/
  trigNow : Bool
  stopped : Bool
  /-- Addresses and lengths of the dumped blocks. -/
  blocks : List (Nat × Nat)
  /-- A record that waits for a free slot (R234). -/
  held : Option (List Byte)
  /-- Press time of the last tick since ARM (R232). -/
  tickAt : Option Nat
  deriving DecidableEq, Repr

/-! ### Parts as they stand when their domain comes on -/

def Seq.init : Seq :=
  { wait := .ready, begun := false, reqAt := 0, state0 := 0, barTimeout := false, repull := false, passAt := 0, waitAt := 0
    onAt := none, heldOn := []
    after := .none }
def Flt.init : Flt :=
  { pair := [], wireNow := [], log := [], counts := [], storms := [], drivers := [], xinFilt := [], xinAt := []
    fnHeld := false, fnAt := 0 }
def Ints.init : Ints := { tgts := [], high := [], frozen := false, fnMask := false }
def Port.init : Port := { unacked := [], queue := [], hseqTx := 0, hseqRx := 0, resends := [] }
def Cas.init : Cas :=
  { portA := Port.init, portB := Port.init, nonce := 0, missing := [], leaseAt := 0, discAt := 0
    leaseSent := 0, tbAt := 0, lseq := 0, seen := [], oseq := 0
    sent28 := 0, sent29 := 0, ringOut := [], reads := [], tbGood := 0, tsT1 := 0, slew := 0, master := none
    upSeen := [], merging := false, joining := false
    parentB := false, hopsA := [], hopsB := [], trained := false }
def Ecc.init : Ecc :=
  { total := [], window := [], windowAt := 0, table := [], fullSaid := false, handed := [], parity := [] }
def Enc.init : Enc := { port := [], hist := [], saveReq := false, ran := false, loupe := none, loupeReq := [] }
def Att.init : Att :=
  { ckpts := [], ckptFailed := false, next := 0, gapNext := false, genNext := false, prev := [], queue := [], written := []
    consumed := (0, List.replicate 48 0), firstDone := false, evidSet := false, retrying := false }
def Tap.init : Tap := { ir := 1, safe := false }
def Sec.init : Sec :=
  { nonce := false, cmd := none, tap := Tap.init, win := [], drbgK := List.replicate 48 0, drbgV := List.replicate 48 1 }
/-- FST as the IMG domain comes on. The round-robin order names no first ring: the model serves ring 1 first (R62; assumption 127). -/
def Fst.init : Fst := { recs := [], claims := [], hits := [], lastRing := 0 }
def Bundle.init : Bundle :=
  { ok := false, enc := false, digest := List.replicate 48 0, sections := [], fusBase := List.replicate 16 0
    fusGsm := List.replicate 16 0, laws := [], faultPol := [], calLim := [], deferred := [], loading := none
    delay := none }
def Sched.init : Sched := { charges := [], suppress := 0, probe := none, thrAt := 0, clearAt := none }
def Mns.init : Mns :=
  { last := none, half := 10000000, posAt := none, negAt := none, valid := 0, coast := 0, cand := none, slew := 0
    fcycAt := none, fireAt := 0, wins := [], badAt := some 0, dip := none, intr := none, swell := none, merged := false, gone := none }
def Keep.init : Keep := { words := [], wear := [], warned := [], bad := [], queue := [] }
def Cal.init : Cal :=
  { bankA := { epoch := none, recs := [] }, bankB := { epoch := none, recs := [] }, jobs := [], storeErr := false
    trims := [], idChecked := [], wrote := none }

/-! ### The state -/

/-- The machine's state. -/
structure State where
  /-- Commands that wait, first in first out. -/
  pending : List Instr
  /-- Press time in ns (R21). -/
  time : BitVec 64
  /-- Fraction of a ns the count has gained in HIBERNATE, in 1/65,536 ns (R21). -/
  timeFrac : Nat
  /-- The model's own: how many free values have been drawn. -/
  freeCtr : Nat
  /-- Registers that differ from their reset value, by BAR 0 offset (R8). -/
  regs : Sparse Word
  /-- High-word latches of 64-bit counters: access path number × 2^27 + offset of the low word (R7). -/
  latches : Sparse Word
  fresh : Fresh
  /-- LMEM bytes (spec/11). -/
  lmem : Sparse Byte
  /-- Addresses of LMEM codewords marked poisoned (R304, R311). -/
  poison : List Nat
  /-- What the device has written to host memory, by host address. -/
  hostMem : Sparse Byte
  reply : Reply
  emitted : List Emit
  sys : Sys
  balls : Balls
  aon : Aon
  rails : Sparse Rail
  seq : Seq
  feds : Sparse Fed
  keep : Keep
  cal : Cal
  flt : Flt
  ints : Ints
  cas : Cas
  att : Att
  sec : Sec
  ecc : Ecc
  dmas : Sparse Dma
  /-- The channel served last (R320). -/
  dmaLast : Nat
  enc : Enc
  ringq : RingQ
  fst : Fst
  ctxs : Sparse Ctx
  apr : Apr
  bundle : Bundle
  stns : Sparse Stn
  mots : Sparse Mot
  pgns : Sparse Pgn
  stps : Sparse Stp
  ctls : Sparse Ctl
  hvos : Sparse Hvo
  lups : Sparse Lup
  htrs : Sparse Htr
  sched : Sched
  mns : Mns
  tmps : Sparse Tmp
  deriving DecidableEq, Repr

/-- The machine right after a chip reset (R25, R27, R293): supplies valid, AON and both feed domains on, entry to BOOT under
way, every register at its reset value, nothing in memory, keep store and calibration store as a BLANK device holds them. -/
def State.reset : State :=
  { pending := [], time := 0, timeFrac := 0, freeCtr := 0, regs := [], latches := [], fresh := { at_ := 0, bits := [] }, lmem := [], poison := []
    hostMem := [], reply := { word := 0, bytes := [], poisoned := false }, emitted := []
    sys :=
      { mode := .boot, prev := .off, trans := some { target := .boot, host := false, began := 0, cause := 0x8001 }
        pend := none, drainIdle := false, refuse := 0, calFrom := .idle, bootSevere := none, devAt := none, crst := none
        mainWait := none, waking := false, wakeHeld := false, domAt := none }
    balls := { mstrap := some 0, casen := some false, cnode := some 0, gio := 0, wakeN := false, vstby := true }
    aon := { lockdown := false, fillDone := false, lossSeen := false, fromOff := true }
    rails := [], seq := Seq.init, feds := [], keep := Keep.init, cal := Cal.init, flt := Flt.init, ints := Ints.init
    cas := Cas.init, att := Att.init, sec := Sec.init, ecc := Ecc.init, dmas := [], dmaLast := 15, enc := Enc.init
    ringq := { queue := [], store := [] }, fst := Fst.init, ctxs := [], apr := { serials := [], order := 0 }
    bundle := Bundle.init, stns := [], mots := [], pgns := [], stps := [], ctls := [], hvos := [], lups := [], htrs := []
    sched := Sched.init, mns := Mns.init, tmps := [] }

end Sys2Proof.Machine
end

