-- ==== Sys2Proof/Machine/Ops.lean ====
section
/-! DEFINITION. The named operations every command is made of: reading and writing registers and fields, press time,
free values, LMEM bytes, raising events, fault sources and interrupts, host access errors, and beginning a mode change. -/

namespace Sys2Proof.Machine

/-! ### Numbers -/

/-- Bits `lo` to `lo + len - 1` of a number. -/
def bits (v lo len : Nat) : Nat := v / 2 ^ lo % 2 ^ len

/-- One bit of a number. -/
def bit (v i : Nat) : Bool := bits v i 1 == 1

/-- Two's-complement value of the low `len` bits (R3). -/
def signed (v len : Nat) : Int :=
  if bits v (len - 1) 1 == 1 then (bits v 0 len : Int) - (2 ^ len : Nat) else (bits v 0 len : Int)

/-- The `len`-bit two's-complement code of an integer (R3). -/
def unsign (x : Int) (len : Nat) : Nat := (x % (2 ^ len : Nat)).toNat

/-- `x` held between `lo` and `hi`. -/
def clampI (lo hi x : Int) : Int := if x < lo then lo else if hi < x then hi else x

/-- A number from little-endian bytes. -/
def leNat : List Byte → Nat
  | [] => 0
  | b :: bs => b.toNat + 256 * leNat bs

/-- `n` little-endian bytes of a number. -/
def leBytes : Nat → Nat → List Byte
  | 0, _ => []
  | n + 1, v => BitVec.ofNat 8 v :: leBytes n (v / 256)

/-- A number from big-endian bytes. -/
def beNat (bs : List Byte) : Nat := bs.foldl (fun a b => a * 256 + b.toNat) 0

/-- `n` big-endian bytes of a number. -/
def beBytes (n v : Nat) : List Byte := (leBytes n v).reverse

/-- `n` bytes from offset `o` of a byte list, zeros beyond its end. -/
def takeAt (bs : List Byte) (o n : Nat) : List Byte :=
  let t := (bs.drop o).take n
  t ++ List.replicate (n - t.length) 0

/-- The little-endian field of `n` bytes at offset `o`. -/
def fieldAt (bs : List Byte) (o n : Nat) : Nat := leNat (takeAt bs o n)

/-- Apply `f` for each of the numbers, left to right. -/
def forAll {σ : Type} (xs : List Nat) (s : σ) (f : σ → Nat → σ) : σ := xs.foldl f s

/-! ### Modes -/

/-- SYS_MODE_STAT code of a mode (R24). -/
def Mode.code : Mode → Nat
  | .off => 0x0 | .hibernate => 0x1 | .boot => 0x2 | .config => 0x3 | .idle => 0x4 | .warmup => 0x5
  | .ready => 0x6 | .print => 0x7 | .drain => 0x8 | .calibrate => 0x9 | .safehold => 0xA | .lockdown => 0xB

/-- CONFIG to CALIBRATE, the modes SAFEHOLD is entered from on request or on a SEVERE fault (R25). -/
def Mode.running (m : Mode) : Bool := decide (3 ≤ m.code ∧ m.code ≤ 9)

/-! ### Registers -/

/-- Block ID of a BAR 0 offset (R8). -/
def blkOf (a : Nat) : Nat := a / 0x100000 % 128

/-- Instance of a BAR 0 offset (R8). -/
def instOf (a : Nat) : Nat := a / 0x1000 % 256

/-- Page offset of a BAR 0 offset (R8). -/
def offOf (a : Nat) : Nat := a % 0x1000

/-- The register at a page offset: its row, and its index in the row. -/
def rowAt (blk inst off : Nat) : Option (RegRow × Nat) :=
  (blockRows blk).findSome? fun r =>
    if r.lo ≤ inst ∧ inst ≤ r.hi ∧ r.off ≤ off ∧ off < r.off + r.n * r.stride ∧ (off - r.off) % r.stride = 0
    then some (r, (off - r.off) / r.stride) else none

/-- Factory class of a fault source (R330, R313, R362, R379, R395). -/
def factoryClass (n : Nat) : Nat :=
  if n = 0 ∨ n = 8 ∨ n = 352 then 4
  else if (1 ≤ n ∧ n ≤ 4) ∨ n = 16 ∨ (32 ≤ n ∧ n ≤ 47) ∨ n = 280 ∨ n = 304 then 3
  else if n = 5 ∨ n = 6 ∨ (76 ≤ n ∧ n ≤ 81) ∨ n = 110 ∨ n = 111 ∨ n = 113 ∨ n = 142 ∨ n = 150 ∨ n = 152 ∨ n = 163
    ∨ (168 ≤ n ∧ n ≤ 221) ∨ (224 ≤ n ∧ n ≤ 271) ∨ n = 274 ∨ n = 275 ∨ n = 281 ∨ n = 303 ∨ n = 307
    ∨ (323 ≤ n ∧ n ≤ 326) ∨ n = 336 ∨ n = 337 ∨ n = 340 ∨ n = 341 ∨ n = 353 ∨ n = 371 ∨ n = 376 ∨ n = 378
    ∨ n = 379 then 2
  else if n = 7 ∨ (64 ≤ n ∧ n ≤ 75) ∨ (82 ≤ n ∧ n ≤ 99) ∨ n = 112 ∨ n = 114 ∨ n = 140 ∨ n = 141 ∨ n = 151 ∨ n = 160
    ∨ n = 162 ∨ n = 272 ∨ n = 273 ∨ n = 276 ∨ n = 277 ∨ n = 282 ∨ n = 300 ∨ n = 301 ∨ n = 305 ∨ n = 308 ∨ n = 311
    ∨ (320 ≤ n ∧ n ≤ 322) ∨ n = 329 ∨ n = 339 ∨ n = 368 ∨ n = 369 ∨ n = 372 then 1
  else 0

/-- Is the interrupt source edge-triggered (R343)? -/
def intIsEdge (src : Nat) : Bool := decide (src ≤ 15)

/-- Reset value of a register, by BAR 0 offset: the page header of R14, the resets that depend on the index (R226, R330,
R343, R293), MSI-X vectors masked (PCI Express's own layout, R355), and otherwise the register tables. -/
def regReset (a : Nat) : Word :=
  let blk := blkOf a; let inst := instOf a; let off := offOf a
  if blk = 0x7F then (if inst < 4 ∧ off % 16 = 12 then 1 else 0)
  else if off = 0x000 then BitVec.ofNat 32 (blk * 0x2000000 + inst * 0x20000 + 1)
  else if off = 0x004 then Config.pageCaps blk inst
  else if off = 0x008 then 1
  else if off < 0x040 then 0
  else if blk = B.HVO ∧ inst < 0x20 ∧ off = 0x044 then
    let kind := if inst < 30 ∧ (inst % 5 = 1 ∨ inst % 5 = 3) then 1 else 0
    let stage := if inst < 30 ∧ inst % 5 < 2 then 1 else 0
    BitVec.ofNat 32 (0x7F00 + stage * 16 + kind)
  else if blk = B.FLT ∧ inst ≤ 5 ∧ off < 0x240 ∧ off % 8 = 0 then
    let src := inst * 64 + (off - 0x040) / 8
    BitVec.ofNat 32 (factoryClass src + if src = 16 then 0xFFFF0000 else 0)
  else if blk = B.INT ∧ inst ≤ 3 ∧ off < 0x240 then
    let src := inst * 128 + (off - 0x040) / 4
    if src = 0 then 0x3000 else if intIsEdge src then 0x2080 else 0x0080
  else if blk = B.PWR ∧ inst = 0x40 ∧ off = 0x040 then 0xD
  else match rowAt blk inst off with
    | some (r, i) => BitVec.ofNat 32 (r.resets.getD i (r.resets.getLastD 0))
    | none => 0

/-- The value a register holds, by BAR 0 offset. -/
def State.reg (s : State) (a : Nat) : Word := s.regs.get regReset a

/-- A register given a value by the device itself. -/
def State.setReg (s : State) (a : Nat) (v : Word) : State := { s with regs := s.regs.set regReset a v }

/-- A bit field's value, as a number. -/
def State.fld (s : State) (f : Field) (i : Nat) : Nat := bits (s.reg (f.addr i)).toNat f.lo f.len

/-- A one-bit field's value. -/
def State.flag (s : State) (f : Field) (i : Nat) : Bool := s.fld f i == 1

/-- A bit field's signed value (R3). -/
def State.sfld (s : State) (f : Field) (i : Nat) : Int := signed (s.fld f i) f.len

/-- A word with one bit field replaced. -/
def putBits (w : Word) (lo len v : Nat) : Word :=
  BitVec.ofNat 32 (w.toNat - bits w.toNat lo len * 2 ^ lo + v % 2 ^ len * 2 ^ lo)

/-- A bit field given a value by the device itself; the register's other bits stay. -/
def State.setFld (s : State) (f : Field) (i v : Nat) : State :=
  s.setReg (f.addr i) (putBits (s.reg (f.addr i)) f.lo f.len v)

/-- A one-bit field set or cleared. -/
def State.setFlag (s : State) (f : Field) (i : Nat) (b : Bool) : State := s.setFld f i (if b then 1 else 0)

/-- A signed value put into a field. -/
def State.setSFld (s : State) (f : Field) (i : Nat) (v : Int) : State := s.setFld f i (unsign v f.len)

/-- A counter field one up, saturating at its largest value. -/
def State.bump (s : State) (f : Field) (i : Nat) : State :=
  if s.fld f i + 1 < 2 ^ f.len then s.setFld f i (s.fld f i + 1) else s

/-- A counter field up by `n`, saturating. -/
def State.bumpBy (s : State) (f : Field) (i n : Nat) : State :=
  s.setFld f i (min (s.fld f i + n) (2 ^ f.len - 1))

/-- A 64-bit register pair, low word first (R7). -/
def State.pair64 (s : State) (lo : Field) (i : Nat) : Nat :=
  (s.reg (lo.addr i)).toNat + (s.reg (lo.addr i + 4)).toNat * 2 ^ 32

/-- A 64-bit register pair given a value. -/
def State.setPair64 (s : State) (lo : Field) (i v : Nat) : State :=
  (s.setReg (lo.addr i) (BitVec.ofNat 32 v)).setReg (lo.addr i + 4) (BitVec.ofNat 32 (v / 2 ^ 32))

/-- Bit `n` of a run of 32-bit registers that starts at field `f`. -/
def State.bitOf (s : State) (f : Field) (i n : Nat) : Bool := bit (s.fld (f.at (n / 32)) i) (n % 32)

/-- Bit `n` of such a run set or cleared. -/
def State.setBitOf (s : State) (f : Field) (i n : Nat) (b : Bool) : State :=
  let g := f.at (n / 32)
  s.setReg (g.addr i) (putBits (s.reg (g.addr i)) (n % 32) 1 (if b then 1 else 0))

/-! ### Press time and free values -/

/-- Press time as a number (R21). -/
def State.now (s : State) : Nat := s.time.toNat

/-- A free value and the state with the draw counted (assumption 1). -/
def State.draw (s : State) : Nat × State := (Config.free s.freeCtr, { s with freeCtr := s.freeCtr + 1 })

/-! ### Events, fault sources and interrupts -/

/-- The W1C bits of a register that hardware has set in the present clock cycle (R13). -/
def State.freshBits (s : State) (a : Nat) : Word := if s.fresh.at_ = s.now then s.fresh.bits.get (fun _ => 0) a else 0

/-- Hardware sets W1C bits of a register: a write that clears them in the same clock cycle leaves them set (R13). -/
def State.hwSet (s : State) (a : Nat) (m : Word) : State :=
  let old := if s.fresh.at_ = s.now then s.fresh.bits else []
  { s.setReg a (s.reg a ||| m) with
    fresh := { at_ := s.now, bits := old.set (fun _ => 0) a (old.get (fun _ => 0) a ||| m) } }

/-- Bit `n` of a run of W1C registers that starts at field `f`, set by hardware. -/
def State.hwBitOf (s : State) (f : Field) (i n : Nat) : State :=
  s.hwSet ((f.at (n / 32)).addr i) (BitVec.ofNat 32 (2 ^ (n % 32)))

/-- What a write of `v` leaves in a W1C register: its 1s clear, but for the bits hardware has set in this cycle (R11, R13). -/
def State.w1c (s : State) (a : Nat) (v : Word) : Word := s.reg a &&& ~~~ (v &&& ~~~ s.freshBits a)

/-- Raise an event: its EVT_STAT bit is set (R14). -/
def State.event (s : State) (blk inst b : Nat) : State := s.hwSet (regAddr blk inst 0x010) (BitVec.ofNat 32 (2 ^ b))

/-- A block presents a fault at its source pair: the collector takes it up with FAULT_REPORT (R328). -/
def State.raiseFault (s : State) (src : Nat) : State :=
  if src ∈ s.flt.pair then s else { s with flt := { s.flt with pair := s.flt.pair ++ [src] } }

/-- A block's source pair reads clear again; FAULT_CLEAR takes it up. -/
def State.dropFault (s : State) (src : Nat) : State :=
  { s with flt := { s.flt with pair := s.flt.pair.filter (· ≠ src) } }

/-- INT_SRC of an interrupt source (R352). -/
def intSrcAddr (src : Nat) : Nat := (F.INT_SRC.at (src % 128)).addr (src / 128)

/-- State of an interrupt source: 0 INACTIVE, 1 PENDING, 2 ACTIVE, 3 ACTIVE+PENDING (R344). -/
def State.intState (s : State) (src : Nat) : Nat := bits (s.reg (intSrcAddr src)).toNat 16 2

/-- An interrupt source put into a state. -/
def State.setIntState (s : State) (src st : Nat) : State :=
  s.setReg (intSrcAddr src) (putBits (s.reg (intSrcAddr src)) 16 2 st)

/-- An edge of an edge source: PENDING, or ACTIVE+PENDING while ACTIVE; further edges merge (R344). -/
def State.intEdge (s : State) (src : Nat) : State :=
  s.setIntState src (if s.intState src = 0 then 1 else if s.intState src = 2 then 3 else s.intState src)

/-- Something leaves the device. -/
def State.emit (s : State) (e : Emit) : State := { s with emitted := s.emitted ++ [e] }

/-! ### Power domains -/

/-- The twelve power domains; BLN per station (R268). -/
inductive Dom where
  | aon | sec | fsa | fsb | hst | img | ctl | mem | bln (n : Nat) | cas | ana | gio
  deriving DecidableEq, Repr

/-- Bit of a domain in PWR_DOM_STAT (R293). -/
def Dom.bit : Dom → Nat
  | .aon => 0 | .sec => 1 | .fsa => 2 | .fsb => 3 | .hst => 4 | .img => 5 | .ctl => 6 | .mem => 7
  | .bln n => 22 + n | .cas => 9 | .ana => 10 | .gio => 11

/-- Is a domain on (R293)? -/
def State.domOn (s : State) (d : Dom) : Bool := bit (s.fld F.PWR_DOM_STAT 0x40) d.bit

/-- A domain marked on or off; DOM bit 8 follows the stations. -/
def State.setDom (s : State) (d : Dom) (on : Bool) : State :=
  let s := s.setReg (F.PWR_DOM_STAT.addr 0x40)
    (putBits (s.reg (F.PWR_DOM_STAT.addr 0x40)) d.bit 1 (if on then 1 else 0))
  let w := s.reg (F.PWR_DOM_STAT.addr 0x40)
  s.setReg (F.PWR_DOM_STAT.addr 0x40) (putBits w 8 1 (if bits w.toNat 22 6 = 0 then 0 else 1))

/-- The cascade is enabled: CASEN as sampled at the last entry to BOOT (R368). -/
def State.casEnabled (s : State) : Bool := s.flag F.CAS_STAT_CASEN 0

/-- The domain of a page (R17, R418). -/
def domOf (blk inst : Nat) : Dom :=
  if blk = B.SYS ∨ blk = B.PWR ∨ blk = B.SEQ ∨ blk = B.INT then .aon
  else if blk = B.SEC ∨ blk = B.KPS ∨ blk = B.DBG ∨ blk = B.ATT then .sec
  else if blk = B.HST ∨ blk = B.DMA ∨ blk = B.PRS then .hst
  else if blk = B.CAS then .cas
  else if blk = B.APR ∨ blk = B.FST ∨ blk = B.DEC ∨ blk = B.ENC ∨ blk = B.FMT ∨ blk = B.COR then .img
  else if blk = B.CLK ∧ inst = 6 then .bln 0
  else if blk = B.FAC ∨ blk = B.CLK ∨ blk = B.BLN then .bln inst
  else if blk = B.MOT ∨ blk = B.STP ∨ blk = B.PGN ∨ blk = B.CTL ∨ blk = B.HVO ∨ blk = B.LUP ∨ blk = B.FLT ∨ blk = B.CAL
    then .ctl
  else if blk = B.ANA ∨ blk = B.MNS ∨ blk = B.HTR ∨ blk = B.TMP then .ana
  else if blk = B.MEM ∨ blk = B.ECC then .mem
  else if blk = B.GIO then .gio
  else if blk = B.FED then (if inst = 0 then .fsa else .fsb)
  else .hst

/-- Registers back at their reset values, of every page that `p` names. -/
def State.clearPages (s : State) (p : Nat → Nat → Bool) : State :=
  { s with regs := s.regs.filter fun e => !p (blkOf e.1) (instOf e.1) }

/-- A page's domain is on. Pages of the CLK outputs shared by all stations are reached while any station is on. -/
def State.pageOn (s : State) (blk inst : Nat) : Bool :=
  if blk = B.CLK ∧ inst = 6 then bit (s.fld F.PWR_DOM_STAT 0x40) 8 else s.domOn (domOf blk inst)

/-- Does the page exist (R363)? -/
def pageExists (blk inst : Nat) : Bool :=
  match blk with
  | 0x00 | 0x01 | 0x02 | 0x03 | 0x04 | 0x07 | 0x08 | 0x11 | 0x13 | 0x16 | 0x27 | 0x28 | 0x29 | 0x2C | 0x31 | 0x38 =>
    decide (inst = 0)
  | 0x05 => decide (inst ≤ 0x10)
  | 0x06 => decide (inst ≤ 3 ∨ inst = 0x10 ∨ (0x20 ≤ inst ∧ inst ≤ 0x2F))
  | 0x10 => decide (inst = 0 ∨ (0x20 ≤ inst ∧ inst ≤ 0x3F))
  | 0x12 | 0x14 | 0x15 | 0x18 | 0x1A => decide (inst ≤ 5)
  | 0x19 => decide (inst ≤ 6)
  | 0x20 => decide (inst ≤ 23)
  | 0x21 => decide (inst ≤ 15)
  | 0x22 => decide (inst ≤ 31)
  | 0x23 => decide (inst ≤ 0x60)
  | 0x24 => decide (inst ≤ 0x20)
  | 0x25 => decide (inst ≤ 3)
  | 0x26 => decide (inst ≤ 5 ∨ inst = 0x10)
  | 0x2A => decide (inst ≤ 8)
  | 0x2B => decide (inst ≤ 23 ∨ (0x20 ≤ inst ∧ inst ≤ 0x25))
  | 0x30 => decide (inst ≤ 47 ∨ inst = 0x40)
  | 0x32 => decide (inst ≤ 1)
  | 0x39 => decide (inst ≤ 3 ∨ inst = 0x10)
  | _ => false

/-- Instances of a block, in rising order (R363). -/
def instancesOf (blk : Nat) : List Nat := (List.range 0xE0).filter (pageExists blk)

/-! ### Host access errors -/

/-- A host access error: counted, recorded, raised as HST.ACC_ERR and as F_310 (R361). `via` 0 BAR 0, 1 BAR 2,
2 BAR 4, 3 received from the cascade. -/
def State.accErr (s : State) (cause via : Nat) (write : Bool) (node addr : Nat) : State :=
  let s := s.bump F.HST_ACC_CNT 0
  let s := s.setReg (F.HST_ACC_INFO.addr 0)
    (BitVec.ofNat 32 (cause * 2 ^ 28 + via * 2 ^ 26 + (if write then 2 ^ 25 else 0) + node % 64))
  let s := s.setPair64 F.HST_ACC_ADDR_LO 0 addr
  (s.event B.HST 0 3).raiseFault 310

/-- A host write of a register arrives at its page (R9, R11, R18, R24, R361): in LOCKDOWN it is discarded, and so is one to
an absent instance or an off page, each counted; one to an RWL register of a locked page is discarded. The banks of a loop
slot judge the lock themselves (R222). Otherwise `f` is its effect. -/
def State.onPage (s : State) (blk inst off : Nat) (f : State → State) : State :=
  let a := regAddr blk inst off
  if s.sys.mode = .lockdown then s.accErr 8 0 true 0 a
  else if !pageExists blk inst then s.accErr 2 0 true 0 a
  else if !s.pageOn blk inst then s.accErr 3 0 true 0 a
  else match rowAt blk inst off with
    | some (r, _) => if r.lock && blk != B.CTL && s.flag (H.PAGE_LOCK_LOCK blk) inst then s else f s
    | none => f s

/-- A write over the TAP that LOCKDOWN takes: of the registers by which token commands are given (R24; assumption 88). -/
def tokenReg (blk off : Nat) : Bool :=
  blk == B.SEC && (off == F.SEC_CMD.off || decide (F.SEC_TOKEN.off ≤ off ∧ off < F.SEC_TOKEN.off + 96))

/-- A write over the TAP may take effect: SEC is on, and in LOCKDOWN the register serves token commands (R24, R172). -/
def State.tapTakes (s : State) (blk off : Nat) : Bool :=
  s.domOn .sec && (s.sys.mode ≠ .lockdown || tokenReg blk off)

/-- The same for the pages that SECACC reaches too. -/
def State.onSecPage (s : State) (tap : Bool) (blk inst off : Nat) (f : State → State) : State :=
  if tap then (if s.tapTakes blk off then f s else s) else s.onPage blk inst off f

/-! ### Mode changes -/

/-- A request refused: REFUSE is set and SYS.REQ_REFUSED raised (R27). -/
def State.refuse (s : State) (code : Nat) : State :=
  { s with sys := { s.sys with refuse := code } }.event B.SYS 0 1

/-- Codes of SYS_MODE_STAT.REFUSE (R27). -/
def refBadTarget : Nat := 1
def refUnreachable : Nat := 2
def refNoBundle : Nat := 3
def refPreempted : Nat := 4
def refZeroizing : Nat := 5
def refFaultActive : Nat := 6

/-- SYS_MODE_CAUSE codes (R27). -/
def causeHost : Nat := 0x8000
def causeDevice : Nat := 0x8001
def causeSupply : Nat := 0x8002

/-- A mode change begins (R26): it runs until MODE_CHANGE_COMPLETE. -/
def State.beginMode (s : State) (target : Mode) (host : Bool) (cause : Nat) : State :=
  { s with sys := { s.sys with
      trans := some { target := target, host := host, began := s.now, cause := cause }
      devAt := if host then s.sys.devAt else some s.now, domAt := none } }

/-- The device takes a change of its own (R26): at once when no change runs; over a host request taken in this same KCLK
cycle, which is refused with PREEMPTED; and not at all while another change runs, whose end takes it up again. -/
def State.deviceMode (s : State) (target : Mode) : State :=
  match s.sys.trans with
  | none => s.beginMode target false causeDevice
  | some t =>
    if t.host ∧ t.began = s.now then
      ({ s with sys := { s.sys with drainIdle := false } }.refuse refPreempted).beginMode target false causeDevice
    else s

/-- A mode change is complete: mode, PREV, cause and time, and SYS.MODE_CHG (R27, R269). MODE shows BOOT already while the
entry to it out of OFF runs, as the reset values of R27 have it; PREV keeps OFF then. -/
def State.setMode (s : State) (m : Mode) (cause : Nat) : State :=
  let prev := if s.sys.mode = m then s.sys.prev else s.sys.mode
  let s := { s with sys := { s.sys with mode := m, prev := prev, trans := none, domAt := none } }
  let s := (s.setFld F.SYS_MODE_CAUSE_SRC 0 cause).setPair64 F.SYS_MODE_TIME_LO 0 s.now
  s.event B.SYS 0 0

/-! ### LMEM bytes -/

/-- What a byte of LMEM that nothing has written reads as: the fill of BOOT writes zeros (R306). -/
def lmemDefault (_ : Nat) : Byte := 0

/-- The byte at an LMEM address. -/
def State.lmemByte (s : State) (a : Nat) : Byte := s.lmem.get lmemDefault a

/-- `n` bytes of LMEM. -/
def State.lmemBytes (s : State) (a n : Nat) : List Byte := s.lmem.getList lmemDefault a n

/-- Bytes stored at an LMEM address; whole codewords of 128 bytes written afresh are no longer poisoned (R304). -/
def State.storeLmem (s : State) (a : Nat) (bs : List Byte) : State :=
  { s with
    lmem := s.lmem.setList lmemDefault a bs
    poison := s.poison.filter fun c => decide (¬ (a ≤ c ∧ c + 128 ≤ a + bs.length)) }

/-- Bytes the device writes to host memory. -/
def State.storeHost (s : State) (a : Nat) (bs : List Byte) : State :=
  { s with hostMem := s.hostMem.setList (fun _ => 0) a bs }

/-! ### The end of every command -/

/-! ### The function (R355) -/

/-- What the endpoint presents in configuration space. -/
structure PciFunction where
  vendor : Nat
  device : Nat
  revision : Nat
  classCode : Nat
  maxPayload : Nat
  maxReadRequest : Nat
  tags : Nat
  msixVectors : Nat
  deriving DecidableEq, Repr

def pciFunction : PciFunction :=
  { vendor := 0x1F6A, device := 0x6480, revision := 0x01, classCode := 0x118000, maxPayload := 512, maxReadRequest := 4096
    tags := 256, msixVectors := 1024 }

/-- Sizes of BAR 0, BAR 2 and BAR 4. -/
def bar0Size : Nat := 2 ^ 27
def bar2Size : Nat := 2 ^ 32
def bar4Size : Nat := 2 ^ 33

/-! ### Balls -/

/-- The GIO balls take levels; an external input one of whose balls changes passes them on after its filter (R329). -/
def State.setGio (s : State) (g : BitVec 128) : State :=
  let moved := s.balls.gio ^^^ g
  let hit := (List.range 16).filter fun k =>
    let w := (s.reg ((F.FLT_XIN.at k).addr 0x10)).toNat
    moved.getLsbD (bits w 0 7) || moved.getLsbD (bits w 8 7)
  { s with
    balls := { s.balls with gio := g }
    flt := { s.flt with xinAt := hit.foldl (fun m k => m.set (fun _ => 0) k s.now) s.flt.xinAt } }

/-- A source that is enabled and waits to be taken (R344). -/
def State.intWaiting (s : State) (src : Nat) : Bool :=
  (s.intState src == 1 || s.intState src == 3) && bit (s.reg (intSrcAddr src)).toNat 12

/-- Is WAKE_N held low? While a target's wake is raised and the link cannot carry PME; in HIBERNATE, while HIBWAKE = 1 and
a source waits for any target (R349, R350). -/
def State.wakeLow (s : State) : Bool :=
  if s.sys.mode = .hibernate then s.flag F.INT_CFG_HIBWAKE 0x10 && (List.range 512).any s.intWaiting
  else !(s.flag F.HST_LINK_UP 0) && (List.range 16).any fun t => s.flag F.INT_TGT_STATE_WAKE (0x20 + t)

/-- A command that began in `s` and has its effect in `t` is over: WAKE_N follows the state it leaves, and the queue of
waiting commands is as the command found it. -/
def State.finish (s t : State) : State :=
  { t with pending := s.pending, balls := { t.balls with wakeN := t.wakeLow } }

end Sys2Proof.Machine
end

