-- ==== Sys2Proof/Machine/Lbc.lean ====
section
/-! DEFINITION. Lumzia Band Coding: decoding and encoding one block of 48 lines of 4,096 pixels (R70 to R81, R89). -/

namespace Sys2Proof.Machine

/-! ### Pixels and packing -/

/-- Bits of a byte, most significant first. -/
def byteBits (b : Byte) : List Bool := (List.range 8).map fun i => b.getLsbD (7 - i)

/-- Bits of bytes, most significant first in each (R71). -/
def bitsOf (bs : List Byte) : List Bool := bs.flatMap byteBits

/-- A number from bits, most significant first. -/
def bitsNat (l : List Bool) : Nat := l.foldl (fun a b => 2 * a + (if b then 1 else 0)) 0

/-- `n` bits of a number, most significant first. -/
def natBits (n v : Nat) : List Bool := (List.range n).map fun i => bit v (n - 1 - i)

/-- Lists of `n` items each; the last may be shorter. -/
def chunks {α : Type} (n : Nat) : Nat → List α → List (List α)
  | 0, _ => []
  | k + 1, l => if l.isEmpty then [] else l.take n :: chunks n k (l.drop n)

/-- Bytes from bits, most significant first, the last byte filled with zeros. -/
def bytesOfBits (l : List Bool) : List Byte :=
  (chunks 8 l.length l).map fun c => BitVec.ofNat 8 (bitsNat (c ++ List.replicate (8 - c.length) false))

/-- A line of pixels packed at `d` bits each, the lowest x in the least significant bits (R80). -/
def packLine (d : Nat) (px : List Nat) : List Byte :=
  (chunks (8 / d) px.length px).map fun c =>
    BitVec.ofNat 8 (c.zipIdx.foldl (fun v x => v + x.1 % 2 ^ d * 2 ^ (d * x.2)) 0)

/-- A packed line's pixels. -/
def unpackLine (d : Nat) (bs : List Byte) : List Nat :=
  bs.flatMap fun b => (List.range (8 / d)).map fun i => bits b.toNat (d * i) d

/-- Decoded data of a block (R80). -/
def packBlock (d : Nat) (lines : List (List Nat)) : List Byte := lines.flatMap (packLine d)

/-- Exposure level of a pixel (R81). -/
def levelOf (d v : Nat) : Nat := if d = 4 then v else if d = 2 then 5 * v else 15 * v

/-- EXP_SUM and EXP_PEAK of a block (R81). -/
def expSum (d : Nat) (lines : List (List Nat)) : Nat := (lines.map fun l => (l.map (levelOf d)).sum).sum
def expPeak (d : Nat) (lines : List (List Nat)) : Nat := (lines.map fun l => (l.map (levelOf d)).sum).foldl max 0

/-! ### Prediction (R73, R74) -/

/-- The middle one of a, b and a + b − c. -/
def median (a b c : Nat) : Nat :=
  let lo := min a b; let hi := max a b
  if a + b < lo + c then lo else if hi + c < a + b then hi else a + b - c

/-- The prediction a PRED code gives. -/
def predict (code a b c : Nat) : Nat :=
  if code = 0 then a else if code = 1 then b else if code = 2 then c else median a b c

/-- A pixel from its prediction and mapped value. -/
def unmap (d p m : Nat) : Nat := if m % 2 = 0 then (p + m / 2) % 2 ^ d else (p + 2 ^ d - (m + 1) / 2) % 2 ^ d

/-- A mapped value from a pixel and its prediction. -/
def mapRes (d x p : Nat) : Nat :=
  let e := (x + 2 ^ d - p) % 2 ^ d
  if e < 2 ^ (d - 1) then 2 * e else 2 * (2 ^ d - e) - 1

/-- Pixels of a line from their mapped values; `prev` holds the left and the above-left neighbour, none at x = 0. -/
def rebuild (d code : Nat) : Option (Nat × Nat) → List Nat → List Nat → List Nat
  | _, [], _ => []
  | prev, m :: ms, above =>
    let b := above.headD 0
    let a := match prev with | some q => q.1 | none => b
    let c := match prev with | some q => q.2 | none => b
    let x := unmap d (predict code a b c) m
    x :: rebuild d code (some (x, b)) ms above.tail

/-- Mapped values of a line under a PRED code. -/
def residues (d code : Nat) : Option (Nat × Nat) → List Nat → List Nat → List Nat
  | _, [], _ => []
  | prev, x :: xs, above =>
    let b := above.headD 0
    let a := match prev with | some q => q.1 | none => b
    let c := match prev with | some q => q.2 | none => b
    mapRes d x (predict code a b c) :: residues d code (some (x, b)) xs above.tail

/-! ### Decoding the bit data (R71, R72, R75 to R77) -/

/-- `n` bits read, most significant first. -/
def takeBits (n : Nat) (l : List Bool) : Option (Nat × List Bool) :=
  if n ≤ l.length then some (bitsNat (l.take n), l.drop n) else none

/-- One-bits before the first zero-bit, at most 15. -/
def unary : Nat → List Bool → Option (Nat × List Bool)
  | _, [] => none
  | n, false :: l => some (n, l)
  | n, true :: l => if n < 15 then unary (n + 1) l else none

/-- A Golomb–Rice code with parameter `k` (R75). -/
def takeGolomb (d k : Nat) (l : List Bool) : Option (Nat × List Bool) := do
  let (q, l) ← unary 0 l
  let (r, l) ← takeBits k l
  if q * 2 ^ k + r < 2 ^ d then some (q * 2 ^ k + r, l) else none

/-- Canonical codes: (length, code, symbol), by increasing length and symbol (R76). -/
def canonical (lens : List Nat) : List (Nat × Nat × Nat) :=
  ((List.range 15).foldl (fun (st : List (Nat × Nat × Nat) × Nat) i =>
    let st := (lens.zipIdx).foldl (fun (st : List (Nat × Nat × Nat) × Nat) x =>
      if x.1 = i + 1 then (st.1 ++ [(i + 1, st.2, x.2)], st.2 + 1) else st) st
    (st.1, 2 * st.2)) ([], 0)).1

/-- A symbol read with a canonical code. -/
def takeHuff (codes : List (Nat × Nat × Nat)) : Nat → Nat → Nat → List Bool → Option (Nat × List Bool)
  | 0, _, _, _ => none
  | _, _, _, [] => none
  | fuel + 1, len, code, b :: l =>
    let code := 2 * code + (if b then 1 else 0)
    match codes.find? fun x => x.1 == len + 1 && x.2.1 == code with
    | some x => some (x.2.2, l)
    | none => takeHuff codes fuel (len + 1) code l

/-- `n` codes read with one reader. -/
def takeMany (f : List Bool → Option (Nat × List Bool)) : Nat → List Bool → Option (List Nat × List Bool)
  | 0, l => some ([], l)
  | n + 1, l => do
    let (v, l) ← f l
    let (vs, l) ← takeMany f n l
    some (v :: vs, l)

/-- Mapped values of the segments from `seg` on (R72). `tabs`: the canonical codes of TABLE_A and TABLE_B of a dynamic
block. -/
def takeSegs (d : Nat) (tabs : Option (List (Nat × Nat × Nat) × List (Nat × Nat × Nat))) :
    Nat → Nat → List Bool → Option (List Nat × List Bool)
  | 0, _, _ => none
  | fuel + 1, seg, l =>
    if seg = 64 then some ([], l)
    else do
      let (z, l) ← takeBits 1 l
      if z = 1 then
        let (n, l) ← takeBits 6 l
        if 64 < seg + n + 1 then none
        else
          let (ms, l) ← takeSegs d tabs fuel (seg + n + 1) l
          some (List.replicate (64 * (n + 1)) 0 ++ ms, l)
      else
        match tabs with
        | none =>
          let (k, l) ← takeBits 2 l
          if k < d then
            let (vs, l) ← takeMany (takeGolomb d k) 64 l
            let (ms, l) ← takeSegs d tabs fuel (seg + 1) l
            some (vs ++ ms, l)
          else none
        | some (ta, tb) =>
          let (t, l) ← takeBits 1 l
          let (vs, l) ← takeMany (takeHuff (if t = 0 then ta else tb) 15 0 0) 64 l
          let (ms, l) ← takeSegs d tabs fuel (seg + 1) l
          some (vs ++ ms, l)

/-- Lines of a coded block, the last one's rest being fewer than 8 zero bits (R71). `starts`: the line table. -/
def takeLines (d : Nat) (tabs : Option (List (Nat × Nat × Nat) × List (Nat × Nat × Nat))) :
    List Nat → Nat → List Nat → List Bool → Option (List (List Nat))
  | [], _, _, l => if l.length < 8 ∧ l.all (!·) then some [] else none
  | s :: starts, at_, above, l =>
    if s ≠ at_ then none
    else do
      let (code, l1) ← takeBits 2 l
      let (ms, l2) ← takeSegs d tabs 65 0 l1
      let line := rebuild d code none ms above
      let rest ← takeLines d tabs starts (at_ + (l.length - l2.length)) line l2
      some (line :: rest)

/-- A block's pixels from its payload; none where the bit data breaks its syntax (R71, R72, R75, R78). -/
def decodeBlock (d : Nat) (raw : Bool) (tabs : Option (List (Nat × Nat × Nat) × List (Nat × Nat × Nat))) (h : List Nat)
    (payload : List Byte) : Option (List (List Nat)) :=
  if raw then some ((chunks (512 * d) 48 payload).map (unpackLine d))
  else
    takeLines d tabs ((List.range 48).map fun y => fieldAt payload (3 * y) 3) 0 h (bitsOf (payload.drop 144))

/-! ### Encoding (R89) -/

/-- A Golomb–Rice code (R75). -/
def golomb (k m : Nat) : List Bool := List.replicate (m / 2 ^ k) true ++ [false] ++ natBits k (m % 2 ^ k)

/-- The shortest of some bit strings; the first on a tie. -/
def shortest : List (List Bool) → List Bool
  | [] => []
  | x :: rest => let y := shortest rest; if rest.isEmpty ∨ x.length ≤ y.length then x else y

/-- A coded segment with the K that gives the fewest bits, the lowest on a tie. -/
def codeSeg (d : Nat) (ms : List Nat) : List Bool :=
  shortest ((List.range d).map fun k => [false] ++ natBits 2 k ++ ms.flatMap (golomb k))

/-- Segments of a line; consecutive all-zero ones form a single run, `run` being those met so far. -/
def codeSegs (d : Nat) : Nat → List (List Nat) → List Bool
  | run, [] => if run = 0 then [] else [true] ++ natBits 6 (run - 1)
  | run, ms :: rest =>
    if ms.all (· == 0) then codeSegs d (run + 1) rest
    else (if run = 0 then [] else [true] ++ natBits 6 (run - 1)) ++ codeSeg d ms ++ codeSegs d 0 rest

/-- A line with the predictor that gives the fewest bits, the lowest code on a tie. -/
def codeLine (d : Nat) (line above : List Nat) : List Bool :=
  shortest ((List.range 4).map fun p => natBits 2 p ++ codeSegs d 0 (chunks 64 64 (residues d p none line above)))

/-- Lines of a block, each above the next. -/
def codeLines (d : Nat) : List (List Nat) → List Nat → List (List Bool)
  | [], _ => []
  | line :: rest, above => codeLine d line above :: codeLines d rest line

/-- A static block, or a RAW one where coding does not save (R89): header and payload. -/
def encodeBlock (bpp : Nat) (reset : Bool) (h : List Nat) (lines : List (List Nat)) : List Byte :=
  let d := 2 ^ bpp
  let data := packBlock d lines
  let cs := codeLines d lines (if reset then List.replicate 4096 0 else h)
  let nbits := (cs.map List.length).sum
  let raw := decide (data.length ≤ 144 + (nbits + 7) / 8)
  let starts := (cs.foldl (fun (x : List Nat × Nat) c => (x.1 ++ [x.2], x.2 + c.length)) ([], 0)).1
  let payload := if raw then data else starts.flatMap (leBytes 3) ++ bytesOfBits cs.flatten
  let head := leBytes 2 0xB10C ++ leBytes 1 1
    ++ leBytes 1 ((if raw then 1 else 0) + (if reset then 4 else 0) + bpp * 8) ++ leBytes 4 0
    ++ leBytes 4 data.length ++ leBytes 4 payload.length ++ leBytes 4 (crc32c data).toNat
    ++ leBytes 4 (expSum d lines) ++ leBytes 2 (expPeak d lines) ++ leBytes 2 0
  head ++ leBytes 4 (crc32c head).toNat ++ payload

end Sys2Proof.Machine
end

