-- ==== Sys2Proof/Machine/Flags.lean ====
section
/-! DEFINITION. The computed status bits: which page an interrupt or a fault source belongs to, whether a page source is
asserted, and FLT_STAT. -/

namespace Sys2Proof.Machine

/-- The page a level interrupt source reads (R343). -/
def intPage (n : Nat) : Option (Nat × Nat) :=
  if n = 16 then some (B.SYS, 0) else if n = 17 then some (B.APR, 0)
  else if n < 18 then none
  else if n ≤ 49 then some (B.APR, 0x20 + (n - 18))
  else if n = 50 then some (B.FST, 0)
  else if n ≤ 56 then some (B.DEC, n - 51)
  else if n = 57 then some (B.ENC, 0)
  else if n ≤ 63 then some (B.FMT, n - 58)
  else if n ≤ 69 then some (B.COR, n - 64)
  else if n ≤ 75 then some (B.FAC, n - 70)
  else if n ≤ 81 then some (B.CLK, n - 76)
  else if n ≤ 87 then some (B.BLN, n - 82)
  else if n = 88 then some (B.SEC, 0) else if n = 89 then some (B.ATT, 0) else if n = 90 then some (B.DBG, 0)
  else if n ≤ 114 then some (B.MOT, n - 91)
  else if n ≤ 130 then some (B.STP, n - 115)
  else if n ≤ 162 then some (B.PGN, n - 131)
  else if n ≤ 258 then some (B.CTL, n - 163)
  else if n = 259 then some (B.CTL, 0x60)
  else if n ≤ 291 then some (B.HVO, n - 260)
  else if n ≤ 295 then some (B.LUP, n - 292)
  else if n = 296 then some (B.MNS, 0)
  else if n ≤ 305 then some (B.HTR, n - 297)
  else if n ≤ 329 then some (B.TMP, n - 306)
  else if n ≤ 335 then some (B.TMP, 0x20 + (n - 330))
  else if n ≤ 383 then some (B.PWR, n - 336)
  else if n = 384 then some (B.PWR, 0x40) else if n = 385 then some (B.SEQ, 0)
  else if n ≤ 387 then some (B.FED, n - 386)
  else if n = 388 then some (B.MEM, 0)
  else if n ≤ 392 then some (B.ECC, n - 389)
  else if n = 393 then some (B.ECC, 0x10)
  else if n ≤ 409 then some (B.DMA, n - 394)
  else if n = 410 then some (B.HST, 0) else if n = 411 then some (B.CAS, 0) else if n = 412 then some (B.PRS, 0)
  else if n = 413 then some (B.KPS, 0) else if n = 414 then some (B.CAL, 0) else if n = 415 then some (B.ANA, 0)
  else if n = 416 then some (B.GIO, 0)
  else none

/-- A page's events: any bit 1 in both EVT_STAT and EVT_EN (R14, R343). -/
def State.pageAsserted (s : State) (blk inst : Nat) : Bool :=
  (s.reg (regAddr blk inst 0x010) &&& s.reg (regAddr blk inst 0x014)) != 0

/-- The input of a level interrupt source. From entry to HIBERNATE until its page is powered and out of reset it stays at its
last value (R350). -/
def State.intInput (s : State) (src : Nat) : Bool :=
  match intPage src with
  | some (b, i) =>
    if s.pageOn b i && !s.ints.frozen && !s.flag (H.PAGE_CTRL_BLK_RST b) i then s.pageAsserted b i
    else decide (src ∈ s.ints.high)
  | none => false

/-- The page that owns a fault source, for FLT_STAT and the BRST reaction (R330, R332); sources of the motion, stepper,
high-voltage, mains and cascade groups that name no one instance belong to instance 0 of their block. -/
def faultPage (n : Nat) : Option (Nat × Nat) :=
  if n < 64 then none
  else if n < 70 then some (B.BLN, n - 64) else if n < 76 then some (B.FAC, n - 70)
  else if n < 82 then some (B.DEC, n - 76) else if n < 88 then some (B.DEC, n - 82)
  else if n < 94 then some (B.FMT, n - 88) else if n < 100 then some (B.FMT, n - 94)
  else if 110 ≤ n ∧ n ≤ 114 then some (B.MOT, 0) else if 140 ≤ n ∧ n ≤ 142 then some (B.STP, 0)
  else if n = 150 ∨ n = 151 then some (B.HVO, 0) else if n = 152 then some (B.CTL, 0x60)
  else if 160 ≤ n ∧ n ≤ 162 then some (B.MNS, 0) else if n = 163 then some (B.HTR, 0)
  else if 168 ≤ n ∧ n < 192 then some (B.TMP, n - 168) else if 192 ≤ n ∧ n < 216 then some (B.TMP, n - 192)
  else if 216 ≤ n ∧ n < 222 then some (B.TMP, 0x20 + (n - 216))
  else if 224 ≤ n ∧ n < 272 then some (B.PWR, n - 224)
  else if n = 272 ∨ n = 273 then some (B.FED, n - 272) else if n = 276 ∨ n = 277 then some (B.FED, n - 276)
  else if n = 274 ∨ n = 275 ∨ n = 280 then some (B.FED, 0)
  else if 281 ≤ n ∧ n ≤ 283 then some (B.SEQ, 0)
  else if 300 ≤ n ∧ n ≤ 302 then some (B.ECC, 0x10) else if n = 303 ∨ n = 304 then some (B.MEM, 0)
  else if 305 ≤ n ∧ n ≤ 311 then some (B.HST, 0) else if 320 ≤ n ∧ n ≤ 329 then some (B.CAS, 0)
  else if n = 336 ∨ n = 339 ∨ n = 340 then some (B.SEC, 0) else if n = 337 ∨ n = 341 then some (B.ATT, 0)
  else if n = 338 then some (B.DBG, 0) else if n = 352 then some (B.FLT, 0x10) else if n = 353 then some (B.INT, 0x10)
  else if 368 ≤ n ∧ n ≤ 372 then some (B.CAL, 0) else if 376 ≤ n ∧ n ≤ 379 then some (B.KPS, 0)
  else none

/-- The present reading of a fault source (R328). -/
def State.srcLive (s : State) (src : Nat) : Bool := s.bitOf F.FLT_LIVE (src / 64) (src % 64)

/-- Class of a source's reports: of FLT_CFG, or ECLASS while it is escalated and above it; values above 4 are GRAVE. -/
def State.srcClass (s : State) (src : Nat) : Nat :=
  let c := min 4 (s.fld (F.FLT_CFG_CLASS.at (src % 64)) (src / 64))
  if s.bitOf F.FLT_ESCD (src / 64) (src % 64) then max c (min 4 (s.fld (F.FLT_ESC_ECLASS.at (src % 64)) (src / 64))) else c

/-- An active source holds SEVERE or GRAVE (R331). -/
def State.severeActive (s : State) : Bool := (List.range 384).any fun n => s.srcLive n && decide (3 ≤ s.srcClass n)

/-- FLT_STAT of a page: its sources that read asserted, in rising order from bit 0 (R14). -/
def State.fltStat (s : State) (blk inst : Nat) : Nat :=
  let own := (List.range 384).filter fun n => decide (faultPage n = some (blk, inst))
  (own.zipIdx).foldl (fun v x => v + if s.srcLive x.1 then 2 ^ x.2 else 0) 0

end Sys2Proof.Machine
end

