-- ==== Sys2Proof/Machine/Keep.lean ====
section
/-! DEFINITION. The keep store (R384 to R386, R398). -/

namespace Sys2Proof.Machine

/-- Word numbers of the SEQ region. The spec gives the region and what it holds, not the words (assumption 6). -/
def kwStep (i : Nat) : Nat := 0x800 + i
def kwRail (r k : Nat) : Nat := 0x900 + 3 * r + k
def kwEntry (s : Nat) : Nat := 0x990 + s
def kwSeqCfg : Nat := 0x994
def kwFeed (n k : Nat) : Nat := 0x998 + 4 * n + k
def kwLogX (r k : Nat) : Nat := 0x9A0 + 8 * r + k
def kwLogY (r k : Nat) : Nat := 0x9A4 + 8 * r + k

/-- Word numbers of the SEC region (assumption 6). -/
def kwIdk (i : Nat) : Nat := 0xF00 + i
def kwBek (i : Nat) : Nat := 0xF0C + i
def kwOwner (i : Nat) : Nat := 0xF14 + i
def kwCkpt (b i : Nat) : Nat := 0xF30 + 0x20 * b + i
def kwSel : Nat := 0xF70
def kwEpoch : Nat := 0xF71
def kwMinver : Nat := 0xF72
def kwLc : Nat := 0xF73
def kwZpend : Nat := 0xF74
def kwKey : Nat := 0xF75
def kwGap : Nat := 0xF76
def kwOwnerSet : Nat := 0xF77
def kwBekSet : Nat := 0xF78
def kwGen : Nat := 0xF79
def kwIdpub (i : Nat) : Nat := 0xF80 + i

/-- What a keep word holds until it is written: the factory values of spec/10's Reset columns, no program (R284), the
factory trims, and 0 elsewhere (BLANK, empty user words). -/
def keepDefault (w : Nat) : Word :=
  if 0x990 ≤ w ∧ w ≤ 0x993 then 0xFFFF
  else if w = 0x998 then 0x64000501 else if w = 0x99C then 0x64000500
  else if w = 0x999 ∨ w = 0x99D then 0x026C0190
  else if w = 0x99A ∨ w = 0x99E then 0x01B80168
  else if w = 0x99B ∨ w = 0x99F then 0x141F4032
  else if 0xC00 ≤ w ∧ w < 0xF00 then Config.keepTrim w
  else 0

/-- The stored value of a keep word; 0 where both its slots fail their check (R385, R386). -/
def State.keepWord (s : State) (w : Nat) : Word :=
  if w ∈ s.keep.bad then 0 else s.keep.words.get keepDefault w

/-- Consecutive keep words. -/
def State.keepWords (s : State) (w n : Nat) : List Word := (List.range n).map fun i => s.keepWord (w + i)

/-- A worn word is frozen (R386). -/
def State.keepWorn (s : State) (w : Nat) : Bool := decide (200000 ≤ s.keep.wear.get (fun _ => 0) w)

/-- KPS_LAST (R398). -/
def State.keepLast (s : State) (w why : Nat) : State :=
  s.setReg (F.KPS_LAST.addr 0) (BitVec.ofNat 32 (why * 2 ^ 12 + w % 4096))

/-- The wear counter of a word one up, with what WARN and 200,000 do (R386). -/
def State.keepWearUp (s : State) (w : Nat) : State :=
  let n := s.keep.wear.get (fun _ => 0) w + 1
  let s := { s with keep := { s.keep with wear := s.keep.wear.set (fun _ => 0) w n } }
  let s := if min (s.fld F.KPS_WEAR_CFG_WARN 0) 200000 ≤ n ∧ w ∉ s.keep.warned then
      ({ s with keep := { s.keep with warned := s.keep.warned ++ [w] } }.event B.KPS 0 0).raiseFault 377 else s
  if n = 200000 then ((s.event B.KPS 0 1).raiseFault 376).keepLast w 1 else s

/-- A word found unreadable (R386). -/
def State.keepUnread (s : State) (w : Nat) : State := ((s.raiseFault 378).event B.KPS 0 2).keepLast w 2

/-- A keep write programmed and verified (R385, R386). A worn word discards it; an equal value programs nothing; a
failed verify leaves the old value and counts a wear cycle, and the word is unreadable when its other slot fails too. A word
of a block's region stands in that block's registers: the failure of both slots is found at once (assumption 120). -/
def State.keepProgram (s : State) (w : Nat) (v : Word) (verified oldGood : Bool) : State :=
  if s.keepWorn w then (s.raiseFault 376).event B.KPS 0 1
  else if v = s.keep.words.get keepDefault w ∧ w ∉ s.keep.bad then s
  else if verified then
    ({ s with keep := { s.keep with
        words := s.keep.words.set keepDefault w v
        bad := s.keep.bad.filter (· ≠ w) } }).keepWearUp w
  else
    let s := ((s.raiseFault 379).event B.KPS 0 2).keepLast w 3
    let s := if oldGood then s else
      { s with keep := { s.keep with bad := if w ∈ s.keep.bad then s.keep.bad else s.keep.bad ++ [w] } }
    let s := if oldGood ∨ w < 0x800 then s else s.keepUnread w
    s.keepWearUp w

/-- A block's own write into its region, taken as applied with the sequence that makes it (R385). -/
def State.keepStore (s : State) (w : Nat) (v : Word) : State := s.keepProgram w v true true

/-- A block's own writes of consecutive words. -/
def State.keepStores (s : State) (w : Nat) (vs : List Word) : State :=
  (vs.zipIdx).foldl (fun s x => s.keepStore (w + x.2) x.1) s

/-- KPS_STAT follows the queue (R398). -/
def State.keepStat (s : State) : State :=
  (s.setFld F.KPS_STAT_QUEUE 0 s.keep.queue.length).setFlag F.KPS_STAT_BUSY 0 (!s.keep.queue.isEmpty)

/-- The front write of the queue is programmed (R385). -/
def State.keepApply (s : State) (verified oldGood : Bool) : State :=
  match s.keep.queue with
  | [] => s
  | q :: rest => ({ s with keep := { s.keep with queue := rest } }.keepProgram q.word q.value verified oldGood).keepStat

/-- A keep write reaches the queue (R385): an equal value with nothing queued for the word is applied at once. A full queue
holds the write back until its front write has been programmed, verified or not as a free choice has it. -/
def State.keepEnqueue (s : State) (w : Nat) (v : Word) : State :=
  let push := fun (s : State) => { s with keep := { s.keep with queue := s.keep.queue ++ [KeepWrite.mk w v] } }.keepStat
  if s.keepWorn w then (s.raiseFault 376).event B.KPS 0 1
  else if v = s.keepWord w ∧ w ∉ s.keep.bad ∧ s.keep.queue.all (·.word ≠ w) then s
  else if s.keep.queue.length < 16 then push s
  else
    let (c, s) := s.draw
    push (s.keepApply (c % 2 = 0) (c / 2 % 2 = 0))

/-- A write of KPS_DATA (R384, R398): user words only; other regions discard it and raise KPS.DENIED. -/
def State.writeKpsData (s : State) (v : Word) : State :=
  let w := s.fld F.KPS_SEL_WORD 0
  if w < 0x800 then s.keepEnqueue w v else s.event B.KPS 0 3

/-- KEEP_WRITE: from the KPS page, or from SEC or SEQ into their own regions. -/
def keepWrite (src : KeepSrc) (v : Word) (s : State) : State :=
  match src with
  | .kps => s.writeKpsData v
  | .sec i => if i < 0x100 ∧ s.domOn .sec then s.keepEnqueue (0xF00 + i) v else s
  | .seq i => if i < 0x400 ∧ s.domOn .sec then s.keepEnqueue (0x800 + i) v else s

def execKeepWrite (src : KeepSrc) (v : Word) (s : State) : Host.Outcome State Fault Refusal := .next (s.finish (match src with
  | .kps => s.onPage B.KPS 0 F.KPS_DATA.off (keepWrite src v)
  | _ => keepWrite src v s))

/-- KEEP_WRITE_APPLIED: `verified` is the verify's result, `oldGood` whether the word's other slot passes its check. -/
def execKeepWriteApplied (verified oldGood : Bool) (s : State) : Host.Outcome State Fault Refusal :=
  .next (s.finish (s.keepApply verified oldGood))

/-- What KPS_DATA shows of a keep word (R384): words of the SEQ and SEC regions read 0. -/
def State.kpsShow (s : State) (w : Nat) : Word :=
  if (0x800 ≤ w ∧ w < 0xC00) ∨ 0xF00 ≤ w then 0 else s.keepWord w

/-- A read of a word waits until no write to it is queued (R385): meanwhile the queue goes on, each write verified or not as
a free choice has it. `n` bounds the writes. -/
def State.keepSettle (s : State) (w : Nat) : Nat → State
  | 0 => s
  | n + 1 =>
    if s.keep.queue.any (·.word = w) then
      let (v, s) := s.draw
      (s.keepApply (v % 2 = 0) (v / 2 % 2 = 0)).keepSettle w n
    else s

/-- The state in which a read of KPS_DATA is answered (R385, R386). -/
def State.kpsWait (s : State) : State :=
  let w := s.fld F.KPS_SEL_WORD 0
  let s := s.keepSettle w 16
  if w < 0x800 ∧ w ∈ s.keep.bad then s.keepUnread w else s

end Sys2Proof.Machine
end

