-- ==== Sys2Proof/Machine/CalStore.lean ====
section
/-! DEFINITION. The calibration store (R387 to R389, R397). -/

namespace Sys2Proof.Machine

/-- Bytes a record takes, 8-byte aligned (R387, R388). -/
def CalRec.size (r : CalRec) : Nat := (0x20 + r.data.length + 4 + 7) / 8 * 8

/-- Bytes used in a bank: its seal and its records. -/
def CalBank.used (b : CalBank) : Nat := 8 + (b.recs.map CalRec.size).sum

/-- A record as it stands in the store, without padding (R388). -/
def CalRec.bytes (r : CalRec) : List Byte :=
  let b := leBytes 2 0xCA1B ++ leBytes 1 r.typ ++ leBytes 1 r.inst ++ leBytes 2 r.data.length ++ leBytes 2 r.gen
    ++ leBytes 8 r.time ++ takeAt r.key 0 16 ++ r.data
  b ++ leBytes 4 (crc32c b).toNat

/-- A seal (R387). -/
def sealBytes (epoch : Nat) : List Byte :=
  let b := leBytes 4 0x5345414C ++ leBytes 2 epoch
  b ++ leBytes 2 (crc16 b).toNat

/-- The bytes of a sealed bank: its seal, and its records 8-byte aligned. A torn record's bytes are not known. -/
def CalBank.bytes (b : CalBank) : Option (List Byte) :=
  if b.recs.any (·.torn) then none
  else b.epoch.map fun e => sealBytes e ++ b.recs.flatMap fun r => takeAt r.bytes 0 r.size

/-- EPOCH `a` newer than `b`, modulo 65,536. -/
def epochNewer (a b : Nat) : Bool := decide (0 < (a + 65536 - b) % 65536 ∧ (a + 65536 - b) % 65536 < 32768)

/-- Is bank B the active one (R387)? -/
def Cal.activeB (c : Cal) : Bool :=
  match c.bankA.epoch, c.bankB.epoch with
  | some a, some b => epochNewer b a
  | none, some _ => true
  | _, none => false

/-- The active bank. -/
def Cal.active (c : Cal) : CalBank := if c.activeB then c.bankB else c.bankA

/-- The newest valid record of a (TYPE, INST) in a list of records in order of appending. -/
def newestRec (rs : List CalRec) (typ inst : Nat) : Option CalRec :=
  (rs.filter fun r => r.typ == typ && r.inst == inst && !r.torn).foldl
    (fun b r => match b with
      | none => some r
      | some q => if epochNewer q.gen r.gen then b else some r) none

/-- The newest valid record of each (TYPE, INST). -/
def newestRecs (rs : List CalRec) : List CalRec :=
  rs.filter fun r => newestRec rs r.typ r.inst == some r

/-- CAL_STORE_STAT.BANK and FREE follow the store. -/
def State.calStat (s : State) : State :=
  (s.setFlag F.CAL_STORE_STAT_BANK 0 s.cal.activeB).setFld F.CAL_STORE_STAT_FREE 0 ((0x8000 - s.cal.active.used) / 8)

/-- Compaction into the other bank: the newest valid record of each key, then a seal with EPOCH + 1 (R387). -/
def Cal.compact (c : Cal) : Cal :=
  let b : CalBank := { epoch := some (((c.active.epoch.getD 0) + 1) % 65536), recs := newestRecs c.active.recs }
  if c.activeB then { c with bankA := b } else { c with bankB := b }

/-- A record appended to the active bank. -/
def Cal.append (c : Cal) (r : CalRec) : Cal :=
  if c.activeB then { c with bankB := { c.bankB with recs := c.bankB.recs ++ [r] } }
  else { c with bankA := { c.bankA with recs := c.bankA.recs ++ [r] } }

/-- A record written with the next GEN of its key, after compaction where it would not fit; a failing store writes
nothing, raises F_371 and STORE_ERR, and stores nothing further (R387, R388, R396). -/
def State.calWrite (s : State) (typ inst : Nat) (key data : List Byte) (storeOk : Bool) : State :=
  if s.cal.storeErr then s
  else if !storeOk then ({ s with cal := { s.cal with storeErr := true } }.event B.CAL 0 3).raiseFault 371
  else
    let gen := match newestRec s.cal.active.recs typ inst with
      | some r => (r.gen + 1) % 65536
      | none => 0
    let r : CalRec := { typ := typ, inst := inst, gen := gen, time := s.now, key := key, data := data, torn := false }
    let fits := s.cal.active.epoch.isSome && decide (s.cal.active.used + r.size ≤ 0x8000)
    let c := if fits then s.cal else s.cal.compact
    { s with cal := { c.append r with wrote := some (s.now, !fits) } }.calStat

/-- The newest record of a bank is torn. -/
def CalBank.tear (b : CalBank) : CalBank :=
  { b with recs := b.recs.zipIdx.map fun x => if x.2 + 1 = b.recs.length then { x.1 with torn := true } else x.1 }

/-- The supplies, or the CTL domain, go while a record may still be being written (R387, R396): it is torn; where the store
was being compacted, a free choice says whether the new bank was sealed, and unsealed it is ignored. -/
def State.calTear (s : State) : State :=
  match s.cal.wrote with
  | none => s
  | some (t, compacted) =>
    let (v, s) := s.draw
    let c := s.cal
    let put := fun (b : CalBank) => if c.activeB then { c with bankB := b } else { c with bankA := b }
    let c' := if t + Config.calWriteNs t ≤ s.now then c
      else if compacted ∧ v % 2 = 0 then put { epoch := none, recs := [] } else put c.active.tear
    { s with cal := { c' with wrote := none } }

/-- CAL_CTRL.CLEAR (R397): both banks erased, bank A sealed with EPOCH 0; in CONFIG only. -/
def State.calClear (s : State) : State :=
  if s.sys.mode = .config then
    { s with cal := { s.cal with
        bankA := { epoch := some 0, recs := [] }, bankB := { epoch := none, recs := [] }, wrote := none } }.calStat
  else s

/-- CAL_CLEAR. -/
def execCalClear (s : State) : Host.Outcome State Fault Refusal :=
  .next (s.finish (s.onPage B.CAL 0 F.CAL_CTRL.off fun s =>
    s.calClear))

/-- A trim put in force that no register shows. -/
def Cal.setTrim (c : Cal) (typ inst : Nat) (d : List Byte) : Cal :=
  { c with trims := c.trims.filter (·.1 ≠ typ * 256 + inst) ++ [(typ * 256 + inst, d)] }

end Sys2Proof.Machine
end

