-- ==== Sys2Proof/Machine/Codeword.lean ====
section
/-! DEFINITION. The codeword of LMEM: the Reed–Solomon code RS(160,128) over GF(2^8) and where its symbols lie (R302 to
R304). -/

namespace Sys2Proof.Machine

/-- Multiplication by α: field polynomial 0x11D (R302). -/
def gfAlpha (x : Byte) : Byte := if x.msb then (x <<< 1) ^^^ 0x1D else x <<< 1

/-- The product in GF(2^8), over the bits of the second factor from bit 7. -/
def gfMul (x y : Byte) : Byte :=
  (List.range 8).foldl (fun acc i => let a := gfAlpha acc; if y.getLsbD (7 - i) then a ^^^ x else a) 0

/-- α^n. -/
def gfPow : Nat → Byte
  | 0 => 1
  | n + 1 => gfAlpha (gfPow n)

/-- A polynomial, highest coefficient first, times (x − r). -/
def gfTimesRoot (p : List Byte) (r : Byte) : List Byte :=
  List.zipWith (· ^^^ ·) (p ++ [0]) (0 :: p.map fun c => gfMul c r)

/-- g(x) = (x − α^0) … (x − α^31), highest coefficient first (R302). -/
def rsGenerator : List Byte := (List.range 32).foldl (fun p i => gfTimesRoot p (gfPow i)) [1]

/-- One data symbol shifted into the remainder of the division by g(x). -/
def rsShift (rem : List Byte) (d : Byte) : List Byte :=
  let f := d ^^^ rem.headD 0
  List.zipWith (fun a g => a ^^^ gfMul f g) (rem.drop 1 ++ [0]) (rsGenerator.drop 1)

/-- The 32 check symbols s_128 to s_159 of 128 data bytes: g(x) divides the codeword (R302). -/
def rsChecks (data : List Byte) : List Byte := data.foldl rsShift (List.replicate 32 0)

/-- The value of c(x) at a point, by Horner's scheme: 0 at every root of g(x) for a codeword. -/
def rsAt (c : List Byte) (x : Byte) : Byte := c.foldl (fun acc s => gfMul acc x ^^^ s) 0

/-- The device of a symbol; its two beats, and their nibbles, low nibble first (R302). -/
def deviceOf (i : Nat) : Nat := i / 8
def beatsOf (i : Nat) (v : Byte) : List (Nat × Nat) :=
  [(2 * (i % 8), v.toNat % 16), (2 * (i % 8) + 1, v.toNat / 16)]

/-- The 160 symbols that LMEM holds for the codeword at an aligned address: its data bytes and their check symbols, each
check symbol XORed with 0xA5 where the codeword is poisoned (R302, R304). -/
def State.codeword (s : State) (a : Nat) : List Byte :=
  let data := s.lmemBytes a 128
  let mark : Byte := if a ∈ s.poison then 0xA5 else 0
  data ++ (rsChecks data).map (· ^^^ mark)

end Sys2Proof.Machine
end

