-- ==== Sys2Proof/Machine/Lmem.lean ====
section
/-! DEFINITION. LMEM: straps, training, fill, the codeword decoder, the correction record and the scrubber (R296 to
R314, R322 to R324). -/

namespace Sys2Proof.Machine

/-! ### Straps and capacity -/

/-- Channels a CHANS code populates; 0 for the invalid code (R296). -/
def chanCount (c : Nat) : Nat := if c = 0 then 1 else if c = 1 then 2 else if c = 2 then 4 else 0

/-- MT/s of a RATE code; 0 for the invalid code. -/
def rateMts (c : Nat) : Nat := if c = 0 then 6400 else if c = 1 then 5600 else if c = 2 then 4800 else 0

/-- Capacity in GiB of a strap set; 0 when the set is invalid (R296). -/
def strapGiB (m : Nat) : Nat :=
  let n := chanCount (bits m 0 2)
  let gib := n * (bits m 3 1 + 1) * 32 * (bits m 4 1 + 1)
  if n = 0 ∨ rateMts (bits m 5 2) = 0 ∨ 256 < gib ∨ (128 < gib ∧ bits m 5 2 ≠ 0) then 0 else gib

/-- BWG in 0.1 GB/s: floor(0.72 × channels × rate × 8 B) (R300). -/
def strapBwg (m : Nat) : Nat := 72 * chanCount (bits m 0 2) * rateMts (bits m 5 2) * 8 / 10000

/-- MEM samples the straps at entry to BOOT, and clears the fill-complete flag (R296, R306, R409). -/
def State.sampleMem (s : State) : State :=
  let m := match s.balls.mstrap with
    | some b => b.toNat
    | none => 3
  let gib := strapGiB m
  let s := s.setReg (F.MEM_CFG.addr 0) (BitVec.ofNat 32 (m + if gib = 0 then 0 else 0x100))
  let s := s.setReg (F.MEM_SIZE.addr 0) (BitVec.ofNat 32 gib)
  let s := s.setReg (F.MEM_BWG.addr 0) (BitVec.ofNat 32 (if gib = 0 then 0 else strapBwg m))
  let s := s.setReg (F.MEM_STAT.addr 0) 0
  { s with aon := { s.aon with fillDone := false } }

/-- Installed capacity in bytes. -/
def State.lmemSize (s : State) : Nat := s.fld F.MEM_SIZE 0 * 2 ^ 30

/-- The bundle region: the top 2 GiB (R297). -/
def State.bundleBase (s : State) : Nat := s.lmemSize - 2 ^ 31

/-- The channel of an address (R297). -/
def State.channelOf (s : State) (a : Nat) : Nat :=
  match s.fld F.MEM_CFG_CHANS 0 with
  | 2 => bits a 7 2 ^^^ bits a 16 2 ^^^ bits a 25 2
  | 1 => bits a 7 1 ^^^ bits a 16 1 ^^^ bits a 25 1
  | _ => 0

/-- The rank of an address (assumption 7). -/
def State.rankAt (s : State) (a : Nat) : Nat :=
  if s.flag F.MEM_CFG_RANKS 0 then Config.rankOf (a / 128) % 2 else 0

/-! ### Training and fill -/

/-- KEY of a MEMTRAIN record: MEM_CFG in bytes 0 to 3 (R388). -/
def State.trainKey (s : State) : List Byte := leBytes 4 (s.reg (F.MEM_CFG.addr 0)).toNat ++ List.replicate 12 0

/-- A stored training record whose strap set matches (R298). -/
def State.trainRecord (s : State) : Option CalRec :=
  match newestRec s.cal.active.recs 1 0 with
  | some r => if r.key = s.trainKey then some r else none
  | none => none

/-- MEM_TRAINED: training ends. `verified`: the stored delays passed their pattern; `failed`: the channels that failed
full training, one bit each; `delays`: what full training found; `storeOk`: the record could be written (R298, R306). -/
def memTrained (verified : Bool) (failed : Nat) (delays : List Byte) (storeOk : Bool) (s : State) : State :=
  if s.flag F.MEM_STAT_TRAINED 0 ∨ ¬ s.domOn .mem then s
  else
    let fast := s.trainRecord.isSome && verified && !s.flag F.MEM_CTRL_FULLTRAIN 0
    let n := chanCount (s.fld F.MEM_CFG_CHANS 0)
    let err := if s.flag F.MEM_CFG_VALID 0 then (if fast then 0 else bits failed 0 n) else 0xF
    let s := s.setFlag F.MEM_CTRL_FULLTRAIN 0 false
    if err = 0 then
      let s := if fast then s else s.calWrite 1 0 s.trainKey (takeAt delays 0 1024) storeOk
      let s := ((s.setFlag F.MEM_STAT_TRAINED 0 true).setFld F.MEM_STAT_TRAIN 0 (if fast then 1 else 2)).event B.MEM 0 0
      { s.setFlag F.MEM_STAT_FILLING 0 true with lmem := [], poison := [] }
    else ((s.setFld F.MEM_STAT_TRAIN_ERR 0 err).event B.MEM 0 2).raiseFault 304

def execMemTrained (verified : Bool) (failed : Nat) (delays : List Byte) (storeOk : Bool) (s : State) :
    Host.Outcome State Fault Refusal := .next (s.finish (memTrained verified failed delays storeOk s))

/-- LMEM_FILL_DONE: the last fill write is acknowledged (R306). -/
def lmemFillDone (s : State) : State :=
  if s.flag F.MEM_STAT_FILLING 0 then
    let s := ((s.setFlag F.MEM_STAT_FILLING 0 false).setFlag F.MEM_STAT_FILL_DONE 0 true).setFld F.MEM_STAT_FILL_PCT 0 100
    { s with aon := { s.aon with fillDone := true } }.event B.MEM 0 1
  else s

def execLmemFillDone (s : State) : Host.Outcome State Fault Refusal := .next (s.finish (lmemFillDone s))

/-- The MEM domain switches off: LMEM, the table and the counts are lost (R306, R314). -/
def State.loseLmem (s : State) : State :=
  { s with
    lmem := [], poison := []
    aon := { s.aon with fillDone := false }
    ecc := Ecc.init }

/-! ### The decoder -/

/-- The codeword that holds an address. -/
def cwOf (a : Nat) : Nat := a / 128 * 128

/-- The device of `rank` that ECC_ERASE marks on a channel (R305). -/
def State.erased (s : State) (ch rank : Nat) : Option Nat :=
  if rank = 0 then (if s.flag F.ECC_ERASE_V_0 ch then some (s.fld F.ECC_ERASE_DEV_0 ch) else none)
  else (if s.flag F.ECC_ERASE_V_1 ch then some (s.fld F.ECC_ERASE_DEV_1 ch) else none)

/-- What decoding a codeword gives (R303, R304). -/
inductive Decoded where
  /-- No symbol in error, or every one corrected; with the devices corrected. -/
  | good (devices : List Nat)
  /-- Detected as uncorrectable. -/
  | uncorrectable
  /-- Beyond the detection column: it may be miscorrected. -/
  | beyond
  deriving DecidableEq, Repr

/-- Decode by the symbols in error: 12 corrected and 20 detected in normal mode; beside a marked device 8 corrected and
16 detected (R303). -/
def decodeErrs (mark : Option Nat) (syms : List Nat) : Decoded :=
  let devs := (syms.map deviceOf).dedup
  match mark with
  | none =>
    let n := syms.dedup.length
    if n ≤ 12 then .good devs else if n ≤ 20 then .uncorrectable else .beyond
  | some d =>
    let n := (syms.dedup.filter fun x => decide (deviceOf x ≠ d)).length
    if n ≤ 8 then .good devs else if n ≤ 16 then .uncorrectable else .beyond

/-- One more corrected codeword for a device: TOTAL, WIN, the threshold and the automatic mark (R305). -/
def State.countDev (s : State) (ch rank dev : Nat) : State :=
  let k := (ch * 2 + rank) * 32 + dev
  let tot := s.ecc.total.get (fun _ => 0) k
  let win := s.ecc.window.get (fun _ => 0) k + 1
  let s := { s with ecc := { s.ecc with
    total := s.ecc.total.set (fun _ => 0) k (min (tot + 1) 65535)
    window := s.ecc.window.set (fun _ => 0) k (min win 65535) } }
  if win = s.fld F.ECC_DEV_CFG_THR 0x10 + 1 then
    let s := (s.event B.ECC ch 2).raiseFault 302
    if s.flag F.ECC_DEV_CFG_AUTO 0x10 ∧ (s.erased ch rank).isNone then
      if rank = 0 then (s.setFld F.ECC_ERASE_DEV_0 ch dev).setFlag F.ECC_ERASE_V_0 ch true
      else (s.setFld F.ECC_ERASE_DEV_1 ch dev).setFlag F.ECC_ERASE_V_1 ch true
    else s
  else s

/-- Number of the table entry a correction at an address goes to: its own, a free one, or the one with the lowest HITS
(R312); and whether it replaces another address. -/
def Ecc.slotFor (e : Ecc) (a : Nat) : Nat × Bool :=
  let at_ := fun i => e.table.get (fun _ => (none : Option EccEntry)) i
  match (List.range 64).find? fun i => (at_ i).any (·.addr == a) with
  | some i => (i, false)
  | none =>
    match (List.range 64).find? fun i => (at_ i).isNone with
    | some i => (i, false)
    | none =>
      let h := fun i => ((at_ i).map (·.hits)).getD 0
      ((List.range 64).foldl (fun b i => if h i < h b then i else b) 0, true)

/-- A correction entered in the table (R312). -/
def State.tableHit (s : State) (a ch rank dev : Nat) : State :=
  let (i, repl) := s.ecc.slotFor a
  let old := s.ecc.table.get (fun _ => none) i
  let hits := match old with
    | some x => if x.addr = a then min (x.hits + 1) 65535 else 1
    | none => 1
  let e : EccEntry := { addr := a, rank := rank, channel := ch, device := dev, hits := hits }
  let s := { s with ecc := { s.ecc with table := s.ecc.table.set (fun _ => none) i (some e) } }
  let s := if repl then s.bump F.ECC_TBL_OVF 0x10 else s
  let full : Bool := (List.range 64).all fun i => (s.ecc.table.get (fun _ => (none : Option EccEntry)) i).isSome
  if full && !s.ecc.fullSaid then { s with ecc := { s.ecc with fullSaid := true } }.event B.ECC 0x10 2 else s

/-- A corrected codeword recorded (R312). -/
def State.corrected (s : State) (a : Nat) (devs : List Nat) : State :=
  let ch := s.channelOf a
  let rk := s.rankAt a
  let s := (s.bump F.ECC_CE_CNT ch).event B.ECC ch 0
  let s := forAll devs s fun s d => s.countDev ch rk d
  s.tableHit a ch rk (match devs with | [d] => d | _ => 0x1F)

/-- A codeword is marked poisoned. -/
def State.setPoison (s : State) (a : Nat) : State :=
  if a ∈ s.poison then s else { s with poison := s.poison ++ [a] }

/-- MEM or ECC marks a codeword poisoned, and its address goes to FST (R68, R310). -/
def State.markPoison (s : State) (a : Nat) : State :=
  let s := s.setPoison a
  { s with ecc := { s.ecc with handed := s.ecc.handed ++ [a] } }

/-- Data bytes of a codeword as received: wrong data symbols differ from what is stored. -/
def State.received (s : State) (a : Nat) (syms : List (Nat × Byte)) : List Byte :=
  ((s.lmemBytes a 128).zipIdx).map fun x => x.1 ^^^ ((syms.filter (·.1 = x.2)).foldl (fun b y => b ^^^ y.2) 0)

/-- An uncorrectable codeword: written back poisoned with the data as received, recorded, counted, raised, and handed to
FST (R310). -/
def State.uncorrectable (s : State) (a : Nat) (syms : List (Nat × Byte)) (scrub : Bool) : State :=
  let bs := s.received a syms
  let s := { s with lmem := s.lmem.setList lmemDefault a bs }
  let ch := s.channelOf a
  let s := ((s.setPair64 F.ECC_UE_ADDR_LO 0x10 a).bump F.ECC_UE_CNT ch).event B.ECC ch 1
  let s := if scrub then (s.event B.ECC 0x10 0).raiseFault 301 else s.raiseFault 300
  s.markPoison a

/-- One codeword read through ECC: a correction is counted, an uncorrectable codeword is poisoned. A pattern beyond the
detection column may be miscorrected: a free choice says whether it is, and then the bytes written back and the devices
counted as corrected are free values (R303 to R310, assumption 8). -/
def State.readCw (s : State) (a : Nat) (errs : List CwErr) (scrub : Bool) : State :=
  match errs.find? (·.addr = a) with
  | none => s
  | some e =>
    match decodeErrs (s.erased (s.channelOf a) (s.rankAt a)) ((e.syms.filter fun x => decide (x.1 < 160)).map (·.1)) with
    | .good [] => s
    | .good devs => s.corrected a devs
    | .uncorrectable => s.uncorrectable a e.syms scrub
    | .beyond =>
      let (m, s) := s.draw
      if m % 2 = 0 then s.uncorrectable a e.syms scrub
      else
        let s := forAll (List.range 128) s fun s i =>
          let (v, s) := s.draw
          { s with lmem := s.lmem.set lmemDefault (a + i) (BitVec.ofNat 8 v) }
        let (d, s) := s.draw
        s.corrected a ((List.range 20).filter fun i => bit d i)

/-- The codewords an access touches. -/
def cwsOf (a n : Nat) : List Nat :=
  if n = 0 then [] else (List.range ((a + n - 1) / 128 + 1 - a / 128)).map fun i => cwOf a + 128 * i

/-- A demand read of `n` bytes: the state after ECC has acted. The bytes and the poison mark are then read from it. -/
def State.demand (s : State) (a n : Nat) (errs : List CwErr) : State :=
  let bad := (errs.filter fun e => e.parity && decide (e.addr ∈ cwsOf a n)).map (·.addr)
  let s := { s with ecc := { s.ecc with parity := bad } }
  forAll ((cwsOf a n).filter fun c => decide (c ∉ bad)) s fun s c => s.readCw c errs false

/-- Does an access touch a poisoned codeword (R304), or one whose read failed for parity (R299)? -/
def State.poisoned (s : State) (a n : Nat) : Bool := (cwsOf a n).any fun c => decide (c ∈ s.poison ∨ c ∈ s.ecc.parity)

/-! ### Scrubber and pages -/

/-- SCRUB_READ: the next codeword, with the errors found; `lag`: class 1 and 2 traffic holds the scrubber more than a
second behind (R308). -/
def scrubRead (errs : List CwErr) (lag : Bool) (s : State) : State :=
  if s.flag F.ECC_SCRUB_CFG_EN 0x10 ∧ s.aon.fillDone ∧ s.domOn .mem ∧ 0 < s.lmemSize then
    let p := s.pair64 F.ECC_SCRUB_POS_LO 0x10
    let s := (s.setFlag F.ECC_SCRUB_STAT_ACTIVE 0x10 true).readCw p errs true
    let s := if lag ∧ ¬ s.flag F.ECC_SCRUB_STAT_LAG 0x10 then s.event B.ECC 0x10 3 else s
    let s := s.setFlag F.ECC_SCRUB_STAT_LAG 0x10 lag
    if p + 128 < s.lmemSize then s.setPair64 F.ECC_SCRUB_POS_LO 0x10 (p + 128)
    else ((s.setPair64 F.ECC_SCRUB_POS_LO 0x10 0).bump F.ECC_SCRUB_STAT_PASSES 0x10).event B.ECC 0x10 1
  else s.setFlag F.ECC_SCRUB_STAT_ACTIVE 0x10 false

def execScrubRead (errs : List CwErr) (lag : Bool) (s : State) : Host.Outcome State Fault Refusal :=
  .next (s.finish (scrubRead errs lag s))

/-- Length of a correction window: WIN minutes, 0 taken as 1 (R305, R324). -/
def State.eccWindowNs (s : State) : Nat := max 1 (s.fld F.ECC_DEV_CFG_WIN 0x10) * 60000000000

/-- ECC_DEV_WINDOW: a correction window ends, WIN minutes after it began, and the next begins (R305). -/
def eccDevWindow (s : State) : State :=
  if s.ecc.windowAt + s.eccWindowNs ≤ s.now ∧ s.domOn .mem then
    { s with ecc := { s.ecc with window := [], windowAt := s.now } }
  else s

def execEccDevWindow (s : State) : Host.Outcome State Fault Refusal := .next (s.finish (eccDevWindow s))

/-- A write of ECC_ERASE (R323): discarded when it names a device above 19 with V = 1; rank 1's half is discarded with
one rank. -/
def State.writeErase (s : State) (ch : Nat) (v : Word) : State :=
  let w := v.toNat
  if (bit w 7 ∧ 19 < bits w 0 5) ∨ (bit w 15 ∧ 19 < bits w 8 5) then s
  else s.setReg (F.ECC_ERASE.addr ch)
    (if s.flag F.MEM_CFG_RANKS 0 then v &&& 0x9F9F
     else BitVec.ofNat 32 (bits w 0 5 + bits w 7 1 * 128 + (s.reg (F.ECC_ERASE.addr ch)).toNat / 256 * 256))

/-- ECC_ERASE_WRITE. -/
def execEccEraseWrite (ch : Nat) (v : Word) (s : State) : Host.Outcome State Fault Refusal :=
  .next (s.finish (s.onPage B.ECC ch F.ECC_ERASE.off fun s =>
    if ch < chanCount (s.fld F.MEM_CFG_CHANS 0) then s.writeErase ch v else s))

/-- ECC_TBL_CTRL.CLEAR (R324). -/
def State.clearTable (s : State) : State :=
  { s with ecc := { s.ecc with table := [], fullSaid := false } }.setReg (F.ECC_TBL_OVF.addr 0x10) 0

/-- ECC_TBL_CLEAR. -/
def execEccTblClear (s : State) : Host.Outcome State Fault Refusal :=
  .next (s.finish (s.onPage B.ECC 0x10 F.ECC_TBL_CTRL.off fun s =>
    s.clearTable))

end Sys2Proof.Machine
end

