-- ==== Sys2Proof/Machine/Lanes.lean ====
section
/-! DEFINITION. What travels on the lanes of a Beam Link and of the cascade ring: 64b/66b blocks, columns of six, the CRC-8
of control blocks, the scrambler, and the pacing of a facet packet (R2, R137 to R141). It is derived from what State lists
as emitted. -/

namespace Sys2Proof.Machine

/-! ### Blocks -/

/-- A 64b/66b block before scrambling: its sync header and its eight bytes. -/
structure LaneBlock where
  sync : BitVec 2
  bytes : List Byte
  deriving DecidableEq, Repr

/-- A control block of a type and payload (R138). -/
def controlBlock (typ : Nat) (payload : List Byte) : LaneBlock :=
  let b := BitVec.ofNat 8 typ :: takeAt payload 0 6
  { sync := 0b10, bytes := b ++ [crc8 b] }

/-- A control column: the same block on all six lanes, but for TRAIN, which names each lane (R138, R139). -/
def controlColumn (typ : Nat) (payload : List Byte) : List LaneBlock :=
  (List.range 6).map fun l => controlBlock typ (if typ = 0xA7 then BitVec.ofNat 8 l :: payload.drop 1 else payload)

/-- Six data blocks of a column, padded with all-zero ones (R140). -/
def dataColumn (bs : List (List Byte)) : List LaneBlock :=
  (List.range 6).map fun l => { sync := 0b01, bytes := takeAt (bs.getD l []) 0 8 }

/-- Columns of one pixel group: block i on lane i mod 6 of column floor(i / 6). -/
def groupColumns (bs : List (List Byte)) : List (List LaneBlock) := (chunks 6 ((bs.length + 5) / 6) bs).map dataColumn

/-- Emitters of a mask. -/
def maskCount (mask : Nat) : Nat := ((List.range 48).filter fun e => bit mask e).length

/-- Columns that one emission sends on the lanes of station `n`. -/
def Emit.columns (n : Nat) : Emit → List (List LaneBlock)
  | .control k typ p => if k = n then [controlColumn typ p] else []
  | .facet k seq fstart mask blocks crc _ =>
    if k ≠ n then []
    else
      [controlColumn 0xA2 fstart, controlColumn 0xA3 (leBytes 6 mask)]
        ++ (chunks (maskCount mask) 6144 blocks).flatMap groupColumns
        ++ [controlColumn 0xA4 (leBytes 4 crc ++ leBytes 2 seq)]
  | _ => []

/-! ### Scrambler (R2) -/

/-- 64 bits through the self-synchronising scrambler of x^58 + x^39 + 1. `h` holds the last 58 bits sent, the oldest in bit
0; the first bit to be sent is bit 0 of `x`. -/
def scramble (h x : Nat) : Nat × Nat :=
  let first := (x ^^^ h ^^^ (h >>> 19)) % 2 ^ 39
  let e := h + first * 2 ^ 58
  let out := (x ^^^ e ^^^ (e >>> 19)) % 2 ^ 64
  (out, (h + out * 2 ^ 58) >>> 64)

/-- The blocks of a lane as they are sent, sync headers unscrambled, from a scrambler that holds `h`. -/
def scrambleLane (h : Nat) : List LaneBlock → List (BitVec 2 × BitVec 64)
  | [] => []
  | b :: bs =>
    let r := scramble h (leNat b.bytes)
    (b.sync, BitVec.ofNat 64 r.1) :: scrambleLane r.2 bs

/-- What lane `l` of station `n` has sent. The spec does not say what a scrambler holds at first: a free value. -/
def State.laneOut (s : State) (n l : Nat) : List (BitVec 2 × BitVec 64) :=
  scrambleLane (Config.scrambler n l % 2 ^ 58)
    ((s.emitted.flatMap (Emit.columns n)).map fun c => c.getD l { sync := 0, bytes := [] })

/-! ### Pacing (R141) -/

/-- The press times, in 31.25 ps, between which the data blocks of pixel group `g` leave: their last bit at least
tLEADMIN = 0.5 µs before the rising edge of their first pixel, and none earlier than tLEADMAX = 6.0 µs before it. -/
def PixLine.leaves (l : PixLine) (g : Nat) : Nat × Nat :=
  let t := l.t0 + 8 * g * 32000 * 2 ^ 23 * 100000 / max 1 l.freq
  (t - 32 * 6000, t - 32 * 500)

end Sys2Proof.Machine
end

