-- ==== Sys2Proof/Machine/Packets.lean ====
section
/-! DEFINITION. Sending packets on the cascade (R369 to R372). What receiving one does stands in
Sys2Proof/Machine/Cascade.lean. -/

namespace Sys2Proof.Machine

/-- This node's ID, and the modes of its CAS page (R382). -/
def State.nodeId (s : State) : Nat := s.fld F.CAS_STAT_NODE_ID 0
def casDown : Nat := 0
def casTrain : Nat := 1
def casDisc : Nat := 2
def casUp : Nat := 3
def casBypass : Nat := 4
def casDup : Nat := 5

/-- A node in BYPASS or DUP sends and delivers nothing of its own (R369); with CASEN = 0, or its domain off, nothing
travels (R368). -/
def State.casActive (s : State) : Bool :=
  s.casEnabled && s.domOn .cas && decide (s.fld F.CAS_STAT_STATE 0 < casBypass)

/-- A node is present (R373). -/
def State.casPresent (s : State) (k : Nat) : Bool :=
  if k < 32 then bit (s.reg (F.CAS_MAP_LO.addr 0)).toNat k
  else decide (k < 64) && bit (s.reg (F.CAS_MAP_HI.addr 0)).toNat (k - 32)

/-- A port; `true` = B. -/
def Cas.port (c : Cas) (b : Bool) : Port := if b then c.portB else c.portA
def Cas.setPort (c : Cas) (b : Bool) (p : Port) : Cas := if b then { c with portB := p } else { c with portA := p }
def State.setPort (s : State) (b : Bool) (p : Port) : State := { s with cas := s.cas.setPort b p }

/-- A port's link is up. -/
def State.portUp (s : State) (b : Bool) : Bool := if b then s.flag F.CAS_STAT_B_UP 0 else s.flag F.CAS_STAT_A_UP 0

/-- Class of a packet type (R372); 3 stands for the neighbour types, which travel at once. -/
def pktClass (typ : Nat) : Nat :=
  if typ = 0x08 ∨ typ = 0x10 ∨ typ = 0x0A then 0
  else if typ = 0x01 ∨ typ = 0x02 ∨ typ = 0x03 ∨ typ = 0x04 then 1
  else if typ = 0x11 ∨ typ = 0x12 ∨ typ = 0x14 ∨ typ = 0x15 ∨ typ = 0x1F then 3
  else 2

/-- A packet this node makes (R370). -/
def State.mkPacket (s : State) (typ dst tag : Nat) (data : List Byte) : Packet :=
  { typ := typ, dst := dst, src := s.nodeId, hseq := 0, reflected := false, cls := pktClass typ % 3, hops := 0,
    tag := tag, data := data }

/-- Header bytes 0 to 6 of a packet (R370). -/
def Packet.header (p : Packet) : List Byte :=
  [p.typ, p.dst, p.src, p.hseq, (if p.reflected then 128 else 0) + (p.data.length + 7) / 8, p.cls * 64 + p.hops % 64, p.tag].map
    (BitVec.ofNat 8)

/-- The blocks of a packet as a port sends them: the header, LEN data blocks, and where there are any an END block with the
CRC-32C over both (R370). -/
def Packet.blocks (p : Packet) : List LaneBlock :=
  let n := (p.data.length + 7) / 8
  let data := takeAt p.data 0 (8 * n)
  let head := controlBlock p.typ (p.header.drop 1)
  if n = 0 then [head]
  else [head] ++ (chunks 8 n data).map (fun bs => { sync := 0b01, bytes := bs })
    ++ [controlBlock 0x7F (leBytes 4 (crc32c (p.header ++ data)).toNat ++ [0, 0])]

/-- A queue with a packet entered behind those of its class and of classes before it (R372). -/
def enqueueByClass (q : List Packet) (p : Packet) : List Packet :=
  q.filter (fun x => decide (x.cls ≤ p.cls)) ++ [p] ++ q.filter (fun x => decide (p.cls < x.cls))

/-- Waiting packets leave while fewer than 32 are unacknowledged (R371). -/
def State.pumpPort (s : State) (b : Bool) : Nat → State
  | 0 => s
  | n + 1 =>
    let p := s.cas.port b
    match p.queue with
    | [] => s
    | x :: rest =>
      if p.unacked.length < 32 then
        let x := { x with hseq := p.hseqTx }
        ((s.setPort b { p with queue := rest, unacked := p.unacked ++ [x], hseqTx := (p.hseqTx + 1) % 256 }).emit
          (.packet b x)).pumpPort b n
      else s

/-- A packet put out of a port. A fold end reflects it out of the other port with REFLECTED set and HOPS 0; one already
reflected is dropped there (R369, R371). -/
def State.putOut (s : State) (b : Bool) (p : Packet) : State :=
  let send := fun (s : State) (b : Bool) (p : Packet) =>
    let q := s.cas.port b
    (s.setPort b { q with queue := enqueueByClass q.queue p }).pumpPort b 33
  if s.portUp b then send s b p
  else if p.reflected ∨ ¬ s.portUp (!b) then s
  else send s (!b) { p with reflected := true, hops := 0 }

/-- A neighbour packet travels at once. -/
def State.sendNeighbour (s : State) (b : Bool) (p : Packet) : State := if s.portUp b then s.emit (.packet b p) else s

/-- A broadcast of this node leaves by both ports (R371). The copy for a port that is down would be reflected here, where it
meets its originator at once. -/
def State.broadcast (s : State) (p : Packet) : State :=
  let s := if s.portUp true then s.putOut true p else s
  if s.portUp false then s.putOut false p else s

/-- The port with fewer hops to a node; B on a tie (R371). -/
def State.routeB (s : State) (k : Nat) : Bool :=
  decide (s.cas.hopsB.get (fun _ => 64) k ≤ s.cas.hopsA.get (fun _ => 64) k)

/-- A directed packet sent. -/
def State.sendTo (s : State) (p : Packet) : State := s.putOut (s.routeB p.dst) p

/-- The head this node forwards to: the node that holds the role while its lease runs; otherwise itself (R373). -/
def State.headId (s : State) : Nat :=
  if s.flag F.CAS_STAT_HEAD_OK 0 ∧ ¬ s.flag F.CAS_STAT_IS_HEAD 0 then s.fld F.CAS_STAT_HEAD_ID 0 else s.nodeId

/-- This node acts as head: it is the head, or it has no head (R339, R373). -/
def State.actsHead (s : State) : Bool := s.headId == s.nodeId

end Sys2Proof.Machine
end

