-- ==== Sys2Proof/Machine/Rings.lean ====
section
/-! DEFINITION. The rings: sizes, records written by the device, the queue and the store of R40, and event records
(R36 to R41, R56). -/

namespace Sys2Proof.Machine

/-- Page instance of a ring (R56). -/
def ringInst (r : Nat) : Nat := 0x20 + r

/-- Entries of a ring. -/
def State.ringSize (s : State) (r : Nat) : Nat :=
  let l := s.fld F.RING_SIZE_LOG2 (ringInst r)
  2 ^ (if 4 ≤ l ∧ l ≤ 16 then l else 4)

/-- Bytes of an entry (R36). -/
def ringEntry (r : Nat) : Nat := if (16 ≤ r ∧ r ≤ 19) ∨ 28 ≤ r then 32 else 256

/-- Head and tail. -/
def State.ringHead (s : State) (r : Nat) : Nat := s.fld F.RING_HEAD_INDEX (ringInst r)
def State.ringTail (s : State) (r : Nat) : Nat := s.fld F.RING_TAIL_INDEX (ringInst r)

/-- Entries between head and tail. -/
def State.ringUsed (s : State) (r : Nat) : Nat :=
  (s.ringTail r + s.ringSize r - s.ringHead r % s.ringSize r) % s.ringSize r

/-- The ring lies in host memory; only rings 16 to 19 and 24 to 27 may (R36, R56). -/
def State.ringInHost (s : State) (r : Nat) : Bool :=
  s.flag F.RING_CTRL_LOC (ringInst r) && (decide (16 ≤ r ∧ r ≤ 19) || decide (24 ≤ r ∧ r ≤ 27))

/-- RING_CTRL.EN. -/
def State.ringEn (s : State) (r : Nat) : Bool := s.flag F.RING_CTRL_EN (ringInst r)

/-- The device can reach host memory: link up, Bus Master Enable set, not in D3hot (R359). -/
def State.hostReady (s : State) : Bool :=
  s.flag F.HST_LINK_UP 0 && s.flag F.HST_LINK_BME 0 && !s.flag F.HST_LINK_D3 0

/-- LMEM serves: its domain is on and the fill is complete (R307). -/
def State.lmemReady (s : State) : Bool := s.domOn .mem && s.aon.fillDone

/-- The ring's entries can be written now (R40). -/
def State.ringWritable (s : State) (r : Nat) : Bool := if s.ringInHost r then s.hostReady else s.lmemReady

/-- Records for a ring that wait in the queue or the store (R40). -/
def State.ringWaiting (s : State) (r : Nat) : Nat :=
  (s.ringq.queue.filter (·.1 == r)).length + (s.ringq.store.filter (·.1 == r)).length

/-- Free slots as R40 counts them. -/
def State.ringFree (s : State) (r : Nat) : Nat :=
  s.ringSize r - 1 - s.ringUsed r - s.fld F.RING_RSV_COUNT (ringInst r) - s.ringWaiting r

/-- Free slots left for a record that waits in the queue itself. -/
def State.ringRoom (s : State) (r : Nat) : Nat :=
  s.ringSize r - 1 - s.ringUsed r - s.fld F.RING_RSV_COUNT (ringInst r)

/-- Address of an entry. -/
def State.ringAddr (s : State) (r i : Nat) : Nat := s.pair64 F.RING_BASE_LO (ringInst r) + ringEntry r * i

/-- A tail moved by the device, with its shadow copy (R39). -/
def State.setTail (s : State) (r t : Nat) : State :=
  let s := s.setFld F.RING_TAIL_INDEX (ringInst r) t
  if s.flag F.RING_CTRL_SHADOW_EN (ringInst r) ∧ s.hostReady then
    s.storeHost (s.pair64 F.RING_SHADOW_LO (ringInst r) / 4 * 4) (leBytes 4 t)
  else s

/-- A record written at the tail (R39). -/
def State.ringPut (s : State) (r : Nat) (bs : List Byte) : State :=
  let a := s.ringAddr r (s.ringTail r)
  let s := if s.ringInHost r then s.storeHost a bs else s.storeLmem a bs
  s.setTail r ((s.ringTail r + 1) % s.ringSize r)

/-- Entry `i` of a ring in LMEM, as the device reads it. -/
def State.ringGet (s : State) (r i : Nat) : List Byte := s.lmemBytes (s.ringAddr r i) (ringEntry r)

/-- Reserved slots of a ring up or down. -/
def State.ringReserve (s : State) (r n : Nat) : State :=
  s.setFld F.RING_RSV_COUNT (ringInst r) (s.fld F.RING_RSV_COUNT (ringInst r) + n)
def State.ringRelease (s : State) (r n : Nat) : State :=
  s.setFld F.RING_RSV_COUNT (ringInst r) (s.fld F.RING_RSV_COUNT (ringInst r) - n)

/-- A record dropped (R40). -/
def State.ringDrop (s : State) (r : Nat) : State := (s.bump F.RING_OVF (ringInst r)).event B.APR (ringInst r) 0

/-- A record with no reservation: written, queued behind those that wait, or dropped (R40). -/
def State.putUnreserved (s : State) (r : Nat) (bs : List Byte) : State :=
  if !s.ringEn r then s.ringDrop r
  else if s.ringWaiting r = 0 ∧ 0 < s.ringRoom r ∧ s.ringWritable r then s.ringPut r bs
  else if s.ringq.queue.length < 64 then { s with ringq := { s.ringq with queue := s.ringq.queue ++ [(r, bs)] } }
  else s.ringDrop r

/-- A record that uses a reserved slot: written, or kept in the 144-record store while its ring cannot be written. -/
def State.putReserved (s : State) (r : Nat) (bs : List Byte) : State :=
  if s.ringWritable r ∧ s.ringq.store.all (·.1 != r) then (s.ringRelease r 1).ringPut r bs
  else { s.ringRelease r 1 with ringq := { s.ringq with store := s.ringq.store ++ [(r, bs)] } }

/-- Records of a waiting list that can be written now are written in order; one that cannot holds back those of its ring
only. `room`: it needs a free slot, its own not being reserved. -/
def State.drainList (s : State) (room : Bool) : List (Nat × List Byte) → List Nat → State × List (Nat × List Byte)
  | [], _ => (s, [])
  | (r, bs) :: rest, held =>
    if r ∉ held ∧ s.ringWritable r ∧ (!room ∨ (0 < s.ringRoom r ∧ s.ringq.store.all (·.1 != r))) then
      (s.ringPut r bs).drainList room rest held
    else
      let (s, left) := s.drainList room rest (r :: held)
      (s, (r, bs) :: left)

/-- EVENT_QUEUE_DRAIN: the store first, then the queue (R40). -/
def State.drainRings (s : State) : State :=
  let (s, st) := s.drainList false s.ringq.store []
  let s := { s with ringq := { s.ringq with store := st } }
  let (s, q) := s.drainList true s.ringq.queue []
  { s with ringq := { s.ringq with queue := q } }

def execEventQueueDrain (s : State) : Host.Outcome State Fault Refusal := .next (s.finish (s.drainRings))

/-- What an event record says (R41). -/
structure EvRec where
  blk : Nat
  ev : Nat
  ctx : Nat
  cause : Nat
  reason : Nat
  serial : Nat
  arg : Nat
  deriving DecidableEq, Repr

/-- The 32 bytes of an event record. -/
def State.evBytes (s : State) (e : EvRec) : List Byte :=
  leBytes 1 e.blk ++ leBytes 1 e.ev ++ leBytes 1 e.ctx ++ leBytes 1 e.cause ++ leBytes 4 e.reason ++ leBytes 8 e.serial
    ++ leBytes 8 s.now ++ leBytes 8 e.arg

/-- A 32-byte entry of ring 31 for an event record from a node (R375, R376). -/
def eventEntry (node seq : Nat) (rec : List Byte) : List Byte :=
  leBytes 1 2 ++ leBytes 1 node ++ leBytes 2 0 ++ leBytes 4 seq ++ takeAt rec 0 24

/-- An event record forwarded to the head: an EVT packet, or at the head itself an entry of its own ring 31 (R376). -/
def State.forwardEvent (s : State) (r : Nat) (bs : List Byte) : State :=
  if 16 ≤ r ∧ r ≤ 19 ∧ s.casActive ∧ bit (s.fld F.CAS_CFG_EVFWD 0) (r - 16) then
    if s.actsHead then s.putUnreserved 31 (eventEntry s.nodeId 0 bs)
    else s.sendTo (s.mkPacket 0x09 s.headId 0 (takeAt bs 0 24))
  else s

/-- An event record written to an event ring, from a reserved slot or without one, and forwarded (R40, R41, R376). -/
def State.writeEvent (s : State) (r : Nat) (reserved : Bool) (e : EvRec) : State :=
  let bs := s.evBytes e
  (if reserved then s.putReserved r bs else s.putUnreserved r bs).forwardEvent r bs

/-- A host write of RING_CTRL (R56): on rings 16 to 23 a disable is discarded with BADPTR while reservations or waiting
records stand. -/
def State.writeRingCtrl (s : State) (r : Nat) (v : Word) : State :=
  let held := decide (16 ≤ r ∧ r ≤ 23) && (decide (s.fld F.RING_RSV_COUNT (ringInst r) ≠ 0) || decide (s.ringWaiting r ≠ 0))
  if held ∧ s.ringEn r ∧ ¬ bit v.toNat 0 then s.event B.APR (ringInst r) 1
  else
    let loc := (decide (16 ≤ r ∧ r ≤ 19) || decide (24 ≤ r ∧ r ≤ 27)) && bit v.toNat 1
    s.setReg (F.RING_CTRL.addr (ringInst r))
      (BitVec.ofNat 32 (bits v.toNat 0 1 + (if loc then 2 else 0) + bits v.toNat 2 1 * 4))

/-- Does the host own the tail (rings 0 to 15, 28 and 29; R56, R375)? It owns the head of the others. -/
def hostTail (r : Nat) : Bool := decide (r ≤ 15) || r == 28 || r == 29

/-- A host write of RING_TAIL (R38): the advance taken, or none where BADPTR discards it. -/
def State.tailAdvance (s : State) (r v : Nat) : Option Nat :=
  let n := s.ringSize r
  let adv := (v + n - s.ringTail r % n) % n
  if v < n ∧ s.ringUsed r + adv ≤ n - 1 then some adv else none

/-- A host write of RING_HEAD (R39). -/
def State.headAdvance (s : State) (r v : Nat) : Option Nat :=
  let n := s.ringSize r
  let adv := (v + n - s.ringHead r % n) % n
  if v < n ∧ adv ≤ s.ringUsed r then some adv else none

/-- The slots a head advance passes. -/
def slotsPassed (n h adv : Nat) : List Nat := (List.range adv).map fun i => (h + i) % n

end Sys2Proof.Machine
end

