-- ==== Sys2Proof/Machine/Store.lean ====
section
/-! DEFINITION. FST, the frame store: plane records, opening an index, postings, and poison resolution (R57 to R70,
R93). -/

namespace Sys2Proof.Machine

/-- All bytes of a list are zero. -/
def allZero (bs : List Byte) : Bool := bs.all (· == 0)

/-! ### Records -/

/-- The record in a slot (R93). -/
def State.planeRec (s : State) (i : Nat) : Option PlaneRec := s.fst.recs.get (fun _ => none) i

/-- FST_STAT follows the work in hand: the records open, an index being opened (one that is claimed, while a record is
free for it), and a poison resolution. -/
def State.fstStat (s : State) : State :=
  let s := s.setFld F.FST_STAT_N_REC 0 s.fst.recs.length
  (s.setFlag F.FST_STAT_OPENING 0 (!s.fst.claims.isEmpty && decide (s.fst.recs.length < 2048))).setFlag
    F.FST_STAT_OWNCHK 0 (!s.fst.hits.isEmpty)

/-- A slot given a record, or freed. -/
def State.setRec (s : State) (i : Nat) (r : Option PlaneRec) : State :=
  { s with fst := { s.fst with recs := s.fst.recs.set (fun _ => none) i r } }.fstStat

/-- The open record of an index. -/
def State.findRec (s : State) (addr : Nat) : Option (Nat × PlaneRec) :=
  s.fst.recs.findSome? fun e => match e.2 with
    | some r => if r.addr = addr then some (e.1, r) else none
    | none => none

/-- The lowest free slot of the 2,048. -/
def State.freeSlot (s : State) : Option Nat := (List.range 2048).find? fun i => (s.planeRec i).isNone

/-- Slots of the records a context holds. -/
def State.recsOf (s : State) (c : Nat) : List Nat :=
  (s.fst.recs.filter fun e => match e.2 with | some r => r.ctx == some c | none => false).map (·.1)

/-- A context's records freed and its claims dropped (R65). -/
def State.freeRecs (s : State) (c : Nat) : State :=
  let s := forAll (s.recsOf c) s fun s i => s.setRec i none
  { s with fst := { s.fst with claims := s.fst.claims.filter fun x => decide (x.ctx ≠ c) } }.fstStat

/-! ### Index and table set -/

/-- Bits per pixel of a BPP code. -/
def bppBits (c : Nat) : Nat := 2 ^ c

/-- Entry `i` of an index. -/
def State.entryBytes (s : State) (addr i : Nat) : List Byte := s.lmemBytes (addr + 0x80 + 16 * i) 16

/-- ADDR, BAND, COLUMN, STATUS and COMP_BYTES of an entry (R59). -/
def entAddr (e : List Byte) : Nat := fieldAt e 0 8
def entBand (e : List Byte) : Nat := fieldAt e 8 2
def entCol (e : List Byte) : Nat := fieldAt e 10 1
def entStatus (e : List Byte) : Nat := fieldAt e 11 1
def entComp (e : List Byte) : Nat := fieldAt e 12 4

/-- An entry with STATUS read as 0. -/
def entClean (e : List Byte) : List Byte := takeAt e 0 11 ++ [0] ++ takeAt e 12 4

/-- Code length of symbol `sym` in table `t` of a table set (R60). -/
def codeLen (set : List Byte) (t sym : Nat) : Nat := bits (fieldAt set (8 * t + sym / 2) 1) (4 * (sym % 2)) 4

/-- A table of a plane at `d` bits per pixel is valid (R60). -/
def tableValid (set : List Byte) (t d : Nat) : Bool :=
  let ls := (List.range 16).map fun y => codeLen set t y
  (ls.drop (2 ^ d)).all (· == 0) && decide (2 ≤ (ls.filter (· ≠ 0)).length)
    && decide (((ls.filter (· ≠ 0)).map fun l => 2 ^ (15 - l)).sum = 2 ^ 15)

/-- A table set of `n` tables is valid: its CRC, and each table (R60). -/
def tableSetValid (set : List Byte) (n d : Nat) : Bool :=
  decide (fieldAt set 64 4 = (crc32c (takeAt set 0 64)).toNat) && (List.range n).all fun t => tableValid set t d

/-- Number of entries of the most crowded band. -/
def maxPerBand (bands : List Nat) : Nat :=
  (bands.foldl (fun (x : Nat × Nat × Nat) b =>
    let n := if x.1 = b ∧ 0 < x.2.1 then x.2.1 + 1 else 1
    (b, n, max x.2.2 n)) (0, 0, 0)).2.2

/-- Two address ranges overlap. -/
def rangesMeet (a n b m : Nat) : Bool := decide (a < b + m ∧ b < a + n ∧ 0 < n ∧ 0 < m)

/-- A list of ranges none of which overlap. -/
def disjointRanges : List (Nat × Nat) → Bool
  | [] => true
  | x :: rest => rest.all (fun y => !rangesMeet x.1 x.2 y.1 y.2) && disjointRanges rest

/-- The entries of an index stand in strictly ascending (BAND, COLUMN) order, inside the plane (R59). -/
def entriesOrdered (w l : Nat) : List (List Byte) → Bool
  | [] => true
  | e :: rest =>
    decide (entBand e < l ∧ entCol e < w)
      && (match rest with
        | [] => true
        | f :: _ => decide (entBand e * 256 + entCol e < entBand f * 256 + entCol f))
      && entriesOrdered w l rest

/-- Bits of STATUS (R59): 1 RESIDENT, 2 POISON, 4 HDRERR. -/
def healthy (st : Nat) : Bool := decide (st % 8 = 1)

/-- Opening an index (R62): the counts are of the STATUS bytes as LMEM holds them (R64). That an index, a table set or a
block off its 64-byte boundary (R57) is taken as it stands is the model's choice (assumption 95). The header, the entries and the table set are read and validated; the record is BAD when any
test fails, or when what it reads is poisoned (R311). -/
def State.readIndex (s : State) (addr : Nat) : PlaneRec :=
  let h := s.lmemBytes addr 128
  let bpp := fieldAt h 6 1; let w := fieldAt h 7 1; let l := fieldAt h 8 2
  let nT := fieldAt h 10 1; let nX := fieldAt h 11 1; let nB := fieldAt h 12 4
  let plane := fieldAt h 5 1; let tables := fieldAt h 0x18 8
  let hdrOk := decide (fieldAt h 0 4 = 0x4C5A4249 ∧ fieldAt h 4 1 ≤ 5 ∧ plane ≤ 1 ∧ bpp ≤ 2 ∧ 1 ≤ w ∧ w ≤ 12 ∧ 99 ≤ l
      ∧ l ≤ 3149 ∧ nT ≤ 8 ∧ 1 ≤ nX ∧ nX ≤ 4)
    && decide (fieldAt h 0x7C 4 = (crc32c (takeAt h 0 0x7C)).toNat)
    && allZero (takeAt h 0x28 16) && allZero (takeAt h 0x3C 4) && allZero (takeAt h 0x70 12)
    && decide (if plane = 0 then nB = w * l else nB ≤ w * l)
  let xs := (List.range 4).map fun i => (fieldAt h (0x40 + 12 * i) 8, fieldAt h (0x48 + 12 * i) 4 * 4096)
  let used := xs.take nX
  let es := if hdrOk then (List.range nB).map fun i => s.entryBytes addr i else []
  let set := s.lmemBytes tables 68
  let ok := hdrOk
    && decide (fieldAt h 0x38 4 = (crc32c (es.flatMap entClean)).toNat)
    && entriesOrdered w l es
    && es.all (fun e => used.any fun x => decide (x.1 ≤ entAddr e ∧ entAddr e + entComp e ≤ x.1 + x.2))
    && used.all (fun x => decide (x.2 ≠ 0 ∧ x.1 % 4096 = 0))
    && (xs.drop nX).all (fun x => decide (x = (0, 0)))
    && disjointRanges used
    && decide (fieldAt h 0x20 8 = (es.map entComp).sum)
    && (decide (tables = 0) || tableSetValid set nT (bppBits bpp))
    && !s.poisoned addr (0x80 + 16 * es.length) && (decide (tables = 0) || !s.poisoned tables 68)
  { addr := addr, bad := !ok, ctx := none, station := fieldAt h 4 1, plane := plane, bpp := bpp, width := w, length := l,
    nTables := nT, nBlocks := nB, serial := fieldAt h 0x10 8, tables := tables
    k := if plane = 0 then 0 else maxPerBand (es.map entBand), extents := used
    nRes := (es.filter fun e => healthy (entStatus e)).length
    nPoison := (es.filter fun e => bit (entStatus e) 1).length
    nHdrerr := (es.filter fun e => bit (entStatus e) 2).length
    missing := ((es.filter fun e => !healthy (entStatus e)).map entComp).sum }

/-- A further demand read of one job: what failed for parity before stays failed. -/
def State.demandAlso (s : State) (a n : Nat) (errs : List CwErr) : State :=
  let t := s.demand a n errs
  { t with ecc := { t.ecc with parity := s.ecc.parity ++ t.ecc.parity } }

/-- The state once an index has been read through ECC: its header, its entries and its table set (R62). -/
def State.indexRead (s : State) (addr : Nat) (errs : List CwErr) : State :=
  let s := s.demand addr 128 errs
  let s := s.demandAlso (addr + 0x80) (16 * fieldAt (s.lmemBytes addr 128) 12 4) errs
  let tables := fieldAt (s.lmemBytes addr 128) 0x18 8
  if tables = 0 then s else s.demandAlso tables 68 errs

/-- An index opened into a free slot; a context that has claimed it holds it at once (R62, R64, R65). -/
def State.openIndex (s : State) (addr slot : Nat) (errs : List CwErr) : State :=
  let s := s.indexRead addr errs
  let r := { s.readIndex addr with ctx := (s.fst.claims.find? (·.addr == addr)).map (·.ctx) }
  let s := { s with fst := { s.fst with claims := s.fst.claims.filter fun x => decide (x.addr ≠ addr) } }
  let s := s.setRec slot (some r)
  (if r.bad then s.event B.FST 0 0 else s).fstStat

/-- INDEX_OPEN_DONE: the first index claimed is opened once a record is free (R64). -/
def indexOpenDone (errs : List CwErr) (s : State) : State :=
  match s.fst.claims, s.freeSlot with
  | c :: _, some i => s.openIndex c.addr i errs
  | _, _ => s

def execIndexOpenDone (errs : List CwErr) (s : State) : Host.Outcome State Fault Refusal := .next (s.finish (indexOpenDone errs s))

/-! ### Entries and block headers -/

/-- A record's counts after one entry's STATUS changes (R64). -/
def PlaneRec.recount (r : PlaneRec) (old new comp : Nat) : PlaneRec :=
  { r with
    nRes := r.nRes + (if healthy new then 1 else 0) - (if healthy old then 1 else 0)
    nPoison := r.nPoison + bits new 1 1 - bits old 1 1
    nHdrerr := r.nHdrerr + bits new 2 1 - bits old 2 1
    missing := r.missing + (if healthy old then comp else 0) - (if healthy new then comp else 0) }

/-- STATUS of entry `i` of a slot's record written, in LMEM and in the counts. -/
def State.setStatus (s : State) (slot i st : Nat) : State :=
  match s.planeRec slot with
  | some r =>
    let e := s.entryBytes r.addr i
    (s.storeLmem (r.addr + 0x80 + 16 * i + 11) (leBytes 1 st)).setRec slot (some (r.recount (entStatus e) st (entComp e)))
  | none => s

/-- FLAGS of a block header. -/
def hdrFlags (h : List Byte) : Nat := fieldAt h 3 1

/-- A block header passes the tests of R63, for an index of `bpp` and `nT` tables and an entry of `comp` bytes. -/
def headerOk (h : List Byte) (bpp nT comp : Nat) : Bool :=
  let fl := hdrFlags h
  let dec := fieldAt h 8 4; let pay := fieldAt h 12 4
  decide (fieldAt h 0 2 = 0xB10C ∧ fieldAt h 2 1 = 1 ∧ fieldAt h 0x1C 4 = (crc32c (takeAt h 0 0x1C)).toNat)
    && decide (bits fl 3 2 = bpp ∧ dec = 24576 * bppBits bpp ∧ 32 + pay = comp)
    && !(bit fl 0 && bit fl 1)
    && (if bit fl 0 then decide (pay = dec) else decide (145 ≤ pay))
    && (!bit fl 1 || decide (fieldAt h 4 1 < nT ∧ fieldAt h 5 1 < nT))
    && decide (fieldAt h 0x14 4 ≤ 2949120 ∧ fieldAt h 0x18 2 ≤ 61440)
    && decide (bits fl 5 3 = 0) && allZero (takeAt h 6 2) && allZero (takeAt h 0x1A 2)

/-- A POST tests the header of one entry afresh (R63). -/
def State.testHeader (s : State) (slot : Nat) (errs : List CwErr) (i : Nat) : State :=
  match s.planeRec slot with
  | some r =>
    let e := s.entryBytes r.addr i
    let s := s.demand (entAddr e) 32 errs
    let ok := headerOk (s.lmemBytes (entAddr e) 32) r.bpp r.nTables (entComp e)
    let s := s.setStatus slot i ((if ok then 1 else 4) + (if s.poisoned (entAddr e) 32 then 2 else 0))
    if ok then s else s.event B.FST 0 1
  | none => s

/-! ### Postings -/

/-- A posting ignored (R69). -/
def State.badPost (s : State) : State := (s.bump F.FST_BADPOST 0).event B.FST 0 2

/-- The image ring FST serves next (R62): round robin among rings that hold a posting. -/
def State.nextImageRing (s : State) : Option Nat :=
  if s.flag F.FST_CTRL_PAUSE 0 ∨ ¬ s.lmemReady ∨ ¬ s.flag (H.PAGE_CTRL_EN B.FST) 0 then none
  else ((List.range 12).map fun i => (s.fst.lastRing + 1 + i) % 12).find? fun r =>
    s.ringEn r && decide (s.ringUsed r ≠ 0)

/-- The posting taken from a ring: its bytes, and the state after the copy and the head's advance (R38). -/
def State.takePosting (s : State) (r : Nat) (errs : List CwErr) : State × List Byte × Bool :=
  let a := s.ringAddr r (s.ringHead r)
  let s := s.demand a 256 errs
  let bs := s.lmemBytes a 256
  let p := s.poisoned a 256
  let s := s.setFld F.RING_HEAD_INDEX (ringInst r) ((s.ringHead r + 1) % s.ringSize r)
  ({ s with fst := { s.fst with lastRing := r } }, bs, p)

/-- A posting is well formed (R61, R69): its CRC, its reserved bytes, and no poison mark (R311). -/
def postingOk (bs : List Byte) (poison : Bool) : Bool :=
  !poison && decide (fieldAt bs 0xFC 4 = (crc32c (takeAt bs 0 0xFC)).toNat) && allZero (takeAt bs 1 7)
    && allZero (takeAt bs 0x18 228)

/-- A POST to an open record (R62, R63, R69). `beyond`: the record's context is beyond STAGED. -/
def State.postTo (s : State) (ring slot first count : Nat) (beyond : Bool) (errs : List CwErr) : State :=
  match s.planeRec slot with
  | some r =>
    if r.bad ∨ beyond ∨ r.station ≠ ring / 2 ∨ r.plane ≠ ring % 2 ∨ r.nBlocks < first + count ∨ count = 0 then s.badPost
    else forAll ((List.range count).map (first + ·)) s fun s i => s.testHeader slot errs i
  | none => s

/-- A DROP (R65, R69). -/
def State.dropRec (s : State) (addr : Nat) : State :=
  match s.findRec addr with
  | some (i, r) => if r.ctx.isNone then s.setRec i none else s.badPost
  | none => s.badPost

/-! ### Poison -/

/-- Protected ranges of a record (R66). -/
def PlaneRec.ranges (r : PlaneRec) : List (Nat × Nat) :=
  r.extents ++ [(r.addr, 0x80 + 16 * r.nBlocks)] ++ (if r.tables = 0 then [] else [(r.tables, 68)])

/-- An address range overlaps a record's protected ranges. -/
def PlaneRec.meets (r : PlaneRec) (a n : Nat) : Bool := r.ranges.any fun x => rangesMeet a n x.1 x.2

/-- One record's part of a poison resolution (R68): the blocks whose bytes lie in the marked codeword get POISON; a mark
in the index or the table set makes the record BAD. Of a record that is BAD already no more entries are walked than the
largest index has (R62). -/
def State.resolveRec (s : State) (a slot : Nat) : State :=
  match s.planeRec slot with
  | some r =>
    if ¬ r.meets a 128 then s
    else
      let s := s.event B.FST 0 4
      let own := rangesMeet a 128 r.addr (0x80 + 16 * r.nBlocks) || (decide (r.tables ≠ 0) && rangesMeet a 128 r.tables 68)
      let s := if own then s.setRec slot (some { r with bad := true }) else s
      forAll (List.range (min r.nBlocks 37788)) s fun s i =>
        let e := s.entryBytes r.addr i
        if rangesMeet a 128 (entAddr e) (entComp e) then
          let s := s.setStatus slot i (entStatus e - bits (entStatus e) 1 1 * 2 + 2)
          { s with fst := { s.fst with hits := s.fst.hits ++ [Hit.mk r.ctx (entAddr e)] } }
        else s
  | none => s

/-- POISON_MARK: the next marked address is compared with every record (R68). -/
def poisonMark (s : State) : State :=
  match s.ecc.handed with
  | a :: rest =>
    let s := { s with ecc := { s.ecc with handed := rest } }
    (forAll (s.fst.recs.map (·.1)) s fun s i => s.resolveRec a i).fstStat
  | [] => s

def execPoisonMark (s : State) : Host.Outcome State Fault Refusal := .next (s.finish (poisonMark s))

/-! ### The page's views (R93) -/

/-- The record FST_REC_SEL names. -/
def State.selRec (s : State) : Option PlaneRec := s.planeRec (s.fld F.FST_REC_SEL_REC 0)

/-- FST_REC_INFO. -/
def State.recInfo (s : State) : Nat :=
  match s.selRec with
  | none => 0x0FF00000
  | some r => 2 ^ 31 + (if r.bad then 2 ^ 30 else 0) + r.ctx.getD 0xFF * 2 ^ 20 + r.station % 8 * 2 ^ 17 + r.plane % 2 * 2 ^ 16
      + r.k % 16 * 2 ^ 12 + r.bpp % 4 * 2 ^ 10

/-- FST_REC_BLOCKS, FST_REC_ERRS and FST_REC_MISS. -/
def State.recBlocks (s : State) : Nat := match s.selRec with | none => 0 | some r => r.nRes * 2 ^ 16 + r.nBlocks % 2 ^ 16
def State.recErrs (s : State) : Nat := match s.selRec with | none => 0 | some r => r.nHdrerr * 2 ^ 16 + r.nPoison % 2 ^ 16
def State.recMiss (s : State) : Nat := match s.selRec with | none => 0 | some r => r.missing

end Sys2Proof.Machine
end

