-- ==== Sys2Proof/Machine/Frames.lean ====
section
/-! DEFINITION. Frame contexts: descriptors, event records, spoiling, losing, revoking and retiring a frame (R28 to R35,
R48 to R54, R157). What a cause does at a station stands with the block that raises it. -/

namespace Sys2Proof.Machine

/-! ### Contexts -/

/-- A FREE context. -/
def Ctx.init : Ctx :=
  { st := .free, desc := [], cause := 0, causeSrc := 0, causeFacets := [], reason := 0, degraded := false, lost := false
    lostPend := none, order := 0, opened := 0, done := 0, dark := 0, begun := 0, stopped := false, exposedAny := false
    tFirst := 0, tEnd := 0, evRsv := 0, counter := none, gap := false, genesis := false, rcpt := none, passed := false
    expo := [] }

/-- What a station has exposed of a frame before it begins. -/
def Expo.init : Expo := { digs := [], lines := 0, bank := List.replicate 48 0, root := none, nextBand := 0 }

/-- A context. -/
def State.ctx (s : State) (c : Nat) : Ctx := s.ctxs.get (fun _ => Ctx.init) c

/-- A context given a value. -/
def State.setCtx (s : State) (c : Nat) (x : Ctx) : State := { s with ctxs := s.ctxs.set (fun _ => Ctx.init) c x }

/-- A frame's part at a station. -/
def Ctx.at (x : Ctx) (n : Nat) : Expo := x.expo.get (fun _ => Expo.init) n
def Ctx.setAt (x : Ctx) (n : Nat) (e : Expo) : Ctx := { x with expo := x.expo.set (fun _ => Expo.init) n e }

/-- A mask with one bit set. -/
def setBit (m n : Nat) : Nat := if bit m n then m else m + 2 ^ n

/-! Descriptor fields (R32). -/

def Ctx.cls (x : Ctx) : Nat := fieldAt x.desc 4 1
def Ctx.mask (x : Ctx) : Nat := fieldAt x.desc 5 1
def Ctx.bppOf (x : Ctx) (plane : Nat) : Nat := bits (fieldAt x.desc 6 1) (2 * plane) 2
def Ctx.corSet (x : Ctx) : Nat := fieldAt x.desc 7 1
def Ctx.serial (x : Ctx) : Nat := fieldAt x.desc 8 8
def Ctx.start (x : Ctx) : Int := signed (fieldAt x.desc 0x10 8) 64
def Ctx.facets (x : Ctx) : Nat := fieldAt x.desc 0x18 2
def Ctx.width (x : Ctx) : Nat := fieldAt x.desc 0x1A 1
def Ctx.evRing (x : Ctx) : Nat := 16 + bits (fieldAt x.desc 0x1B 1) 0 2
def Ctx.audRing (x : Ctx) : Nat := 20 + bits (fieldAt x.desc 0x1B 1) 2 2
def Ctx.gsm (x : Ctx) : Nat := fieldAt x.desc 0x1C 2
def Ctx.cfgId (x : Ctx) : Nat := fieldAt x.desc 0x20 4
def Ctx.trim (x : Ctx) (n : Nat) : Int := signed (fieldAt x.desc (0x24 + 2 * n) 2) 16
def Ctx.planeAddr (x : Ctx) (n plane : Nat) : Nat := fieldAt x.desc (0x30 + 16 * n + 8 * plane) 8
def Ctx.hostTag (x : Ctx) : Nat := fieldAt x.desc 0x90 4

/-- End position E = S + 48 × LENGTH_FACETS. -/
def Ctx.stop (x : Ctx) : Int := x.start + 48 * x.facets

/-- The frame uses station n. -/
def Ctx.uses (x : Ctx) (n : Nat) : Bool := bit x.mask n

/-- Stations of the frame. -/
def Ctx.stations (x : Ctx) : List Nat := (List.range 6).filter x.uses

/-- Every station of the mask has passed its last line. -/
def Ctx.allDone (x : Ctx) : Bool := x.stations.all fun n => bit x.done n

/-- The frame is exposing at station n (R419). -/
def Ctx.exposingAt (x : Ctx) (n : Nat) : Bool :=
  x.uses n && bit x.opened n && !bit x.done n && !x.stopped && (x.st = .exposing || x.st = .spoiled || x.st = .admitted)

/-- A SPOILED frame that still runs on: R51's clock has not started (R66). -/
def Ctx.running (x : Ctx) : Bool := x.st = .spoiled && x.counter.isNone

/-- In flight (R31). A frame spoiled as its span opens, before any lit line, runs on dark; that it counts as in flight until
R51's clock starts is the model's choice (assumption 90). -/
def Ctx.inFlight (x : Ctx) : Bool :=
  x.st = .admitted || x.st = .exposing || x.st = .exposed || x.st = .fused || x.st = .delivered
    || (x.st = .spoiled && (x.exposedAny || x.counter.isNone))

/-- State code (R28). -/
def CtxSt.code : CtxSt → Nat
  | .free => 0 | .staged => 1 | .admitted => 2 | .exposing => 3 | .exposed => 4 | .fused => 5 | .delivered => 6
  | .spoiled => 7 | .retired => 8

/-- Contexts that satisfy a test, in ascending number. -/
def State.ctxsWith (s : State) (p : Ctx → Bool) : List Nat := (s.ctxs.filter fun e => p e.2).map (·.1)

/-- A number put into a list kept in ascending order of a key. -/
def insertBy (key : Nat → Nat) (c : Nat) : List Nat → List Nat
  | [] => [c]
  | d :: rest => if key c < key d then c :: d :: rest else d :: insertBy key c rest

/-- Contexts in ascending SERIAL, the order in which frames that end together take counters (R157). -/
def State.bySerial (s : State) (cs : List Nat) : List Nat := cs.foldl (fun l c => insertBy (fun d => (s.ctx d).serial) c l) []

/-- Contexts in order of admission, which is position order (R42). -/
def State.byOrder (s : State) (cs : List Nat) : List Nat := cs.foldl (fun l c => insertBy (fun d => (s.ctx d).order) c l) []

/-- Frames in flight, in position order; the last one is E_last's (R42). -/
def State.flight (s : State) : List Nat := s.byOrder (s.ctxsWith Ctx.inFlight)

/-! ### Transport position -/

/-- A generator's position `dt` ns from now, in 1/65,536 count: the last update's, carried on with its velocity (R196,
R197). -/
def State.pgPosAt (s : State) (g : Nat) (dt : Int) : Int :=
  signed (s.pair64 F.PGN_POS_LO g) 64
    + ((s.pgns.find g).map (·.vel)).getD 0 * 65536 * ((s.now % 1000 : Nat) + dt) / 10 ^ 21

/-- An encoder channel's line position `dt` ns from now, in 1/65,536 line: the last count's, carried on with the velocity
published there by no more than one count and 0.02 line (R196). -/
def State.encPosAt (s : State) (m : Nat) (dt : Int) : Int := match s.mots.find m with
  | none => 0
  | some x =>
    let most : Int := (s.reg (F.MOT_XSCALE.addr m)).toNat / 4096 + 1310
    x.lpos / 4096 + clampI (-most) most (x.pubVel * (((s.now : Int) - x.pubAt) + dt) / 10 ^ 9)

/-- The transport position `dt` ns from now, in 1/65,536 line; none without a source (R55, R196). -/
def State.posAt (s : State) (dt : Int) : Option Int :=
  let src := s.fld F.APR_XPORT_SRC 0
  if src ≤ 0x1F then some (s.pgPosAt src dt)
  else if 0x40 ≤ src ∧ src ≤ 0x47 then some (s.encPosAt (src - 0x40) dt)
  else none

/-- The transport position extrapolated to the present press time (R196). -/
def State.posQ (s : State) : Option Int := s.posAt 0

/-- P, the integer transport position; 0 without a source. -/
def State.pos (s : State) : Int := (s.posQ.getD 0) / 65536

/-- A station's distance from station 0 (R55). -/
def State.stnDist (s : State) (n : Nat) : Int := if n = 0 then 0 else ((s.reg ((F.APR_STN_DIST.at n).addr 0)).toNat : Int)

/-- Where station n's line 0 of a frame lies, in transport lines less the station's distance. -/
def Ctx.origin (x : Ctx) (n : Nat) : Int := x.start + x.trim n

/-! ### Event records -/

/-- ARG of a record that gives it no other meaning (R41). -/
def State.plainArg (s : State) (x : Ctx) : Nat := x.hostTag * 2 ^ 32 + unsign s.pos 32

/-- An event of a frame: its EVT_STAT bit, and its record, from a reserved slot where one is left for it (R40, R41). -/
def State.frameEvent (s : State) (c ev cause reason arg : Nat) (mayReserve : Bool) : State :=
  let x := s.ctx c
  let res := mayReserve && decide (0 < x.evRsv)
  let s := if res then s.setCtx c { x with evRsv := x.evRsv - 1 } else s
  (s.event B.APR 0 ev).writeEvent x.evRing res
    { blk := B.APR, ev := ev, ctx := c, cause := cause, reason := reason, serial := x.serial, arg := arg }

/-- APR events (R55). -/
def evAdmit : Nat := 0
def evDeny : Nat := 1
def evRevoke : Nat := 2
def evSpoil : Nat := 3
def evDelivered : Nat := 4
def evLost : Nat := 5
def evReject : Nat := 6
def evDegraded : Nat := 7
def evOwnWrite : Nat := 8

/-- Spoil causes (R49). -/
def cThermal : Nat := 1
def cOverspeed : Nat := 2
def cPoison : Nat := 3
def cRelock : Nat := 4
def cLink : Nat := 5
def cMotor : Nat := 6
def cFeed : Nat := 7
def cMains : Nat := 8
def cFault : Nat := 9
def cHostAbort : Nat := 10

/-! ### Ends of a frame -/

/-- READY follows PRINT, and READY or IDLE follows DRAIN, when no context is ADMITTED to FUSED (R25). -/
def State.printCheck (s : State) : State :=
  let busy := !(s.ctxsWith fun x => decide (2 ≤ x.st.code ∧ x.st.code ≤ 5)).isEmpty
  if busy then s
  else if s.sys.mode = .print then s.deviceMode .ready
  else if s.sys.mode = .drain then s.deviceMode (if s.sys.drainIdle then .idle else .ready)
  else s

/-- Slots of the event ring that a frame no longer needs go back. -/
def State.returnSlots (s : State) (c : Nat) : State :=
  let x := s.ctx c
  (s.ringRelease x.evRing x.evRsv).setCtx c { x with evRsv := 0 }

/-- The outcome is final: ATT assigns the counter (R157, R164). -/
def State.assignCounter (s : State) (c : Nat) : State :=
  let x := s.ctx c
  if x.counter.isSome then s
  else
    let s := s.setCtx c { x with counter := some s.att.next, gap := s.att.gapNext, genesis := s.att.genNext }
    let s := { s with att := { s.att with
      next := s.att.next + 1, gapNext := false, genNext := false, queue := s.att.queue ++ [c] } }
    s.setFld F.ATT_STAT_PEND 0 s.att.queue.length

/-- R51's clock starts for a SPOILED frame: exposure has ended. -/
def State.clockStart (s : State) (c : Nat) : State :=
  let x := s.ctx c
  if x.st = .spoiled ∧ x.counter.isNone then
    let s := (s.setCtx c { x with tEnd := s.now, stopped := true }).assignCounter c
    if (s.ctx c).exposedAny then s else s.returnSlots c
  else s

/-- A finished frame whose receipt the head has passed retires (R29): its records are freed and its slots go back. -/
def State.tryRetire (s : State) (c : Nat) : State :=
  let x := s.ctx c
  let past := decide (x.stop + ((s.reg (F.APR_DLV_DIST.addr 0)).toNat : Int) ≤ s.pos)
  let ok := x.passed && (x.st = .delivered || (x.st = .spoiled && (!x.exposedAny || past || x.lost))
    || ((x.st = .exposed || x.st = .fused) && x.lost))
  if ok then
    let s := ((s.freeRecs c).returnSlots c)
    (s.setCtx c { s.ctx c with st := .retired }).printCheck
  else s

/-- The facet each station is in, as FMT counts its boundaries. -/
def State.facetsNow (s : State) : List Nat := (List.range 6).map fun n => ((s.stns.find n).map (·.fmt.facetNo)).getD 0

/-- The facet in which a frame's cause struck has not ended yet at some station of the frame: a second cause falls in the
same facet (R54; assumption 89). -/
def State.sameFacet (s : State) (x : Ctx) : Bool :=
  x.stations.any fun n => s.facetsNow.getD n 0 == x.causeFacets.getD n 0

/-- A cause can strike the frame: it is ADMITTED or EXPOSING, or SPOILED and still running, or SPOILED in this very facet
with its receipt not yet written (R50, R54). -/
def State.strikable (s : State) (x : Ctx) : Bool :=
  x.st = .admitted || x.st = .exposing || x.running
    || (x.st = .spoiled && x.rcpt.isNone && !x.passed && s.sameFacet x)

/-- A spoil cause strikes (R50). The first one is the frame's; of two in one facet the one whose fault source has the lower
number is (R54); every other goes into an event record only. An ADMITTED frame whose span is open nowhere ends with nothing
exposed, but for a cause under which it runs on. -/
def State.spoilWith (s : State) (runOn : Bool) (c cause src : Nat) : State :=
  let x := s.ctx c
  let arg := s.plainArg x
  if x.st = .admitted ∨ x.st = .exposing then
    let s := s.setCtx c { x with st := .spoiled, cause := cause, causeSrc := src, causeFacets := s.facetsNow }
    let s := s.frameEvent c evSpoil cause 0 arg true
    (if x.opened = 0 ∧ ¬ runOn then s.clockStart c else s).printCheck
  else if s.strikable x then
    let s := if s.sameFacet x ∧ src < x.causeSrc then s.setCtx c { x with cause := cause, causeSrc := src } else s
    if cause = x.cause then s else s.frameEvent c evSpoil cause 0 arg false
  else s

/-- A cause that ends an ADMITTED frame with nothing exposed. -/
def State.spoil (s : State) (c cause src : Nat) : State := s.spoilWith false c cause src

/-- A cause met while the frame's bands are read: the frame runs to E (R50, R85, R87). -/
def State.spoilRun (s : State) (c cause src : Nat) : State := s.spoilWith true c cause src

/-- The device stops exposing a frame (R51). -/
def State.stopFrame (s : State) (c : Nat) : State := if (s.ctx c).running then s.clockStart c else s

/-- A frame exposing at a station spoils, and the station writes the rest of it dark (R50, R419). -/
def State.spoilAt (s : State) (n cause src : Nat) (dark : Bool) : State :=
  forAll (s.ctxsWith fun x => x.exposingAt n) s fun s c =>
    let x := s.ctx c
    (if dark then s.setCtx c { x with dark := setBit x.dark n } else s).spoil c cause src

/-- The device stops exposing every SPOILED frame that runs on, in ascending SERIAL (R51, R157). -/
def State.stopAll (s : State) : State := forAll (s.bySerial (s.ctxsWith Ctx.running)) s State.stopFrame

/-- Every ADMITTED or EXPOSING frame spoils and exposure stops; those that end so take their counters together, in ascending
SERIAL (R50, R157). -/
def State.spoilAll (s : State) (cause src : Nat) : State :=
  (forAll (s.bySerial (s.ctxsWith s.strikable)) s fun s c => s.spoilRun c cause src).stopAll

/-- A frame stops moving before delivery (R54): APR.LOST is written and LOST set; for a SPOILED frame whose receipt is
not yet written, once it is. -/
def State.lose (s : State) (c cause : Nat) : State :=
  let x := s.ctx c
  let short := decide (s.pos < x.stop + ((s.reg (F.APR_DLV_DIST.addr 0)).toNat : Int))
  if x.lost then s
  else if x.st = .exposed ∨ x.st = .fused ∨ (x.st = .spoiled ∧ x.exposedAny ∧ short ∧ (x.rcpt.isSome ∨ x.passed)) then
    let s := s.setCtx c { x with lost := true, lostPend := none }
    ((s.frameEvent c evLost cause 0 (s.plainArg x) true).tryRetire c).printCheck
  else if x.st = .spoiled ∧ x.exposedAny ∧ short then s.setCtx c { x with lostPend := some cause }
  else s

/-- Every frame on the transport stops moving. -/
def State.loseAll (s : State) (cause : Nat) : State :=
  forAll (s.ctxsWith fun x => x.st = .exposed || x.st = .fused || x.st = .spoiled) s fun s c => s.lose c cause

/-- The transport stops: no SPOILED frame is exposed any further, and frames short of delivery are lost (R51, R54). -/
def State.transportStops (s : State) (cause : Nat) : State := s.stopAll.loseAll cause

/-- DEGRADED set for a frame (R50, R117, R118). -/
def State.degrade (s : State) (c : Nat) : State :=
  let x := s.ctx c
  if x.degraded then s
  else (s.setCtx c { x with degraded := true }).frameEvent c evDegraded 0 0 (s.plainArg x) true

/-- APR_LAST_SERIAL: the highest serial admitted since BOOT and not revoked (R52). -/
def State.lastSerial (s : State) : State := s.setPair64 F.APR_LAST_SERIAL_LO 0 (s.apr.serials.foldl max 0)

/-- The Aperture revokes an ADMITTED frame (R52). -/
def State.revoke (s : State) (c reason arg : Nat) : State :=
  let x := s.ctx c
  if x.st = .admitted then
    let s := (s.returnSlots c).ringRelease x.audRing 1
    let s := s.setCtx c { s.ctx c with st := .staged, reason := reason, begun := 0, order := 0 }
    let s := { s with apr := { s.apr with serials := s.apr.serials.erase x.serial } }.lastSerial
    (s.frameEvent c evRevoke 0 reason arg false).printCheck
  else s

/-- Reason bits (R44). -/
def rPoison : Nat := 2 ^ 12
def rRelock : Nat := 2 ^ 11

/-- POISON_HANDOVER: the resolution ends, and the Aperture judges each block's frame (R52, R68). -/
def poisonHandover (s : State) : State :=
  let hits := s.fst.hits
  let s := { s with fst := { s.fst with hits := [] } }.fstStat
  hits.foldl (fun s h => match h.ctx with
    | some c => if (s.ctx c).st = .admitted ∧ (s.ctx c).begun = 0 then s.revoke c rPoison h.addr else s
    | none => s) s

def execPoisonHandover (s : State) : Host.Outcome State Fault Refusal := .next (s.finish (poisonHandover s))

/-! ### Transport events -/

/-- Oldest context in a state whose position the transport has passed. -/
def State.passedBy (s : State) (st : CtxSt) (dist : Int) : Option Nat :=
  (s.byOrder (s.ctxsWith fun x => x.st = st && decide (x.stop + dist ≤ s.pos))).head?

/-- FRAME_FUSED: the transport passes E + APR_FUSE_DIST (R29). -/
def frameFused (s : State) : State :=
  match s.passedBy .exposed ((s.reg (F.APR_FUSE_DIST.addr 0)).toNat) with
  | some c => s.setCtx c { s.ctx c with st := .fused }
  | none => s

def execFrameFused (s : State) : Host.Outcome State Fault Refusal := .next (s.finish (frameFused s))

/-- FRAME_DELIVERED: the transport passes E + APR_DLV_DIST; the record is written, and PRINT may end (R25, R29). A
SPOILED frame that has passed the delivery point may retire with it. -/
def frameDelivered (s : State) : State :=
  let s := match s.passedBy .fused ((s.reg (F.APR_DLV_DIST.addr 0)).toNat) with
    | some c =>
      let s := s.setCtx c { s.ctx c with st := .delivered }
      ((s.frameEvent c evDelivered 0 0 (s.plainArg (s.ctx c)) true).tryRetire c).printCheck
    | none => s
  forAll (s.ctxsWith fun x => x.st = .spoiled) s State.tryRetire

def execFrameDelivered (s : State) : Host.Outcome State Fault Refusal := .next (s.finish (frameDelivered s))

/-! ### Ring pointers -/

/-- A host write of a ring's tail (R38). Rings 28 and 29 refuse an entry whose TYPE is not MSG with BADPTR (R375); their
sending follows in Sys2Proof/Machine/Cascade.lean. -/
def State.writeTail (s : State) (r v : Nat) : State :=
  match s.tailAdvance r v with
  | none => s.event B.APR (ringInst r) 1
  | some adv => s.setFld F.RING_TAIL_INDEX (ringInst r) ((s.ringTail r + adv) % s.ringSize r)

/-- A host write of a ring's head (R39): the receipts it passes may retire their contexts, and count as consumed (R163),
and the room it makes lets waiting records drain. -/
def State.writeHead (s : State) (r v : Nat) : State :=
  match s.headAdvance r v with
  | none => s.event B.APR (ringInst r) 1
  | some adv =>
    let gone := slotsPassed (s.ringSize r) (s.ringHead r) adv
    let s := s.setFld F.RING_HEAD_INDEX (ringInst r) ((s.ringHead r + adv) % s.ringSize r)
    if 20 ≤ r ∧ r ≤ 23 then
      -- a passed receipt is listed with ring 0 until every receipt of a lower counter is passed too
      let all := s.att.written.map fun w => if w.2.1 = r ∧ w.2.2.1 ∈ gone then (w.1, 0, 0, w.2.2.2) else w
      let lowest := (all.filter fun w => w.2.1 ≠ 0).foldl (fun (b : Option Nat) w => some (min w.1 (b.getD w.1))) none
      let upTo := fun (w : Nat × Nat × Nat × List Byte) => w.2.1 == 0 && decide (w.1 ≤ lowest.getD w.1)
      let best := (all.filter upTo).foldl (fun b w => if b.1 ≤ w.1 then (w.1, w.2.2.2) else b) s.att.consumed
      let s := { s with att := { s.att with consumed := best, written := all.filter fun w => !upTo w } }
      forAll (s.ctxsWith fun x => x.audRing == r && (match x.rcpt with | some i => decide (i ∈ gone) | none => false)) s
        fun s c => (s.setCtx c { s.ctx c with passed := true, rcpt := none }).tryRetire c
    else s

/-- RING_HEAD_WRITE: of a ring whose head the host owns (R39, R56). -/
def execRingHeadWrite (r v : Nat) (s : State) : Host.Outcome State Fault Refusal :=
  .next (s.finish (s.onPage B.APR (ringInst r) F.RING_HEAD.off fun s =>
    if r ≤ 31 ∧ ¬ hostTail r then s.writeHead r v else s))

/-! ### The page's views (R55) -/

/-- APR_STAT but for EXAM: an examination ends within the command that starts it. -/
def State.aprStat (s : State) : Nat :=
  let n := fun (p : Ctx → Bool) => (s.ctxsWith p).length
  n Ctx.inFlight * 2 ^ 24 + n (fun x => x.st = .admitted) * 2 ^ 16 + n (fun x => x.st = .staged) * 2 ^ 8

/-- The context APR_CTX_SEL names; above 159 it reads as FREE. -/
def State.selCtx (s : State) : Ctx :=
  let c := s.fld F.APR_CTX_SEL_CTX 0
  if c < 160 then s.ctx c else Ctx.init

/-- APR_CTX_STATE. -/
def State.ctxState (s : State) : Nat :=
  let x := s.selCtx
  x.done % 64 * 2 ^ 16 + (if x.st = .free then 0 else x.cls % 16) * 2 ^ 12 + (if x.lost then 2 ^ 9 else 0)
    + (if x.degraded then 2 ^ 8 else 0) + x.cause % 16 * 2 ^ 4 + x.st.code

end Sys2Proof.Machine
end

