-- ==== Sys2Proof/Machine/Stations.lean ====
section
/-! DEFINITION. What the blocks of one station share: readiness, pattern, class and lock, dark requests, gating, loss of
lock and of link (R97, R99, R116, R128, R133, R134, R142, R144, R146, R150, R179, R229). -/

namespace Sys2Proof.Machine

/-! ### State of a station -/

def Fmt.init : Fmt :=
  { facetNo := 0, base := 0, npos := 0, wrote := false, mask := 0, lit := 0, facetCtx := [], owners := []
    writes := [], gov := [], offset := 0, cutPix := none
    slots := [], duty := [], decoding := [], lanes := [], hist := [], arrState := 0, limitPend := false, holdClass := 0 }

def Fac.init : Fac :=
  { ts := 0, periods := [], everOk := false, sinceRev := 0, cand := 0, candRuns := 0, missRevs := 0
    outRun := 0, held := [], relockFail := false, phase := 0, phaseAt := 0, line := none }

def Bln.init : Bln :=
  { retrainHeld := false, autoAt := none, dark := [], idMem := [], idFailed := false, unitSeen := none, apc := []
    apcNext := 0, bcErrs := 0, bdSeen := false, sent := [] }

def Cor.init : Cor := { nodes := [], dig0 := [], dig1 := [], loading := none }

/-- A station that nothing has touched. -/
def Stn.init : Stn := { fmt := Fmt.init, fac := Fac.init, bln := Bln.init, cor := Cor.init }

def State.stn (s : State) (n : Nat) : Stn := s.stns.get (fun _ => Stn.init) n
def State.setStn (s : State) (n : Nat) (x : Stn) : State := { s with stns := s.stns.set (fun _ => Stn.init) n x }
def State.setFmt (s : State) (n : Nat) (x : Fmt) : State := s.setStn n { s.stn n with fmt := x }
def State.setFac (s : State) (n : Nat) (x : Fac) : State := s.setStn n { s.stn n with fac := x }
def State.setBln (s : State) (n : Nat) (x : Bln) : State := s.setStn n { s.stn n with bln := x }
def State.setCor (s : State) (n : Nat) (x : Cor) : State := s.setStn n { s.stn n with cor := x }

/-! ### Class and lock -/

/-- Facet period of a class, in ns; 0 = not programmed (R55). -/
def State.scPeriod (s : State) (c : Nat) : Nat := (s.reg ((F.APR_SC_PERIOD.at c).addr 0)).toNat

/-- Pixel frequency of a class at a station, Q9.23 MHz; 0 when outside 100 to 450 MHz (R152). -/
def State.pixFreq (s : State) (n c : Nat) : Nat :=
  let f := (s.reg ((F.CLK_FREQ.at c).addr n)).toNat
  if 100 * 2 ^ 23 ≤ f ∧ f ≤ 450 * 2 ^ 23 then f else 0

/-- A class is programmed at a station (R128). -/
def State.programmed (s : State) (n c : Nat) : Bool := decide (s.scPeriod c ≠ 0) && decide (s.pixFreq n c ≠ 0)

/-- The station is LOCKED, and its class locked or targeted (R151). -/
def State.locked (s : State) (n : Nat) : Bool := s.flag F.FAC_STAT_LOCKED n
def State.stnClass (s : State) (n : Nat) : Nat := s.fld F.FAC_STAT_CLASS n

/-- Polygon facets (R151). -/
def State.nFacets (s : State) (n : Nat) : Nat := let f := s.fld F.FAC_CFG_NFACETS n; if f = 0 then 16 else f

/-! ### Pattern and window -/

/-- Interlace factor I. -/
def State.ilace (s : State) (n : Nat) : Nat := s.fld F.FMT_CFG_ILACE n + 1

/-- Pattern length. -/
def State.patLen (s : State) (n : Nat) : Nat := let l := s.fld F.FMT_CFG_PAT_LEN n; if l = 0 then 16 else l

/-- Advance A_i. -/
def State.patAdv (s : State) (n i : Nat) : Nat := bits (s.reg ((F.FMT_PAT.at (i / 4)).addr n)).toNat (8 * (i % 4)) 8

/-- Pattern offsets d_0 to d_(len − 1) (R99). -/
def State.patOffsets (s : State) (n : Nat) : List Int :=
  ((List.range (s.patLen n)).foldl (fun (x : List Int × Int) i => (x.1 ++ [x.2], x.2 + (s.patAdv n i : Int) - 48)) ([], 0)).1

/-- d_j of a polygon facet. -/
def State.patOffset (s : State) (n j : Nat) : Int := (s.patOffsets n).getD j 0

/-- The pattern is valid (R99). -/
def State.patOk (s : State) (n : Nat) : Bool :=
  let len := s.patLen n; let i := s.ilace n; let ds := s.patOffsets n
  decide (len = s.nFacets n ∧ len % i = 0)
    && decide (((List.range len).map (s.patAdv n)).sum = 48 * len)
    && ds.all (fun d => decide (0 ≤ d ∧ d ≤ (i : Int) - 1))
    && (List.range len).all fun k =>
      ((List.range i).map fun m => ds.getD ((k + m) % len) 0).Nodup

/-- PSTEP[k] (R123). -/
def State.pstep (s : State) (n k : Nat) : Nat := bits (s.reg ((F.FMT_PSTEP.at (k / 2)).addr n)).toNat (16 * (k % 2)) 11

/-- R99 or a register range of the FMT page fails (R123). -/
def State.fmtBad (s : State) (n : Nat) : Bool :=
  let ld := s.fld F.FMT_CFG_LINE_DEBT_MAX n
  let cap := fun v => decide (1 ≤ v ∧ v ≤ 1000)
  !s.patOk n || !decide (1 ≤ ld ∧ ld ≤ 8) || !cap (s.fld F.FMT_CAP_EMI n) || !cap (s.fld F.FMT_CAP_ARR n)
    || !(List.range 7).all (fun k => decide (s.pstep n k < s.pstep n (k + 1)))
    || !(List.range 8).all (fun k => decide (512 ≤ s.pstep n k))
    || !(List.range (s.patLen n)).all (fun i => decide (1 ≤ s.patAdv n i))

/-- Lines the store holds at a width of W blocks, and the skew window Y_max at station n; negative where none is left
(R97). -/
def linesHeld (w : Nat) : Nat := 2688 / w
def State.yMax (s : State) (n w : Nat) : Int := min 40 ((linesHeld w : Int) - 96 - 48 * s.ilace n)

/-- FMT_STAT.CFG_ERR follows; FMT.CFG_ERR is raised as it sets. YMAX reads for W = 12 while no frame is exposing. -/
def State.fmtCheck (s : State) (n : Nat) : State :=
  let was := s.flag F.FMT_STAT_CFG_ERR n
  let bad := s.fmtBad n
  let s := s.setFlag F.FMT_STAT_CFG_ERR n bad
  let s := if bad ∧ ¬ was then s.event B.FMT n 4 else s
  let c := s.fld F.FMT_STAT_CTX n
  s.setFld F.FMT_STAT_YMAX n (s.yMax n (if c < 160 then max 1 (s.ctx c).width else 12)).toNat

/-! ### Readiness (R42 check 3, R146, R179, R229, R417) -/

/-- PAGE_CTRL.EN of a page. -/
def State.pageEn (s : State) (blk inst : Nat) : Bool := s.flag (H.PAGE_CTRL_EN blk) inst

/-- BLN's PAGE_STATUS.READY (R146). -/
def State.blnReady (s : State) (n : Nat) : Bool :=
  s.fld F.BLN_STAT_LSTATE n == 3 && s.flag F.BLN_STAT_ID_VALID n && s.flag F.BLN_STAT_RANK_OK n
    && !s.flag F.BLN_STAT_ID_CHG n && s.pageEn B.BLN n && s.pageOn B.BLN n

/-- Stations an HV output, a commutation channel or a stepper serves. -/
def hvStation (o : Nat) : Option Nat := if o < 30 then some (o / 5) else none
def State.motServes (s : State) (m n : Nat) : Bool := bit (s.fld F.MOT_BIND_STN m) n
def State.stpServes (s : State) (m n : Nat) : Bool := bit (s.fld F.STP_CFG_STN m) n

/-- Every HV output of a station that is enabled is in RUN (R229). -/
def State.hvReady (s : State) (n : Nat) : Bool :=
  (List.range 30).all fun o => decide (o / 5 ≠ n) || !s.flag F.HVO_CTRL_EN o || s.fld F.HVO_STAT_STATE o == 1

/-- A channel is in RUN (commutation), or in IDLE or MOVING (stepper) (R179). -/
def State.motRuns (s : State) (m : Nat) : Bool := s.fld F.MOT_STAT_STATE m == 5
def State.stpRuns (s : State) (m : Nat) : Bool := s.fld F.STP_STAT_STATE m == 1 || s.fld F.STP_STAT_STATE m == 2

/-- Every motion channel that serves a station runs. -/
def State.motionReady (s : State) (n : Nat) : Bool :=
  ((List.range 24).all fun m => !s.motServes m n || s.motRuns m)
    && (List.range 16).all fun m => !s.stpServes m n || s.stpRuns m

/-- A commutation channel has failed: it left RUN other than by a STOP or RELEASE command or a mode change, and has not
been back (R179, R186). -/
def State.motFailed (s : State) (m : Nat) : Bool :=
  let st := s.fld F.MOT_STAT_STATE m
  let x := s.mots.find m
  st == 8 || (st == 6 && !(x.map (·.released)).getD false)
    || ((st == 2 || st == 6 || st == 7) && (x.map (·.failed)).getD false)

/-- A channel that serves a station has failed (R179, R419): a stepper in FAULT among them. -/
def State.motionFailed (s : State) (n : Nat) : Bool :=
  ((List.range 24).any fun m => s.motServes m n && s.motFailed m)
    || (List.range 16).any fun m => s.stpServes m n && s.fld F.STP_STAT_STATE m == 4

/-- Every channel that serves the transport runs. -/
def State.xportReady (s : State) : Bool :=
  ((List.range 24).all fun m => !s.flag F.MOT_BIND_XPORT m || s.motRuns m)
    && (List.range 16).all fun m => !s.flag F.STP_CFG_XPORT m || s.stpRuns m

/-- CAL_STAT.STALE of a station: its scanning unit is not the one its FACET record was taken from (R389). -/
def State.stale (s : State) (n : Nat) : Bool := bit (s.fld F.CAL_STAT_STALE 0) n

/-- FMT's READY at a station. -/
def State.fmtReady (s : State) (n : Nat) : Bool :=
  !s.stale n && [B.DEC, B.FMT, B.COR, B.FAC, B.CLK, B.BLN].all (fun b => s.pageEn b n && s.pageOn b n)
    && !s.fmtBad n && s.blnReady n && s.hvReady n && s.motionReady n

/-! ### Time and pixels (R126, R129, R130) -/

/-- Expected period after the last beam detect, in 31.25 ps (R126). -/
def State.expPeriod (s : State) (n : Nat) : Nat :=
  let f := (s.stn n).fac
  let prev := (f.periods.head?.map (·.1)).getD 0
  if s.flag F.FAC_STAT_ID_OK n then
    ((f.periods.find? (·.2 == s.fld F.FAC_STAT_PIDX n)).map (·.1)).getD prev
  else prev

/-- FREQ in force at a station, trimmed, times 100,000; 0 = none (R129). -/
def State.freqNow (s : State) (n : Nat) : Nat :=
  if s.flag F.CLK_STAT_SYN_LOCK n then
    s.pixFreq n (s.fld F.CLK_STAT_CLASS n) * ((100000 : Int) + s.sfld F.CLK_TRIM_TRIM n).toNat
  else 0

/-- `x128` pixel periods, each in 1/128, as a time in 31.25 ps. -/
def State.pixTime (s : State) (n x128 : Nat) : Nat :=
  let f := s.freqNow n
  if f = 0 then 0 else x128 * 250 * 2 ^ 23 * 100000 / f

/-- A time in 31.25 ps as pixel periods. -/
def State.inPixels (s : State) (n : Nat) (t : Int) : Int := t * s.freqNow n / (32000 * 2 ^ 23 * 100000)

/-- The time of the rising edge that begins pixel `x` of a line, in 31.25 ps. -/
def PixLine.edge (l : PixLine) (x : Nat) : Nat := l.t0 + x * 32000 * 2 ^ 23 * 100000 / max 1 l.freq

/-- Pixels of a line that have begun by a press time in 31.25 ps. -/
def PixLine.begun (l : PixLine) (t : Nat) : Nat :=
  if t < l.t0 then 0 else min 49152 ((t - l.t0) * l.freq / (32000 * 2 ^ 23 * 100000) + 1)

/-! ### Dark requests (R142, R144) -/

/-- Request numbers beside the fault sources: loss of lock, a disabled page, entry to SAFEHOLD or LOCKDOWN. -/
def darkUnlock : Nat := 0x200
def darkPage : Nat := 0x201
def darkMode : Nat := 0x202

/-- KEEP may carry 0x5A (R142). -/
def State.mayLight (s : State) (n : Nat) : Bool :=
  s.fld F.BLN_STAT_LSTATE n == 3 && s.flag F.BLN_STAT_ID_VALID n && s.flag F.BLN_STAT_RANK_OK n
    && !s.flag F.BLN_STAT_ID_CHG n
    && (s.sys.mode = .warmup || s.sys.mode = .ready || s.sys.mode = .print || s.sys.mode = .drain
      || s.sys.mode = .calibrate)
    && (s.stn n).bln.dark.isEmpty && !s.flag F.FMT_STAT_CUT n

/-- SEQ of the latest FSTART. Before the first one the spec names no value: a free one (assumption 1). -/
def State.keepSeq (s : State) (n : Nat) : Nat × State :=
  match (s.stn n).bln.sent with
  | (k, _) :: _ => (k, s)
  | [] => let (v, s) := s.draw; (v % 65536, s)

/-- A KEEP column (R139, R142): sent from TRAIN onwards, not in DOWN or FAULT. -/
def State.sendKeep (s : State) (n : Nat) : State :=
  let st := s.fld F.BLN_STAT_LSTATE n
  let lit := s.mayLight n
  let s := s.setFlag F.BLN_STAT_DARK n (!lit)
  if 1 ≤ st ∧ st ≤ 3 then
    let (q, s) := s.keepSeq n
    s.emit (.control n 0xA1 (leBytes 1 (if lit then 0x5A else 0xA5) ++ leBytes 2 q ++ leBytes 3 0))
  else s

/-- The present facet goes dark from a pixel on. Where its line has not begun, that is the whole facet (R130, R135). Where
it has, the spec bounds the pixel only: it is a free value among those that begin within `ns` ns from now (R119, R134, R141,
R144, assumption 1). -/
def State.cutFacet (s : State) (n ns : Nat) : State :=
  let f := (s.stn n).fmt
  match f.cutPix, (s.stn n).fac.line with
  | some _, _ => s
  | none, none => s.setFmt n { f with cutPix := some 0 }
  | none, some l =>
    let lo := l.begun (32 * s.now)
    let hi := l.begun (32 * (s.now + ns))
    let (v, s) := s.draw
    s.setFmt n { f with cutPix := some (lo + v % (hi + 1 - lo)) }

/-- The longest time by which a code leaves before its pixel, tLEADMAX, in ns (R141). -/
def leadMax : Nat := 6000

/-- A laser-dark request reaches BLN (R144). -/
def State.laserDark (s : State) (n why : Nat) : State :=
  let b := (s.stn n).bln
  let s := s.setBln n { b with dark := if why ∈ b.dark then b.dark else b.dark ++ [why] }
  if s.domOn (.bln n) then ((s.cutFacet n leadMax).event B.BLN n 5).sendKeep n else s

/-- A dark request ends. -/
def State.endDark (s : State) (n why : Nat) : State :=
  let b := (s.stn n).bln
  s.setBln n { b with dark := b.dark.filter (· ≠ why) }

/-- Every station darkened. -/
def State.darkAll (s : State) (why : Nat) : State := forAll (List.range 6) s fun s n => s.laserDark n why

/-! ### Gating, loss of lock, link failure -/

/-- CLK gates PXO_n (R134). -/
def State.gate (s : State) (n : Nat) : State :=
  if s.flag F.CLK_STAT_GATED n then s
  else ((s.setFlag F.CLK_STAT_GATED n true).event B.CLK n 2).bump F.CLK_GATE_CNT n

/-- A BDW control column (R139). -/
def State.bdw (s : State) (n on off : Nat) : State :=
  s.emit (.control n 0xA6 (leBytes 1 (s.fld F.BLN_CFG_BD_EMIT n) ++ leBytes 1 (s.fld F.BLN_CFG_BD_PS n) ++ leBytes 2 on
    ++ leBytes 2 off))

/-- The continuous beam-detect light of a station that is not LOCKED, with SEARCH = 1 (R145). -/
def State.searchLight (s : State) (n : Nat) : State :=
  if s.fld F.BLN_STAT_LSTATE n = 3 ∧ ¬ s.locked n ∧ s.flag F.BLN_CFG_SEARCH n then s.bdw n 0 0xFFFF else s

/-- The station loses lock outside RETUNE (R134): PXO_n is gated within tGATE = 20 ns. -/
def State.loseLock (s : State) (n : Nat) : State :=
  if s.locked n ∧ ¬ s.flag F.FAC_STAT_RETUNE n then
    let s := (((s.setFlag F.FAC_STAT_LOCKED n false).gate n).event B.FAC n 3).cutFacet n 20
    (((s.raiseFault (70 + n)).laserDark n darkUnlock).spoilAt n cRelock (70 + n) true).searchLight n
  else s.setFlag F.FAC_STAT_LOCKED n false

/-- The link enters FAULT (R146, R150): 1 BCLOSS, 2 WDOG, 3 DRVFAULT, 4 TRAIN, 5 BCERR. -/
def State.linkFault (s : State) (n cause : Nat) : State :=
  let s := ((s.setFld F.BLN_STAT_LSTATE n 4).setFld F.BLN_STAT_FCAUSE n cause).setFlag F.BLN_STAT_DARK n true
  let s := (((s.bump F.BLN_FAULT_CNT n).event B.BLN n 1).raiseFault (64 + n)).cutFacet n leadMax
  s.spoilAt n cLink (64 + n) true

/-- A frame whose lines station n has still to write. -/
def Ctx.live (x : Ctx) (n : Nat) : Bool :=
  x.uses n && !bit x.done n && !x.stopped && (x.st = .admitted || x.st = .exposing || x.running)

/-- A cause at station n strikes the frame: it has lines to write there, or it was spoiled in this facet (R48, R54). -/
def State.struckAt (s : State) (n : Nat) (x : Ctx) : Bool := x.live n || (x.uses n && s.strikable x)

/-- A block that serves a station is taken out of service: every ADMITTED or EXPOSING frame that uses the station spoils,
and the station writes the rest of it dark (R48). -/
def State.outOfService (s : State) (n cause src : Nat) : State :=
  forAll (s.bySerial (s.ctxsWith (s.struckAt n))) s fun s c =>
    let x := s.ctx c
    (s.setCtx c { x with dark := setBit x.dark n }).spoil c cause src

/-- A motion channel that serves stations, or the transport, fails (R50 MOTOR, R179): its stations darken, or all of
them, and every frame ends where it stands. -/
def State.motorFail (s : State) (stns : Nat) (xport : Bool) (src : Nat) : State :=
  let s := forAll ((List.range 6).filter fun n => xport || bit stns n) s fun s n =>
    let hit := !(s.ctxsWith fun x => x.exposingAt n).isEmpty
    let s := s.spoilAt n cMotor src true
    if hit then s.cutFacet n leadMax else s
  if xport then s.transportStops cMotor else s

end Sys2Proof.Machine
end

