-- ==== Sys2Proof/Machine/Dec.lean ====
section
/-! DEFINITION. DEC, decoding one band of a frame at a station, and FMT's merge of base and overlay (R79, R82 to R87,
R101, R102). -/

namespace Sys2Proof.Machine

/-- OPAQUE and LEVEL of overlay map entry `u` (R123). -/
def State.ovEntry (s : State) (n u : Nat) : Bool × Nat :=
  let e := bits (s.reg ((F.FMT_OVMAP.at (u / 4)).addr n)).toNat (8 * (u % 4)) 5
  (bit e 4, bits e 0 4)

/-- M, the largest LEVEL among the opaque entries (R102). -/
def State.ovMax (s : State) (n : Nat) : Nat :=
  ((List.range 16).map fun u => let e := s.ovEntry n u; if e.1 then e.2 else 0).foldl max 0

/-- The level of a pixel from its base level and its overlay value (R101). -/
def State.mergePixel (s : State) (n base : Nat) (u : Option Nat) : Nat :=
  match u with
  | none => base
  | some u =>
    let e := s.ovEntry n u
    if !e.1 then base else if s.flag F.FMT_CFG_MERGE n then max e.2 base else e.2

/-- Entries of a band in a plane: entry numbers, in column order. -/
def State.bandEntries (s : State) (r : PlaneRec) (b : Nat) : List Nat :=
  if r.plane = 0 then (List.range r.width).map fun c => b * r.width + c
  else (List.range r.nBlocks).filter fun i => entBand (s.entryBytes r.addr i) == b

/-- History of a column of a plane at a station (R79). -/
def histKey (plane c : Nat) : Nat := plane * 16 + c

/-- Press times at which the lanes are free. -/
def State.decLanes (s : State) (n : Nat) : List Nat := (List.range 16).map fun i => (s.stn n).fmt.lanes.getD i 0

/-- The history line H of block (b, c): zeros with HISTORY_RESET, at b = 0, and without a block at (b − 1, c) (R79). -/
def State.histLine (s : State) (n frame plane b c : Nat) (reset : Bool) : List Nat :=
  let z := List.replicate 4096 0
  if reset ∨ b = 0 then z
  else match (s.stn n).fmt.hist.get (fun _ => Hist.mk 0 0 []) (histKey plane c) with
    | h => if h.frame = frame ∧ h.band + 1 = b ∧ h.pixels ≠ [] then h.pixels else z

/-- Line 47 of a decoded block becomes its column's history. -/
def State.setHist (s : State) (n frame plane b c : Nat) (px : List Nat) : State :=
  let f := (s.stn n).fmt
  s.setFmt n { f with hist := f.hist.set (fun _ => Hist.mk 0 0 []) (histKey plane c) (Hist.mk frame b px) }

/-- Canonical codes of a dynamic block's two tables (R76). With TABLES = 0 and N_TABLES above 0 the model reads the set at
LMEM address 0, which the spec leaves open (assumption 98). -/
def State.blockTables (s : State) (r : PlaneRec) (h : List Byte) :
    Option (List (Nat × Nat × Nat) × List (Nat × Nat × Nat)) :=
  if bit (hdrFlags h) 1 then
    let set := s.lmemBytes r.tables 68
    let t := fun o => canonical ((List.range (2 ^ bppBits r.bpp)).map fun y => codeLen set (fieldAt h o 1) y)
    some (t 4, t 5)
  else none

/-- DEC's judgement of one block (R85): why it is bad, 0 when it is good, and its pixels where they decode. Of a DYNAMIC
block whose table set reads poison the spec names no reason: the model judges it bad with WHY 1 (assumption 99). -/
def State.judge (s : State) (n ctx b : Nat) (r : PlaneRec) (i : Nat) : Nat × Option (List (List Nat)) :=
  let e := s.entryBytes r.addr i
  let a := entAddr e
  let h := s.lmemBytes a 32
  let d := bppBits r.bpp
  let pay := fieldAt h 12 4
  if s.poisoned (r.addr + 0x80 + 16 * i) 16 then (5, none)
  else if s.poisoned a 32 ∨ s.poisoned (a + 32) pay ∨ (bit (hdrFlags h) 1 ∧ s.poisoned r.tables 68) then (1, none)
  else if !headerOk h r.bpp r.nTables (entComp e) then (2, none)
  else
    match decodeBlock d (bit (hdrFlags h) 0) (s.blockTables r h) (s.histLine n (s.ctx ctx).order r.plane b (entCol e) (bit (hdrFlags h) 2))
        (s.lmemBytes (a + 32) pay) with
    | none => (3, none)
    | some lines => if (crc32c (packBlock d lines)).toNat = fieldAt h 0x10 4 then (0, some lines) else (4, some lines)

/-- A block judged bad (R85): marked, counted, raised, and the frame spoils POISON. -/
def State.badBlock (s : State) (n ctx slot i why : Nat) (a : Nat) : State :=
  let s := match s.planeRec slot with
    | some r =>
      let st := entStatus (s.entryBytes r.addr i)
      s.setStatus slot i (st - bits st 1 1 * 2 + 2)
    | none => s
  let s := ((s.bump F.DEC_BAD_CNT n).setPair64 F.DEC_BAD_ADDR_LO n a).setFld F.DEC_BAD_WHY n why
  ((s.event B.DEC n 0).raiseFault (82 + n)).spoilRun ctx cPoison (82 + n)

/-- One block of a band decoded and judged; its pixels where it is good, none where its area is dark. -/
def State.decodeOne (s : State) (n ctx b slot i : Nat) (r : PlaneRec) (errs : List CwErr) :
    State × Nat × Option (List (List Nat)) :=
  let s := s.demand (r.addr + 0x80 + 16 * i) 16 errs
  let e := s.entryBytes r.addr i
  let a := entAddr e
  let s := s.demand a (entComp e) errs
  let h := s.lmemBytes a 32
  let d := bppBits r.bpp
  let (why, px) := s.judge n ctx b r i
  match px with
  | some lines =>
    let s := s.setHist n (s.ctx ctx).order r.plane b (entCol e) (lines.getLastD [])
    let s := if fieldAt h 0x14 4 < expSum d lines ∨ fieldAt h 0x18 2 < expPeak d lines then
        (s.bump F.DEC_DUTY_CNT n).event B.DEC n 1 else s
    if why = 0 then (s, entCol e, some lines) else (s.badBlock n ctx slot i why a, entCol e, none)
  | none =>
    -- nothing decoded: what the next block of the column takes as history is not stated (assumption 1)
    let (v, s) := s.draw
    let s := s.setHist n (s.ctx ctx).order r.plane b (entCol e) ((List.range 4096).map fun x => bits v (d * x) d)
    (s.badBlock n ctx slot i why a, entCol e, none)

/-- A plane's blocks of a band: for each column that has one, its pixels, or none where it is bad. -/
def State.decodePlane (s : State) (n ctx b addr : Nat) (errs : List CwErr) :
    State × List (Nat × Option (List (List Nat))) × Nat :=
  match s.findRec addr with
  | some (slot, r) =>
    let (s, out) := (s.bandEntries r b).foldl (fun (x : State × List (Nat × Option (List (List Nat)))) i =>
      let (s, c, px) := x.1.decodeOne n ctx b slot i r errs
      (s, x.2 ++ [(c, px)])) (s, [])
    (s, out, bppBits r.bpp)
  | none => (s, [], 1)

/-- Pixel `x` of line `y` of a plane's band: none where the plane has no block there. -/
def planePixel (bl : List (Nat × Option (List (List Nat)))) (y x : Nat) : Option Nat :=
  match bl.find? (·.1 == x / 4096) with
  | some (_, some lines) => some ((lines.getD y []).getD (x % 4096) 0)
  | _ => none

/-- A column whose area DEC judged bad in either plane. -/
def columnBad (b o : List (Nat × Option (List (List Nat)))) (c : Nat) : Bool :=
  (b ++ o).any fun e => e.1 == c && e.2.isNone

/-- The merged lines of a band land in the line store (R96); a line of the same frame that stands there is replaced. -/
def State.landBand (s : State) (n ctx : Nat) (line : Int) (lines : List (List Nat)) : State :=
  let f := (s.stn n).fmt
  let new := lines.zipIdx.map fun l => Slot.mk (line + l.2) ctx (s.ctx ctx).order false l.1
  let kept := f.slots.filter fun x => !(x.frame == (s.ctx ctx).order && decide (line ≤ x.line ∧ x.line < line + 48))
  s.setFmt n { f with slots := kept ++ new }

/-- DEC goes on with the next band it has begun; with none its lanes are free (R94). -/
def State.decNext (s : State) (n : Nat) : List (Nat × Nat) → State
  | [] => (s.setFmt n { (s.stn n).fmt with lanes := [] }).setFld F.DEC_STAT_CTX n 0xFF
  | (c, b) :: _ => (s.setFld F.DEC_STAT_CTX n c).setFld F.DEC_BAND_BAND n b

/-- DEC_BAND_DELIVERED: the first band DEC works on at station n is decoded, judged and merged (R83 to R86, R101). -/
def decBandDelivered (n : Nat) (errs : List CwErr) (s : State) : State :=
  match (s.stn n).fmt.decoding with
  | [] => s
  | (ctx, b) :: rest =>
    let s := s.setFmt n { (s.stn n).fmt with decoding := rest }
    let x := s.ctx ctx
    let (s, base, d) := s.decodePlane n ctx b (x.planeAddr n 0) errs
    let (s, ovl, _) := if x.planeAddr n 1 = 0 then (s, [], 1) else s.decodePlane n ctx b (x.planeAddr n 1) errs
    let bad := (List.range 12).filter (columnBad base ovl)
    let lines := (List.range 48).map fun y => (List.range (4096 * x.width)).map fun p =>
      if p / 4096 ∈ bad then 0
      else s.mergePixel n (levelOf d ((planePixel base y p).getD 0)) (planePixel ovl y p)
    let s := if (s.ctx ctx).live n then s.landBand n ctx (x.origin n + 48 * b) lines else s
    s.decNext n rest

def execDecBandDelivered (n : Nat) (errs : List CwErr) (s : State) : Host.Outcome State Fault Refusal :=
  .next (s.finish (if n < 6 then decBandDelivered n errs s else s))

/-- DEC_BAND_LATE: the first band at work misses its deadline: its lines stay dark and the frame spoils FAULT (R87). The
spec does not say whether DEC decodes the band after all: in the model it does not, and the next band's history line is
zeros (assumption 100). -/
def decBandLate (n : Nat) (s : State) : State :=
  match (s.stn n).fmt.decoding with
  | [] => s
  | (ctx, _) :: rest =>
    let s := s.setFmt n { (s.stn n).fmt with decoding := rest }
    let s := s.decNext n rest
    (((s.bump F.DEC_LATE_CNT n).event B.DEC n 2).raiseFault (76 + n)).spoilRun ctx cFault (76 + n)

def execDecBandLate (n : Nat) (s : State) : Host.Outcome State Fault Refusal :=
  .next (s.finish (if n < 6 then decBandLate n s else s))

/-- The lane that is free first, the lowest-numbered of those, and its time. -/
def freeLane : List Nat → Nat → Nat × Nat
  | [], _ => (0, 0)
  | [t], i => (i, t)
  | t :: ts, i => let r := freeLane ts (i + 1); if t ≤ r.2 then (i, t) else r

/-- One line job given to the lane that is free first (R82). -/
def giveLane (now : Nat) (lanes : List Nat) (cycles : Nat) : List Nat :=
  let ls := lanes.map (max now)
  let r := freeLane ls 0
  ls.set r.1 (r.2 + cycles)

/-- The line jobs of a band of `k` blocks, in order: line 0 of a block is charged 4,096 + 512 lane cycles, every other
line 4,096, a cycle being 1 ns (R82). -/
def bandJobs (k : Nat) : List Nat := List.replicate k 4608 ++ List.replicate (47 * k) 4096

/-- Blocks of a band of a frame at a station, in both planes. -/
def State.bandBlocks (s : State) (n ctx b : Nat) : Nat :=
  ([0, 1].map fun p => match s.findRec ((s.ctx ctx).planeAddr n p) with
    | some (_, r) => (s.bandEntries r b).length
    | none => 0).sum

/-- DEC_STAT.LANE_BUSY. -/
def State.laneBusy (s : State) (n : Nat) : Nat :=
  ((List.range 16).map fun i => if s.now < (s.decLanes n).getD i 0 then 2 ^ i else 0).sum

/-- DEC begins band b of a frame at station n, unless its page is disabled (R82, R83, R417). -/
def State.decStart (s : State) (n ctx b : Nat) : State :=
  let f := (s.stn n).fmt
  if (ctx, b) ∈ f.decoding ∨ ¬ s.pageEn B.DEC n then s
  else
    let lanes := (bandJobs (s.bandBlocks n ctx b)).foldl (giveLane s.now) (s.decLanes n)
    let s := s.setFmt n { f with decoding := f.decoding ++ [(ctx, b)], lanes := lanes }
    let x := s.ctx ctx
    let s := s.setCtx ctx { x with begun := setBit x.begun n }
    if f.decoding.isEmpty then
      (s.setFld F.DEC_STAT_CTX n ctx).setFld F.DEC_BAND_BAND n b
    else s

end Sys2Proof.Machine
end

