-- ==== Sys2Proof/Machine/Sha.lean ====
section
/-! DEFINITION. SHA-384 (FIPS 180-4, R2). -/

namespace Sys2Proof.Machine

/-- A 64-bit word of SHA-384. -/
abbrev W64 := BitVec 64

/-- Round constants. -/
def shaK : List W64 := [
  0x428A2F98D728AE22, 0x7137449123EF65CD, 0xB5C0FBCFEC4D3B2F, 0xE9B5DBA58189DBBC,
  0x3956C25BF348B538, 0x59F111F1B605D019, 0x923F82A4AF194F9B, 0xAB1C5ED5DA6D8118,
  0xD807AA98A3030242, 0x12835B0145706FBE, 0x243185BE4EE4B28C, 0x550C7DC3D5FFB4E2,
  0x72BE5D74F27B896F, 0x80DEB1FE3B1696B1, 0x9BDC06A725C71235, 0xC19BF174CF692694,
  0xE49B69C19EF14AD2, 0xEFBE4786384F25E3, 0x0FC19DC68B8CD5B5, 0x240CA1CC77AC9C65,
  0x2DE92C6F592B0275, 0x4A7484AA6EA6E483, 0x5CB0A9DCBD41FBD4, 0x76F988DA831153B5,
  0x983E5152EE66DFAB, 0xA831C66D2DB43210, 0xB00327C898FB213F, 0xBF597FC7BEEF0EE4,
  0xC6E00BF33DA88FC2, 0xD5A79147930AA725, 0x06CA6351E003826F, 0x142929670A0E6E70,
  0x27B70A8546D22FFC, 0x2E1B21385C26C926, 0x4D2C6DFC5AC42AED, 0x53380D139D95B3DF,
  0x650A73548BAF63DE, 0x766A0ABB3C77B2A8, 0x81C2C92E47EDAEE6, 0x92722C851482353B,
  0xA2BFE8A14CF10364, 0xA81A664BBC423001, 0xC24B8B70D0F89791, 0xC76C51A30654BE30,
  0xD192E819D6EF5218, 0xD69906245565A910, 0xF40E35855771202A, 0x106AA07032BBD1B8,
  0x19A4C116B8D2D0C8, 0x1E376C085141AB53, 0x2748774CDF8EEB99, 0x34B0BCB5E19B48A8,
  0x391C0CB3C5C95A63, 0x4ED8AA4AE3418ACB, 0x5B9CCA4F7763E373, 0x682E6FF3D6B2B8A3,
  0x748F82EE5DEFB2FC, 0x78A5636F43172F60, 0x84C87814A1F0AB72, 0x8CC702081A6439EC,
  0x90BEFFFA23631E28, 0xA4506CEBDE82BDE9, 0xBEF9A3F7B2C67915, 0xC67178F2E372532B,
  0xCA273ECEEA26619C, 0xD186B8C721C0C207, 0xEADA7DD6CDE0EB1E, 0xF57D4F7FEE6ED178,
  0x06F067AA72176FBA, 0x0A637DC5A2C898A6, 0x113F9804BEF90DAE, 0x1B710B35131C471B,
  0x28DB77F523047D84, 0x32CAAB7B40C72493, 0x3C9EBE0A15C9BEBC, 0x431D67C49C100D4C,
  0x4CC5D4BECB3E42B6, 0x597F299CFC657E2A, 0x5FCB6FAB3AD6FAEC, 0x6C44198C4A475817]

/-- Initial hash value of SHA-384. -/
def shaInit : List W64 := [
  0xCBBB9D5DC1059ED8, 0x629A292A367CD507, 0x9159015A3070DD17, 0x152FECD8F70E5939,
  0x67332667FFC00B31, 0x8EB44A8768581511, 0xDB0C2E0D64F98FA7, 0x47B5481DBEFA4FA4]

/-- Word `i` of a list. -/
def w64 (l : List W64) (i : Nat) : W64 := l.getD i 0

/-- The message schedule of one block: newest word first, `n` words still to come. -/
def shaExtend : Nat → List W64 → List W64
  | 0, w => w
  | n + 1, w =>
    let a := w64 w 14
    let b := w64 w 1
    let s0 := a.rotateRight 1 ^^^ a.rotateRight 8 ^^^ (a >>> 7)
    let s1 := b.rotateRight 19 ^^^ b.rotateRight 61 ^^^ (b >>> 6)
    shaExtend n ((w64 w 15 + s0 + w64 w 6 + s1) :: w)

/-- One round. -/
def shaRound (h : List W64) (kw : W64 × W64) : List W64 :=
  let a := w64 h 0; let b := w64 h 1; let c := w64 h 2; let e := w64 h 4; let f := w64 h 5; let g := w64 h 6
  let s1 := e.rotateRight 14 ^^^ e.rotateRight 18 ^^^ e.rotateRight 41
  let t1 := w64 h 7 + s1 + ((e &&& f) ^^^ (~~~ e &&& g)) + kw.1 + kw.2
  let s0 := a.rotateRight 28 ^^^ a.rotateRight 34 ^^^ a.rotateRight 39
  let t2 := s0 + ((a &&& b) ^^^ (a &&& c) ^^^ (b &&& c))
  [t1 + t2, a, b, c, w64 h 3 + t1, e, f, g]

/-- One block of 128 bytes. -/
def shaBlock (h : List W64) (block : List Byte) : List W64 :=
  let m := (List.range 16).map fun i => BitVec.ofNat 64 (beNat ((block.drop (8 * i)).take 8))
  let w := (shaExtend 64 m.reverse).reverse
  List.zipWith (· + ·) h ((shaK.zip w).foldl shaRound h)

/-- The padded message. -/
def shaPad (bs : List Byte) : List Byte :=
  bs ++ [0x80] ++ List.replicate ((239 - bs.length % 128) % 128) 0 ++ beBytes 16 (8 * bs.length)

/-- Blocks in turn. -/
def shaBlocks : Nat → List W64 → List Byte → List W64
  | 0, h, _ => h
  | n + 1, h, bs => shaBlocks n (shaBlock h (bs.take 128)) (bs.drop 128)

/-- SHA-384: 48 bytes. -/
def sha384 (bs : List Byte) : List Byte :=
  let p := shaPad bs
  ((shaBlocks (p.length / 128) shaInit p).take 6).flatMap fun w => beBytes 8 w.toNat

/-! ### HMAC_DRBG with SHA-384 (R2: NIST SP 800-90A) -/

/-- HMAC-SHA-384 under a key of at most 128 bytes. -/
def hmac384 (key msg : List Byte) : List Byte :=
  let k := key ++ List.replicate (128 - key.length) 0
  sha384 (k.map (· ^^^ 0x5C) ++ sha384 (k.map (· ^^^ 0x36) ++ msg))

/-- A generator's K and V updated with provided data. -/
def drbgUpdate (k v data : List Byte) : List Byte × List Byte :=
  let k := hmac384 k (v ++ 0x00 :: data)
  let v := hmac384 k v
  if data.isEmpty then (k, v)
  else
    let k := hmac384 k (v ++ 0x01 :: data)
    (k, hmac384 k v)

/-- `n` blocks of 48 bytes generated, and V after them. -/
def drbgBlocks : Nat → List Byte → List Byte → List Byte × List Byte
  | 0, _, v => ([], v)
  | n + 1, k, v =>
    let v := hmac384 k v
    let (bs, w) := drbgBlocks n k v
    (v ++ bs, w)

/-- `n` bytes generated, and K and V after them. -/
def drbgGenerate (n : Nat) (k v : List Byte) : List Byte × List Byte × List Byte :=
  let (bs, v) := drbgBlocks ((n + 47) / 48) k v
  let (k, v) := drbgUpdate k v []
  (bs.take n, k, v)

end Sys2Proof.Machine
end

