-- ==== Sys2Proof/Machine/Cor.lean ====
section
/-! DEFINITION. COR: the exposure code of a pixel, correction banks and their loads (R105 to R114, R124). -/

namespace Sys2Proof.Machine

/-! ### Nodes and codes -/

/-- A node word of a bank. -/
def State.node (s : State) (n bank i : Nat) : Nat := ((s.stn n).cor.nodes.get (fun _ => (0 : Word)) (bank * 65536 + i)).toNat

/-- The active bank (R124). -/
def State.activeBank (s : State) (n : Nat) : Nat := s.fld F.COR_STAT_ACTIVE n

/-- A field interpolated between nodes k and k + 1 at pixel x (R106). -/
def interp (a b : Int) (t : Nat) : Int := (48 * a + (b - a) * t + 24) / 48

/-- Interpolated fields of an emitter at a pixel: Y_OFS, X_DLY, PWR, WID (R105, R106). -/
def State.nodeFields (s : State) (n bank e x : Nat) : Int × Int × Int × Int :=
  let k := x / 48
  let t := x - 48 * k
  let a := s.node n bank (e * 1024 + k)
  let b := if k ≤ 1022 then s.node n bank (e * 1024 + k + 1) else a
  let f := fun lo len => interp (signed (bits a lo len) len) (signed (bits b lo len) len) t
  (f 22 10, f 14 8, f 6 8, f 0 6)

/-- LW of a level (R103, R123). -/
def State.lw (s : State) (n lev : Nat) : Nat :=
  if lev = 0 then 0 else bits (s.reg ((F.FMT_LVLW.at (lev / 4)).addr n)).toNat (8 * (lev % 4)) 5

/-- The exposure code of R108 from the interpolated fields, the widths of the four source pixels as a function of the
source line and pixel, the power steps, and Y_max; and how many clamps and clips it counts (R107). -/
def corCode (f : Int × Int × Int × Int) (wid : Int → Int → Nat) (ps : Nat → Nat) (ymax : Int) (o : Int) (x : Nat) :
    Nat × Nat :=
  let y := clampI (-8 * ymax) (8 * ymax - 1) f.1
  let c0 := if y = f.1 then 0 else 1
  let yi := y / 8; let fy := (y - 8 * yi).toNat
  let xi := f.2.1 / 64; let fx := (f.2.1 - 64 * xi).toNat
  let x0 := (x : Int) + xi
  let e512 := (8 - fy) * ((64 - fx) * wid (o + yi) x0 + fx * wid (o + yi) (x0 + 1))
    + fy * ((64 - fx) * wid (o + yi + 1) x0 + fx * wid (o + yi + 1) (x0 + 1))
  let en := (e512 + 256) / 512
  if en = 0 then (0, c0)
  else
    let en := (clampI 1 31 (en + f.2.2.2)).toNat
    let rp := (1024 + (1024 * f.2.2.1 + 250) / 500).toNat
    let st := (List.range 8).find? fun k => decide (rp ≤ ps k)
    let k := st.getD 7
    let pw := (clampI 1 31 (((en * rp + ps k / 2) / ps k : Nat) : Int)).toNat
    (pw * 8 + k, c0 + if st.isNone then 1 else 0)

/-- A code with its width scaled by the governor (R117). -/
def govern (code g : Nat) : Nat := let pw := code / 8 * g / 32; if pw = 0 then 0 else pw * 8 + code % 8

/-! ### Source lines -/

/-- The frame whose line lies at a coordinate of station n, and the line's number. -/
def State.frameAt (s : State) (n : Nat) (a : Int) : Option (Nat × Nat) :=
  (s.ctxsWith fun x => x.uses n && !bit x.done n && !x.stopped
      && (x.st = .admitted || x.st = .exposing || x.running)
      && decide (x.origin n ≤ a ∧ a < x.origin n + 48 * x.facets)).head?.map fun c =>
    (c, (a - (s.ctx c).origin n).toNat)

/-- A line coordinate of station n belongs to the frame of a context: the station has written the frame, or has still to
write it (R96). -/
def Ctx.holdsLine (x : Ctx) (n : Nat) (a : Int) : Bool :=
  decide (x.origin n ≤ a ∧ a < x.origin n + 48 * x.facets)
    && (x.live n || (x.uses n && bit x.done n && x.st ≠ .free && x.st ≠ .staged))

/-- Levels a slot of band memory holds of a context's frame at a coordinate; none where no line of it was delivered. -/
def State.slotLine (s : State) (n c : Nat) (a : Int) : List Nat :=
  match (s.stn n).fmt.slots.find? fun x => x.band && x.line == a && x.ctx == c && x.frame == (s.ctx c).order with
  | some x => x.px
  | none => []

/-- Levels of the line at a coordinate; none, which is level 0, where the coordinate belongs to no frame or no line was
delivered there (R96). -/
def State.lineAt (s : State) (n : Nat) (a : Int) : List Nat :=
  match (s.ctxsWith fun x => x.holdsLine n a).head? with
  | some c => s.slotLine n c a
  | none => []

/-- Codes of one emitter along its output line: 49,152 pixels, governed; with the clamps and clips counted. -/
def State.emitterCodes (s : State) (n e : Nat) (o : Int) (g : Nat) : List Nat × Nat :=
  let bank := s.activeBank n
  let w := match s.frameAt n o with | some (c, _) => (s.ctx c).width | none => 12
  let ymax := max 0 (s.yMax n w)
  let lines := (List.range 82).map fun (i : Nat) => s.lineAt n (o - 41 + i)
  let wid := fun (l x : Int) =>
    if x < 0 ∨ 4096 * (w : Int) ≤ x then 0
    else s.lw n (((lines.getD (l - (o - 41)).toNat []).getD x.toNat 0))
  (List.range 49152).foldl (fun (acc : List Nat × Nat) x =>
    let r := corCode (s.nodeFields n bank e x) wid (s.pstep n) ymax o x
    (acc.1 ++ [govern r.1 g], acc.2 + r.2)) ([], 0)

/-- Lowest and highest source-line offset an emitter reads with a bank (R108, R112). -/
def State.readSpan (s : State) (n bank e : Nat) (ymax : Int) : Int × Int :=
  let ys := (List.range 1024).map fun k =>
    clampI (-8 * ymax) (8 * ymax - 1) (signed (bits (s.node n bank (e * 1024 + k)) 22 10) 10) / 8
  (ys.foldl min (ys.headD 0), ys.foldl max (ys.headD 0) + 1)

/-! ### Loads -/

/-- Set held by a bank, and VERIFIED. -/
def State.bankSet (s : State) (n b : Nat) : Nat := if b = 0 then s.fld F.COR_STAT_SET_0 n else s.fld F.COR_STAT_SET_1 n
def State.bankVer (s : State) (n b : Nat) : Bool := if b = 0 then s.flag F.COR_STAT_VER_0 n else s.flag F.COR_STAT_VER_1 n
def State.setBank (s : State) (n b set : Nat) (ver : Bool) : State :=
  if b = 0 then (s.setFld F.COR_STAT_SET_0 n set).setFlag F.COR_STAT_VER_0 n ver
  else (s.setFld F.COR_STAT_SET_1 n set).setFlag F.COR_STAT_VER_1 n ver

/-- A verified bank holds a set. -/
def State.holdsSet (s : State) (n b set : Nat) : Bool := s.bankVer n b && s.bankSet n b == set

/-- Digest of a bank. -/
def State.bankDigest (s : State) (n b : Nat) : List Byte :=
  takeAt (if b = 0 then (s.stn n).cor.dig0 else (s.stn n).cor.dig1) 0 48

/-- The bundle's CORSET section for a set and station (R111). -/
def State.corSection (s : State) (n set : Nat) : Option Section :=
  if s.bundle.ok then s.bundle.sections.find? fun x => x.typ == 4 && x.id == set && x.station == n else none

/-- A refusal of LOAD (R114): 1 NOSET, 3 INUSE. -/
def State.corRefuse (s : State) (n err : Nat) : State :=
  ((s.setFld F.COR_STAT_ERR n err).event B.COR n 1).setFlag F.COR_CTRL_LOAD n false

/-- COR_LOAD: COR_CTRL.LOAD (R111, R114); none is begun with EN = 0 (R417). -/
def corLoad (n : Nat) (s : State) : State :=
  let b := s.fld F.COR_LOAD_CFG_BANK n
  let set := s.fld F.COR_LOAD_CFG_SET n
  let relied := !(s.ctxsWith fun x => (x.st = .admitted || x.st = .exposing) && x.uses n && x.corSet == s.bankSet n b).isEmpty
    && s.bankVer n b && !s.holdsSet n (1 - b) (s.bankSet n b)
  if ¬ s.pageEn B.COR n then s
  else if (s.stn n).cor.loading.isSome then s.setFld F.COR_STAT_ERR n 5
  else if (s.activeBank n = b ∧ s.bankVer n b) ∨ relied then s.corRefuse n 3
  else if (s.corSection n set).isNone then s.corRefuse n 1
  else
    let s := (s.setFlag F.COR_CTRL_LOAD n true).setFlag F.COR_STAT_BUSY n true
    (s.setBank n b set false).setCor n { (s.stn n).cor with loading := some (b, set) }

def execCorLoad (n : Nat) (s : State) : Host.Outcome State Fault Refusal :=
  .next (s.finish (s.onPage B.COR n F.COR_CTRL.off fun s =>
    if n < 6 ∧ s.pageOn B.COR n then corLoad n s else s))

/-- COR_LOAD_DONE: the running load ends: the set's image is read from the bundle region, hashed and compared (R110,
R111, R114, R311). -/
def corLoadDone (n : Nat) (errs : List CwErr) (s : State) : State :=
  match (s.stn n).cor.loading with
  | none => s
  | some (b, set) =>
    let s := ((s.setCor n { (s.stn n).cor with loading := none }).setFlag F.COR_STAT_BUSY n false).setFlag F.COR_CTRL_LOAD n false
    match s.corSection n set with
    | none => (s.setFld F.COR_STAT_ERR n 1).event B.COR n 1
    | some x =>
      let a := s.bundleBase + x.offset
      let s := s.demand a 196608 errs
      if s.poisoned a 196608 then ((s.setBank n b set false).setFld F.COR_STAT_ERR n 4).event B.COR n 1
      else
        let img := s.lmemBytes a 196608
        let d := sha384 img
        let c := (s.stn n).cor
        let nodes : Sparse Word := c.nodes.filter fun e => decide (e.1 / 65536 ≠ b)
        let words := (chunks 4 49152 img).map fun w => BitVec.ofNat 32 (leNat w)
        let s := s.setCor n { c with
          nodes := Sparse.setList (fun _ => (0 : Word)) nodes (b * 65536) words
          dig0 := if b = 0 then d else c.dig0
          dig1 := if b = 0 then c.dig1 else d }
        if d = x.digest then ((s.setBank n b set true).setFld F.COR_STAT_ERR n 0).event B.COR n 0
        else ((s.setBank n b set false).setFld F.COR_STAT_ERR n 2).event B.COR n 1

def execCorLoadDone (n : Nat) (errs : List CwErr) (s : State) : Host.Outcome State Fault Refusal :=
  .next (s.finish (if n < 6 then corLoadDone n errs s else s))

/-- The bank a station needs for a set: the active one when it holds it, else the other (R112). -/
def State.swapFor (s : State) (n set : Nat) : State :=
  let b := s.activeBank n
  if s.holdsSet n b set ∨ ¬ s.holdsSet n (1 - b) set then s
  else (s.setFld F.COR_STAT_ACTIVE n (1 - b)).event B.COR n 2

/-- COR_NODE_DATA and COR_DIGEST_i (R124). -/
def State.corNodeData (s : State) (n : Nat) : Nat :=
  let i := s.fld F.COR_NODE_SEL_NODE n
  if i < 49152 then s.node n (s.fld F.COR_NODE_SEL_BANK n) i else 0
def State.corDigest (s : State) (n i : Nat) : Nat :=
  let b := s.fld F.COR_NODE_SEL_BANK n
  if s.bankVer n b then fieldAt (s.bankDigest n b) (4 * i) 4 else 0

end Sys2Proof.Machine
end

