-- ==== Sys2Proof/Machine/Profile.lean ====
section
/-! DEFINITION. Profile generators (R196 to R202, R206). A generator follows its target at its limits. The spec bounds the
path to a position under a jerk limit and does not give it: it is free between the fastest and the slowest that the limits
allow (assumptions 1 and 106). -/

namespace Sys2Proof.Machine

def Pgn.init : Pgn :=
  { vel := 0, acc := 0, rem := 0, target := 0, queued := 0, drive := none, held := false, seek := false, classV := none }

def State.pgn (s : State) (g : Nat) : Pgn := s.pgns.get (fun _ => Pgn.init) g
def State.setPgn (s : State) (g : Nat) (x : Pgn) : State := { s with pgns := s.pgns.set (fun _ => Pgn.init) g x }

/-- PGN_STAT.STATE codes (R212). -/
def pgIdle : Nat := 0
def pgRamp : Nat := 1
def pgCruise : Nat := 2
def pgBrake : Nat := 3
def pgStopping : Nat := 4

def State.pgState (s : State) (g : Nat) : Nat := s.fld F.PGN_STAT_STATE g
def State.setPgState (s : State) (g v : Nat) : State := s.setFld F.PGN_STAT_STATE g v

/-- Velocity mode (R212). -/
def State.pgVelMode (s : State) (g : Nat) : Bool := s.fld F.PGN_CFG_MODE g == 1

/-- PGN_POS in 1/65,536 count, and the integer position. -/
def State.pgPosQ (s : State) (g : Nat) : Int := signed (s.pair64 F.PGN_POS_LO g) 64
def State.pgPos (s : State) (g : Nat) : Int := s.pgPosQ g / 65536
def State.setPgPosQ (s : State) (g : Nat) (x : Int) : State := s.setPair64 F.PGN_POS_LO g (unsign x 64)

/-- The modes in which all motion commands act (R181). -/
def Mode.moves (m : Mode) : Bool := m = .warmup || m = .ready || m = .print || m = .drain || m = .calibrate

/-- The generator is the transport source. -/
def State.isTransport (s : State) (g : Nat) : Bool := s.fld F.APR_XPORT_SRC 0 == g

/-- Steppers bound to a generator that are not OFF or in FAULT. -/
def State.steppersOf (s : State) (g : Nat) : List Nat :=
  (List.range 16).filter fun m => s.fld F.STP_CFG_PG m == g && decide (1 ≤ s.fld F.STP_STAT_STATE m ∧ s.fld F.STP_STAT_STATE m ≤ 3)

/-- Steppers whose virtual limits act on a generator (R206). -/
def State.limitedBy (s : State) (g : Nat) : List Nat :=
  (s.steppersOf g).filter fun m =>
    s.flag F.STP_CFG_VLIM_EN m && s.flag F.STP_STAT_HOMED m && s.fld F.STP_STAT_STATE m != 3

/-- Virtual limits of a stepper. -/
def State.vlimLo (s : State) (m : Nat) : Int := signed (s.reg (F.STP_VLIM_LO.addr m)).toNat 32
def State.vlimHi (s : State) (m : Nat) : Int := signed (s.reg (F.STP_VLIM_HI.addr m)).toNat 32

/-- A target clamped to the virtual limits (R206). -/
def State.clampTarget (s : State) (g : Nat) (x : Int) : Int :=
  (s.limitedBy g).foldl (fun x m => clampI (s.vlimLo m) (s.vlimHi m) x) x

/-! ### Limits (R198) -/

/-- What an update may add to the speed and take off it, in 10^-12 counts/s, and how much that may change; 0 = no jerk
limit. -/
def State.pgUp (s : State) (g : Nat) : Nat := 16 * 10 ^ 6 * (s.reg (F.PGN_AMAX.addr g)).toNat
def State.pgDown (s : State) (g : Nat) : Nat := 16 * 10 ^ 6 * (s.reg (F.PGN_DMAX.addr g)).toNat
def State.pgJerk (s : State) (g : Nat) : Nat := 256 * (s.reg (F.PGN_JMAX.addr g)).toNat

/-- The distance to a position in counts, in the units one update at a velocity covers: 10^-18 counts. -/
def State.pgDist (s : State) (g : Nat) (x : Int) : Int :=
  ((x * 65536 - s.pgPosQ g) * 10 ^ 18 - (s.pgn g).rem) / 65536

/-- The greatest `y` with y + (y − d) + (y − 2d) + … at most `e`: the speed from which updates that each take `d` off it
come to rest within `e`. -/
def descent (d e : Nat) : Nat :=
  if d = 0 then 0
  else
    let k := (Nat.sqrt (1 + 8 * (e / d)) - 1) / 2
    k * d + (e - d * (k * (k + 1) / 2)) / (k + 1)

/-- A bound on the distance in which a speed `v`, rising by `a` an update, comes to rest under limits `d` and `j`. -/
def stopBound (v a d j : Nat) : Nat :=
  if d = 0 ∨ j = 0 then 2 ^ 200
  else
    let p := v + a * a / (2 * j) + a + 1
    p * p / (2 * d) + p * d / (2 * j) + p * (a / j + 2)

/-- A generator that a velocity and limits `d` and `j` carry past a distance `r` before it can rest there (R200). -/
def passes (v r : Int) (a d j : Nat) : Bool :=
  decide (0 < v * r) && (if j = 0 then decide (descent d r.natAbs < v.natAbs - d) else decide (r.natAbs < stopBound v.natAbs a d j))

/-- What runs is a move to a position, not to a velocity. -/
def State.pgSeeks (s : State) (g : Nat) : Bool := (!s.pgVelMode g || (s.pgn g).seek) && (s.pgn g).drive.isNone

/-! ### Commands (R199, R202) -/

/-- A target taken: the move starts. -/
def State.pgStart (s : State) (g : Nat) (x : Int) : State :=
  (s.setPgn g { s.pgn g with target := x }).setPgState g pgRamp

/-- GO (R199): in velocity mode it releases a generator that STOP has halted. -/
def pgnGo (g : Nat) (s : State) : State :=
  if !s.sys.mode.moves ∨ ¬ s.pageEn B.PGN g then s
  else if s.pgVelMode g then s.setPgn g { s.pgn g with held := false }
  else
    let x := s.clampTarget g (signed (s.pair64 F.PGN_TGT_LO g) 64)
    if s.pgState g = pgIdle then s.pgStart g x
    else if s.flag F.PGN_STAT_QUEUED g then s.event B.PGN g 2
    else (s.setPgn g { s.pgn g with queued := x }).setFlag F.PGN_STAT_QUEUED g true

/-- STOP clears the queue and decelerates to rest. -/
def State.pgStop (s : State) (g : Nat) : State :=
  let s := (s.setPgn g { s.pgn g with held := true, drive := none }).setFlag F.PGN_STAT_QUEUED g false
  if s.pgState g = pgIdle then s else s.setPgState g pgStopping

/-- PGN_CTRL.STOP: on the transport generator it takes frames out of service (R48). -/
def pgnStop (g : Nat) (s : State) : State :=
  let s := s.pgStop g
  if s.isTransport g ∧ ¬ s.flight.isEmpty then
    (forAll (List.range 6) s fun s n => s.outOfService n cMotor 110).motorFail 0 true 110
  else s

/-- PRESET (R199). -/
def pgnPreset (g : Nat) (s : State) : State :=
  if s.pgState g ≠ pgIdle ∨ (s.isTransport g ∧ ¬ s.flight.isEmpty) then s.event B.PGN g 2
  else (s.setPgn g { s.pgn g with rem := 0 }).setPgPosQ g (signed (s.pair64 F.PGN_TGT_LO g) 64 * 65536)

/-- A generator comes to rest: one that is the transport source stops the transport, unless a queued move goes on
(assumption 108); its steppers stand, hold at IHOLD in SAFEHOLD and release in IDLE (R181). -/
def State.pgStands (s : State) (g : Nat) : State :=
  let s := if s.isTransport g ∧ s.pgState g = pgIdle then s.transportStops cMotor else s
  forAll ((s.steppersOf g).filter fun m => s.fld F.STP_STAT_STATE m != 3) s fun s m =>
    if s.sys.mode = .idle then (s.setFld F.STP_STAT_STATE m 0).setFlag F.STP_STAT_HOMED m false
    else
      let s := s.setFld F.STP_STAT_STATE m 1
      if s.sys.mode = .safehold ∨ (s.sys.trans.any fun t => t.target == .safehold) then s.setFlag F.STP_STAT_STILL m true else s

/-- PGN_VTGT written (R199, R200): a target against the motion raises LIMITED. -/
def State.writeVtgt (s : State) (g : Nat) (v : Word) : State :=
  let s := (s.setReg (F.PGN_VTGT.addr g) v).setPgn g
    { s.pgn g with held := (s.pgn g).held && !s.pageEn B.PGN g, classV := none }
  let t := signed v.toNat 32
  let u := (s.pgn g).vel
  if s.pgVelMode g ∧ ((t < 0 ∧ 0 < u) ∨ (0 < t ∧ u < 0)) then s.event B.PGN g 1 else s

/-- PGN_VMAX written (R200): below the velocity it raises LIMITED, and 0 acts as STOP. -/
def State.writeVmax (s : State) (g : Nat) (v : Word) : State :=
  let s := s.setReg (F.PGN_VMAX.addr g) v
  let u := (s.pgn g).vel.natAbs
  if s.pgState g = pgIdle then s
  else if v = 0 then (s.event B.PGN g 1).pgStop g
  else if (min v.toNat (2 ^ 31 - 1)) * 10 ^ 12 < u then s.event B.PGN g 1 else s

/-- The move that runs passes its target before it can rest. -/
def State.pgPasses (s : State) (g : Nat) : Bool :=
  let x := s.pgn g
  let a := if 0 < x.vel * x.acc then x.acc.natAbs else 0
  passes x.vel (s.pgDist g x.target) a (s.pgDown g) (s.pgJerk g)

/-- PGN_DMAX or PGN_JMAX written (R200): one that leaves too little distance to stop at the target overshoots. -/
def State.writeBrake (s : State) (g : Nat) (f : Field) (v : Word) : State :=
  let t := s.setReg (f.addr g) v
  let st := s.pgState g
  if s.pgSeeks g ∧ 1 ≤ st ∧ st ≤ 3 ∧ ¬ s.pgPasses g ∧ t.pgPasses g then
    (t.setFlag F.PGN_STAT_OVERSHOOT g true).event B.PGN g 1
  else t

/-- PGN_CTRL written: STOP is taken before GO (R202). -/
def State.writePgnCtrl (s : State) (g : Nat) (v : Word) : State :=
  let s := if bit v.toNat 1 then pgnStop g s else s
  let s := if bit v.toNat 0 then pgnGo g s else s
  if bit v.toNat 2 then pgnPreset g s else s

/-- The generators are there: their page's domain is on. -/
def State.pgOn (s : State) (g : Nat) : Bool := decide (g < 32) && s.domOn .ctl

def execPgnGo (g : Nat) (s : State) : Host.Outcome State Fault Refusal :=
  .next (s.finish (s.onPage B.PGN g F.PGN_CTRL.off fun s =>
    if s.pgOn g then pgnGo g s else s))
def execPgnStop (g : Nat) (s : State) : Host.Outcome State Fault Refusal :=
  .next (s.finish (s.onPage B.PGN g F.PGN_CTRL.off fun s =>
    if s.pgOn g then pgnStop g s else s))
def execPgnPreset (g : Nat) (s : State) : Host.Outcome State Fault Refusal :=
  .next (s.finish (s.onPage B.PGN g F.PGN_CTRL.off fun s =>
    if s.pgOn g then pgnPreset g s else s))
def execPgnVtgtWrite (g : Nat) (v : Word) (s : State) : Host.Outcome State Fault Refusal :=
  .next (s.finish (s.onPage B.PGN g F.PGN_VTGT.off fun s =>
    if s.pgOn g then s.writeVtgt g v else s))

/-! ### Ends of a move -/

/-- The generator at rest: a queued move starts (R199). -/
def State.pgRest (s : State) (g : Nat) : State :=
  let s := (s.setPgn g { s.pgn g with vel := 0, acc := 0, seek := false }).setPgState g pgIdle
  let s := (s.setReg (F.PGN_VEL.addr g) 0).setReg (F.PGN_ACC.addr g) 0
  if s.flag F.PGN_STAT_QUEUED g then (s.setFlag F.PGN_STAT_QUEUED g false).pgStart g (s.pgn g).queued else s

/-- An immediate stop (R209): velocity and acceleration 0, and the position the stepper's own. -/
def State.pgHalt (s : State) (g : Nat) : State :=
  let was := (s.pgn g).vel
  let s := (s.setFlag F.PGN_STAT_QUEUED g false).setPgPosQ g (s.pgPos g * 65536)
  let s := ((s.setPgn g { s.pgn g with rem := 0, drive := none, held := true })).pgRest g
  if was = 0 then s else s.pgStands g

/-- Homing goes on when a phase's motion ends (R208): after the search's deceleration it backs off, after the back-off it
creeps, and after the final stop it is HOMED. -/
def State.homeNext (s : State) (m g : Nat) : State :=
  let toward : Int := match s.fld F.STP_HOME_SW m with
    | 0 => -1
    | 1 => 1
    | _ => if s.flag F.STP_HOME_DIR m then 1 else -1
  match s.fld F.STP_STAT_HSTEP m with
  | 2 =>
    let s := s.setFld F.STP_STAT_HSTEP m 3
    (s.setPgn g { s.pgn g with drive := none, seek := true }).pgStart g
      (s.pgPos g - toward * 256 * s.fld F.STP_HOME_BACKOFF m)
  | 3 =>
    let s := (s.setFld F.STP_STAT_HSTEP m 4).setPgState g pgRamp
    s.setPgn g { s.pgn g with drive := some (toward * 16 * s.fld F.STP_HOME_CREEP m) }
  | 5 =>
    let s := ((s.setFld F.STP_STAT_HSTEP m 0).setFld F.STP_STAT_STATE m 1).setFlag F.STP_STAT_HOMED m true
    ((s.setFld F.STP_CTRL_CMD m 1).setPgn g { s.pgn g with drive := none }).event B.STP m 0
  | _ => s

/-- Steppers that home on a generator. -/
def State.homers (s : State) (g : Nat) : List Nat :=
  (List.range 16).filter fun m => s.fld F.STP_CFG_PG m == g && s.fld F.STP_STAT_STATE m == 3

/-! ### SPEED_HOLD (R201) -/

/-- Stations whose SPEED_HOLD is set. -/
def State.heldStns (s : State) : List Nat := (List.range 6).filter fun n => s.flag F.FMT_HOLD_SPEED_HOLD n

/-- The cap on a generator, in lines/s: while APR_XPORT selects it, the line rate of the class of each station's spoiled
frame, the lowest of them where several stations hold (assumption 101). -/
def State.pgCap (s : State) (g : Nat) : Option Nat :=
  if !s.isTransport g then none
  else s.heldStns.foldl (fun b n =>
    let t := s.scPeriod (s.stn n).fmt.holdClass
    if t = 0 then b else some (min (48 * 10 ^ 9 / t) (b.getD (48 * 10 ^ 9 / t)))) none

/-- CAPPED follows: it is set, with PGN.CAPPED, as a cap begins to act on the generator, and clears when every station's
SPEED_HOLD is clear. -/
def State.capSync (s : State) : State :=
  forAll (List.range 32) s fun s g =>
    if s.heldStns = [] then (if s.flag F.PGN_STAT_CAPPED g then s.setFlag F.PGN_STAT_CAPPED g false else s)
    else if (s.pgCap g).isSome ∧ ¬ s.flag F.PGN_STAT_CAPPED g then (s.setFlag F.PGN_STAT_CAPPED g true).event B.PGN g 4
    else s

/-- The velocity limit that acts, in counts/s. -/
def State.pgVmax (s : State) (g : Nat) : Nat :=
  let v := min (s.reg (F.PGN_VMAX.addr g)).toNat (2 ^ 31 - 1)
  match s.pgCap g with
  | some c => min v c
  | none => v

/-- A velocity carried toward a goal at the limits: deceleration to the goal or to zero, acceleration away from zero
(R200, R202). All in 10^-12 counts/s. -/
def towardGoal (v goal up down : Int) : Int :=
  if v = goal then v
  else if 0 ≤ v ∧ v < goal then min goal (v + up)
  else if v ≤ 0 ∧ goal < v then max goal (v - up)
  else if 0 < v then max (max goal 0) (v - down)
  else min (min goal 0) (v + down)

/-- The next change of velocity toward a goal under a jerk limit, `a` being the last: the greatest from which the change can
still die away as the goal is reached. A reversal goes through rest. Where a limit has just been lowered below the present
change, the jerk limit comes first (assumption 106). -/
def trackStep (v a goal : Int) (up down j : Nat) : Int :=
  let goal := if v * goal < 0 then 0 else goal
  let e := goal - v
  let want : Int := if 0 ≤ e then (descent j e.natAbs : Int) else -(descent j e.natAbs : Int)
  let lo : Int := if 0 < v then -(down : Int) else -(up : Int)
  let hi : Int := if v < 0 then down else up
  clampI (a - j) (a + j) (clampI lo hi want)

/-- One update carries the generator exactly over a distance `r`, and the next to rest, within the limits. -/
def lands (v a r : Int) (up down j : Nat) : Bool :=
  if j = 0 then towardGoal v r up down == r
  else decide ((r - v - a).natAbs ≤ j ∧ r.natAbs ≤ j ∧ (v - 2 * r).natAbs ≤ j)
    && decide ((r - v).natAbs ≤ (if v.natAbs ≤ r.natAbs then up else down))

/-! ### Ends of a move (R198, R199) -/

/-- A motion that ends: a phase of homing goes on to the next, and what follows the generator stands. -/
def State.pgEnd (s : State) (g : Nat) : State :=
  let was := (s.pgn g).vel
  let hs := s.homers g
  let s := forAll hs (s.pgRest g) fun s m => s.homeNext m g
  if was = 0 ∧ (s.steppersOf g).all (fun m => s.fld F.STP_STAT_STATE m != 2) then s else s.pgStands g

/-- The end of a position move: bit-exact at its target, with DONE (R198). -/
def State.pgDone (s : State) (g : Nat) : State :=
  let s := (s.setPgPosQ g ((s.pgn g).target * 65536)).setPgn g { s.pgn g with rem := 0 }
  ((s.setFlag F.PGN_STAT_OVERSHOOT g false).event B.PGN g 0).pgEnd g

/-- Rest is one update away: the limits allow velocity 0 in the next. -/
def State.pgCanRest (s : State) (g : Nat) : Bool :=
  let x := s.pgn g
  let j := s.pgJerk g
  decide (x.vel.natAbs ≤ s.pgDown g) && (j == 0 || decide ((-x.vel - x.acc).natAbs ≤ j ∧ x.vel.natAbs ≤ j) || x.vel == 0)

/-- The move's target is one update away. -/
def State.pgCanLand (s : State) (g : Nat) : Bool :=
  let x := s.pgn g
  let r := s.pgDist g x.target
  decide (r.natAbs ≤ s.pgDown g) && lands x.vel x.acc r (s.pgUp g) (s.pgDown g) (s.pgJerk g)

/-- PGN_MOVE_DONE: a position move that the limits let end now ends. -/
def pgnMoveDone (g : Nat) (s : State) : State :=
  let st := s.pgState g
  if st = pgIdle ∨ st = pgStopping ∨ ¬ s.pgSeeks g ∨ ¬ s.pgCanLand g then s else s.pgDone g

def execPgnMoveDone (g : Nat) (s : State) : Host.Outcome State Fault Refusal :=
  .next (s.finish (if s.pgOn g then pgnMoveDone g s else s))

/-- PGN_STOPPED: a generator that decelerates to rest and that the limits let rest now reaches it, without DONE (R199). -/
def pgnStopped (g : Nat) (s : State) : State :=
  if (s.pgState g = pgStopping ∨ (s.pgn g).drive = some 0) ∧ s.pgCanRest g then s.pgEnd g else s

def execPgnStopped (g : Nat) (s : State) : Host.Outcome State Fault Refusal :=
  .next (s.finish (if s.pgOn g then pgnStopped g s else s))

/-! ### The 1 µs update (R198) -/

/-- What a generator aims at: the velocity it may take, in 10^-12 counts/s, and the distance at whose end it has to rest. A
velocity target is one a class change set, PGN_VTGT's otherwise, and it ends at a stepper's virtual limit (R133, R206). -/
def State.pgAim (s : State) (g : Nat) : Int × Option Int :=
  let x := s.pgn g
  let top : Int := s.pgVmax g
  let lim := fun v => clampI (-top) top v * 10 ^ 12
  if s.pgState g = pgStopping then (0, none)
  else match x.drive with
    | some v => (lim v, none)
    | none =>
      if s.pgSeeks g then
        let r := s.pgDist g x.target
        (if r < 0 then -(top * 10 ^ 12) else top * 10 ^ 12, some r)
      else
        let v := if x.held then 0 else lim (x.classV.getD (signed (s.reg (F.PGN_VTGT.addr g)).toNat 32))
        let rooms := (s.limitedBy g).map fun m => if 0 < v then s.pgDist g (s.vlimHi m) else -s.pgDist g (s.vlimLo m)
        match rooms with
        | [] => (v, none)
        | r :: rs =>
          let room := rs.foldl min r
          if v = 0 then (0, none) else if room ≤ 0 then (0, none)
          else (v, some (if 0 < v then room else -room))

/-- The velocity after one update. -/
def State.pgNextVel (s : State) (g : Nat) : Int × State :=
  let x := s.pgn g
  let up := s.pgUp g; let down := s.pgDown g; let j := s.pgJerk g
  match s.pgAim g, j with
  | (v, none), 0 => (towardGoal x.vel v up down, s)
  | (v, some r), 0 =>
    let d : Int := descent down r.natAbs
    (towardGoal x.vel (if r < 0 then max (-(v.natAbs : Int)) (-d) else min v.natAbs d) up down, s)
  | (v, none), j => (x.vel + trackStep x.vel x.acc v up down j, s)
  | (v, some r), j =>
    if r.natAbs ≤ down ∧ lands x.vel x.acc r up down j then (r, s)
    else
      let slow := trackStep x.vel x.acc 0 up down j
      let fast := trackStep x.vel x.acc v up down j
      let u := x.vel + fast
      let rise := if 0 < u * fast then fast.natAbs else 0
      if u * r ≤ 0 ∨ r.natAbs ≤ u.natAbs + stopBound u.natAbs rise down j then (x.vel + slow, s)
      else
        let (k, s) := s.draw
        let lo := min slow fast
        (x.vel + lo + (k : Int) % (max slow fast - lo + 1), s)

/-- A velocity held for one update: position, velocity and acceleration. -/
def State.pgMove (s : State) (g : Nat) (v : Int) : State :=
  let x := s.pgn g
  let t := (x.rem : Int) + v * 65536
  let s := s.setPgPosQ g (s.pgPosQ g + t / 10 ^ 18)
  let s := s.setPgn g { s.pgn g with vel := v, acc := v - x.vel, rem := (t % 10 ^ 18).toNat }
  let s := s.setReg (F.PGN_VEL.addr g) (BitVec.ofNat 32 (unsign (v / 10 ^ 12) 32))
  s.setReg (F.PGN_ACC.addr g) (BitVec.ofNat 32 (unsign ((v - x.vel) / (16 * 10 ^ 6)) 32))

/-- Steppers of a generator at or beyond a virtual limit show it; on reaching it VLIMIT is raised. One on which the limits no
longer act shows none (R206). -/
def State.atLimits (s : State) (g : Nat) : State :=
  let s := forAll ((List.range 16).filter fun m => s.fld F.STP_CFG_PG m == g && m ∉ s.limitedBy g) s fun s m =>
    s.setFlag F.STP_STAT_VLIM m false
  forAll (s.limitedBy g) s fun s m =>
    let p := s.pgPosQ g
    let at_ := decide (p ≤ s.vlimLo m * 65536 ∨ s.vlimHi m * 65536 ≤ p)
    let s' := s.setFlag F.STP_STAT_VLIM m at_
    if at_ ∧ ¬ s.flag F.STP_STAT_VLIM m then s'.event B.STP m 1 else s'

/-- One generator's update. A move ends in the update that reaches its target at velocity 0, a deceleration in the one that
reaches 0. -/
def State.pgUpdate (s : State) (g : Nat) : State :=
  let x := s.pgn g
  if s.pgState g = pgIdle ∧ ¬ (s.pgVelMode g ∧ s.sys.mode.moves ∧ s.pgAim g ≠ (0, none)) then s
  else
    let aim := s.pgAim g
    let (v, s) := s.pgNextVel g
    let s := s.pgMove g v
    let s := if s.pgState g = pgStopping then s
      else s.setPgState g (if x.vel.natAbs < v.natAbs then pgRamp else if v.natAbs = x.vel.natAbs then pgCruise else pgBrake)
    let s := forAll ((s.steppersOf g).filter fun m => s.fld F.STP_STAT_STATE m != 3) s fun s m =>
      if v = 0 then s.setFld F.STP_STAT_STATE m 1
      else (s.setFld F.STP_STAT_STATE m 2).setFlag F.STP_STAT_STILL m false
    let s := s.atLimits g
    if v ≠ 0 then s
    else if s.pgState g ≠ pgStopping ∧ s.pgSeeks g then
      (if s.pgDist g x.target = 0 then (s.setPgn g { s.pgn g with vel := x.vel }).pgDone g else s)
    else if aim = (0, none) then (s.setPgn g { s.pgn g with vel := x.vel }).pgEnd g
    else s

/-- Every generator's update, at each whole µs of press time while the CTL domain is on. -/
def State.pgUpdateAll (s : State) : State := if s.domOn .ctl then forAll (List.range 32) s State.pgUpdate else s

/-! ### Capture (R197, R212) -/

/-- A generator's position at a press time `ago` ns before now. -/
def State.pgPosAgo (s : State) (g ago : Nat) : Int := s.pgPosAt g (-(ago : Int))

/-- PGN_CAPTURE: an edge of the selected pin, `ago` ns before now. -/
def pgnCapture (g : Nat) (rising : Bool) (ago : Nat) (s : State) : State :=
  let e := s.fld F.PGN_CAP_CFG_EDGE g
  if s.flag F.PGN_CAP_CFG_EN g ∧ (2 ≤ e ∨ (e = 0 ∧ rising) ∨ (e = 1 ∧ ¬ rising)) then
    let q := if s.flag F.PGN_CAP_CFG_WHAT g then (s.posAt (-(ago : Int))).getD 0 else s.pgPosAgo g ago
    (s.setPair64 F.PGN_CAP_LO g (unsign (q / 65536) 64)).event B.PGN g 3
  else s

def execPgnCapture (g : Nat) (rising : Bool) (ago : Nat) (s : State) : Host.Outcome State Fault Refusal :=
  .next (s.finish (if s.pgOn g then pgnCapture g rising ago s else s))

end Sys2Proof.Machine
end

