-- ==== Sys2Proof/Machine/Stepper.lean ====
section
/-! DEFINITION. Stepper channels (R179, R180, R203 to R209, R211). -/

namespace Sys2Proof.Machine

def Stp.init : Stp := { faultSw := [], stillAt := 0, ofsAt := 0 }
def State.stp (s : State) (m : Nat) : Stp := s.stps.get (fun _ => Stp.init) m
def State.setStp (s : State) (m : Nat) (x : Stp) : State := { s with stps := s.stps.set (fun _ => Stp.init) m x }

/-- STP_STAT.STATE codes (R211). -/
def stOff : Nat := 0
def stIdle : Nat := 1
def stMoving : Nat := 2
def stHoming : Nat := 3
def stFault : Nat := 4

def State.stState (s : State) (m : Nat) : Nat := s.fld F.STP_STAT_STATE m
def State.setStState (s : State) (m v : Nat) : State := s.setFld F.STP_STAT_STATE m v

/-- A stepper's generator. -/
def State.stPg (s : State) (m : Nat) : Nat := s.fld F.STP_CFG_PG m

/-- Switch `w` (0 lower, 1 upper, 2 index) is assigned (R207). -/
def State.swEn (s : State) (m w : Nat) : Bool :=
  match w with
  | 0 => s.flag F.STP_SW_LO_EN m
  | 1 => s.flag F.STP_SW_HI_EN m
  | 2 => s.flag F.STP_SW_IX_EN m
  | _ => false

/-- Switch `w` is active, as debounced. -/
def State.swActive (s : State) (m w : Nat) : Bool := bit (s.fld F.STP_STAT_SW m) w

/-- The switch homing looks for, and the direction toward it: 1 is toward higher counts (R208). -/
def State.homeSw (s : State) (m : Nat) : Nat := s.fld F.STP_HOME_SW m
def State.homeDir (s : State) (m : Nat) : Int :=
  match s.homeSw m with
  | 0 => -1
  | 1 => 1
  | _ => if s.flag F.STP_HOME_DIR m then 1 else -1

/-- The generator driven by a homing phase (R208). -/
def State.homeDrive (s : State) (m : Nat) (v : Int) : State :=
  let g := s.stPg m
  let s := (s.setPgn g { s.pgn g with drive := some v, held := false }).setFlag F.PGN_STAT_QUEUED g false
  if s.pgState g = pgIdle ∨ s.pgState g = pgStopping then s.setPgState g pgRamp else s

/-- The channel stops at once and enters FAULT, holding IRUN (R209). -/
def State.stepperHalt (s : State) (m src cause : Nat) (sws : List Nat) : State :=
  let was := s.stState m
  let s := if was = stOff then s else s.pgHalt (s.stPg m)
  let s := ((s.setStState m stFault).setFld F.STP_STAT_FCAUSE m cause).setFld F.STP_STAT_HSTEP m 0
  let s := ((s.setFlag F.STP_STAT_HOMED m false).setFlag F.STP_STAT_VLIM m false).setFlag F.STP_STAT_STILL m false
  let s := (s.setStp m { s.stp m with faultSw := sws }).raiseFault src
  if 1 ≤ was ∧ was ≤ 3 then s.motorFail (s.fld F.STP_CFG_STN m) (s.flag F.STP_CFG_XPORT m) src else s

/-- STP_CTRL.CMD = OFF: in FAULT only CLR leaves it. Frames the channel serves spoil (R48). -/
def State.stepperOff (s : State) (m : Nat) : State :=
  if s.stState m = stFault then s
  else
    let s := ((s.setStState m stOff).setFld F.STP_STAT_HSTEP m 0).setFlag F.STP_STAT_HOMED m false
    ((s.setFlag F.STP_STAT_STILL m false).setFlag F.STP_STAT_VLIM m false).setPgn (s.stPg m) { s.pgn (s.stPg m) with drive := none }

def stpOff (m : Nat) (s : State) : State :=
  let served := (List.range 6).filter fun n => s.stpServes m n || s.flag F.STP_CFG_XPORT m
  let ran := decide (1 ≤ s.stState m ∧ s.stState m ≤ 3)
  let s := (s.setFld F.STP_CTRL_CMD m 0).stepperOff m
  if ran then
    (forAll served s fun s n => s.outOfService n cMotor 140).motorFail (s.fld F.STP_CFG_STN m) (s.flag F.STP_CFG_XPORT m) 140
  else s

/-- STP_CTRL.CMD = ENABLE drives the coils to follow the generator (R204). -/
def stpEnable (m : Nat) (s : State) : State :=
  if !s.sys.mode.moves then s
  else
    let s := s.setFld F.STP_CTRL_CMD m 1
    if s.stState m = stOff then
      s.setStState m (if (s.pgn (s.stPg m)).vel = 0 then stIdle else stMoving)
    else s

/-- STP_CTRL.CMD = HOME (R208, R209): the search at VMAX, or the back-off where the switch is active already. -/
def stpHome (m : Nat) (s : State) : State :=
  if !s.sys.mode.moves ∨ ¬ s.swEn m (s.homeSw m) ∨ stHoming ≤ s.stState m then s
  else
    let s := ((s.setFld F.STP_CTRL_CMD m 2).setStState m stHoming).setFlag F.STP_STAT_STILL m false
    if s.swActive m (s.homeSw m) then
      -- the deceleration before the back-off ends at once when the generator stands
      let s := (s.setFld F.STP_STAT_HSTEP m 2).homeDrive m 0
      if (s.pgn (s.stPg m)).vel = 0 then (s.pgRest (s.stPg m)).homeNext m (s.stPg m) else s
    else (s.setFld F.STP_STAT_HSTEP m 1).homeDrive m (s.homeDir m * s.pgVmax (s.stPg m))

/-- A fault cause that no channel shows any more: its source reads clear (R180). -/
def State.stpDrop (s : State) (m cause : Nat) : State :=
  let src := match cause with
    | 1 => 141
    | 2 => 140
    | _ => 142
  if (List.range 16).any fun k => k != m && s.stState k == stFault && s.fld F.STP_STAT_FCAUSE k == cause then s
  else s.dropFault src

/-- STP_CTRL.CLR: FAULT is left for OFF once no switch that caused it is still active (R180). -/
def stpClr (m : Nat) (s : State) : State :=
  if s.stState m = stFault ∧ ((s.stp m).faultSw.all fun w => !s.swActive m w) then
    let cause := s.fld F.STP_STAT_FCAUSE m
    (((s.setStState m stOff).setFld F.STP_STAT_FCAUSE m 0).setStp m { s.stp m with faultSw := [] }).stpDrop m cause
  else s

/-- The expected trip or the accepted edge of homing (R208). `ago`: ns since the edge's first raw transition. -/
def State.homeTrip (s : State) (m ago : Nat) : State :=
  let g := s.stPg m
  let s := s.event B.STP m 2
  match s.fld F.STP_STAT_HSTEP m with
  | 1 => (s.setFld F.STP_STAT_HSTEP m 2).homeDrive m 0
  | 4 =>
    let s := s.setPgPosQ g (s.pgPosQ g - s.pgPosAgo g ago)
    ((s.setPgn g { s.pgn g with rem := 0 }).setFld F.STP_STAT_HSTEP m 5).homeDrive m 0
  | _ => s

/-- DEB, in ns (R207, R211). -/
def State.swDeb (s : State) (m : Nat) : Nat := max 1 (s.fld F.STP_DEB_DEB m) * 100000

/-- More than CHATTER_MAX transitions lie within an interval of length DEB: `edges` are their ages in ns, newest first. -/
def State.chatters (s : State) (m : Nat) (edges : List Nat) : Bool :=
  let k := max 1 (s.fld F.STP_DEB_CHATTER_MAX m)
  (List.range edges.length).any fun i => match edges[i]?, edges[i + k]? with
    | some x, some y => decide (y ≤ x + s.swDeb m)
    | _, _ => false

/-- The GIO pin of switch `w`, and its active level (R207, R211). -/
def State.swPin (s : State) (m w : Nat) : Nat :=
  match w with
  | 0 => s.fld F.STP_SW_LO m
  | 1 => s.fld F.STP_SW_HI m
  | _ => s.fld F.STP_SW_IX m
def State.swPol (s : State) (m w : Nat) : Bool := bit (s.fld F.STP_SW_POL m) w

/-- Chatter (R207, R209): the channel halts, holds IRUN and enters FAULT; one whose coils are off enters it where commands
act. -/
def State.swChatter (s : State) (m w : Nat) : State :=
  if s.stState m = stFault ∨ (s.stState m = stOff ∧ ¬ s.sys.mode.moves) then (s.raiseFault 140).event B.STP m 4
  else (s.stepperHalt m 140 2 [w]).event B.STP m 4

/-- A switch that trips (R208, R209). `ago`: ns since the first raw transition. -/
def State.swTrip (s : State) (m w ago : Nat) : State :=
  let st := s.stState m
  let vel := (s.pgn (s.stPg m)).vel
  let ahead := (w = 0 ∧ vel < 0) ∨ (w = 1 ∧ 0 < vel)
  let halt := (s.stepperHalt m 141 1 [w]).event B.STP m 3
  if st = stOff ∨ st = stFault then s
  else if st = stHoming then
    if w = s.homeSw m then s.homeTrip m ago
    else if (w = 1 ∧ s.homeSw m = 0) ∨ (w = 0 ∧ s.homeSw m = 1) ∨ (s.homeSw m = 2 ∧ ahead) then halt
    else s
  else if ahead then halt else s

/-- STP_SWITCH_CHANGE: the pin of switch `w` stands at `level`, and changed at the ages `edges`, in ns, newest first, since
its debounced level last changed. A level held for DEB counts as changed, dated to the first of these edges (R207, R208). -/
def stpSwitchChange (m w : Nat) (level : Bool) (edges : List Nat) (s : State) : State :=
  if !s.swEn m w then s
  else
    let active := level == s.swPol m w
    let s := s.setGio (BitVec.ofNat 128 (putBits128 s.balls.gio.toNat (s.swPin m w) level))
    if s.chatters m edges then s.swChatter m w
    else if edges.any (· < s.swDeb m) ∨ active = s.swActive m w then s
    else
      let v := s.fld F.STP_STAT_SW m
      let s := s.setFld F.STP_STAT_SW m (v - bits v w 1 * 2 ^ w + (if active then 2 ^ w else 0))
      if active then s.swTrip m w (edges.getLastD 0) else s
where
  /-- One bit of the 128 pins. -/
  putBits128 (v i : Nat) (x : Bool) : Nat := v - bits v i 1 * 2 ^ i + (if x then 2 ^ i else 0)

/-- STP_STANDSTILL: the generator has stood for TPD; the current begins to ramp down (R205). -/
def stpStandstill (m : Nat) (s : State) : State :=
  if s.fld F.STP_CUR_TPD m ≠ 0 ∧ s.stState m = stIdle ∧ (s.pgn (s.stPg m)).vel = 0 ∧ ¬ s.flag F.STP_STAT_STILL m then
    ((s.setFlag F.STP_STAT_STILL m true).setStp m { s.stp m with stillAt := s.now }).event B.STP m 6
  else s

/-- STP_COIL_FAULT: the bridges turn off (R180). -/
def stpCoilFault (m : Nat) (s : State) : State :=
  let st := s.stState m
  if 1 ≤ st ∧ st ≤ 3 then
    let s := ((s.setStState m stFault).setFld F.STP_STAT_FCAUSE m 3).setFld F.STP_STAT_HSTEP m 0
    let s := ((s.setFlag F.STP_STAT_HOMED m false).setFlag F.STP_STAT_VLIM m false).setFlag F.STP_STAT_STILL m false
    let s := (s.setStp m { s.stp m with faultSw := [] }).raiseFault 142
    let s := s.setPgn (s.stPg m) { s.pgn (s.stPg m) with drive := none }
    (s.motorFail (s.fld F.STP_CFG_STN m) (s.flag F.STP_CFG_XPORT m) 142).event B.STP m 5
  else s

/-- A stepper that exists and is powered. -/
def State.stOn (s : State) (m : Nat) : Bool := decide (m < 16) && s.domOn .ctl

/-- A command to a channel; with PAGE_CTRL.EN = 0 its field is written and nothing is done (R417). -/
def State.stCommand (s : State) (m cmd : Nat) (f : State → State) : State :=
  if !s.stOn m then s else if s.pageEn B.STP m then f s else s.setFld F.STP_CTRL_CMD m cmd

def execStpOff (m : Nat) (s : State) : Host.Outcome State Fault Refusal :=
  .next (s.finish (s.onPage B.STP m F.STP_CTRL.off fun s =>
    s.stCommand m 0 (stpOff m)))
def execStpEnable (m : Nat) (s : State) : Host.Outcome State Fault Refusal :=
  .next (s.finish (s.onPage B.STP m F.STP_CTRL.off fun s =>
    s.stCommand m 1 (stpEnable m)))
def execStpHome (m : Nat) (s : State) : Host.Outcome State Fault Refusal :=
  .next (s.finish (s.onPage B.STP m F.STP_CTRL.off fun s =>
    s.stCommand m 2 (stpHome m)))
def execStpCmdDiscard (m : Nat) (s : State) : Host.Outcome State Fault Refusal :=
  .next (s.finish (s.onPage B.STP m F.STP_CTRL.off fun s =>
    s))
def execStpClr (m : Nat) (s : State) : Host.Outcome State Fault Refusal :=
  .next (s.finish (s.onPage B.STP m F.STP_CTRL.off fun s =>
    if s.stOn m then stpClr m s else s))
def execStpSwitchChange (m w : Nat) (level : Bool) (edge : Nat) (earlier : List Nat) (s : State) :
    Host.Outcome State Fault Refusal :=
  .next (s.finish (if s.stOn m then stpSwitchChange m w level (edge :: earlier) s else s))
def execStpStandstill (m : Nat) (s : State) : Host.Outcome State Fault Refusal :=
  .next (s.finish (if s.stOn m then stpStandstill m s else s))
def execStpCoilFault (m : Nat) (s : State) : Host.Outcome State Fault Refusal :=
  .next (s.finish (if s.stOn m then stpCoilFault m s else s))

/-- STP_CTRL written: CMD = 0x3 is discarded. -/
def State.writeStpCtrl (s : State) (m : Nat) (v : Word) : State :=
  let s := if bit v.toNat 2 ∧ s.stOn m then stpClr m s else s
  match bits v.toNat 0 2 with
  | 0 => if s.fld F.STP_CTRL_CMD m = 0 ∧ s.stState m = stOff then s else s.stCommand m 0 (stpOff m)
  | 1 => s.stCommand m 1 (stpEnable m)
  | 2 => s.stCommand m 2 (stpHome m)
  | _ => s

/-- STP_POS (R204). -/
def State.stPos (s : State) (m : Nat) : Word := BitVec.ofNat 32 (unsign (s.pgPos (s.stPg m)) 32)

/-! ### Coils (R203 to R205) -/

/-- The coils are driven: in FAULT they hold IRUN, unless a coil fault has turned the bridges off (R180, R209). -/
def State.stDriven (s : State) (m : Nat) : Bool :=
  s.domOn .ctl && s.stState m != stOff && !(s.stState m == stFault && s.fld F.STP_STAT_FCAUSE m == 3)

/-- The coil current's amplitude, in 1/262,144 of full scale: IRUN, and from STILL on it ramps to IHOLD over 10 ms
(R205). -/
def State.stAmp (s : State) (m : Nat) : Int :=
  let run : Int := s.fld F.STP_CUR_IRUN m
  let hold : Int := s.fld F.STP_CUR_IHOLD m
  if !s.flag F.STP_STAT_STILL m then 1024 * run
  else 1024 * run + 1024 * (hold - run) * (min 10000000 (s.now - (s.stp m).stillAt) : Nat) / 10000000

/-- θ of a channel, in 1/1,024 turn: the generator position quantised to 2^MRES counts, MRES above 8 being taken as 0
(R204, R211). -/
def State.stTheta (s : State) (m : Nat) : Nat :=
  let r := s.fld F.STP_CFG_MRES m
  let q : Int := 2 ^ (if 8 < r then 0 else r)
  ((s.pgPos (s.stPg m) / q * q) % 1024).toNat

/-- The target current of coil A (`false`) or B, in 1/262,144 of full scale; DIR reverses coil B (R204). -/
def State.coilTarget (s : State) (m : Nat) (b : Bool) : Int :=
  let p := s.stTheta m * 2 ^ 22
  if !s.stDriven m then 0
  else
    let i := s.stAmp m * (if b then sine p else cosine p) / 2 ^ 30
    if b && s.flag F.STP_CFG_DIR m then -i else i

/-- The currents at which coil A's or B's bridge stops driving, and at which its fast decay may end, in 1/262,144 of full
scale: the magnitude of the target with half the hysteresis, less and plus the adaptive offsets (R203). The current itself
flows in the motor; the comparators that compare it stand outside the model. -/
def State.chopAt (s : State) (m : Nat) (b : Bool) : Int × Int :=
  let i : Int := (s.coilTarget m b).natAbs
  let h : Int := 256 * s.fld F.STP_CUR_HYST m
  let hi := if b then s.fld F.STP_OFS_B_HI m else s.fld F.STP_OFS_A_HI m
  let lo := if b then s.fld F.STP_OFS_B_LO m else s.fld F.STP_OFS_A_LO m
  ((2 * i + h) / 2 - 256 * hi, (2 * i - h) / 2 + 256 * lo)

/-- An adaptive offset moved by at most 1/1,024 of full scale within 0 to OFS_MAX; which way, the measured currents say: a
free value (assumption 1). -/
def stepOffset (v r most : Nat) : Nat := min most (v + r % 3 - 1)

/-- The offsets of a chopping channel with ADAPT = 1: 32 chops last at least 32 × TOFF, so each moves at most once in that
time (R203). -/
def State.stpAdapt (s : State) (m : Nat) : State :=
  let x := s.stp m
  if s.stDriven m ∧ s.flag F.STP_CHOP_ADAPT m ∧ x.ofsAt + 3200 * max 1 (s.fld F.STP_CHOP_TOFF m) ≤ s.now then
    let (r, s) := s.draw
    let s := s.setStp m { x with ofsAt := s.now }
    let k := s.fld F.STP_CHOP_OFS_MAX m
    let s := (s.setFld F.STP_OFS_A_HI m (stepOffset (s.fld F.STP_OFS_A_HI m) r k)).setFld F.STP_OFS_A_LO m
      (stepOffset (s.fld F.STP_OFS_A_LO m) (r / 3) k)
    (s.setFld F.STP_OFS_B_HI m (stepOffset (s.fld F.STP_OFS_B_HI m) (r / 9) k)).setFld F.STP_OFS_B_LO m
      (stepOffset (s.fld F.STP_OFS_B_LO m) (r / 27) k)
  else s

def State.stpAdaptAll (s : State) : State := if s.domOn .ctl then forAll (List.range 16) s State.stpAdapt else s

end Sys2Proof.Machine
end

