-- ==== Sys2Proof/Machine/Motor.lean ====
section
/-! DEFINITION. Commutation channels (R179 to R195, R210), and what the operating modes do to motion (R181). -/

namespace Sys2Proof.Machine

def Quad.init : Quad :=
  { a := { level := false, run := 0 }, b := { level := false, run := 0 }, z := { level := false, run := 0 }
    sinceIdx := none, spacing := none, zero := 0 }
def Mot.init : Mot :=
  { aligned := false, braking := .catch, failed := false, released := false, lossSpeed := 0, last := none, gaps := []
    errs := [], good := 0, low := 0, lpos := 0, angles := [], since := 0, sector := 0, comAt := 0, quad := Quad.init
    ampBad := 0, resolver := 0, pubVel := 0, pubAt := 0 }
def State.mot (s : State) (m : Nat) : Mot := s.mots.get (fun _ => Mot.init) m
def State.setMot (s : State) (m : Nat) (x : Mot) : State := { s with mots := s.mots.set (fun _ => Mot.init) m x }

/-- MOT_STAT.STATE codes (R186). -/
def moOff : Nat := 0
def moCatch : Nat := 1
def moBrake : Nat := 2
def moAlign : Nat := 3
def moOpen : Nat := 4
def moRun : Nat := 5
def moCoast : Nat := 6
def moStopping : Nat := 7
def moFault : Nat := 8

def State.moState (s : State) (m : Nat) : Nat := s.fld F.MOT_STAT_STATE m

/-- A state entered: the limit of R185 acts no more where the slot's demand is no longer followed. -/
def State.setMoState (s : State) (m v : Nat) : State :=
  let s := (s.setFld F.MOT_STAT_STATE m v).setMot m { s.mot m with since := s.now }
  if v = moRun ∨ v = moStopping then s else s.setFlag F.MOT_STAT_MODLIM m false

/-- The present state has lasted for a time in ns. -/
def State.ranFor (s : State) (m ns : Nat) : Bool := decide ((s.mot m).since + ns ≤ s.now)

/-- MODE of a channel: six-step, encoder, resolver (R183). -/
def State.moMode (s : State) (m : Nat) : Nat := s.fld F.MOT_CFG_MODE m

/-- A setting that raises CFG_ERR (R210). -/
def State.motBad (s : State) (m : Nat) : Bool :=
  let p := s.fld F.MOT_CFG_POLES m
  let md := s.moMode m
  let r := s.fld F.MOT_RATED_RATED m
  let t := s.fld F.MOT_PWM_PERIOD m
  p = 0 || decide (8 < p) || md = 3 || (decide (8 ≤ m) && md ≠ 0) || (s.flag F.MOT_CFG_POLY m && md ≠ 0)
    || r = 0 || decide (60000 < r) || decide (t < 2500 ∨ 31250 < t)
    || (decide (m < 8) && decide (0x04000000 < (s.reg (F.MOT_XSCALE.addr m)).toNat))

/-- Stations and transport a channel serves. -/
def State.moStns (s : State) (m : Nat) : Nat := s.fld F.MOT_BIND_STN m
def State.moXport (s : State) (m : Nat) : Bool := s.flag F.MOT_BIND_XPORT m

/-- The channel fails (R179): it leaves RUN other than by STOP, RELEASE or a mode change. -/
def State.moFail (s : State) (m src : Nat) : State := s.motorFail (s.moStns m) (s.moXport m) src

/-- The observer's history begun afresh. -/
def State.freshObserver (s : State) (m : Nat) : State :=
  s.setMot m { s.mot m with last := none, gaps := [], errs := [], good := 0, low := 0 }

/-- RUN entered. -/
def State.enterRun (s : State) (m : Nat) : State := (s.setMoState m moRun).event B.MOT m 0

/-- The electrical angle of a six-step channel, and with it the sector the rotor is in (R184): one that is known, and else a
free value (assumption 1). -/
def State.takeAngle (s : State) (m : Nat) (a : Option Nat) : State :=
  let (v, s) := match a with
    | some v => (v % 65536, s)
    | none => let (v, s) := s.draw; (v % 65536, s)
  (s.setFld F.MOT_ANGLE_ANGLE m v).setMot m { s.mot m with sector := v * 6 / 65536, comAt := s.now }

/-- RUN entered at an angle, with no crossing seen yet (R187, R190). -/
def State.enterRunAt (s : State) (m : Nat) (a : Option Nat) : State := ((s.freshObserver m).takeAngle m a).enterRun m

/-- A fault cause left behind: its source reads clear once no other channel shows it (R180). -/
def State.moClear (s : State) (m : Nat) : State :=
  let c := s.fld F.MOT_STAT_FCAUSE m
  let s := s.setFld F.MOT_STAT_FCAUSE m 0
  if c = 0 ∨ (List.range 24).any (fun k => k != m && s.fld F.MOT_STAT_FCAUSE k == c) then s else s.dropFault (109 + c)

/-- A_j of a facet, where it has been averaged (R191). -/
def State.facetAngle (s : State) (m j : Nat) : Option Nat := (s.mot m).angles.get (fun _ => none) j

/-- A failure of R180 that brakes first: STOPPING, then FAULT. -/
def State.moStopFail (s : State) (m src cause : Nat) : State :=
  let was := s.moState m
  let s := ((s.setMoState m moStopping).setFld F.MOT_STAT_FCAUSE m cause).raiseFault src
  let s := (s.setMot m { s.mot m with failed := true, released := false }).setFlag F.MOT_STAT_MODLIM m false
  if was = moRun then s.moFail m src else s

/-- All gates low, and OFF. -/
def State.moToOff (s : State) (m : Nat) : State :=
  (s.setMoState m moOff).setMot m { s.mot m with failed := false, released := false }

/-! ### Commands (R186 to R188) -/

/-- MOT_CTRL.CMD = RUN. -/
def motRun (m : Nat) (s : State) : State :=
  if !s.sys.mode.moves then s
  else
    let s := s.setFld F.MOT_CTRL_CMD m 1
    if s.moState m ≠ moOff then s
    else if s.motBad m then s.event B.MOT m 7
    else
      let s := (s.setMot m { s.mot m with lpos := 0, failed := false, released := false }).freshObserver m
      let s := (s.setPair64 F.MOT_LPOS_LO m 0).moClear m
      match s.moMode m with
      | 0 =>
        if s.flag F.MOT_CFG_POLY m ∧ s.flag F.FAC_STAT_BD_OK (s.fld F.MOT_BIND_PSTN m) then
          s.enterRunAt m (s.facetAngle m (s.fld F.FAC_STAT_PIDX (s.fld F.MOT_BIND_PSTN m)))
        else s.setMoState m moCatch
      | 1 => if (s.mot m).aligned then s.enterRun m else s.setMoState m moAlign
      | _ => s.enterRun m

/-- STOP: from RUN through the generator, before RUN straight to OFF. -/
def State.moStop (s : State) (m : Nat) : State :=
  let st := s.moState m
  if st = moRun then
    let s := (s.setMoState m moStopping).setMot m { s.mot m with failed := false, released := false }
    if s.flag F.MOT_BIND_PG_EN m then s.pgStop (s.fld F.MOT_BIND_PG m) else s
  else if st = moCatch ∨ st = moAlign ∨ st = moOpen ∨ st = moBrake ∨ st = moCoast then s.moToOff m
  else s

/-- A host command that takes a running channel out of service spoils the frames it serves (R48). -/
def State.moWithdraw (s : State) (m : Nat) : State :=
  let served := (List.range 6).filter fun n => bit (s.moStns m) n || s.moXport m
  (forAll served s fun s n => s.outOfService n cMotor 110).moFail m 110

/-- MOT_CTRL.CMD = STOP. -/
def motStop (m : Nat) (s : State) : State :=
  let ran := s.moState m = moRun
  let s := (s.setFld F.MOT_CTRL_CMD m 0).moStop m
  if ran then s.moWithdraw m else s

/-- MOT_CTRL.CMD = RELEASE: gates low, OFF; it leaves FAULT (R180), and the cause of a refused start. -/
def State.moRelease (s : State) (m : Nat) : State :=
  let st := s.moState m
  (if st = moFault ∨ st = moOff then s.moClear m else s).moToOff m

def motRelease (m : Nat) (s : State) : State :=
  let ran := s.moState m = moRun
  let s := (s.setFld F.MOT_CTRL_CMD m 2).moRelease m
  if ran then s.moWithdraw m else s

/-- MOT_CTRL.CMD = BRAKE: the low sides are pulsed at BRAKE_DUTY. Out of RUN it is a failure (R179). -/
def motBrake (m : Nat) (s : State) : State :=
  let st := s.moState m
  if !s.sys.mode.moves then s
  else
    let s := s.setFld F.MOT_CTRL_CMD m 3
    if st = moFault ∨ (st = moOff ∧ s.motBad m) then s
    else
      let s := (s.setMoState m moBrake).setMot m { s.mot m with braking := .command, failed := decide (st = moRun), released := false }
      if st = moRun then s.moFail m 110 else s

/-! ### Catch, start and stop (R187, R188) -/

/-- A slot as enabling leaves it (R218). -/
def Ctl.init : Ctl :=
  { i := 0, dst := 0, yPrev := 0, uPid := 0, hist := List.replicate 8 (Biq.mk 0 0 0 0), swapAt := 0
    sampAt := none }
def State.ctl (s : State) (n : Nat) : Ctl := s.ctls.get (fun _ => Ctl.init) n
def State.setCtl (s : State) (n : Nat) (x : Ctl) : State := { s with ctls := s.ctls.set (fun _ => Ctl.init) n x }

/-- The loop slot starts from a duty: its integrator and its output (R187). -/
def State.presetSlot (s : State) (slot : Nat) (duty : Int) : State :=
  if slot < 96 then
    let d := clampI (-32768) 32767 duty
    (s.setCtl slot { s.ctl slot with i := d * 2 ^ 15, uPid := d }).setFld F.CTL_EU_U slot (unsign d 16)
  else s

/-- Catch speeds are in rpm, measured speeds in 1/16 rpm. -/
def State.catchMin (s : State) (m : Nat) : Int := 16 * s.fld F.MOT_CATCH_CATCH_MIN m
def State.brakeMax (s : State) (m : Nat) : Int := 16 * s.fld F.MOT_CATCH_BRAKE_MAX m

/-- MOT_CATCH_DECIDE: two electrical periods measured, giving a signed speed in 1/16 rpm; `duty`: measured back-EMF over
bus voltage, Q1.15 (R187). The angle the crossings show no operand carries. -/
def motCatchDecide (m : Nat) (speed duty : Int) (s : State) : State :=
  if s.moState m ≠ moCatch then s
  else
    let s := (s.setFlag F.MOT_STAT_REV m (decide (speed < 0))).event B.MOT m 1
    let s := s.setReg (F.MOT_SPEED.addr m) (BitVec.ofNat 32 (unsign speed 32))
    if s.catchMin m ≤ speed then (s.presetSlot (s.fld F.MOT_BIND_SLOT m) duty).enterRunAt m none
    else if speed < -s.brakeMax m then s
    else (s.setMoState m moBrake).setMot m { s.mot m with braking := .catch }

/-- MOT_CATCH_TIMEOUT: `still`: no crossing for 50 ms; otherwise CATCH_TO with backward rotation above BRAKE_MAX. -/
def motCatchTimeout (m : Nat) (still : Bool) (s : State) : State :=
  if s.moState m ≠ moCatch then s
  else if still then
    ((s.setMoState m moAlign).setFlag F.MOT_STAT_REV m false).event B.MOT m 1
  else
    let s := ((s.moToOff m).setFld F.MOT_STAT_FCAUSE m 3).setFlag F.MOT_STAT_REV m true
    (s.raiseFault 112).event B.MOT m 1

/-- MOT_LOW_SPEED: the rotor falls below 2 % of RATED. -/
def motLowSpeed (m : Nat) (s : State) : State :=
  let x := s.mot m
  if s.moState m = moBrake ∧ x.braking = .catch then s.setMoState m moAlign
  else if s.moState m = moStopping then
    if x.failed then s.setMoState m moFault
    else (s.setMoState m moBrake).setMot m { x with braking := .stop }
  else s

/-- ALIGN_T, in ns. -/
def State.alignTime (s : State) (m : Nat) : Nat := max 1 (s.fld F.MOT_START_ALIGN_T m) * 10000000

/-- MOT_ALIGN_DONE: ALIGN_T ends, of ALIGN or of the braking that ends a stop. -/
def motAlignDone (m : Nat) (s : State) : State :=
  if !s.ranFor m (s.alignTime m) then s
  else if s.moState m = moAlign then
    if s.moMode m = 0 then ((s.setMoState m moOpen).freshObserver m).takeAngle m (some 0)
    else
      let x := s.mot m
      (s.setMot m { x with aligned := true, quad := { x.quad with zero := (s.reg (F.MOT_ENCPOS.addr m)).toNat } }).enterRun m
  else if s.moState m = moBrake ∧ (s.mot m).braking = .stop then (s.moToOff m).event B.MOT m 4
  else s

/-- The forced speed of the open-loop ramp after a time in ns, in rpm (R186, R188), and when it stands at OL_END; none where
OL_ACC = 0 and the ramp never ends. -/
def State.olSpeed (s : State) (m ns : Nat) : Nat := min (s.fld F.MOT_OL_OL_END m) (10 * s.fld F.MOT_OL_OL_ACC m * ns / 10 ^ 9)
def State.olRamp (s : State) (m : Nat) : Option Nat :=
  if s.fld F.MOT_OL_OL_ACC m = 0 then none else some (s.fld F.MOT_OL_OL_END m * 10 ^ 8 / s.fld F.MOT_OL_OL_ACC m)

/-- MOT_OL_TIMEOUT: no lock within 1 s at OL_END, or a brake not below 2 % of RATED within 10 s (R180, R188). -/
def motOlTimeout (m : Nat) (s : State) : State :=
  let late : Bool := match s.olRamp m with
    | some r => s.ranFor m (r + 10 ^ 9)
    | none => false
  if (s.moState m = moOpen ∧ late) ∨ (s.moState m = moBrake ∧ (s.mot m).braking = .catch ∧ s.ranFor m (10 ^ 10)) then
    s.moStopFail m 114 5
  else s

/-! ### Observer (R184, R189, R190) -/

/-- LOCKQ from six times the differences and the sum of six intervals: 255 less the root of
2040² · Σe² / (6 · (Σ gaps)²), rounded up, and no less than 0. -/
def lockQuality (errs gaps : List Nat) : Nat :=
  let i := gaps.sum
  if gaps.length < 6 ∨ errs.length < 6 ∨ i = 0 then 0
  else
    let q := 2040 * 2040 * (errs.map fun e => e * e).sum
    let d := 6 * i * i
    let c := (q + d - 1) / d
    255 - (let r := Nat.sqrt c; if r * r < c then r + 1 else r)

/-- Speed from six intervals, in 1/16 rpm: one electrical period is their sum (R184, R189). -/
def State.emfSpeed (s : State) (m : Nat) (gaps : List Nat) : Nat :=
  let d := s.fld F.MOT_CFG_POLES m * gaps.sum
  if gaps.length < 6 ∨ d = 0 then 0 else 16 * 60 * 10 ^ 9 / d

/-- The observer loses the rotor (R189, R190). -/
def State.loseRotor (s : State) (m : Nat) : State :=
  let st := s.moState m
  let s := ((s.bump F.MOT_EVCNT_LOSS m).event B.MOT m 2).setMoState m moCoast
  let s := (s.setMot m { s.mot m with
    released := decide (st = moStopping), lossSpeed := (signed (s.reg (F.MOT_SPEED.addr m)).toNat 32).natAbs }).freshObserver m
  if st = moRun then s.moFail m 113 else s

/-- LOSS_WIN, in percent, and COAST_T, in ns; 0 is taken as 1 (R210; assumption 110). -/
def State.lossWin (s : State) (m : Nat) : Nat := min 100 (max 1 (s.fld F.MOT_OBS_LOSS_WIN m))
def State.coastTime (s : State) (m : Nat) : Nat := min 20 (max 1 (s.fld F.MOT_OBS_COAST_T m)) * 100000

/-- No crossing has come by the predicted time and LOSS_WIN % of T60 (R189): the interval since the last one exceeds T60, a
sixth of six intervals, by more. -/
def State.crossingLate (s : State) (m t : Nat) : Bool :=
  let x := s.mot m
  match x.last with
  | some l => x.gaps.length == 6 && decide ((100 + s.lossWin m) * x.gaps.sum < 600 * (t - l))
  | none => false

/-- MOT_OBSERVER_LOSS: a crossing is missed at its predicted time, or LOCKQ has stayed low; where six intervals have not been
seen yet there is no prediction, and the crossing counts as missed. -/
def motObserverLoss (m : Nat) (s : State) : State :=
  let x := s.mot m
  if s.moMode m = 0 ∧ (s.moState m = moRun ∨ s.moState m = moStopping)
      ∧ (x.gaps.length ≠ 6 ∨ s.crossingLate m s.now ∨ 3 ≤ x.low) then s.loseRotor m else s

/-- MOT_COAST_TIMEOUT: COAST_T ends without re-catch (R190). -/
def motCoastTimeout (m : Nat) (s : State) : State :=
  if s.moState m ≠ moCoast ∨ ¬ s.ranFor m (s.coastTime m) then s
  else if (s.mot m).released then (if (s.mot m).failed then s.setMoState m moFault else s.moToOff m)
  else s.moStopFail m 113 4

/-- Speeds that agree within LOSS_WIN percent of the speed at the loss. -/
def State.nearLoss (s : State) (m v : Nat) : Bool :=
  let w : Int := s.lossWin m
  let l : Int := (s.mot m).lossSpeed
  decide (100 * ((v : Int) - l) ≤ w * l ∧ 100 * (l - (v : Int)) ≤ w * l)

/-- ADV in 0.25° electrical (R210). -/
def State.moAdv (s : State) (m : Nat) : Nat := min 120 (s.fld F.MOT_RATED_ADV m)

/-- The rotor has passed a crossing: it is in the next sector, and the observer commutates at t_z + T60 × (30° − ADV) / 60°
(R184). -/
def State.nextSector (s : State) (m tz : Nat) (gaps : List Nat) : State :=
  let x := s.mot m
  let k := (x.sector + 1) % 6
  let at_ : Int := tz + gaps.sum * ((120 : Int) - s.moAdv m) / (6 * 240)
  (s.setFld F.MOT_ANGLE_ANGLE m (k * 65536 / 6)).setMot m
    { x with sector := k, comAt := if gaps.length = 6 then at_.toNat else tz }

/-- MOT_BEMF_CROSSING: `half` ns between the crossing's time and the present one; `order`: in phase order (R184). -/
def motBemfCrossing (m half : Nat) (order : Bool) (s : State) : State :=
  let st := s.moState m
  let tz := s.now - half
  if s.moMode m ≠ 0 ∨ ¬ (st = moOpen ∨ st = moRun ∨ st = moCoast ∨ st = moStopping) then s
  else if (st = moRun ∨ st = moStopping) ∧ s.crossingLate m tz then s.loseRotor m
  else
    let x := s.mot m
    match x.last with
    | none => (s.setMot m { x with last := some tz }).nextSector m tz []
    | some t =>
      let gap := tz - t
      let err := (6 * (gap : Int) - (x.gaps.sum : Int)).natAbs
      let errs := if x.gaps.length = 6 then (err :: x.errs).take 6 else x.errs
      let gaps := if st = moCoast ∧ ¬ order then [] else (gap :: x.gaps).take 6
      let q := lockQuality errs gaps
      let v := s.emfSpeed m gaps
      let s := s.setFld F.MOT_STAT_LOCKQ m q
      let s := if gaps.length = 6 then s.setReg (F.MOT_SPEED.addr m) (BitVec.ofNat 32 v) else s
      let good := if s.fld F.MOT_OBS_LOCK_ON m ≤ q then x.good + 1 else 0
      let low := if errs.length = 6 ∧ q < s.fld F.MOT_OBS_LOSS_Q m then x.low + 1 else 0
      let s := (s.setMot m { x with last := some tz, gaps := gaps, errs := errs, good := good, low := low }).nextSector m tz gaps
      if st = moOpen ∧ 12 ≤ good then s.enterRun m
      else if st = moCoast ∧ ¬ x.released ∧ ¬ s.ranFor m (s.coastTime m) ∧ gaps.length = 6 ∧ s.catchMin m ≤ v ∧ s.nearLoss m v then
        ((s.setMoState m moRun).bump F.MOT_EVCNT_RECATCH m).event B.MOT m 3
      else if (st = moRun ∨ st = moStopping) ∧ 3 ≤ low then s.loseRotor m
      else s

/-! ### Faults of a channel (R180, R193, R194) -/

/-- MOT_FLT_INPUT: MC_n_FLT_N low for 100 ns. -/
def motFltInput (m : Nat) (s : State) : State :=
  let was := s.moState m
  if was = moFault then s
  else
    let s := ((s.setMoState m moFault).setFld F.MOT_STAT_FCAUSE m 1).raiseFault 110
    if was = moRun then s.moFail m 110 else s

/-- MOT_ENC_ERROR: an encoder or resolver error. -/
def motEncError (m : Nat) (s : State) : State :=
  let was := s.moState m
  if s.moMode m = 0 ∨ was = moOff ∨ was = moFault then s
  else
    let s := (((s.setMoState m moFault).setFld F.MOT_STAT_FCAUSE m 2).event B.MOT m 6).raiseFault 111
    if was = moRun then s.moFail m 111 else s

/-- A channel that exists and is powered. -/
def State.moOn (s : State) (m : Nat) : Bool := decide (m < 24) && s.domOn .ctl

/-- A command to a channel; with PAGE_CTRL.EN = 0 its field is written and nothing is done (R417). -/
def State.moCommand (s : State) (m cmd : Nat) (f : State → State) : State :=
  if !s.moOn m then s else if s.pageEn B.MOT m then f s else s.setFld F.MOT_CTRL_CMD m cmd

def execMotRun (m : Nat) (s : State) : Host.Outcome State Fault Refusal :=
  .next (s.finish (s.onPage B.MOT m F.MOT_CTRL.off fun s =>
    s.moCommand m 1 (motRun m)))
def execMotStop (m : Nat) (s : State) : Host.Outcome State Fault Refusal :=
  .next (s.finish (s.onPage B.MOT m F.MOT_CTRL.off fun s =>
    s.moCommand m 0 (motStop m)))
def execMotRelease (m : Nat) (s : State) : Host.Outcome State Fault Refusal :=
  .next (s.finish (s.onPage B.MOT m F.MOT_CTRL.off fun s =>
    s.moCommand m 2 (motRelease m)))
def execMotBrake (m : Nat) (s : State) : Host.Outcome State Fault Refusal :=
  .next (s.finish (s.onPage B.MOT m F.MOT_CTRL.off fun s =>
    s.moCommand m 3 (motBrake m)))
def execMotCatchDecide (m : Nat) (speed duty : Int) (s : State) : Host.Outcome State Fault Refusal :=
  .next (s.finish (if s.moOn m then motCatchDecide m speed duty s else s))
def execMotCatchTimeout (m : Nat) (still : Bool) (s : State) : Host.Outcome State Fault Refusal :=
  .next (s.finish (if s.moOn m then motCatchTimeout m still s else s))
def execMotLowSpeed (m : Nat) (s : State) : Host.Outcome State Fault Refusal :=
  .next (s.finish (if s.moOn m then motLowSpeed m s else s))
def execMotAlignDone (m : Nat) (s : State) : Host.Outcome State Fault Refusal :=
  .next (s.finish (if s.moOn m then motAlignDone m s else s))
def execMotBemfCrossing (m half : Nat) (order : Bool) (s : State) : Host.Outcome State Fault Refusal :=
  .next (s.finish (if s.moOn m then motBemfCrossing m half order s else s))
def execMotOlTimeout (m : Nat) (s : State) : Host.Outcome State Fault Refusal :=
  .next (s.finish (if s.moOn m then motOlTimeout m s else s))
def execMotObserverLoss (m : Nat) (s : State) : Host.Outcome State Fault Refusal :=
  .next (s.finish (if s.moOn m then motObserverLoss m s else s))
def execMotCoastTimeout (m : Nat) (s : State) : Host.Outcome State Fault Refusal :=
  .next (s.finish (if s.moOn m then motCoastTimeout m s else s))
def execMotFltInput (m : Nat) (s : State) : Host.Outcome State Fault Refusal :=
  .next (s.finish (if s.moOn m then motFltInput m s else s))
def execMotEncError (m : Nat) (s : State) : Host.Outcome State Fault Refusal :=
  .next (s.finish (if s.moOn m then motEncError m s else s))

/-- MOT_CTRL written. -/
def State.writeMotCtrl (s : State) (m : Nat) (v : Word) : State :=
  match bits v.toNat 0 2 with
  | 0 => s.moCommand m 0 (motStop m)
  | 1 => s.moCommand m 1 (motRun m)
  | 2 => s.moCommand m 2 (motRelease m)
  | _ => s.moCommand m 3 (motBrake m)

/-! ### Polygons (R191) -/

/-- Polygon channels of a station. -/
def State.polygons (s : State) (n : Nat) : List Nat :=
  if s.domOn .ctl then
    (List.range 24).filter fun m =>
      s.flag F.MOT_CFG_POLY m && s.moMode m == 0 && s.fld F.MOT_BIND_PSTN m == n && bit (s.moStns m) n
  else []

/-- The rotor's electrical angle as the observer carries it on from the last crossing. -/
def State.rotorAngle (s : State) (m : Nat) : Nat :=
  let x := s.mot m
  match x.last with
  | some l => (s.fld F.MOT_ANGLE_ANGLE m + (if x.gaps.length = 6 ∧ 0 < x.gaps.sum then 65536 * (s.now - l) / x.gaps.sum else 0)) % 65536
  | none => s.fld F.MOT_ANGLE_ANGLE m

/-- A_j averaged with the angle at a beam detect of facet j. The weight of the new angle is not stated: what results lies
between the two, and where is a free value (R191, assumption 1). -/
def State.averageAngle (s : State) (m j : Nat) : State :=
  let a := s.rotorAngle m
  let (v, s) := match s.facetAngle m j with
    | none => (a, s)
    | some b =>
      let d := signed (unsign ((a : Int) - b) 16) 16
      let (r, s) := s.draw
      let d' : Int := r % (d.natAbs + 1)
      (unsign ((b : Int) + (if d < 0 then -d' else d')) 16, s)
  s.setMot m { s.mot m with angles := (s.mot m).angles.set (fun _ => none) j (some v) }

/-- A beam detect of facet `j`: the phase error; and while BD_OK is 1 the speed, the angle A_j and the restart out of COAST
(R190, R191). `periods` are FAC's last ones, in 31.25 ps. -/
def State.polygonEdge (s : State) (n j : Nat) (periods : List Nat) : State :=
  forAll (s.polygons n) s fun s m =>
    let k := s.nFacets n
    let sum := (periods.take k).sum
    let ok := s.flag F.FAC_STAT_BD_OK n
    let s := if ok ∧ k ≤ periods.length ∧ sum ≠ 0 then
        s.setReg (F.MOT_SPEED.addr m) (BitVec.ofNat 32 (16 * 60 * 10 ^ 9 * 32 / sum))
      else s
    let s := s.setFld F.MOT_ANGLE_PIDX m j
    let s := if s.moState m = moRun ∧ s.flag F.FAC_STAT_ID_OK n then s.averageAngle m j else s
    let e := (((s.posQ.getD 0) / 256 - ((s.fld F.MOT_POLY_PH_OFS m % 12288 : Nat) : Int)) + 6144) % 12288 - 6144
    let s := s.setSFld F.MOT_PHASE_ERR m e
    if ok ∧ s.moState m = moCoast ∧ ¬ (s.mot m).released then s.enterRunAt m (s.facetAngle m j) else s

/-! ### Encoder and resolver channels (R193 to R196) -/

/-- The count of a sensor channel moves: the line position follows it, and both are published with a velocity, which the
spec does not say how to measure: a free value (assumption 1). -/
def State.encCount (s : State) (m : Nat) (d : Int) : State :=
  if d = 0 then s
  else
    let x := s.mot m
    let l := x.lpos + d * (s.reg (F.MOT_XSCALE.addr m)).toNat
    let (v, s) := s.draw
    let (u, s) := s.draw
    let s := s.setMot m { x with lpos := l, pubVel := signed v 64, pubAt := s.now }
    let c := (((s.reg (F.MOT_ENCPOS.addr m)).toNat : Int) + d) % (2 ^ 32 : Nat)
    let s := s.setReg (F.MOT_ENCPOS.addr m) (BitVec.ofNat 32 c.toNat)
    let s := s.setPair64 F.MOT_LPOS_LO m (unsign (l / 2 ^ 28) 64)
    s.setReg (F.MOT_SPEED.addr m) (BitVec.ofNat 32 u)

/-- One sample of an input with its glitch filter: a level counts once it has stood for FILT samples. -/
def Filt.step (f : Filt) (k : Nat) (x : Bool) : Filt :=
  if x = f.level then { f with run := 0 }
  else if k ≤ f.run + 1 then { level := x, run := 0 }
  else { f with run := f.run + 1 }

/-- The place of A and B in the quadrature cycle, A leading forward (assumption 105). -/
def quadPhase (a b : Bool) : Int := match a, b with
  | false, false => 0
  | true, false => 1
  | true, true => 2
  | false, true => 3

/-- Electrical angle of an encoder channel: counted from the alignment, over the counts of a turn that the index spacing
shows; before the spacing is learned a free value (R193, assumption 1). -/
def State.encAngle (s : State) (m : Nat) : State :=
  let q := (s.mot m).quad
  let d := ((s.reg (F.MOT_ENCPOS.addr m)).toNat : Int) - q.zero
  match q.spacing with
  | some (k + 1) => s.setFld F.MOT_ANGLE_ANGLE m (unsign (s.fld F.MOT_CFG_POLES m * d * 65536 / (k + 1 : Nat)) 16)
  | _ => let (v, s) := s.draw; s.setFld F.MOT_ANGLE_ANGLE m (v % 65536)

/-- An index pulse: the first two give the spacing, and with IDX_CHK = 1 a later one more than 4 counts off it is an error.
In which direction the index counts is the model's choice (assumption 105). -/
def State.indexPulse (s : State) (m : Nat) : State × Bool :=
  let x := s.mot m
  let q := x.quad
  match q.sinceIdx with
  | none => (s.setMot m { x with quad := { q with sinceIdx := some 0 } }, false)
  | some d =>
    let sp := q.spacing.getD d.natAbs
    let off := ((d.natAbs : Int) - sp).natAbs
    (s.setMot m { x with quad := { q with sinceIdx := some 0, spacing := some sp } },
      s.flag F.MOT_ENC_IDX_CHK m && q.spacing.isSome && decide (4 < off ∧ d ≠ 0))

/-- One KCLK sample of MC_n_ENC_A, _B and _Z: the pins are inputs, so their levels are free values (assumption 1). The ×4
counter steps; both changing at once is an error (R193). -/
def State.encSample (s : State) (m : Nat) : State :=
  let (r, s) := s.draw
  let x := s.mot m
  let q := x.quad
  let k := s.fld F.MOT_ENC_FILT m
  let swap := s.flag F.MOT_ENC_SWAP m
  let a := q.a.step k (bit r (if swap then 1 else 0))
  let b := q.b.step k (bit r (if swap then 0 else 1))
  let z := q.z.step k (bit r 2 != s.flag F.MOT_ENC_IDX_POL m)
  let both := a.level != q.a.level && b.level != q.b.level
  let d := signed (unsign (quadPhase a.level b.level - quadPhase q.a.level q.b.level) 2) 2
  let d := if both then 0 else d
  let s := s.setMot m { x with quad := { q with a := a, b := b, z := z, sinceIdx := q.sinceIdx.map (· + d) } }
  let s := if d = 0 then s else (s.encCount m d).encAngle m
  let (s, off) := if z.level ∧ ¬ q.z.level then s.indexPulse m else (s, false)
  if both ∨ off then motEncError m s else s

/-- Excitation frequency in 0.1 kHz (R194, R210); outside 20 to 200 the nearer of the two is taken (assumption 110). -/
def State.excFreq (s : State) (m : Nat) : Nat := min 200 (max 20 (s.fld F.MOT_ENC_EXC_F m))

/-- One excitation period of a resolver: sine and cosine as demodulated, in 1/32,768 of full scale, are measured and so free
values. The tracking loop's 16-bit angle follows them as the motor turns: a free value too; the count follows the angle.
Eight periods in a row with an amplitude out of range are an error (R194, assumption 1). -/
def State.resolverPeriod (s : State) (m : Nat) : State :=
  let (r, s) := s.draw
  let sn := signed r 16
  let cs := signed (r / 65536) 16
  let amp := (sn * sn + cs * cs).natAbs
  let a := r / 2 ^ 32 % 65536
  let x := s.mot m
  let bad := if 8192 ^ 2 ≤ amp ∧ amp ≤ 32768 ^ 2 then 0 else x.ampBad + 1
  let s := s.setMot m { x with ampBad := bad, resolver := a }
  let s := s.encCount m (signed (unsign ((a : Int) - x.resolver) 16) 16)
  let s := s.setFld F.MOT_ANGLE_ANGLE m (s.fld F.MOT_CFG_POLES m * a % 65536)
  if 8 ≤ bad then motEncError m (s.setMot m { s.mot m with ampBad := 0 }) else s

/-- One KCLK edge of a sensor channel that is not OFF; `was`: press time before it. -/
def State.encTick (s : State) (was m : Nat) : State :=
  if s.moState m = moOff then s
  else if s.moMode m = 1 then s.encSample m
  else if s.moMode m = 2 ∧ was * s.excFreq m / 10 ^ 7 ≠ s.now * s.excFreq m / 10 ^ 7 then s.resolverPeriod m
  else s

def State.encTickAll (s : State) (was : Nat) : State :=
  if s.domOn .ctl then forAll (List.range 8) s fun s m => s.encTick was m else s

/-! ### The duty limit (R185) -/

/-- d_max in 1/32,768: the off interval holds BLANK, SAMP_MIN and twice DEAD. -/
def State.dutyMax (s : State) (m : Nat) : Nat :=
  let t := 4 * s.fld F.MOT_PWM_PERIOD m
  let off := 250 * (s.fld F.MOT_PWM_BLANK m + s.fld F.MOT_PWM_SAMP_MIN m) + 8 * s.fld F.MOT_PWM_DEAD m
  if t = 0 then 0 else 32768 * (t - off) / t

/-- The slot's demand is followed: in RUN, and while a stop follows its generator to rest (R186, R188). -/
def State.moDriven (s : State) (m : Nat) : Bool :=
  s.moState m == moRun || (s.moState m == moStopping && !(s.mot m).failed)

/-- A six-step channel that follows a demand above d_max. -/
def State.motLimited (s : State) (m : Nat) (u : Int) : Bool :=
  s.moDriven m && s.moMode m == 0 && decide (s.dutyMax m < u.natAbs)

/-- MODLIM follows the demand of a slot, raised once per entry into the limit. -/
def State.moDemand (s : State) (slot : Nat) (u : Int) : State :=
  forAll ((List.range 24).filter fun m => s.fld F.MOT_BIND_SLOT m == slot) s fun s m =>
    let l := s.motLimited m u
    let s := if l ∧ ¬ s.flag F.MOT_STAT_MODLIM m then s.event B.MOT m 5 else s
    s.setFlag F.MOT_STAT_MODLIM m l

/-! ### Gates (R182 to R186) -/

/-- What a channel's bridge does: all gates low; all low sides pulsed together at a duty; a voltage vector at an electrical
angle in 1/65,536 turn; or a sector's phase pair driven. Duties and amplitudes are in 1/32,768. -/
inductive Bridge where
  | low
  | lowSides (duty : Nat)
  | vector (angle : Nat) (amp : Int)
  | pair (sector : Nat) (duty : Int)
  deriving DecidableEq, Repr

/-- A duty in 0.5 % (R210). -/
def halfPercent (v : Nat) : Nat := min 200 v * 32768 / 200

/-- The demand a channel commands: its slot's, 0 without one, held within d_max in six-step mode (R183, R185, R210). -/
def State.moDuty (s : State) (m : Nat) : Int :=
  let k := s.fld F.MOT_BIND_SLOT m
  let u := if k < 96 then s.sfld F.CTL_EU_U k else 0
  if s.moMode m = 0 then clampI (-(s.dutyMax m : Int)) (s.dutyMax m) u else u

/-- The angle of the forced commutation: the ramp's speed integrated, over the pole pairs (R188). -/
def State.olAngle (s : State) (m : Nat) : Nat :=
  let t := s.now - (s.mot m).since
  let p := s.fld F.MOT_CFG_POLES m
  let acc := 10 * s.fld F.MOT_OL_OL_ACC m
  let ramp := min t ((s.olRamp m).getD t)
  (65536 * p * acc * ramp * ramp / (120 * 10 ^ 18) + 65536 * p * s.fld F.MOT_OL_OL_END m * (t - ramp) / (60 * 10 ^ 9)) % 65536

/-- What a channel's bridge does (R180, R181, R183, R186). The vector of ALIGN stands at angle 0, and forced commutation
drives at ALIGN_DUTY: the spec names neither (assumption 107). -/
def State.bridge (s : State) (m : Nat) : Bridge :=
  let st := s.moState m
  let align := halfPercent (s.fld F.MOT_START_ALIGN_DUTY m)
  let brake := halfPercent (s.fld F.MOT_START_BRAKE_DUTY m)
  if !s.domOn .ctl then .low
  else if st = moBrake ∨ (st = moStopping ∧ (s.mot m).failed) then .lowSides brake
  else if st = moAlign then .vector 0 align
  else if st = moOpen then .pair (s.olAngle m * 6 / 65536) align
  else if s.moDriven m then
    if s.moMode m = 0 then
      let x := s.mot m
      .pair (if x.comAt ≤ s.now then x.sector else (x.sector + 5) % 6) (s.moDuty m)
    else .vector ((s.fld F.MOT_ANGLE_ANGLE m + 16384 + s.moAdv m * 65536 / 1440) % 65536) (s.moDuty m)
  else .low

/-- One phase of a bridge: both gates low, the low side pulsed at a duty, or the terminal at a mean voltage, in 1/32,768 of
half the bus about its middle. -/
inductive Leg where
  | off
  | lowPulse (duty : Nat)
  | drive (v : Int)
  deriving DecidableEq, Repr

/-- The phases U, V and W of a bridge, in forward order: a sector drives one phase against another and leaves the third off
(assumption 107). -/
def Bridge.legs (b : Bridge) : Leg × Leg × Leg := match b with
  | .low => (.off, .off, .off)
  | .lowSides d => (.lowPulse d, .lowPulse d, .lowPulse d)
  | .vector a v =>
    let at_ := fun (k : Nat) => Leg.drive (v * cosine (a * 65536 + k * 1431655765) / 2 ^ 30)
    (at_ 0, at_ 2, at_ 1)
  | .pair k d => match k % 6 with
    | 0 => (.drive d, .drive (-d), .off)
    | 1 => (.drive d, .off, .drive (-d))
    | 2 => (.off, .drive d, .drive (-d))
    | 3 => (.drive (-d), .drive d, .off)
    | 4 => (.drive (-d), .off, .drive d)
    | _ => (.off, .drive (-d), .drive d)

/-- The high and low gate of a phase `x` KCLK cycles into a PWM period of `t` cycles: centre-aligned, with a dead time of
`dead` cycles between them (R182). -/
def Leg.gates (l : Leg) (t dead x : Nat) : Bool × Bool := match l with
  | .off => (false, false)
  | .lowPulse d =>
    let w := t * d / 32768
    (false, decide ((t - w) / 2 ≤ x ∧ x < (t - w) / 2 + w))
  | .drive v =>
    let w := (t * (32768 + v) / 65536).toNat
    let a := (t - w) / 2
    (decide (a + dead ≤ x ∧ x < a + w), decide (x < a ∨ a + w + dead ≤ x))

/-- The six gate outputs of a channel: U, V and W, each high and low, `x` KCLK cycles into a PWM period. DIR exchanges V and W
(R182, R210). Where in press time the periods begin is not stated. -/
def State.gates (s : State) (m x : Nat) : List (Bool × Bool) :=
  let (u, v, w) := (s.bridge m).legs
  let g := fun (l : Leg) => l.gates (s.fld F.MOT_PWM_PERIOD m) (s.fld F.MOT_PWM_DEAD m) x
  if s.flag F.MOT_CFG_DIR m then [g u, g w, g v] else [g u, g v, g w]

/-! ### Motion and the modes (R181) -/

/-- The SAFEHOLD stop: every generator stops, channels in RUN follow theirs to rest, the others release, and steppers
hold at IHOLD. -/
def State.motionStop (s : State) : State :=
  let s := forAll (List.range 32) s State.pgStop
  let s := forAll (List.range 24) s fun s m => if s.moState m = moRun then s.moStop m else if s.moState m = moStopping
      ∨ s.moState m = moOff then s else s.moRelease m
  forAll (List.range 16) s fun s m =>
    if s.stState m = stOff ∨ s.stState m = stFault then s
    else
      let still := decide ((s.pgn (s.stPg m)).vel = 0)
      let s := (s.setStState m (if still then stIdle else stMoving)).setFld F.STP_STAT_HSTEP m 0
      if still then s.setFlag F.STP_STAT_STILL m true else s

/-- IDLE: the SAFEHOLD stop, then every channel releases: steppers whose generator stands at once, the others when it
does. -/
def State.motionIdle (s : State) : State :=
  let s := s.motionStop
  forAll (List.range 16) s fun s m =>
    if s.stState m ≠ stFault ∧ (s.pgn (s.stPg m)).vel = 0 then s.stepperOff m else s

/-- LOCKDOWN: every gate low, every CMD at its off value. -/
def State.motionLock (s : State) : State :=
  let s := forAll (List.range 24) s fun s m => (s.setFld F.MOT_CTRL_CMD m 2).moRelease m
  let s := forAll (List.range 16) s fun s m => ((s.setFld F.STP_CTRL_CMD m 0).setStState m stOff).setFlag F.STP_STAT_HOMED m false
  forAll (List.range 32) s State.pgHalt

/-- WARMUP: RUN or ENABLE to every channel whose WARM bit is 1, and GO to its generator; a disabled page takes none
of it (R417). -/
def State.motionWarm (s : State) : State :=
  let s := forAll ((List.range 24).filter fun m => s.flag F.MOT_BIND_WARM m && s.pageEn B.MOT m) s fun s m =>
    let s := motRun m s
    if s.flag F.MOT_BIND_PG_EN m then pgnGo (s.fld F.MOT_BIND_PG m) s else s
  forAll ((List.range 16).filter fun m => s.flag F.STP_CFG_WARM m && s.pageEn B.STP m) s fun s m =>
    pgnGo (s.stPg m) (stpEnable m s)

end Sys2Proof.Machine
end

