-- ==== Sys2Proof/Machine/Facet.lean ====
section
/-! DEFINITION. FMT at a facet boundary: base and debt, frames that open and end, the governor, tightening and the thermal
cut, and what BLN sends of a facet (R96 to R100, R104, R112, R115 to R121, R139 to R145, R419, R420). -/

namespace Sys2Proof.Machine

/-! ### Geometry -/

/-- The output line an emitter writes, for a base and a pattern offset (R98). -/
def State.outLine (s : State) (n : Nat) (base d : Int) (e : Nat) : Int :=
  base - 48 * ((s.ilace n : Int) - 1) + d + (s.ilace n : Int) * e

/-- Every line of a station below this coordinate has been written or passed once a facet of this base begins (R99). -/
def State.passedTo (s : State) (n : Nat) (base : Int) : Int := base - 48 * ((s.ilace n : Int) - 1)

/-- N_pos: the station's line coordinate, to the nearest line (R98). -/
def State.linePos (s : State) (n : Nat) : Int := ((s.posQ.getD 0) + 32768) / 65536 - s.stnDist n

/-- The bank a frame's lines are exposed with (R112). -/
def State.bankFor (s : State) (n set : Nat) : Nat :=
  let b := s.activeBank n
  if !s.holdsSet n b set && s.holdsSet n (1 - b) set then 1 - b else b

/-- The frames a facet belongs to: some emitter reads a source line of theirs (R112), in position order. -/
def State.belongs (s : State) (n : Nat) (base d : Int) : List Nat :=
  s.byOrder ((s.ctxsWith fun x => x.live n).filter fun c =>
    let x := s.ctx c
    let bank := s.bankFor n x.corSet
    let ymax := max 0 (s.yMax n x.width)
    (List.range 48).any fun e =>
      let o := s.outLine n base d e
      let r := s.readSpan n bank e ymax
      decide (x.origin n ≤ o + r.2 ∧ o + r.1 < x.origin n + 48 * x.facets))

/-! ### Handing lines to ATT -/

/-- Levels of a line with every pixel from `cut` on dark, at a width of `w` blocks (R104). -/
def cutLevels (w : Nat) (cut : Option Nat) (px : List Nat) : List Nat :=
  (List.range (4096 * w)).map fun x => match cut with
    | some k => if k ≤ x then 0 else px.getD x 0
    | none => px.getD x 0

/-- Line digest (R158). -/
def lineDigest (px : List Nat) : List Byte := sha384 (0x4C :: packLine 4 px)

/-- The present facet's lines handed to ATT as written: a line that is not wholly dark gets its digest, and each frame's
count of lines passed follows (R104, R158, R160). -/
def State.flushFacet (s : State) (n : Nat) : State :=
  let f := (s.stn n).fmt
  -- with no beam detect no pixel 0 falls, and the whole facet stays dark (R130)
  let cut := if (s.stn n).fac.line.isNone then some 0 else f.cutPix
  let s := f.writes.foldl (fun s w =>
    let (e, c, l) := w
    let x := s.ctx c
    let px := cutLevels x.width cut (s.slotLine n c (x.origin n + l))
    if (x.at n).root.isNone then
      let dig := if bit f.lit e ∧ px.any (· ≠ 0) then lineDigest px else []
      s.setCtx c (x.setAt n { x.at n with digs := (x.at n).digs.set (fun _ => []) l dig })
    else s) s
  forAll f.facetCtx s fun s c =>
    let x := s.ctx c
    let m := (clampI 0 (48 * x.facets) (s.passedTo n (f.base + 48) - x.origin n)).toNat
    if (x.at n).root.isNone then s.setCtx c (x.setAt n { x.at n with lines := max (x.at n).lines m }) else s

/-! ### Frames that end -/

/-- Station n has passed the frame's last line: EXPOSED once every station has, and for a SPOILED frame R51's clock
starts (R29, R51). -/
def State.stationDone (s : State) (n c : Nat) : State :=
  let x := s.ctx c
  let x := (x.setAt n { x.at n with lines := 48 * x.facets })
  let x := { x with done := setBit x.done n }
  let s := s.setCtx c x
  if x.allDone then
    if x.st = .exposing then (s.setCtx c { x with st := .exposed, tEnd := s.now }).printCheck
    else s.clockStart c
  else s

/-- Frames whose last line at station n lies before the base's lines, in ascending SERIAL. -/
def State.endFrames (s : State) (n : Nat) (base : Int) : State :=
  forAll (s.bySerial (s.ctxsWith fun x =>
    x.live n && bit x.opened n && decide (x.origin n + 48 * x.facets ≤ s.passedTo n base))) s fun s c => s.stationDone n c

/-! ### Frames that open -/

/-- What keeps station n from exposing a frame whose span opens: causes and sources, the lowest source first (R54, R119,
R419). -/
def State.cannotExpose (s : State) (n : Nat) : List (Nat × Nat) :=
  (if s.fld F.BLN_STAT_LSTATE n ≠ 3 then [(cLink, 64 + n)] else [])
    ++ (if !s.locked n then [(cRelock, 70 + n)] else [])
    ++ (if s.motionFailed n then [(cMotor, 110)] else [])
    ++ (if !s.hvReady n then [(cFault, 150)] else [])
    ++ (if s.flag F.FMT_STAT_CUT n then [(cThermal, 216 + n)] else [])

/-- A frame's first facet at station n: its span opens; the station writes the frame dark where it cannot expose it, or
where |D| > 1 (R100, R419). -/
def State.openFrame (s : State) (n : Nat) (d : Int) (c : Nat) : State :=
  let why := s.cannotExpose n
  let off := decide (1 < d ∨ d < -1)
  let x := s.ctx c
  let s := s.setCtx c { (x.setAt n { x.at n with bank := s.bankDigest n (s.activeBank n) }) with
    opened := setBit x.opened n
    dark := if why ≠ [] ∨ off then setBit x.dark n else x.dark }
  let s := why.foldl (fun s w => s.spoil c w.1 w.2) s
  if off then
    ((s.event B.FMT n 5).raiseFault (94 + n)).spoil c (if 1 < d then cOverspeed else cMotor) (94 + n)
  else s

/-- Frames that open with a facet: an emitter writes one of their lines, or their lines have all passed unwritten. -/
def State.opening (s : State) (n : Nat) (base d : Int) : List Nat :=
  s.byOrder ((s.ctxsWith fun x => x.live n && !bit x.opened n).filter fun c =>
    let x := s.ctx c
    decide (x.origin n + 48 * x.facets ≤ s.passedTo n base)
      || (List.range 48).any fun e =>
        let o := s.outLine n base d e
        decide (x.origin n ≤ o ∧ o < x.origin n + 48 * x.facets))

/-! ### Duty (R115 to R118) -/

/-- 1,024 facets of one emitter at full level. -/
def fullEmi : Nat := 1024 * 49152 * 15

/-- Tightening factor in 1/32 (R123). -/
def State.tightFactor (s : State) (n : Nat) : Nat :=
  if s.flag F.FMT_STAT_TIGHT n then
    let f := s.fld F.FMT_TIGHT_FACTOR n
    if 1 ≤ f ∧ f ≤ 32 then f else 16
  else 32

/-- The largest g in 0 to 32 that keeps a window of `prior`, with `dem` scaled by g/32 added, at or below `cap` × `fac` /
32,000 of `full`; 32 where there is nothing to scale (R117). -/
def largestG (prior dem cap fac full : Nat) : Nat :=
  if dem = 0 then 32
  else ((List.range 33).filter fun g => decide (32000 * prior + 1000 * dem * g ≤ cap * fac * full)).getLastD 0

/-- Window sums before this facet: of the array, and of an emitter. -/
def Fmt.priorArr (f : Fmt) : Nat := ((f.duty.take 1023).map (·.arr)).sum
def Fmt.priorEmi (f : Fmt) (e : Nat) : Nat := ((f.duty.take 1023).map fun d => d.emi.getD e 0).sum

/-- Division rounded up. -/
def ceilDiv (a b : Nat) : Nat := (a + b - 1) / b

/-- The duty registers (R123). -/
def State.dutyRegs (s : State) (n : Nat) : State :=
  let f := (s.stn n).fmt
  let es := (List.range 48).map fun e => (f.duty.map fun d => d.emi.getD e 0).sum
  let best := (List.range 48).foldl (fun b e => if es.getD b 0 < es.getD e 0 then e else b) 0
  let s := s.setFld F.FMT_DUTY_ARR_CAP n (s.fld F.FMT_CAP_ARR n * s.tightFactor n / 32)
  let s := s.setFld F.FMT_DUTY_ARR_DUTY n (1000 * (f.duty.map (·.arr)).sum / (48 * fullEmi))
  (s.setFld F.FMT_DUTY_EMI_EMITTER n best).setFld F.FMT_DUTY_EMI_DUTY n (1000 * es.getD best 0 / fullEmi)

/-- The governor at a facet with the demands of its emitters (R117). -/
def State.governFacet (s : State) (n : Nat) (dem : List Nat) : State :=
  let f := (s.stn n).fmt
  let fac := s.tightFactor n
  let ga := largestG f.priorArr dem.sum (s.fld F.FMT_CAP_ARR n) fac (48 * fullEmi)
  let gs := (List.range 48).map fun e =>
    min ga (largestG (f.priorEmi e) (dem.getD e 0) (s.fld F.FMT_CAP_EMI n) fac fullEmi)
  let d : Duty :=
    { arr := ceilDiv (dem.sum * ga) 32, emi := (List.range 48).map fun e => ceilDiv (dem.getD e 0 * gs.getD e 32) 32 }
  let s := s.setFmt n { f with gov := gs, duty := (d :: f.duty).take 1024 }
  let s := s.dutyRegs n
  if gs.any (· < 32) then forAll f.owners ((s.bump F.FMT_GOV_CNT n).event B.FMT n 2) State.degrade else s

/-- Tightened caps begin at the boundary after LIMIT, and end at one before a facet of no frame once the array is NORMAL
(R118). -/
def State.tighten (s : State) (n : Nat) : State :=
  let f := (s.stn n).fmt
  if f.limitPend then
    let s := ((s.setFmt n { f with limitPend := false }).setFlag F.FMT_STAT_TIGHT n true).event B.FMT n 1
    forAll (s.ctxsWith fun x => x.exposingAt n) s State.degrade
  else if s.flag F.FMT_STAT_TIGHT n ∧ f.arrState = 0 ∧ f.owners = [] then s.setFlag F.FMT_STAT_TIGHT n false
  else s

/-- The thermal cut of a station (R50 THERMAL, R119). -/
def darkCut : Nat := 0x203
def State.thermCut (s : State) (n : Nat) : State :=
  let s := (((s.gate n).setFlag F.FMT_STAT_CUT n true).cutFacet n 1000).laserDark n darkCut
  let s := (s.event B.FMT n 3).hwBitOf F.APR_STN_STOP 0 n
  let s := s.spoilAt n cThermal (216 + n) true
  forAll (s.bySerial (s.ctxsWith fun x => x.uses n && !x.exposedAny && s.strikable x)) s fun s c =>
    s.spoil c cThermal (216 + n)

/-! ### Line debt (R120, R121) -/

/-- D exceeds LINE_DEBT_MAX: frames spoil OVERSPEED, the lines passed over are counted, and SPEED_HOLD is set. -/
def State.debtOver (s : State) (n : Nat) (owners : List Nat) (d : Int) : State :=
  let s := (s.event B.FMT n 0).raiseFault (88 + n)
  let s := (s.bumpBy F.FMT_MISSED n d.toNat).hwBitOf F.FMT_HOLD n 0
  let cls := (owners.head?.map fun c => (s.ctx c).cls).getD 0
  let s := ((s.setFlag F.FMT_STAT_SPEED_HOLD n true).setFmt n { (s.stn n).fmt with holdClass := cls }).capSync
  forAll owners s fun s c => s.spoilRun c cOverspeed (88 + n)

/-- The transport's source stands at velocity 0. -/
def State.transportRests (s : State) : Bool :=
  let src := s.fld F.APR_XPORT_SRC 0
  if src ≤ 0x1F then (s.pgn src).vel == 0 else (s.mot (src - 0x40)).pubVel == 0

/-- D falls below −LINE_DEBT_MAX: frames spoil MOTOR unless already spoiled, and where the transport has stopped they end
there (R51, R54). -/
def State.debtUnder (s : State) (n : Nat) (owners : List Nat) : State :=
  let s := (s.event B.FMT n 0).raiseFault (88 + n)
  forAll owners s fun s c =>
    let s := if (s.ctx c).st = .spoiled then s else s.spoilRun c cMotor (88 + n)
    if s.transportRests then (s.stopFrame c).lose c cMotor else s

/-! ### Decode ahead (R30, R83) -/

/-- DEC begins every band of a frame that is due at a facet of this base. A station in RETUNE begins none before the
deadline of R133. -/
def State.decodeAhead (s : State) (n : Nat) (base : Int) (c : Nat) : State :=
  let x := s.ctx c
  let l := base - x.origin n
  let due := (l + 47) / 48 + 2
  if due < 0 ∨ (s.flag F.FAC_STAT_RETUNE n ∧ ¬ s.locked n ∧ l < -96) then s
  else
    let first := (x.at n).nextBand
    let last := min (due.toNat + 1) x.facets
    let s := forAll ((List.range (last - first)).map (first + ·)) s fun s b => s.decStart n c b
    s.setCtx c ((s.ctx c).setAt n { (s.ctx c).at n with nextBand := max first last })

/-! ### Light between lines (R145) -/

/-- w and w′ (R126). -/
def State.winBefore (s : State) (n : Nat) : Nat := s.expPeriod n * s.fld F.FAC_CFG_BD_WIN n / 1000
def State.winAfter (s : State) (n : Nat) : Nat :=
  if s.freqNow n = 0 then s.winBefore n
  else min (s.winBefore n) (s.pixTime n (s.fld F.FAC_START_OFS n - 8192))

/-- Start offset of a polygon facet, in 1/128 pixel (R130). -/
def State.startOfs (s : State) (n j : Nat) : Int :=
  (s.fld F.FAC_START_OFS n : Int) + s.sfld (F.FAC_FACET_FOFS.at j) n

/-- Edge counts at which the beam-detect light goes on and off, from pixel 49,151 (R132, R145). -/
def State.bdCounts (s : State) (n : Nat) : Int × Int :=
  let e := s.expPeriod n
  let off := s.startOfs n (s.fld F.FAC_STAT_PIDX n) / 128 + 49151
  (s.inPixels n ((e : Int) - s.winBefore n) - off, s.inPixels n ((e : Int) + s.winAfter n) - off)

/-- APC blocks, then the BDW block, of an inactive interval; while the station is not LOCKED, a continuous BDW with
SEARCH = 1 and nothing with SEARCH = 0. -/
def State.sendLight (s : State) (n : Nat) : State :=
  if s.fld F.BLN_STAT_LSTATE n ≠ 3 then s
  else if s.locked n then
    let s := forAll (List.range (min 4 (s.fld F.BLN_CFG_APC_SLOTS n))) s fun s k =>
      let e := (s.stn n).bln.apcNext
      let len := s.fld F.BLN_APC_CFG_LEN n
      let at_ := s.fld F.BLN_APC_CFG_FIRST n + k * (len + 64)
      (s.emit (.control n 0xA5 (leBytes 1 (e + 64 * k) ++ leBytes 1 (s.fld F.BLN_CFG_BD_PS n) ++ leBytes 2 at_
        ++ leBytes 2 len))).setBln n { (s.stn n).bln with apcNext := (e + 1) % 48 }
    let (on, off) := s.bdCounts n
    s.bdw n on.toNat off.toNat
  else s.searchLight n

/-! ### The boundary -/

/-- What BLN sends in TRAIN: a TRAIN column and a KEEP column (R146). Byte 1 of TRAIN is each lane's number. -/
def State.sendTrain (s : State) (n : Nat) : State :=
  let s := if s.fld F.BLN_STAT_LSTATE n = 1 then s.emit (.control n 0xA7 (0 :: List.replicate 5 0xC3)) else s
  s.sendKeep n

/-- A retrain that was held begins once no ADMITTED or EXPOSING frame uses the station (R146). -/
def State.trainLink (s : State) (n : Nat) : State :=
  if s.flag F.BLN_CTRL_EN n ∧ s.domOn (.bln n) then
    let s := ((s.setFld F.BLN_STAT_LSTATE n 1).setFld F.BLN_STAT_FCAUSE n 0).setFld F.BLN_STAT_LANE_LOCK n 0
    let s := ((s.setFlag F.BLN_STAT_ID_VALID n false).setFlag F.BLN_STAT_RANK_OK n false).setFlag F.BLN_CTRL_RETRAIN n false
    let s := forAll (List.range 4) s fun s i => s.setReg ((F.BLN_TEMP.at i).addr n) 0
    ((s.setBln n { (s.stn n).bln with retrainHeld := false, apc := [], idMem := [], idFailed := false, bcErrs := 0, sent := [] }).dropFault
      (64 + n)).sendTrain n
  else s

/-- A frame ADMITTED or EXPOSING uses the station. -/
def State.stnUsed (s : State) (n : Nat) : Bool :=
  !(s.ctxsWith fun x => (x.st = .admitted || x.st = .exposing) && x.uses n).isEmpty

/-- A frame is using the station: it is ADMITTED or EXPOSING, or SPOILED and still running there (R135). -/
def State.stnHolds (s : State) (n : Nat) : Bool := s.stnUsed n || !(s.ctxsWith fun x => x.live n).isEmpty

def State.heldRetrain (s : State) (n : Nat) : State :=
  if (s.stn n).bln.retrainHeld ∧ ¬ s.stnUsed n then s.trainLink n else s

/-- FAC.CFG_ERR condition: NFACETS 1, or a start offset below 512 pixels (R130, R151). -/
def State.facBad (s : State) (n : Nat) : Bool :=
  s.fld F.FAC_CFG_NFACETS n == 1 || (List.range (s.nFacets n)).any fun j => decide (s.startOfs n j < 65536)

/-- FAC_START and FAC_FACET writes held by R135 applied. -/
def State.applyHeld (s : State) (n : Nat) : State :=
  let f := (s.stn n).fac
  if f.held.isEmpty then s
  else
    let s := f.held.foldl (fun s w => s.setReg (regAddr B.FAC n w.1) w.2) s
    let s := s.setFac n { f with held := [] }
    if s.facBad n then s.event B.FAC n 6 else s

/-- What the emitters write in a facet: emitter, context and line. -/
def State.facetWrites (s : State) (n : Nat) (base d : Int) : List (Nat × Nat × Nat) :=
  (List.range 48).filterMap fun e => (s.frameAt n (s.outLine n base d e)).map fun w => (e, w.1, w.2)

/-- Emitters of the facet that may be lit: the station is LOCKED, its link UP, not cut and under no dark request, and the
frame is not written dark there. -/
def State.litMask (s : State) (n : Nat) (ws : List (Nat × Nat × Nat)) : Nat :=
  if s.locked n ∧ s.fld F.BLN_STAT_LSTATE n = 3 ∧ ¬ s.flag F.FMT_STAT_CUT n ∧ (s.stn n).bln.dark.isEmpty then
    ws.foldl (fun m w => if bit (s.ctx w.2.1).dark n then m else setBit m w.1) 0
  else 0

/-- A frame's first line is exposed: ADMITTED becomes EXPOSING (R29). -/
def State.firstLine (s : State) (c : Nat) : State :=
  let x := s.ctx c
  let x := if x.exposedAny then x else { x with exposedAny := true, tFirst := s.now }
  s.setCtx c (if x.st = .admitted then { x with st := .exposing } else x)

/-- The facet's base, its debt, and whether it is written; frames spoil for debt (R98, R120, R121). -/
def State.facetBase (s : State) (n : Nat) (d : Int) : State × Int × Int × Bool :=
  let f := (s.stn n).fmt
  let npos := s.linePos n
  let cand := if f.wrote then f.base + 48 else npos
  let debt := npos - cand
  let owners := s.belongs n cand d
  let lim : Int := s.fld F.FMT_CFG_LINE_DEBT_MAX n
  if owners ≠ [] ∧ lim < debt then (s.debtOver n owners debt, npos, debt, true)
  else if owners ≠ [] ∧ debt < -lim then (s.debtUnder n owners, f.base, debt, false)
  else (s, cand, debt, true)

/-- Slots reassigned at a facet boundary (R96): band memory is the lines from N_k − 48(I − 1) − Y to N_k + 47 + Y, lines
above wait in the landing buffer, and slots of lines below, and of frames no line belongs to any more, are free. How many
lines the store holds at once is not bounded here: the spec does not say what a line that found no slot would do
(assumption 94). -/
def State.reassign (s : State) (n : Nat) (base : Int) (slots : List Slot) : List Slot :=
  (slots.filter fun x =>
    let y := max 0 (s.yMax n (s.ctx x.ctx).width)
    (s.ctx x.ctx).order == x.frame && (s.ctx x.ctx).holdsLine n x.line && decide (s.passedTo n base - y ≤ x.line)).map fun x =>
  { x with band := decide (x.line ≤ base + 47 + max 0 (s.yMax n (s.ctx x.ctx).width)) }

/-- FMT_STAT.CTX: the first frame the facet writes, or the first that exposes at the station; 0xFF = none (R123). -/
def State.exposingCtx (s : State) (n : Nat) (cs : List Nat) : Nat :=
  cs.headD ((s.byOrder (s.ctxsWith fun x => x.exposingAt n)).headD 0xFF)

/-- FACET_BOUNDARY: the previous facet ends and station n's next facet begins. -/
def facetBoundary (n : Nat) (s : State) : State :=
  let s := s.flushFacet n
  let pixels := decide (s.freqNow n ≠ 0)
  let p := s.nFacets n
  let j := if pixels then (s.fld F.FAC_STAT_PIDX n + 1) % p else s.fld F.FAC_STAT_PIDX n % p
  let s := (s.setFld F.FAC_STAT_SEQ n (s.fld F.FAC_STAT_SEQ n + 1)).setFld F.FMT_STAT_PIDX n j
  let s := if s.locked n ∧ ¬ s.flag F.FMT_STAT_CUT n then s.setFlag F.CLK_STAT_GATED n false else s
  let d := s.patOffset n j
  let (s, base, debt, on) := s.facetBase n d
  let s := s.setSFld F.FMT_DEBT_D n (clampI (-128) 127 debt)
  let s := s.endFrames n base
  let owners := s.belongs n base d
  let s := forAll owners s fun s c => s.swapFor n (s.ctx c).corSet
  let s := if on then forAll (s.opening n base d) s fun s c => s.openFrame n debt c else s
  let s := s.endFrames n base
  let ws := if on then s.facetWrites n base d else []
  let lit := s.litMask n ws
  let cs := (ws.map (·.2.1)).dedup
  let f := (s.stn n).fmt
  let s := s.setFmt n { f with
    base := base, npos := s.linePos n, wrote := decide (ws ≠ []) || !on, mask := ws.foldl (fun m w => setBit m w.1) 0
    lit := lit, facetCtx := cs, owners := owners, writes := ws, offset := d, cutPix := none
    facetNo := f.facetNo + 1, slots := s.reassign n base f.slots }
  let s := forAll ((ws.filter fun w => bit lit w.1).map (·.2.1)).dedup s State.firstLine
  let s := (s.setFld F.FMT_STAT_CTX n (s.exposingCtx n cs)).fmtCheck n
  let s := s.tighten n
  let dem := (List.range 48).map fun e => match ws.find? (·.1 == e) with
    | some w => (s.lineAt n ((s.ctx w.2.1).origin n + w.2.2)).sum
    | none => 0
  let s := s.governFacet n dem
  let s := if on then forAll (s.byOrder (s.ctxsWith fun x => x.live n)) s fun s c => s.decodeAhead n base c else s
  let s := if owners = [] then s.applyHeld n else s
  let s := (s.setBln n { (s.stn n).bln with bcErrs := 0, bdSeen := false }).setFac n { (s.stn n).fac with line := none }
  (s.heldRetrain n).sendLight n

/-- The blocks a boundary needs are powered. -/
def State.stnOn (s : State) (n : Nat) : Bool := decide (n < 6) && s.domOn .img && s.domOn (.bln n)

/-- FACET_BOUNDARY as the end of the previous facet's active scan. A station with no pixel clock in force has no active
scan: its boundaries fall at its beam detects (R420; Sys2Proof/Machine/Beam.lean). -/
def execFacetBoundary (n : Nat) (s : State) : Host.Outcome State Fault Refusal :=
  .next (s.finish (if s.stnOn n ∧ s.freqNow n ≠ 0 then facetBoundary n s else s))

/-- SPEED_HOLD_CLEAR: a 1 written to FMT_HOLD clears SPEED_HOLD only while |D| ≤ 1 (R123). -/
def speedHoldClear (n : Nat) (v : Word) (s : State) : State :=
  let d := s.sfld F.FMT_DEBT_D n
  if bit v.toNat 0 ∧ ¬ bit (s.freshBits (F.FMT_HOLD.addr n)).toNat 0 ∧ -1 ≤ d ∧ d ≤ 1 then
    ((s.setFlag F.FMT_HOLD_SPEED_HOLD n false).setFlag F.FMT_STAT_SPEED_HOLD n false).capSync
  else s

def execSpeedHoldClear (n : Nat) (v : Word) (s : State) : Host.Outcome State Fault Refusal :=
  .next (s.finish (s.onPage B.FMT n F.FMT_HOLD.off fun s =>
    if n < 6 then speedHoldClear n v s else s))

/-! ### The facet packet (R140) -/

/-- Codes of each emitter of the mask along its line, in ascending emitter order, with the clamps and clips counted.
Codes from the cut pixel on, and of emitters not lit, are 0x00. -/
def State.facetCodes (s : State) (n : Nat) : List (List Nat) × Nat :=
  let f := (s.stn n).fmt
  ((List.range 48).filter fun e => bit f.mask e).foldl (fun acc e =>
    if bit f.lit e then
      let r := s.emitterCodes n e (s.outLine n f.base f.offset e) (f.gov.getD e 32)
      let codes := match f.cutPix with
        | some k => r.1.zipIdx.map fun x => if k ≤ x.2 then 0 else x.1
        | none => r.1
      (acc.1 ++ [codes], acc.2 + r.2)
    else (acc.1 ++ [List.replicate 49152 0], acc.2)) ([], 0)

/-- FACET_PACKET_SEND: FSTART, FMASK, the data blocks and FEND of the present facet, with clamps and clips counted once a
pixel and COR.CLIP raised at most once (R107, R139, R140). Nothing of a facet is sent before its beam detect has reached
BLN, and a facet is sent once (R141). -/
def facetPacketSend (n : Nat) (s : State) : State :=
  let b := (s.stn n).bln
  if s.fld F.BLN_STAT_LSTATE n ≠ 3 ∨ ¬ b.bdSeen ∨ b.sent.head?.map (·.1) = some (s.fld F.FAC_STAT_SEQ n) then s
  else
    let f := (s.stn n).fmt
    let seq := s.fld F.FAC_STAT_SEQ n
    let j := s.fld F.FMT_STAT_PIDX n
    let (codes, clips) := s.facetCodes n
    let blocks := (List.range 6144).flatMap fun g => codes.map fun l =>
      ((l.drop (8 * g)).take 8).map fun c => BitVec.ofNat 8 c
    let fstart := leBytes 2 seq ++ leBytes 1 (j + if f.mask = 0 then 16 else 0) ++ leBytes 2 0xC000 ++ leBytes 1 0
    let crc := (crc32c (fstart ++ leBytes 6 f.mask ++ blocks.flatten)).toNat
    let s := if clips = 0 then s else (s.bumpBy F.COR_CLIP_CNT n clips).event B.COR n 3
    (s.setBln n { b with sent := ((seq, f.facetCtx) :: b.sent).take 16 }).emit
      (.facet n seq fstart f.mask blocks crc (s.stn n).fac.line)

def execFacetPacketSend (n : Nat) (s : State) : Host.Outcome State Fault Refusal :=
  .next (s.finish (if s.stnOn n ∧ s.pageEn B.BLN n then facetPacketSend n s else s))

/-- KEEP_TIMER: `tKEEP` expires (R142). A dark request for loss of lock has then been sent and ends (R134). -/
def keepTimer (n : Nat) (s : State) : State := ((s.endDark n darkUnlock).sendTrain n).heldRetrain n

def execKeepTimer (n : Nat) (s : State) : Host.Outcome State Fault Refusal :=
  .next (s.finish (if s.stnOn n then keepTimer n s else s))

end Sys2Proof.Machine
end

