-- ==== Sys2Proof/Machine/Beam.lean ====
section
/-! DEFINITION. FAC and CLK: beam detect, identification, lock, target class, synthesizer and delay line, and class
changes (R125 to R135). -/

namespace Sys2Proof.Machine

/-- LOCK_N, at least one. -/
def State.lockN (s : State) (n : Nat) : Nat := max 1 (s.fld F.FAC_CFG_LOCK_N n)

/-- SIG of a polygon facet. -/
def State.sig (s : State) (n j : Nat) : Int := s.sfld (F.FAC_FACET_SIG.at (j % 16)) n

/-- A period less its facet's SIG, once ID_OK is set (R128). -/
def State.reduced (s : State) (n : Nat) (p : Nat × Nat) : Int :=
  (p.1 : Int) - if s.flag F.FAC_STAT_ID_OK n then s.sig n p.2 else 0

/-- PERIOD_ERR (R126, R128, R129). -/
def State.periodErr (s : State) (n : Nat) : State := (s.bump F.FAC_PERR_CNT n).event B.FAC n 5

/-! ### Synthesizer and delay line -/

/-- SYN_LOCK and DLL_LOCK clear together (R130). -/
def State.dropClock (s : State) (n : Nat) : State :=
  let s := if s.flag F.CLK_STAT_SYN_LOCK n then s.event B.CLK n 0 else s
  let s := if s.flag F.CLK_STAT_DLL_LOCK n then s.event B.CLK n 1 else s
  (s.setFlag F.CLK_STAT_SYN_LOCK n false).setFlag F.CLK_STAT_DLL_LOCK n false

/-- CLK retunes to a class (R128, R133). -/
def State.retune (s : State) (n c : Nat) : State :=
  ((s.dropClock n).setFld F.CLK_STAT_CLASS n c).setFld F.FAC_STAT_CLASS n c

/-! ### Lock (R128, R133, R134) -/

/-- Everything LOCKED needs but the periods. -/
def State.lockBase (s : State) (n : Nat) : Bool :=
  s.flag F.FAC_STAT_BD_OK n && s.flag F.FAC_STAT_ID_OK n && s.flag F.CLK_STAT_SYN_LOCK n && s.flag F.CLK_STAT_DLL_LOCK n
    && s.programmed n (s.stnClass n) && s.fld F.CLK_STAT_CLASS n == s.stnClass n && !s.facBad n && s.pageEn B.FAC n
    && s.pageEn B.CLK n

/-- A period lies within LOCK_TOL of its class's. -/
def State.fits (s : State) (n : Nat) (p : Nat × Nat) : Bool :=
  let t : Int := 32 * s.scPeriod (s.stnClass n)
  let d := s.reduced n p - t
  decide ((if d < 0 then -d else d) * 10000 ≤ t * s.fld F.FAC_CFG_LOCK_TOL n)

/-- The station becomes LOCKED; a class change ends (R128, R133). -/
def State.tryLock (s : State) (n : Nat) : State :=
  let f := (s.stn n).fac
  let ps := f.periods.take (s.lockN n)
  if !s.locked n && s.lockBase n && decide (s.lockN n ≤ ps.length) && ps.all (s.fits n) then
    let s := ((s.setFlag F.FAC_STAT_LOCKED n true).setFlag F.FAC_STAT_RETUNE n false).event B.FAC n 2
    (s.setFac n { (s.stn n).fac with outRun := 0, relockFail := false }).dropFault (70 + n)
  else s

/-- Lock is lost when something it needs is gone. -/
def State.checkLock (s : State) (n : Nat) : State := if s.locked n ∧ ¬ s.lockBase n then s.loseLock n else s

/-- The class FAC targets while the station is neither LOCKED nor in RETUNE (R128). -/
def State.target (s : State) (n : Nat) : Option Nat :=
  let f := (s.stn n).fac
  let ps := (f.periods.take (s.lockN n)).map (s.reduced n)
  let dist := fun c => let d := ps.sum - 32 * (s.scPeriod c : Int) * ps.length; if d < 0 then -d else d
  match (List.range 16).filter (s.programmed n) with
  | [] => none
  | c :: rest =>
    if !f.everOk then some c
    else if ps = [] then none
    else some (rest.foldl (fun b x => if dist x < dist b then x else b) c)

/-- FAC chooses its target, and CLK retunes when it changes. -/
def State.retarget (s : State) (n : Nat) : State :=
  if s.locked n ∨ s.flag F.FAC_STAT_RETUNE n then s
  else match s.target n with
    | some c => if c = s.fld F.CLK_STAT_CLASS n then s.setFld F.FAC_STAT_CLASS n c else s.retune n c
    | none => s

/-! ### Identification (R127) -/

/-- The rotation, relative to the present numbering, that alone fits one revolution of periods, oldest first. -/
def State.candidate (s : State) (n : Nat) (ps : List (Nat × Nat)) : Option Nat :=
  let p := s.nFacets n
  let sum : Int := (ps.map (·.1)).sum
  let tol : Int := p * s.fld F.FAC_IDCFG_ID_TOL n
  let score := fun m => (ps.map fun x =>
    let d := (p : Int) * x.1 - sum - p * s.sig n ((x.2 + m) % p)
    if d < 0 then -d else d).foldl max 0
  (List.range p).find? fun m =>
    decide (score m ≤ tol) && (List.range p).all fun o => o == m || decide (2 * tol < score o)

/-- ID_OK clears and FAC.ID_LOST is raised. -/
def State.loseId (s : State) (n : Nat) : State :=
  let s := (s.setFlag F.FAC_STAT_ID_OK n false).event B.FAC n 1
  s.setFac n { (s.stn n).fac with sinceRev := 0, candRuns := 0, missRevs := 0 }

/-- A revolution is scored (R127). -/
def State.identify (s : State) (n : Nat) : State :=
  let p := s.nFacets n
  let f := { (s.stn n).fac with sinceRev := 0 }
  let c := if s.stale n then none else s.candidate n (f.periods.take p).reverse
  if s.flag F.FAC_STAT_ID_OK n then
    if c = some 0 then s.setFac n { f with missRevs := 0 }
    else if f.missRevs + 1 < 3 then s.setFac n { f with missRevs := f.missRevs + 1 }
    else ((s.setFac n f).loseId n).checkLock n
  else match c with
    | none => s.setFac n { f with candRuns := 0 }
    | some m =>
      let runs := if m = f.cand ∧ 0 < f.candRuns then f.candRuns + 1 else 1
      if max 1 (s.fld F.FAC_IDCFG_ID_REVS n) ≤ runs then
        let s := (s.setFlag F.FAC_STAT_ID_OK n true).setFld F.FAC_STAT_PIDX n ((s.fld F.FAC_STAT_PIDX n + m) % p)
        s.setFac n { f with periods := f.periods.map (fun x => (x.1, (x.2 + m) % p)), cand := 0, candRuns := 0, missRevs := 0 }
      else s.setFac n { f with cand := m, candRuns := runs }

/-! ### Beam detect (R125, R126, R129) -/

/-- BD_OK sets again after LOCK_N consecutive periods that agree within BD_WIN. -/
def State.agree (s : State) (n : Nat) : State :=
  let f := (s.stn n).fac
  let ps := (f.periods.take (s.lockN n)).map (·.1)
  let lo := ps.foldl min (ps.headD 0)
  let hi := ps.foldl max 0
  if s.lockN n ≤ ps.length ∧ (hi - lo) * 1000 ≤ lo * s.fld F.FAC_CFG_BD_WIN n then
    (s.setFlag F.FAC_STAT_BD_OK n true).setFac n { f with everOk := true, sinceRev := 0, candRuns := 0 }
  else s

/-- The synthesizer's phase at a press time in 31.25 ps, in 2^-23 of a cycle: an undelayed edge stands at 0. -/
def State.phaseOf (s : State) (n ts : Nat) : Nat :=
  let f := (s.stn n).fac
  (f.phase + (ts - f.phaseAt) * s.freqNow n / (32000 * 100000)) % 2 ^ 23

/-- The phase carried to the last beam detect, before the frequency changes there. -/
def State.keepPhase (s : State) (n : Nat) : State :=
  let f := (s.stn n).fac
  s.setFac n { f with phase := s.phaseOf n f.ts, phaseAt := f.ts }

/-- CLK chooses the tap that places a delayed edge nearest t_0, and the line of the facet begins there, unless PXO_n is
gated (R130, R132). The slew of the line to the tap, one tap in an output cycle, ends before pixel 0 and is not shown. -/
def State.placeLine (s : State) (n ts : Nat) : State :=
  let ofs := s.startOfs n (s.fld F.FAC_STAT_PIDX n)
  if s.flag F.CLK_STAT_DLL_LOCK n ∧ s.freqNow n ≠ 0 ∧ 0 ≤ ofs then
    let tap := ((s.phaseOf n ts + 2 ^ 15) / 2 ^ 16 + ofs.toNat) % 128
    let s := s.setFld F.CLK_STAT_TAP n tap
    if s.locked n ∧ ¬ s.flag F.CLK_STAT_GATED n then
      let l : PixLine :=
        { t0 := ts + s.pixTime n ofs.toNat, freq := s.freqNow n, facet := s.fld F.FAC_STAT_PIDX n }
      let s := s.setFac n { (s.stn n).fac with line := some l }
      if s.flag F.CLK_OUT_EN n then s.emit (.line n l) else s
    else s
  else s

/-- The tracking trim of a facet (R129). -/
def State.track (s : State) (n : Nat) : State :=
  let p := s.nFacets n
  let ps := ((s.stn n).fac.periods.take p).map (·.1)
  let sum := ps.sum
  if !s.flag F.FAC_CFG_TRACK n then (s.keepPhase n).setFld F.CLK_TRIM_TRIM n 0
  else if ps.length < p ∨ sum = 0 then s
  else
    let x : Int := (32 * s.scPeriod (s.fld F.CLK_STAT_CLASS n) : Nat)
    let t := (2 * 100000 * (x * p - sum) + sum) / (2 * sum)
    let c := clampI (-500) 500 t
    ((if c = t then s else s.periodErr n).keepPhase n).setSFld F.CLK_TRIM_TRIM n c

/-- What a period that lies in the window does to the lock (R128). -/
def State.judgePeriod (s : State) (n : Nat) (p : Nat × Nat) : State :=
  if s.locked n then
    if s.fits n p then s.setFac n { (s.stn n).fac with outRun := 0 }
    else
      let s := (s.periodErr n).setFac n { (s.stn n).fac with outRun := (s.stn n).fac.outRun + 1 }
      if s.lockN n ≤ (s.stn n).fac.outRun then s.loseLock n else s
  else s

/-- A beam detect taken at `ts`, in 31.25 ps. -/
def State.takeEdge (s : State) (n ts : Nat) : State :=
  let f := (s.stn n).fac
  let j := s.fld F.FAC_STAT_PIDX n
  let t := ts - f.ts
  let first := decide (f.ts = 0)
  let s := (s.setPair64 F.FAC_BD_TS_LO n (ts / 32)).setFld F.FAC_BD_FRAC_FRAC n (ts % 32)
  let s := s.setFld F.FAC_STAT_PIDX n ((j + 1) % s.nFacets n)
  if first then s.setFac n { f with ts := ts }
  else
    let ok := s.flag F.FAC_STAT_BD_OK n
    let s := s.setFld F.FAC_PERIOD n t
    let s := s.setFac n { f with ts := ts, periods := ((t, j) :: f.periods).take 16, sinceRev := f.sinceRev + 1 }
    if !ok then s.agree n
    else
      let s := if s.nFacets n ≤ (s.stn n).fac.sinceRev then s.identify n else s
      (s.judgePeriod n (((s.stn n).fac.periods.head?).getD (t, j))).track n

/-- BD_LOSS: the window closes with no edge (R126, R127). -/
def State.bdLoss (s : State) (n : Nat) : State :=
  let s := ((s.setFlag F.FAC_STAT_BD_OK n false).event B.FAC n 0).loseId n
  (s.setFac n { (s.stn n).fac with periods := [], outRun := 0 }).checkLock n

/-- A beam-detect edge at `ts`. While BD_OK = 1 an edge before the window is a stray; the window of an edge after it has
closed without one (R126). Every edge taken goes to the polygon channel with its facet number (R127), and where no pixel
clock is in force it is the facet boundary (R420). -/
def State.bdTaken (s : State) (n ts : Nat) : State :=
  let f := (s.stn n).fac
  let exp := f.ts + s.expPeriod n
  if s.flag F.FAC_STAT_BD_OK n ∧ ts + s.winBefore n < exp then s.periodErr n
  else
    let s := if s.flag F.FAC_STAT_BD_OK n ∧ exp + s.winAfter n < ts then s.bdLoss n else s
    let noClock := decide (s.freqNow n = 0)
    let s := ((s.takeEdge n ts).retarget n).tryLock n
    let s := s.polygonEdge n (s.fld F.FAC_STAT_PIDX n) ((s.stn n).fac.periods.map (·.1))
    let s := if noClock && s.stnOn n then facetBoundary n s else s
    let s := (s.placeLine n ts).setBln n { (s.stn n).bln with bdSeen := true }
    if s.locked n ∧ s.fld F.BLN_STAT_LSTATE n = 3 then s.bdw n 0 0 else s

/-- BD_EDGE: an edge `frac` × 31.25 ps into the present KCLK cycle, rising or falling, of a pulse `width` × 31.25 ps long.
FAC takes the edge that FAC_CFG.EDGE selects, and no pulse shorter than 2.0 ns (R125). -/
def bdEdge (n frac : Nat) (rising : Bool) (width : Nat) (s : State) : State :=
  if rising = s.flag F.FAC_CFG_EDGE n ∨ width < 64 then s else s.bdTaken n (32 * s.now + frac % 128)

def execBdEdge (n frac : Nat) (s : State) (rising : Bool := true) (width : Nat := 64) : Host.Outcome State Fault Refusal :=
  .next (s.finish (if n < 6 ∧ s.domOn (.bln n) ∧ s.pageEn B.FAC n then bdEdge n frac rising width s else s))

/-- BD_WINDOW_CLOSE. -/
def execBdWindowClose (n : Nat) (s : State) : Host.Outcome State Fault Refusal :=
  .next (s.finish (if n < 6 ∧ s.domOn (.bln n) ∧ s.flag F.FAC_STAT_BD_OK n then (s.bdLoss n).retarget n else s))

/-- SYN_LOCK: the synthesizer locks to its class, if that has a frequency (R133). The phase in which it locks is not stated:
a free value (assumption 1). -/
def synLock (n : Nat) (s : State) : State :=
  let (v, s) := s.draw
  ((s.setFac n { (s.stn n).fac with phase := v % 2 ^ 23, phaseAt := 32 * s.now }).setFlag F.CLK_STAT_SYN_LOCK n true).tryLock n

def execSynLock (n : Nat) (s : State) : Host.Outcome State Fault Refusal :=
  .next (s.finish (if n < 6 ∧ s.domOn (.bln n) ∧ s.pixFreq n (s.fld F.CLK_STAT_CLASS n) ≠ 0 then synLock n s else s))

/-- SYN_UNLOCK: DLL_LOCK clears with it (R130, R134). -/
def execSynUnlock (n : Nat) (s : State) : Host.Outcome State Fault Refusal :=
  .next (s.finish (if n < 6 ∧ s.domOn (.bln n) then (s.dropClock n).checkLock n else s))

/-- DLL_LOCK: the delay line is calibrated (R130). -/
def execDllLock (n : Nat) (s : State) : Host.Outcome State Fault Refusal :=
  .next (s.finish (if n < 6 ∧ s.domOn (.bln n) ∧ s.flag F.CLK_STAT_SYN_LOCK n then
    (s.setFlag F.CLK_STAT_DLL_LOCK n true).tryLock n else s))

/-- DLL_UNLOCK: the taps no longer span the period (R130, R134). -/
def execDllUnlock (n : Nat) (s : State) : Host.Outcome State Fault Refusal :=
  .next (s.finish (if n < 6 ∧ s.domOn (.bln n) ∧ s.flag F.CLK_STAT_DLL_LOCK n then
    ((s.event B.CLK n 1).setFlag F.CLK_STAT_DLL_LOCK n false).checkLock n else s))

/-! ### Class changes (R133) -/

/-- The next frame station n has to write. -/
def State.nextFrame (s : State) (n : Nat) : Option Nat := (s.byOrder (s.ctxsWith fun x => x.live n)).head?

/-- The generator of each polygon of a station is set to the polygon speed of the class: its velocity target is scaled by
T_c / T_c′, as the speed 60 × 10^9 / (NFACETS × T_c) is (R133, R191). What the target counts is the host's, so scaling it is
how the model reads the rule (assumption 104). -/
def State.polygonClass (s : State) (n c c' : Nat) : State :=
  let t := s.scPeriod c
  let t' := s.scPeriod c'
  if t = 0 ∨ t' = 0 then s
  else forAll ((s.polygons n).filter fun m => s.flag F.MOT_BIND_PG_EN m) s fun s m =>
    let g := s.fld F.MOT_BIND_PG m
    let v := (s.pgn g).classV.getD (signed (s.reg (F.PGN_VTGT.addr g)).toNat 32)
    s.setPgn g { s.pgn g with classV := some (v * t / t') }

/-- CLASS_CHANGE_START: at a facet of no frame, with a frame of another class scheduled behind (R133). -/
def classChangeStart (n : Nat) (s : State) : State :=
  match s.nextFrame n with
  | some c =>
    let k := (s.ctx c).cls
    if s.locked n ∧ (s.stn n).fmt.owners = [] ∧ k ≠ s.stnClass n then
      let s := ((s.gate n).setFlag F.FAC_STAT_RETUNE n true).setFlag F.FAC_STAT_LOCKED n false
      let s := s.polygonClass n (s.stnClass n) k
      (s.setFac n { (s.stn n).fac with outRun := 0, relockFail := false }).retune n k
    else s
  | none => s

def execClassChangeStart (n : Nat) (s : State) : Host.Outcome State Fault Refusal :=
  .next (s.finish (if s.stnOn n then classChangeStart n s else s))

/-- RELOCK_DEADLINE: the station is not LOCKED at the new class when its line coordinate for the frame reaches −96. The
frame and every later ADMITTED frame are revoked, unless the frame's decode has begun on another station (R52, R133). -/
def relockDeadline (n : Nat) (s : State) : State :=
  match s.nextFrame n with
  | some c =>
    if s.flag F.FAC_STAT_RETUNE n ∧ ¬ s.locked n then
      let s := (s.event B.FAC n 4).setFac n { (s.stn n).fac with relockFail := true }
      let x := s.ctx c
      if x.st = .admitted ∧ x.begun = 0 then
        forAll (s.byOrder (s.ctxsWith fun y => y.st = .admitted && decide (x.order ≤ y.order))) s fun s k =>
          s.revoke k rRelock n
      else s
    else s
  | none => s

def execRelockDeadline (n : Nat) (s : State) : Host.Outcome State Fault Refusal :=
  .next (s.finish (if s.stnOn n then relockDeadline n s else s))

/-! ### Clock outputs (R132, R136, R153) -/

/-- What a clock output does: it holds low, or carries a clock of a frequency in 10^-5 × 2^-23 MHz; the frequency of a
synthesizer that is not locked the spec does not give. -/
inductive ClkOut where
  | low
  | clock (freq : Nat)
  | unlocked
  deriving DecidableEq, Repr

/-- MHz in that unit. -/
def mhz (f : Nat) : Nat := f * 2 ^ 23 * 100000

/-- A source divided, unless its frequency exceeds the format's: 200 MHz in LVCMOS, 450 MHz in the others. A disabled output
of either kind is low. -/
def clkOut (en : Bool) (fmt : Nat) (src : ClkOut) (div : Nat) : ClkOut :=
  match src with
  | .clock f => if en && decide (f ≤ mhz (if fmt = 3 then 200 else 450) * (div + 1)) then .clock (f / (div + 1)) else .low
  | .unlocked => if en then .unlocked else .low
  | .low => .low

/-- A station's undelayed, ungated synthesizer output. -/
def State.synOut (s : State) (n : Nat) : ClkOut := if s.freqNow n = 0 then .unlocked else .clock (s.freqNow n)

/-- GCO_i. -/
def State.gco (s : State) (i : Nat) : ClkOut :=
  let f := fun (g : Field) => s.fld (g.at i) 6
  let src := f F.CLK_GCO_SRC
  clkOut (f F.CLK_GCO_EN = 1) (f F.CLK_GCO_FMT)
    (if src = 0 then .clock (mhz 25) else if src = 1 then .clock (mhz 100)
      else if src ≤ 7 then s.synOut (src - 2) else if src = 8 then .clock (mhz 250) else .low)
    (f F.CLK_GCO_DIV)

/-- PXO_n while CLK_OUT.EN = 1, the station is locked and the output is not gated. -/
def State.pxo (s : State) (n : Nat) : ClkOut :=
  if s.locked n ∧ ¬ s.flag F.CLK_STAT_GATED n then clkOut (s.flag F.CLK_OUT_EN n) (s.fld F.CLK_OUT_FMT n) (s.synOut n) 0
  else .low

/-- Does PXO_n rise where edge `k` from pixel 0 would stand? The three rising edges that would precede pixel 0 are the
start-of-line mark (R132); the edges after pixel 49,151, from count 0 on, are those the board counts (R132, R145). -/
def State.pxoRises (s : State) (n : Nat) (k : Int) : Bool :=
  (s.stn n).fac.line.isSome && s.pxo n ≠ .low && !decide (-3 ≤ k ∧ k < 0)

end Sys2Proof.Machine
end

