-- ==== Sys2Proof/Machine/Ctl.lean ====
section
/-! DEFINITION. Loop slots: inputs, laws, banks and swaps, budgets (R213 to R224, R235 to R237). -/

namespace Sys2Proof.Machine

/-! ### Arithmetic (R214, R215) -/

/-- Saturation to Q1.15. -/
def sat16 (x : Int) : Int := clampI (-32768) 32767 x

/-- A Q10.30 value taken to Q1.15. -/
def q15 (v : Int) : Int := sat16 ((v + 2 ^ 14) / 2 ^ 15)

/-- The 40-bit accumulator: a value, and whether it has saturated. -/
def accAdd (a : Int × Bool) (x : Int) : Int × Bool :=
  let v := a.1 + x
  let c := clampI (-(2 ^ 39)) (2 ^ 39 - 1) v
  (c, a.2 || decide (c ≠ v))

/-- A sum in the accumulator, in order. -/
def accSum (xs : List Int) : Int × Bool := xs.foldl accAdd (0, false)

/-- x = sat(round(raw × GAIN / 2^SH)). -/
def scaleIn (raw gain : Int) (sh : Nat) : Int := sat16 ((2 * raw * gain + 2 ^ sh) / 2 ^ (sh + 1))

/-! ### Inputs (R214) -/

/-- U of a slot. -/
def State.slotU (s : State) (n : Nat) : Int := s.sfld F.CTL_EU_U n

/-- The raw value of an input; `ana` is the conversion's code. -/
def State.rawIn (s : State) (src : Nat) (ana : Int) : Int :=
  if src < 0xC0 then clampI (-8192) 8191 ana
  else if 0x100 ≤ src ∧ src ≤ 0x15F then s.slotU (src - 0x100)
  else if 0x180 ≤ src ∧ src ≤ 0x19F then signed (s.reg (F.PGN_VEL.addr (src - 0x180))).toNat 32
  else if 0x1A0 ≤ src ∧ src ≤ 0x1BF then signed (unsign (s.pgPos (src - 0x1A0)) 32) 32
  else if 0x1C0 ≤ src ∧ src ≤ 0x1D7 then signed (s.reg (F.MOT_SPEED.addr (src - 0x1C0))).toNat 32
  else if 0x1E0 ≤ src ∧ src ≤ 0x1F7 then s.sfld F.MOT_PHASE_ERR (src - 0x1E0)
  else if 0x200 ≤ src ∧ src ≤ 0x23F then
    if src % 2 = 0 then s.sfld F.HVO_MEAS_V ((src - 0x200) / 2) else s.sfld F.HVO_MEAS_I ((src - 0x200) / 2)
  else if 0x240 ≤ src ∧ src ≤ 0x257 then s.sfld F.TMP_VALUE_TEMP (src - 0x240)
  else 0

/-- A slot's input, by its register. -/
def State.slotIn (s : State) (n : Nat) (f : Field) (ana : Int) : Int :=
  let w := (s.reg (f.addr n)).toNat
  scaleIn (s.rawIn (bits w 0 10) ana) (signed (bits w 16 16) 16) (min (bits w 10 6) 47)

/-! ### Banks (R221) -/

/-- Word `i` of bank `b` (`true` = B). -/
def State.bankWord (s : State) (n : Nat) (b : Bool) (i : Nat) : Nat :=
  (s.reg (((if b then F.CTL_B else F.CTL_A).at i).addr n)).toNat

/-- A coefficient. -/
def State.coef (s : State) (n : Nat) (b : Bool) (i : Nat) : Int := signed (s.bankWord n b i) 16

/-- UMAX and UMIN. -/
def State.uMax (s : State) (n : Nat) (b : Bool) : Int := signed (bits (s.bankWord n b 6) 16 16) 16
def State.uMin (s : State) (n : Nat) (b : Bool) : Int := signed (bits (s.bankWord n b 6) 0 16) 16

/-- The bank is usable. -/
def State.bankUsable (s : State) (n : Nat) (b : Bool) : Bool := decide (s.uMin n b ≤ s.uMax n b)

/-- The active bank; `true` = B. -/
def State.ctlBank (s : State) (n : Nat) : Bool := s.flag F.CTL_STAT_ACTIVE n

/-! ### Laws (R216) -/

/-- What a sample gives: its hidden state, u, SAT, and whether an accumulator has saturated. -/
structure LawOut where
  c : Ctl
  u : Int
  sat : Bool
  acc : Bool
  deriving DecidableEq, Repr

/-- The PID law. `rep`: the consumer reports saturation; `swap`: this sample swaps, without a bump, and SAT keeps its value
`sat0` through it (R223). -/
def State.lawPid (s : State) (n : Nat) (b : Bool) (c : Ctl) (e y f : Int) (rep swap sat0 : Bool) : LawOut :=
  let sh := min (bits (s.bankWord n b 7) 0 4) 8
  let p := s.coef n b 0 * e * 2 ^ sh
  let da := accSum [max 0 (s.coef n b 3) * c.dst, s.coef n b 2 * (c.yPrev - y) * 2 ^ sh]
  let d := q15 da.1
  let ff := s.coef n b 4 * f
  let pdf := accSum [p, d * 2 ^ 15, ff]
  let i := if swap then accAdd (clampI (s.uMin n b) (s.uMax n b) c.uPid * 2 ^ 15, false) (-pdf.1) else (c.i, false)
  let v := accSum [p, i.1, d * 2 ^ 15, ff]
  let q := q15 v.1
  let u := clampI (s.uMin n b) (s.uMax n b) q
  let sat := if swap then sat0 else decide (u ≠ q) || rep
  let di := s.coef n b 1 * e * 2 ^ sh
  let up := sat && (decide (u = s.uMax n b) || (rep && decide (0 < u))) && decide (0 < di)
  let down := sat && (decide (u = s.uMin n b) || (rep && decide (u < 0))) && decide (di < 0)
  let i' := if up || down then i else accAdd i di
  { c := { c with i := i'.1, dst := d, yPrev := y, uPid := u }, u := u, sat := sat
    acc := da.2 || pdf.2 || v.2 || i'.2 }

/-- One biquad section. -/
def State.section (s : State) (n : Nat) (b : Bool) (k : Nat) (h : Biq) (x : Int) : Int × Biq × Bool :=
  let w := fun i => s.coef n b (8 + 5 * k + i)
  let a := accSum [w 0 * x, w 1 * h.x1, w 2 * h.x2, -(w 3 * h.y1), -(w 4 * h.y2)]
  let o := q15 (2 * a.1)
  (o, { x1 := x, x2 := h.x1, y1 := o, y2 := h.y1 }, a.2)

/-- The chain of `k` sections from section `j` on. -/
def State.chain (s : State) (n : Nat) (b : Bool) : Nat → Nat → List Biq → Int → Int × List Biq × Bool
  | 0, _, hs, x => (x, hs, false)
  | _ + 1, _, [], x => (x, [], false)
  | k + 1, j, h :: hs, x =>
    let (o, h', sat) := s.section n b j h x
    let (o, hs', sat') := s.chain n b k (j + 1) hs o
    (o, h' :: hs', sat || sat')

/-- The law of a slot. -/
def State.law (s : State) (n : Nat) (b : Bool) (c : Ctl) (e y f : Int) (rep swap sat0 : Bool) : LawOut :=
  let k := s.fld F.CTL_CFG_NSEC n + 1
  let lim := clampI (s.uMin n b) (s.uMax n b)
  match s.fld F.CTL_CFG_FORM n with
  | 2 =>
    let (o, hs, a) := s.chain n b k 0 c.hist e
    let q := q15 (s.coef n b 5 * o)
    { c := { c with hist := hs, yPrev := y }, u := lim q, sat := if swap then sat0 else decide (lim q ≠ q) || rep, acc := a }
  | 3 =>
    let p := s.lawPid n b c e y f rep swap sat0
    let (o, hs, a) := s.chain n b k 0 p.c.hist p.u
    { c := { p.c with hist := hs }, u := lim o, sat := p.sat, acc := p.acc || a }
  | _ => s.lawPid n b c e y f rep swap sat0

/-! ### Consumers (R219, R220) -/

/-- A consumer of the slot reports saturation. -/
def State.consumerSat (s : State) (n : Nat) : Bool :=
  ((List.range 24).any fun m => s.fld F.MOT_BIND_SLOT m == n && s.flag F.MOT_STAT_MODLIM m)
    || ((List.range 32).any fun o => s.fld F.HVO_CFG_SLOT o == n && s.flag F.HVO_STAT_SATREP o)
    || (List.range 8).any fun h => s.fld F.HTR_CFG_SLOT h == n && s.flag F.HTR_STAT_SAT h

/-- HVO's duty limit in Q1.15 (R227, R238). -/
def State.hvMax (s : State) (o : Nat) : Int := min 32767 (min (s.fld F.HVO_PWM_DMAX o) 200 * 32768 / 200)

/-- An HV output in RUN takes a demand, clamped to 0 and DMAX; the clamp to DMAX reports saturation (R227). -/
def State.hvDemand (s : State) (slot : Nat) (u : Int) : State :=
  forAll ((List.range 32).filter fun o => s.fld F.HVO_CFG_SLOT o == slot && s.fld F.HVO_STAT_STATE o == 1) s fun s o =>
    let m := s.hvMax o
    (s.setFld F.HVO_DEMAND_DEMAND o (clampI 0 m u).toNat).setFlag F.HVO_STAT_SATREP o (decide (m < u))

/-- A slot publishes U: the consumers follow. -/
def State.publish (s : State) (n : Nat) (u : Int) : State :=
  ((s.setFld F.CTL_EU_U n (unsign u 16)).moDemand n u).hvDemand n u

/-! ### Samples (R213, R216, R217, R223) -/

/-- The modes in which slots compute (R220). -/
def Mode.computes (m : Mode) : Bool := decide (3 ≤ m.code ∧ m.code ≤ 10)

/-- The swap of a slot: the other bank becomes active, unless its LIM is unusable. -/
def State.swapBank (s : State) (n : Nat) : State :=
  let s := s.setFlag F.CTL_STAT_PEND n false
  if s.bankUsable n (!s.ctlBank n) then (s.setFlag F.CTL_STAT_ACTIVE n (!s.ctlBank n)).event B.CTL n 0
  else (s.setFld F.CTL_STAT_REFUSE n 3).event B.CTL n 4

/-- The latest sample instant of a slot: (t − PHASE × 4 ns) is a whole multiple of PERIOD × 4 ns (R213). -/
def State.sampleInstant (s : State) (n : Nat) : Nat :=
  let p := 4 * max 1 (s.fld F.CTL_PERIOD_VALUE n)
  s.now - (s.now + p - 4 * s.fld F.CTL_PHASE_VALUE n) % p

/-- A sample instant of an enabled slot is here: it fell in the last two cycles of KCLK (assumption 112). -/
def State.sampleHere (s : State) (n : Nat) : Bool :=
  s.flag F.CTL_STAT_RUN n && s.sys.mode.computes && decide (s.now < s.sampleInstant n + 8)

/-- The slot's sample of that instant has not been taken. -/
def State.sampleDue (s : State) (n : Nat) : Bool :=
  s.sampleHere n && (s.ctl n).sampAt != some (s.sampleInstant n)

/-- CTL_SAMPLE: `aR`, `aY`, `aF` are the conversions of the analog inputs the slot names; `lat` is the time the sample
takes, in KCLK cycles. It acts at a sample instant of the slot, once (R213; assumption 112). A slot that misses its deadline keeps its output. -/
def ctlSample (n : Nat) (aR aY aF : Int) (lat : Nat) (s : State) : State :=
  if !s.sampleDue n then s
  else
    let s := s.setCtl n { s.ctl n with sampAt := some (s.sampleInstant n) }
    let s := s.setFld F.CTL_LAT_MAX n (max (s.fld F.CTL_LAT_MAX n) (min lat 65535))
    if s.fld F.CTL_PERIOD_VALUE n < lat then
      ((((s.bump F.CTL_LAT_LATE n).event B.CTL n 3).event B.CTL 0x60 0).raiseFault 152)
    else
      let r := s.slotIn n F.CTL_IN_R aR
      let y := s.slotIn n F.CTL_IN_Y aY
      let f := s.slotIn n F.CTL_IN_F aF
      let old := s.ctlBank n
      let due := s.flag F.CTL_STAT_PEND n ∧ (s.ctl n).swapAt + 100 ≤ s.now
      let s := if due then s.swapBank n else s
      let swap := decide (s.ctlBank n ≠ old)
      let e := sat16 (r - y)
      let was := s.flag F.CTL_STAT_SAT n
      let o := s.law n (s.ctlBank n) (s.ctl n) e y f (s.consumerSat n) swap was
      let s := s.setCtl n o.c
      let s := s.setReg (F.CTL_RY.addr n) (BitVec.ofNat 32 (unsign r 16 * 2 ^ 16 + unsign y 16))
      let s := (s.setFld F.CTL_EU_E n (unsign e 16)).setReg (F.CTL_F.addr n) (BitVec.ofNat 32 (unsign f 16))
      let s := s.setReg (F.CTL_INT.addr n) (BitVec.ofNat 32 (unsign (o.c.i / 256) 32))
      let s := if o.sat ∧ ¬ was then s.event B.CTL n 1 else s
      let s := s.setFlag F.CTL_STAT_SAT n o.sat
      let s := if o.acc ∧ ¬ s.flag F.CTL_STAT_ACC_SAT n then (s.setFlag F.CTL_STAT_ACC_SAT n true).event B.CTL n 2 else s
      s.publish n o.u

/-! ### Budgets (R216, R217) -/

/-- MACs of one sample. -/
def State.macs (s : State) (n : Nat) : Nat :=
  let k := s.fld F.CTL_CFG_NSEC n + 1
  match s.fld F.CTL_CFG_FORM n with
  | 1 => 8
  | 2 => 5 * k + 3
  | 3 => 5 * k + 8
  | _ => 0

/-- A sum of fractions as one fraction. -/
def fracSum (xs : List (Nat × Nat)) : Nat × Nat :=
  xs.foldl (fun a x => (a.1 * x.2 + x.1 * a.2, a.2 * x.2)) (0, 1)

/-- MAC rate of the named slots, as a fraction of MAC/s. -/
def State.macRate (s : State) (slots : List Nat) : Nat × Nat :=
  fracSum (slots.map fun n => (s.macs n * 250000000, max 1 (s.fld F.CTL_PERIOD_VALUE n)))

/-- Analog inputs a slot names. -/
def State.slotAnalogs (s : State) (n : Nat) : List Nat :=
  ([F.CTL_IN_R_SRC, F.CTL_IN_Y_SRC, F.CTL_IN_F_SRC].map fun f => s.fld f n).filter (· < 0xC0) |>.dedup

/-- Conversion rate of the named slots and of the enabled HV outputs, as a fraction of samples per second. -/
def State.convRate (s : State) (slots : List Nat) : Nat × Nat :=
  let ofSlots := slots.map fun n => ((s.slotAnalogs n).length * 250000000, max 1 (s.fld F.CTL_PERIOD_VALUE n))
  let ofHv := ((List.range 32).filter fun o => s.flag F.HVO_CTRL_EN o).map fun o =>
    let k := [s.fld F.HVO_CFG_VMON o, s.fld F.HVO_CFG_IMON o].dedup.length
    if s.fld F.HVO_CFG_KIND o = 1 then (8 * k * 250000000 * (s.reg (F.HVO_NCO.addr o)).toNat, 2 ^ 32)
    else (k * 250000000, max 1 (s.fld F.HVO_PWM_PERIOD o))
  fracSum (ofSlots ++ ofHv)

/-- Enabled slots. -/
def State.slotsOn (s : State) : List Nat := (List.range 96).filter fun n => s.flag F.CTL_STAT_RUN n

/-- CTL_ENG_LOAD and CTL_ENG_CONV, in thousands. -/
def State.engLoad (s : State) : Nat := let r := s.macRate s.slotsOn; r.1 / (1000 * r.2)
def State.engConv (s : State) : Nat := let r := s.convRate s.slotsOn; r.1 / (1000 * r.2)

/-- A setting with which EN = 1 is refused. -/
def State.ctlBad (s : State) (n : Nat) : Bool :=
  let p := s.fld F.CTL_PERIOD_VALUE n
  s.fld F.CTL_CFG_FORM n == 0 || decide (p < 1250 ∨ 250000 < p ∨ p ≤ s.fld F.CTL_PHASE_VALUE n)

def State.ctlRefuse (s : State) (n why : Nat) : State := (s.setFld F.CTL_STAT_REFUSE n why).event B.CTL n 4

/-- CTL_CTRL.EN = 1: within the budgets the slot is enabled with every state clear; otherwise it stays disabled. -/
def ctlEnable (n : Nat) (s : State) : State :=
  if s.flag F.CTL_CTRL_EN n ∨ s.sys.mode = .lockdown ∨ ¬ s.pageEn B.CTL n then s
  else
    let all := s.slotsOn ++ [n]
    let m := s.macRate all
    let v := s.convRate all
    if s.ctlBad n then s.ctlRefuse n 3
    else if 800000000 * m.2 < m.1 then s.ctlRefuse n 1
    else if 48000000 * v.2 < v.1 then s.ctlRefuse n 2
    else
      let s := ((s.setFlag F.CTL_CTRL_EN n true).setCtl n Ctl.init).setFld F.CTL_STAT_REFUSE n 0
      let s := ((s.setFlag F.CTL_STAT_RUN n true).setFlag F.CTL_STAT_SAT n false).setFlag F.CTL_STAT_ACC_SAT n false
      (s.setReg (F.CTL_INT.addr n) 0).publish n 0

/-- The slot stops and publishes 0. -/
def State.slotStop (s : State) (n : Nat) : State := (s.setFlag F.CTL_STAT_RUN n false).publish n 0

/-- CTL_CTRL.EN = 0: U = 0 at once (R218). -/
def ctlDisable (n : Nat) (s : State) : State :=
  if s.flag F.CTL_CTRL_EN n then (s.setFlag F.CTL_CTRL_EN n false).slotStop n else s

/-- CTL_CTRL.SWAP: PEND is set, or with EN = 0 the swap is made at once (R223, R224). -/
def ctlSwap (n : Nat) (s : State) : State :=
  if s.flag F.CTL_STAT_PEND n then s
  else if s.flag F.CTL_STAT_RUN n then (s.setCtl n { s.ctl n with swapAt := s.now }).setFlag F.CTL_STAT_PEND n true
  else s.swapBank n

/-- CTL_CTRL written. -/
def State.writeCtlCtrl (s : State) (n : Nat) (v : Word) : State :=
  let s := if bit v.toNat 0 then ctlEnable n s else ctlDisable n s
  if bit v.toNat 1 then ctlSwap n s else s

/-- A coefficient written: to the active bank it is discarded, to the other it is RWL (R222). -/
def ctlBankWrite (n : Nat) (b : Bool) (i : Nat) (v : Word) (s : State) : State :=
  if s.ctlBank n = b then s.event B.CTL n 5
  else if s.flag (H.PAGE_LOCK_LOCK B.CTL) n then s
  else s.setReg (((if b then F.CTL_B else F.CTL_A).at i).addr n) (if i = 6 then v else v &&& 0xFFFF)

/-- A slot that exists and is powered. -/
def State.ctlOn (s : State) (n : Nat) : Bool := decide (n < 96) && s.domOn .ctl

def execCtlSample (n : Nat) (aR aY aF : Int) (lat : Nat) (s : State) : Host.Outcome State Fault Refusal :=
  .next (s.finish (if s.ctlOn n then ctlSample n aR aY aF lat s else s))
def execCtlEnable (n : Nat) (s : State) : Host.Outcome State Fault Refusal :=
  .next (s.finish (s.onPage B.CTL n F.CTL_CTRL.off fun s =>
    if s.ctlOn n then ctlEnable n s else s))
def execCtlDisable (n : Nat) (s : State) : Host.Outcome State Fault Refusal :=
  .next (s.finish (s.onPage B.CTL n F.CTL_CTRL.off fun s =>
    if s.ctlOn n then ctlDisable n s else s))
def execCtlSwap (n : Nat) (s : State) : Host.Outcome State Fault Refusal :=
  .next (s.finish (s.onPage B.CTL n F.CTL_CTRL.off fun s =>
    if s.ctlOn n then ctlSwap n s else s))
def execCtlBankWrite (n : Nat) (b : Bool) (i : Nat) (v : Word) (s : State) : Host.Outcome State Fault Refusal :=
  .next (s.finish (s.onPage B.CTL n (if b then F.CTL_B.off else F.CTL_A.off) fun s =>
    if s.ctlOn n ∧ i < 48 then ctlBankWrite n b i v s else s))

/-- LOCKDOWN: every slot publishes 0 and stops (R220). -/
def State.ctlLock (s : State) : State :=
  forAll (List.range 96) s fun s n => if s.flag F.CTL_STAT_RUN n then s.slotStop n else s

/-- PAGE_CTRL.EN = 0 of a slot: U = 0, the slot's own enable bit kept (R417). -/
def State.ctlPageOff (s : State) (n : Nat) : State := if s.flag F.CTL_STAT_RUN n then s.slotStop n else s

/-- A CTLLAW section's values: the slot disabled, bank A active (R235). -/
def State.loadLaw (s : State) (n : Nat) (bs : List Byte) : State :=
  let w := fun o => BitVec.ofNat 32 (fieldAt bs o 4)
  let s := (ctlDisable n s).setFlag F.CTL_STAT_ACTIVE n false
  let s := s.setFlag F.CTL_STAT_PEND n false
  let s := ((s.setReg (F.CTL_CFG.addr n) (w 0 &&& 0x73)).setReg (F.CTL_PERIOD.addr n) (w 4 &&& 0x3FFFF)).setReg
    (F.CTL_PHASE.addr n) (w 8 &&& 0x3FFFF)
  let s := ((s.setReg (F.CTL_IN_R.addr n) (w 12)).setReg (F.CTL_IN_Y.addr n) (w 16)).setReg (F.CTL_IN_F.addr n) (w 20)
  forAll (List.range 48) s fun s i =>
    let m : Word := if i = 6 then 0xFFFFFFFF else 0xFFFF
    (s.setReg ((F.CTL_A.at i).addr n) (w (32 + 4 * i) &&& m)).setReg ((F.CTL_B.at i).addr n) (w (224 + 4 * i) &&& m)

end Sys2Proof.Machine
end

