-- ==== Sys2Proof/Machine/Heater.lean ====
section
/-! DEFINITION. Heater outputs, the scheduler with its current and flicker limits, and the throttle (R248 to R255, R259,
R260, R262, R263). -/

namespace Sys2Proof.Machine

def Htr.init : Htr := { win := 0, k := 0, carry := 0, cur := 0, miss := 0, post := 0, satAt := none, onAt := 0 }
def State.htr (s : State) (h : Nat) : Htr := s.htrs.get (fun _ => Htr.init) h
def State.setHtr (s : State) (h : Nat) (x : Htr) : State := { s with htrs := s.htrs.set (fun _ => Htr.init) h x }

/-! HTR_STAT.STATE codes. -/
def htOff : Nat := 0
def htRun : Nat := 1
def htSuppress : Nat := 2
def htFault : Nat := 3

/-- Full power, in the fractions used here. -/
def fullPower : Nat := 32767

def State.htState (s : State) (h : Nat) : Nat := s.fld F.HTR_STAT_STATE h
def State.setHtState (s : State) (h v : Nat) : State := s.setFld F.HTR_STAT_STATE h v
/-- In RUN or SUPPRESS: the scheduler serves it. -/
def State.htServed (s : State) (h : Nat) : Bool := s.htState h == htRun || s.htState h == htSuppress
def State.inom (s : State) (h : Nat) : Nat := s.fld F.HTR_INOM_INOM h
def State.htPhase (s : State) (h : Nat) : Nat := s.fld F.HTR_CFG_PH h
def State.htBurst (s : State) (h : Nat) : Bool := s.fld F.HTR_CFG_MODE h == 1
/-- N: 0 is taken as 1. -/
def State.htN (s : State) (h : Nat) : Nat := max 1 (s.fld F.HTR_TIME_N h)
/-- UDIN in 0.1 V: values outside 1,000 to 4,800 are taken as 2,300 (R261). -/
def State.udin (s : State) : Nat :=
  let u := s.fld F.MNS_CFG_UDIN 0
  if 1000 ≤ u ∧ u ≤ 4800 then u else 2300

/-- A heater's demand from its slot: 0 when negative, and for a slot that does not exist (R249, R262). -/
def State.htDemand (s : State) (h : Nat) : Nat :=
  let n := s.fld F.HTR_CFG_SLOT h
  if n ≤ 95 then (s.slotU n).toNat else 0

/-! ### Phase angle (R251) -/

/-- π in 2^-60. -/
def pi60 : Int := 3622009729038561421

/-- sin x for 0 ≤ x ≤ π/2, all in 2^-60: `n` terms of its series. -/
def sinSeries : Nat → Int → Int → Int → Int
  | 0, _, _, _ => 0
  | n + 1, x2, term, k => term + sinSeries n x2 (-(term * x2 / 2 ^ 60) / ((k + 1) * (k + 2))) (k + 2)

/-- sin of an angle in 0.1°, from 0 to 360°, in 2^-60. -/
def sinDeci (a : Nat) : Int :=
  let up := fun (q : Nat) => let x := pi60 * q / 1800; sinSeries 14 (x * x / 2 ^ 60) x 1
  if a ≤ 900 then up a else if a ≤ 1800 then up (1800 - a) else if a ≤ 2700 then -(up (a - 1800)) else -(up (3600 - a))

/-- 1 − α/180° + sin(2α)/(2π) for α in 0.1°, in 2^-60. -/
def phaseFraction (a : Nat) : Int := 2 ^ 60 - 2 ^ 60 * a / 1800 + sinDeci (2 * a) * 2 ^ 60 / (2 * pi60)

/-- The smallest α in 0.1°, from AMIN, that delivers no more than the demand: by bisection between `lo` and `hi`. -/
def angleFor : Nat → Nat → Nat → Nat → Nat
  | 0, _, _, hi => hi
  | n + 1, d, lo, hi =>
    if hi ≤ lo then hi
    else
      let m := (lo + hi) / 2
      if phaseFraction m * fullPower ≤ 2 ^ 60 * (d : Int) then angleFor n d lo m else angleFor n d (m + 1) hi

/-- α of a demand; none when it needs more than 180° − AMIN. -/
def State.htAngle (s : State) (h d : Nat) : Option Nat :=
  let m := s.fld F.HTR_TIME_AMIN h
  let lo := if 1 ≤ m ∧ m ≤ 45 then 10 * m else 50
  let a := angleFor 12 d lo 1801
  if a ≤ 1800 - lo then some a else none

/-! ### The flicker account (R255) -/

/-- The largest `r` with r^5 ≤ v, looked for from bit `n - 1` down. -/
def fifthRoot : Nat → Nat → Nat → Nat
  | 0, _, r => r
  | n + 1, v, r => if (r + 2 ^ n) ^ 5 ≤ v then fifthRoot n v (r + 2 ^ n) else fifthRoot n v r

/-- t_f = 2.3 × |d|^3.2 s in ns, with |d| = a / b in percent. -/
def flickerTime (a b : Nat) : Nat := fifthRoot 96 (2300000000 ^ 5 * a ^ 16 / b ^ 16) 0

/-- |d| of a change of current, as a fraction of 1 %: `di` in 0.01 A times 1/32,767. -/
def State.dNum (s : State) (di : Int) : Nat := di.natAbs * s.fld F.HTR_FLK_CFG_ZREF 8
def State.dDen (s : State) : Nat := 100 * s.udin * fullPower

/-- Charges of a phase in the last 600 s, in ns. -/
def State.flickerSum (s : State) (ph : Nat) : Nat :=
  ((s.sched.charges.filter fun c => c.ph == ph && decide (s.now < c.at_ + 600 * 10 ^ 9)).map (·.tf)).sum

/-- Is P_st of a sum of charges at most `v / q`? -/
def pstAtMost (sum v q : Nat) : Bool := decide (sum ^ 5 * q ^ 16 ≤ (600 * 10 ^ 9) ^ 5 * v ^ 16)

/-- P_st in 0.001, rounded down: the bits of it that fit, from bit `n - 1` down. -/
def pstOf : Nat → Nat → Nat → Nat
  | 0, _, r => r
  | n + 1, sum, r =>
    if (600 * 10 ^ 9) ^ 5 * (r + 2 ^ n) ^ 16 ≤ sum ^ 5 * 1000 ^ 16 then pstOf n sum (r + 2 ^ n) else pstOf n sum r

/-- The P_st registers follow the account. -/
def State.showPst (s : State) : State :=
  let s := s.setFld F.HTR_FLK_STAT_PST_0 8 (pstOf 10 (s.flickerSum 0) 0)
  let s := s.setFld F.HTR_FLK_STAT_PST_1 8 (pstOf 10 (s.flickerSum 1) 0)
  s.setFld F.HTR_FLK_STAT_PST_2 8 (pstOf 10 (s.flickerSum 2) 0)

/-- A change of a phase's current is charged. -/
def State.charge (s : State) (ph : Nat) (di : Int) : State :=
  if di = 0 then s
  else
    let c : Charge := { ph := ph, at_ := s.now, tf := flickerTime (s.dNum di) s.dDen }
    let kept := s.sched.charges.filter fun c => decide (s.now < c.at_ + 600 * 10 ^ 9)
    { s with sched := { s.sched with charges := c :: kept } }.showPst

/-- The changes a limit of `dmax` (in 0.1 %) allows: heaters of lowest number whose combined change fits, after changes
`base` that are made in any case. -/
def State.splitChange (s : State) (base : Int) (dmax : Nat) : List (Nat × Int) → List Nat
  | [] => []
  | (h, di) :: rest =>
    if 10 * s.dNum (base + di) ≤ dmax * s.dDen then h :: s.splitChange (base + di) dmax rest else []

/-! ### The throttle (R259) -/

/-- Power a class and a media weight need of the fuser, in W (R42 check 5). -/
def State.fuserNeed (s : State) (c gsm : Nat) : Nat :=
  s.bundle.fusBase.getD c 0 * 10 + s.bundle.fusGsm.getD c 0 * gsm

/-- The most recently admitted frame still in flight needs more than there is. -/
def State.trigMains (s : State) : Bool :=
  s.flag F.HTR_THR_EN_MAINS 8 && match s.flight.getLast? with
    | some c => decide (10 * (s.reg (F.MNS_PAVAIL.addr 0)).toNat
        < s.fuserNeed (s.ctx c).cls (s.ctx c).gsm + 10 * s.fld F.APR_PRSV_WATTS 0)
    | none => false

def State.trigTemp (s : State) : Bool :=
  (List.range 24).any fun n => bit (s.fld F.HTR_THR_EN_TS 8) n && decide (2 ≤ s.fld F.TMP_STAT_STATE n)

def State.trigSat (s : State) : Bool :=
  s.flag F.HTR_THR_EN_SAT 8 && (List.range 8).any fun h => match (s.htr h).satAt with
    | some t => decide (t + max 1 (s.fld F.HTR_THR_CFG_SAT_T 8) * 100000000 ≤ s.now)
    | none => false

/-- CAUSE, as bits 2 to 0. -/
def State.thrCause (s : State) : Nat :=
  (if s.trigMains then 1 else 0) + (if s.trigTemp then 2 else 0) + (if s.trigSat then 4 else 0)

/-- The triggers are looked at: NONE to REQUESTED, and back when every trigger is clear. -/
def State.thrEval (s : State) : State :=
  let c := s.thrCause
  let s := s.setFld F.HTR_THR_STAT_CAUSE 8 c
  let st := s.fld F.HTR_THR_STAT_STATE 8
  let clear := if st = 2 ∧ c = 0 then some (s.sched.clearAt.getD s.now) else none
  let s := { s with sched := { s.sched with clearAt := clear } }
  if st = 0 ∧ c ≠ 0 then
    let s := { s with sched := { s.sched with thrAt := s.now } }
    (s.setFld F.HTR_THR_STAT_STATE 8 1).event B.HTR 8 0
  else if st = 1 ∧ c = 0 then (s.setFld F.HTR_THR_STAT_STATE 8 0).event B.HTR 8 2
  else s

/-- Grace in ns. -/
def State.grace (s : State) : Nat := max 1 (s.fld F.HTR_THR_CFG_GRACE 8) * 100000000

/-- HTR_THR_STAT.REMAIN (R263). -/
def State.thrRemain (s : State) : Nat :=
  if s.fld F.HTR_THR_STAT_STATE 8 = 1 then min 0xFFFF ((s.sched.thrAt + s.grace - s.now) / 10000000) else 0

/-- THR_ENFORCE: the grace timer expires. -/
def thrEnforce (s : State) : State :=
  let s := s.thrEval
  if s.fld F.HTR_THR_STAT_STATE 8 = 1 ∧ s.sched.thrAt + s.grace ≤ s.now then (s.setFld F.HTR_THR_STAT_STATE 8 2).event B.HTR 8 1 else s

def execThrEnforce (s : State) : Host.Outcome State Fault Refusal :=
  .next (s.finish (if s.domOn .ana then thrEnforce s else s))

/-- Every trigger has been clear for HOLD in ENFORCED; HOLD of 0 is taken as 1 (R263). -/
def State.heldClear (s : State) : Bool := match s.sched.clearAt with
  | some t => decide (t + max 1 (s.fld F.HTR_THR_CFG_HOLD 8) * 1000000000 ≤ s.now)
  | none => false

/-- THR_END: every trigger has been clear for HOLD in ENFORCED, or is clear in REQUESTED. -/
def thrEnd (s : State) : State :=
  let s := s.thrEval
  if s.fld F.HTR_THR_STAT_STATE 8 = 2 ∧ s.heldClear then (s.setFld F.HTR_THR_STAT_STATE 8 0).event B.HTR 8 2 else s

def execThrEnd (s : State) : Host.Outcome State Fault Refusal := .next (s.finish (if s.domOn .ana then thrEnd s else s))

/-! ### Enabling and stopping (R252, R253) -/

/-- A value of HTR_CFG that raises CFG_ERR (R262). -/
def State.htBad (s : State) (h : Nat) : Bool :=
  decide (23 < s.fld F.HTR_CFG_PROT h) || s.htPhase h == 3 || s.fld F.HTR_CFG_MODE h == 3

/-- A heater leaves the scheduler: it holds its gate inactive, and the end of its current is charged. -/
def State.htGateOff (s : State) (h : Nat) : State :=
  let x := s.htr h
  let s := s.charge (s.htPhase h) (-((s.inom h : Int) * x.cur))
  let s := s.setHtr h { Htr.init with carry := x.carry, miss := x.miss }
  let s := { s with sched := { s.sched with probe := none } }
  ((s.setFlag F.HTR_STAT_ON h false).setFld F.HTR_STAT_ANGLE h 0).setFlag F.HTR_STAT_SAT h false

/-- HTR_CTRL.EN = 1. -/
def htrEnable (h : Nat) (s : State) : State :=
  if ¬ s.sys.mode.moves then s
  else
    let s := s.setFlag F.HTR_CTRL_EN h true
    if s.htState h ≠ htOff ∨ ¬ s.pageEn B.HTR h then s
    else if s.htBad h then (s.setFld F.HTR_STAT_FCAUSE h 3).event B.HTR h 4
    else ((s.setHtr h Htr.init).setHtState h htRun).setFld F.HTR_STAT_FCAUSE h 0 |>.event B.HTR h 0

/-- The heater is firing or takes part in a supply that fires. -/
def State.htIdle (s : State) (h : Nat) : Bool :=
  (s.htr h).cur == 0 && !s.flag F.HTR_STAT_ON h && decide (s.fld F.MNS_STAT_PSTATE 0 = 0 ∨ s.fld F.MNS_STAT_PSTATE 0 = 3)

/-- A stop for demand, EN = 0 or a change of mode: at the next positive-going crossing; at once where none is
predicted. -/
def State.htStop (s : State) (h : Nat) : State :=
  if s.htServed h ∧ s.htIdle h then (s.htGateOff h).setHtState h htOff else s

/-- HTR_CTRL.EN = 0: FAULT is left for OFF. -/
def htrDisable (h : Nat) (s : State) : State :=
  let s := s.setFlag F.HTR_CTRL_EN h false
  if s.htState h = htFault then
    let s := (s.setHtState h htOff).setFld F.HTR_STAT_FCAUSE h 0
    if (List.range 8).any fun g => s.htState g == htFault && s.fld F.HTR_STAT_FCAUSE g == 2 then s else s.dropFault 163
  else s.htStop h

def State.anaOn (s : State) (h : Nat) : Bool := decide (h < 8) && s.domOn .ana

def execHtrEnable (h : Nat) (s : State) : Host.Outcome State Fault Refusal :=
  .next (s.finish (s.onPage B.HTR h F.HTR_CTRL.off fun s =>
    if s.anaOn h then htrEnable h s else s))
def execHtrDisable (h : Nat) (s : State) : Host.Outcome State Fault Refusal :=
  .next (s.finish (s.onPage B.HTR h F.HTR_CTRL.off fun s =>
    if s.anaOn h then htrDisable h s else s))

/-- A safety stop of one heater (R252) into FAULT with a cause. -/
def State.htFail (s : State) (h cause : Nat) : State :=
  if s.htServed h then (((s.htGateOff h).setHtState h htFault).setFld F.HTR_STAT_FCAUSE h cause).event B.HTR h 1 else s

/-- A safety stop of every heater at LOST: each is blocked until the loop locks again. -/
def State.htLost (s : State) : State :=
  forAll ((List.range 8).filter s.htServed) s fun s h => (s.htGateOff h).setHtState h htSuppress

/-- A safety stop of every heater at a SEVERE or GRAVE reaction, or entry to SAFEHOLD or LOCKDOWN. -/
def State.htAllOff (s : State) : State :=
  forAll ((List.range 8).filter s.htServed) s fun s h => (s.htGateOff h).setHtState h htOff

/-- A fault of protection channel `n` stops the heaters it protects (R257). -/
def State.htProtect (s : State) (n : Nat) : State :=
  forAll ((List.range 8).filter fun h => s.flag F.HTR_CFG_PROT_EN h && s.fld F.HTR_CFG_PROT h == n) s fun s h => s.htFail h 1

/-! ### One cycle (R246 to R251, R254, R255) -/

/-- What a heater would fire in the cycle that starts: its hidden state moved on, the fraction, and whether it stops. -/
structure Want where
  h : Nat
  frac : Nat
  stop : Bool
  /-- Not to be postponed: a stop, or a phase-angle heater for which the loop is not LOCKED (R251). -/
  must : Bool
  /-- Deferred by ILIM (R248). -/
  deferred : Bool

/-- A burst window starts: k and the carry (R250). -/
def State.windowStart (s : State) (h : Nat) : State :=
  let x := s.htr h
  if x.win = 0 ∧ s.htBurst h then
    let n := s.htN h
    let v := (s.htDemand h : Int) * n + x.carry
    let k := clampI 0 n ((2 * v + fullPower) / (2 * fullPower))
    s.setHtr h { x with k := k.toNat, carry := clampI (-(n * fullPower)) (n * fullPower) (v - k * fullPower) }
  else s

/-- The heater's wish for this cycle, before any limit; `pa`: phase-angle heaters may fire. -/
def State.want (s : State) (pa : Bool) (h : Nat) : Want :=
  let x := s.htr h
  let stop := !s.flag F.HTR_CTRL_EN h || !s.pageEn B.HTR h || !s.sys.mode.moves
  let frac :=
    if stop then 0
    else if s.htBurst h then (if x.win < x.k then fullPower else 0)
    else if s.fld F.HTR_CFG_MODE h = 2 ∧ pa then (if (s.htAngle h (s.htDemand h)).isSome then s.htDemand h else 0)
    else 0
  { h := h, frac := frac, stop := stop, must := stop || (s.fld F.HTR_CFG_MODE h == 2 && !pa), deferred := false }

/-- ILIM, lowest heater number first: a burst heater that does not fit is deferred, a phase-angle heater takes what is
left, if an angle delivers it (R248, R251). `room` in 0.01 A times 1/32,767. -/
def State.limitCurrent (s : State) (ph : Nat) : Nat → List Want → List Want
  | _, [] => []
  | room, w :: ws =>
    if s.htPhase w.h ≠ ph then w :: s.limitCurrent ph room ws
    else
      let i := s.inom w.h
      if i * w.frac ≤ room then w :: s.limitCurrent ph (room - i * w.frac) ws
      else
        let f := if s.htBurst w.h ∨ (s.htAngle w.h (room / i)).isNone then 0 else room / i
        { w with frac := f, deferred := true } :: s.limitCurrent ph (room - i * f) ws

/-- A heater's carry moved by a postponed or deferred cycle, held to ±N; DEFER at the clamp. -/
def State.addCarry (s : State) (h : Nat) (cycles : Int) : State :=
  let x := s.htr h
  let m : Int := s.htN h * fullPower
  let c := clampI (-m) m (x.carry + cycles * fullPower)
  let s := s.setHtr h { x with carry := c }
  if c ≠ x.carry ∧ (c = m ∨ c = -m) then s.event B.HTR h 3 else s

/-- The change of a heater's current that a wish makes, in 0.01 A times 1/32,767. -/
def State.wantChange (s : State) (w : Want) : Int := (s.inom w.h : Int) * ((w.frac : Int) - ((s.htr w.h).cur : Int))

/-- The current of a phase's heaters once those named have changed. -/
def State.currentWith (s : State) (ws : List Want) (made : List Nat) : Nat :=
  (ws.map fun w => s.inom w.h * (if made.contains w.h then w.frac else (s.htr w.h).cur)).sum

/-- As `splitChange`, passing over the changes with which the phase would draw more than `room`. -/
def State.splitWithin (s : State) (ws : List Want) (room dmax : Nat) : Int → List Nat → List Want → List Nat
  | _, made, [] => made
  | base, made, w :: rest =>
    let b := base + s.wantChange w
    if 10 * s.dNum b ≤ dmax * s.dDen ∧ s.currentWith ws (w.h :: made) ≤ room then s.splitWithin ws room dmax b (w.h :: made) rest
    else s.splitWithin ws room dmax base made rest

/-- The answer of the flicker account and of ILIM for one phase: the heaters whose change is made. The current limit
outranks the account: a change that would exceed it is not made, and where postponing would exceed it every fall of
current is made (assumption 115). -/
def State.phaseChanges (s : State) (ph room : Nat) (ws : List Want) : List Nat × State :=
  let ws := ws.filter fun w => s.htPhase w.h == ph
  let mine := ws.filter fun w => decide (w.frac ≠ (s.htr w.h).cur)
  let forced := mine.filter (·.must)
  let free := mine.filter fun w => !w.must
  let base := (forced.map s.wantChange).sum
  let must := forced.map (·.h)
  let dl := s.fld F.HTR_FLK_CFG_DLIM 8
  let dmax := if 1 ≤ dl ∧ dl ≤ 40 then dl else 30
  let fit := must ++ s.splitChange base dmax (free.map fun w => (w.h, s.wantChange w))
  let fit := if s.currentWith ws fit ≤ room then fit else s.splitWithin ws room dmax base must free
  let total := fun (l : List Nat) => ((mine.filter fun w => l.contains w.h).map s.wantChange).sum
  let pl := s.fld F.HTR_FLK_CFG_PST_LIM 8
  let lim := if 10 ≤ pl ∧ pl ≤ 100 then pl else 90
  let late := !pstAtMost (s.flickerSum ph + flickerTime (s.dNum (total fit)) s.dDen) lim 100
    && fit.any fun h => !must.contains h
  let made := if late then must else fit
  let made := if s.currentWith ws made ≤ room then made
    else must ++ (free.filter fun w => decide (w.frac < (s.htr w.h).cur)).map (·.h)
  let s := if late then s.event B.HTR 8 3 else s
  (made, s.charge ph (total made))

/-- A heater's rise of current waits for ILIM. -/
def State.overLimit (s : State) (room : Nat) (ws : List Want) (made : List Nat) (w : Want) : Bool :=
  let mine := ws.filter fun v => s.htPhase v.h == s.htPhase w.h
  !made.contains w.h && decide ((s.htr w.h).cur < w.frac ∧ room < s.currentWith mine (w.h :: made))

/-- HTR_STAT.SAT follows the report of saturation (R253). -/
def State.reportSat (s : State) (h : Nat) (b : Bool) : State :=
  let x := s.htr h
  let s := if b ∧ ¬ s.flag F.HTR_STAT_SAT h then s.event B.HTR h 2 else s
  let s := s.setHtr h { x with satAt := if b then some (x.satAt.getD s.now) else none }
  s.setFlag F.HTR_STAT_SAT h b

/-- A heater's part of the cycle that starts: `made` says whether its change, if any, is made now. -/
def State.fireOne (s : State) (w : Want) (made : Bool) : State :=
  let x := s.htr w.h
  if w.stop then (s.setHtr w.h { x with cur := 0 }).htGateOff w.h |>.setHtState w.h htOff
  else
    let changes := decide (w.frac ≠ x.cur)
    let postponed := changes && !made
    let cur := if postponed then x.cur else w.frac
    let n := s.htN w.h
    let s := s.setHtr w.h
      { x with
        cur := cur, win := (x.win + 1) % n, post := if postponed then x.post + 1 else 0
        onAt := if s.flag F.HTR_STAT_ON w.h then x.onAt else s.mns.fireAt }
    let s := if s.htBurst w.h ∧ postponed then s.addCarry w.h (if x.cur = 0 then 1 else -1)
      else if s.htBurst w.h ∧ w.deferred then s.addCarry w.h 1 else s
    let s := if postponed ∧ x.post = n then s.event B.HTR w.h 3 else s
    let s := s.setFlag F.HTR_STAT_ON w.h (decide (cur ≠ 0))
    let s := s.setFld F.HTR_STAT_ANGLE w.h (if s.htBurst w.h ∨ cur = 0 then 0 else (s.htAngle w.h cur).getD 0)
    let s := s.setFld F.HTR_DEMAND_DEMAND w.h (if s.htBurst w.h then s.htDemand w.h else cur)
    let s := s.setFld F.HTR_DEMAND_CARRY w.h (unsign ((s.htr w.h).carry * 256 / fullPower) 16)
    let blocked := w.deferred || (postponed && x.cur == 0)
    let s := s.setHtState w.h (if blocked ∧ cur = 0 then htSuppress else htRun)
    let full := s.htDemand w.h == fullPower
    s.reportSat w.h (full || w.deferred || decide ((s.htr w.h).carry = n * fullPower) || decide (n < (s.htr w.h).post))

/-- The current check on phase 0 (R254): the change measured, then the next boundary at which one burst heater changes
alone. -/
def State.checkCurrent (s : State) (i1 : Nat) : State :=
  match s.sched.probe with
  | none => s
  | some (h, i0) =>
    let s := { s with sched := { s.sched with probe := none } }
    let di := ((i1 : Int) - i0).natAbs
    let x := s.htr h
    if 3 * s.inom h ≤ 4 * di ∧ 4 * di ≤ 5 * s.inom h then s.setHtr h { x with miss := 0 }
    else if x.miss + 1 < 4 then s.setHtr h { x with miss := x.miss + 1 }
    else (((s.setHtr h { x with miss := 0 }).htFail h 2).raiseFault 163)

def State.armCheck (s : State) (made : List Nat) (i1 : Option Nat) : State :=
  match made.filter (fun h => s.htPhase h == 0), i1 with
  | [h], some i => if s.htBurst h ∧ s.htServed h then { s with sched := { s.sched with probe := some (h, i) } } else s
  | _, _ => s

/-- HTR at a positive-going crossing, predicted or met (R250 to R255). `i1`: the one-cycle RMS current of phase 0, where
it was measured. -/
def State.heaterCycle (s : State) (i1 : Option Nat) : State :=
  let s := forAll ((List.range 8).filter fun h => s.flag F.HTR_STAT_ON h) s fun s h => s.bump F.HTR_ON_CNT h
  let s := match i1 with
    | some i => s.checkCurrent i
    | none => { s with sched := { s.sched with probe := none } }
  let served := (List.range 8).filter s.htServed
  if s.sched.suppress ≠ 0 then
    let s := { s with sched := { s.sched with suppress := s.sched.suppress - 1 } }
    let s := forAll served s fun s h =>
      if (s.want false h).stop then (s.htGateOff h).setHtState h htOff
      else
        let s := ((s.setFlag F.HTR_STAT_ON h false).setFld F.HTR_STAT_ANGLE h 0).setHtState h htSuppress
        s.reportSat h (s.htDemand h == fullPower || decide ((s.htr h).carry = s.htN h * fullPower))
    s.showPst.thrEval
  else
    let s := forAll served s State.windowStart
    let room := s.fld F.MNS_AVAIL_ILIM 0 * 10 * fullPower
    let ws := served.map (s.want (s.fld F.MNS_STAT_PSTATE 0 == 1))
    let ws := forAll [0, 1, 2] ws fun ws ph => s.limitCurrent ph room ws
    let (made, s) := [0, 1, 2].foldl (fun (a : List Nat × State) ph =>
      let r := a.2.phaseChanges ph room ws
      (a.1 ++ r.1, r.2)) ([], s)
    let ws := ws.map fun w => { w with deferred := w.deferred || s.overLimit room ws made w }
    let s := ws.foldl (fun s w => s.fireOne w (made.contains w.h)) s
    ((s.armCheck made i1).showPst).thrEval

/-- A resync (R246): burst heaters end their cycle and no other heater fires; two full cycles are suppressed, and one
switch-off and one switch-on of what was firing are charged on each phase. -/
def State.heaterResync (s : State) : State :=
  let s := forAll ((List.range 8).filter fun h => s.htServed h && !s.htBurst h) s fun s h =>
    (s.setFlag F.HTR_STAT_ON h false).setFld F.HTR_STAT_ANGLE h 0
  let s := forAll [0, 1, 2] s fun s ph =>
    let i := (((List.range 8).filter fun h => s.htServed h && s.htPhase h == ph).map fun h =>
      (s.inom h : Int) * (s.htr h).cur).sum
    (s.charge ph (-i)).charge ph i
  { s with sched := { s.sched with suppress := 2, probe := none } }

/-! ### The gates (R249 to R251) -/

/-- HT_n while the heater is ON, counted from the predicted crossing at which the half-cycle began: a triac gate pulses for
GPW at GDLY, or at α; an SSR gate is high from GDLY after the crossing that starts the burst, or in each half-cycle from
α on. -/
def State.htGate (s : State) (h : Nat) : Bool :=
  let t := s.mns.fireAt + (if s.htBurst h then s.fld F.HTR_TIME_GDLY h * 1000 else s.fld F.HTR_STAT_ANGLE h * s.mns.half / 1800)
  s.domOn .ana && s.flag F.HTR_STAT_ON h &&
    if s.flag F.HTR_CFG_GATE h then decide (t ≤ s.now ∧ s.now < t + s.fld F.HTR_TIME_GPW h * 10000)
    else if s.htBurst h then decide ((s.htr h).onAt + s.fld F.HTR_TIME_GDLY h * 1000 ≤ s.now)
    else decide (t ≤ s.now ∧ s.now < s.mns.fireAt + s.mns.half)

end Sys2Proof.Machine
end

