-- ==== Sys2Proof/Machine/Apr.lean ====
section
/-! DEFINITION. The Aperture: commands, the seven checks, admission and denial; and image-ring postings (R32 to R35, R42
to R46, R61 to R65, R69). -/

namespace Sys2Proof.Machine

/-! ### The examination's quantities -/

/-- E_last's frame: the most recently admitted one still in flight (R42). -/
def State.lastFlight (s : State) : Option Ctx := s.flight.getLast?.map s.ctx

/-- APR_LEAD, at least 144 (R55). -/
def State.lead (s : State) : Nat := max 144 (s.fld F.APR_LEAD_LINES 0)

/-- G of check 7. -/
def State.gapFor (s : State) (prev x : Ctx) : Nat :=
  if prev.cls = x.cls then s.fld F.APR_GAP_MIN_LINES 0 else s.fld F.APR_GAP_CLASS_LINES 0

/-- The planes a frame needs: station, plane and index address. -/
def Ctx.planes (x : Ctx) : List (Nat × Nat × Nat) :=
  x.stations.flatMap fun n =>
    (n, 0, x.planeAddr n 0) :: if x.planeAddr n 1 = 0 then [] else [(n, 1, x.planeAddr n 1)]

/-- A plane record matches the frame's descriptor (R64). -/
def Ctx.matches (x : Ctx) (n plane : Nat) (r : PlaneRec) : Bool :=
  decide (r.station = n ∧ r.plane = plane ∧ r.bpp = x.bppOf plane ∧ r.width = x.width ∧ r.length = x.facets
    ∧ r.serial = x.serial)

/-- Reason bits (R44). -/
def rResident : Nat := 0
def rIntegrity : Nat := 1
def rDecode : Nat := 2
def rBandmem : Nat := 3
def rCorbank : Nat := 4
def rThermal : Nat := 5
def rThermstop : Nat := 6
def rMains : Nat := 7
def rRingslot : Nat := 8
def rInflight : Nat := 9
def rReach : Nat := 10
def rRelockBit : Nat := 11
def rMode : Nat := 13
def rHold : Nat := 14
def rSerial : Nat := 15
def rConfig : Nat := 16
def rSign : Nat := 17

/-- Check 1 (R42, R64): the failing bits of one plane. -/
def State.check1 (s : State) (x : Ctx) (n plane addr : Nat) : List Nat :=
  match s.findRec addr with
  | none => [rResident]
  | some (_, r) =>
    (if r.bad ∨ ¬ x.matches n plane r ∨ r.nPoison ≠ 0 ∨ r.nHdrerr ≠ 0 then [rIntegrity] else [])
      ++ (if r.nRes ≠ r.nBlocks then [rResident] else [])

/-- Check 2 (R42, R82): the decode budget of one station. -/
def State.check2 (s : State) (x : Ctx) (n : Nat) : Bool :=
  let k := if x.planeAddr n 1 = 0 then 0 else ((s.findRec (x.planeAddr n 1)).map (·.2.k)).getD 0
  decide ((x.width + k) * 197120 ≤ 16 * s.scPeriod x.cls * min 1000 (s.fld F.APR_DEC_MARGIN_MARGIN 0) / 1024)

/-- Check 3 (R42, R97, R113): the failing bits of one station. -/
def State.check3 (s : State) (x : Ctx) (n : Nat) : List Nat :=
  let ymax := s.yMax n x.width
  let bank := s.holdsSet n 0 x.corSet || s.holdsSet n 1 x.corSet
  let gap := match s.lastFlight with
    | some p => decide (p.corSet ≠ x.corSet)
        && decide (x.start + x.trim n - (p.stop + p.trim n) < 48 * ((s.ilace n : Int) + 1) + 2 * ymax)
    | none => false
  (if s.fmtReady n ∧ 1 ≤ ymax then [] else [rBandmem]) ++ (if bank && !gap then [] else [rCorbank])

/-- EXP_SUM and EXP_PEAK of each band of a plane, an overlay's mapped by the station's overlay map (R42, R81). -/
def State.planeDuty (s : State) (n plane addr bands : Nat) : List (Nat × Nat) :=
  match s.findRec addr with
  | none => List.replicate bands (0, 0)
  | some (_, r) =>
    let m := s.ovMax n
    (List.range bands).map fun b =>
      (s.bandEntries r b).foldl (fun acc i =>
        let h := s.lmemBytes (entAddr (s.entryBytes r.addr i)) 32
        let es := fieldAt h 0x14 4; let ep := fieldAt h 0x18 2
        if plane = 0 then (acc.1 + es, acc.2 + ep) else (acc.1 + ceilDiv (es * m) 15, acc.2 + ceilDiv (ep * m) 15)) (0, 0)

/-- Predicted demand of a frame at a station, by band: of the array, and of any one emitter. -/
def State.frameDuty (s : State) (x : Ctx) (n : Nat) : List (Nat × Nat) :=
  let b := s.planeDuty n 0 (x.planeAddr n 0) x.facets
  if x.planeAddr n 1 = 0 then b
  else (b.zip (s.planeDuty n 1 (x.planeAddr n 1) x.facets)).map fun p => (p.1.1 + p.2.1, p.1.2 + p.2.2)

/-- The demand of the facets before S at a station, oldest first: the duty history, then the frames still to be written
with the gaps between them; and the coordinate they reach. -/
def State.dutyBefore (s : State) (n : Nat) : List (Nat × List Nat) × Int :=
  let f := (s.stn n).fmt
  (s.byOrder (s.ctxsWith fun x => x.live n)).foldl (fun acc c =>
    let x := s.ctx c
    let o := x.origin n
    let gap := ((o - acc.2) / 48).toNat
    let skip := ((acc.2 - o) / 48).toNat
    let bands := ((s.frameDuty x n).drop skip).map fun b => (b.1, List.replicate 48 b.2)
    (acc.1 ++ List.replicate (min 1024 gap) (0, List.replicate 48 0) ++ bands, o + 48 * x.facets))
    (f.duty.reverse.map (fun d => (d.arr, d.emi)), if f.wrote then f.base + 48 else s.linePos n)

/-- Check 4 (R42, R116): the failing bits of one station. -/
def State.check4 (s : State) (x : Ctx) (n : Nat) : List Nat :=
  let f := (s.stn n).fmt
  let (before, c) := s.dutyBefore n
  let gap := ((x.origin n - c) / 48).toNat
  let own := (s.frameDuty x n).map fun b => (b.1, List.replicate 48 b.2)
  let all := before ++ List.replicate (min 1024 gap) (0, List.replicate 48 0) ++ own
  let derate := if f.arrState = 0 then 8 else 7
  let skip := all.length - own.length
  let windows := (List.range own.length).map fun b =>
    let e := skip + b + 1
    (all.drop (e - 1024)).take (min 1024 e)
  let arrOk := windows.all fun w => decide (8000 * (w.map (·.1)).sum ≤ s.fld F.FMT_CAP_ARR n * derate * (48 * fullEmi))
  let emiOk := windows.all fun w => (List.range 48).all fun e =>
    decide (8000 * (w.map fun d => d.2.getD e 0).sum ≤ s.fld F.FMT_CAP_EMI n * derate * fullEmi)
  (if arrOk && emiOk && decide (f.arrState < 2) then [] else [rThermal])
    ++ (if f.arrState = 3 ∨ bit (s.fld F.APR_STN_STOP_STOP 0) n then [rThermstop] else [])

/-- Check 5. -/
def State.check5 (s : State) (x : Ctx) : Bool :=
  decide (s.fuserNeed x.cls x.gsm + 10 * s.fld F.APR_PRSV_WATTS 0 ≤ 10 * s.fld F.MNS_PAVAIL 0)

/-- Check 6 (R40, R42): the failing bits. A ring with RING_CTRL.EN = 0 has no slot to give: that it fails RINGSLOT is the
model's choice (assumption 92). -/
def State.check6 (s : State) (x : Ctx) : List Nat :=
  let rings := s.ringEn x.audRing && s.ringEn x.evRing && s.ringWritable x.evRing && decide (1 ≤ s.ringFree x.audRing)
    && decide (4 ≤ s.ringFree x.evRing)
  (if rings then [] else [rRingslot]) ++ (if s.flight.length + 1 ≤ 48 then [] else [rInflight])
    ++ (if s.flag F.SEC_STAT_SIGN_OK 0 then [] else [rSign])

/-- ENFORCED throttling treats a class as not programmed (R259). -/
def State.throttled (s : State) (c : Nat) : Bool :=
  let t := s.fld F.HTR_THR_CFG_CLASS 8
  s.fld F.HTR_THR_STAT_STATE 8 == 2 && (s.scPeriod t == 0 || decide (s.scPeriod c < s.scPeriod t))

/-- Check 7 (R42, R55, R133, R179): the failing bits. -/
def State.check7 (s : State) (x : Ctx) : List Nat :=
  let reach := s.posQ.isSome && s.xportReady && decide ((s.lead : Int) ≤ x.start - s.pos)
    && match s.lastFlight with
      | some p => decide (p.stop + (s.gapFor p x : Int) ≤ x.start)
      | none => true
  let speed := x.stations.all (fun n => s.programmed n x.cls) && !s.throttled x.cls
  let lock := x.stations.all fun n =>
    s.locked n || (s.flag F.FAC_STAT_RETUNE n && !(s.stn n).fac.relockFail)
  (if reach && speed then [] else [rReach]) ++ (if lock then [] else [rRelockBit])

/-- A mask with the bits of a list set. -/
def maskOf (bs : List Nat) : Nat := bs.foldl setBit 0

/-- R43's conditions. While a change to another mode than READY or PRINT runs, an examination is denied with MODE although
MODE still reads the mode being left: the model's choice (assumption 93; R54 has it so for SAFEHOLD). -/
def State.check8 (s : State) (x : Ctx) : List Nat :=
  let leaving := match s.sys.trans with
    | some t => !(t.target = .ready || t.target = .print)
    | none => false
  (if (s.sys.mode = .ready || s.sys.mode = .print) && !leaving then [] else [rMode])
    ++ (if s.flag F.APR_CTRL_HOLD 0 ∨ x.stations.any (fun n => bit (s.fld F.APR_CTRL_STN_HOLD 0) n) then [rHold] else [])
    ++ (if x.serial ≤ s.pair64 F.APR_LAST_SERIAL_LO 0 then [rSerial] else [])
    ++ (if s.bundle.ok ∧ x.cfgId = s.fld F.SEC_CFG_ID 0 then [] else [rConfig])

/-- The reason mask of one examination (R42 to R44). -/
def State.examMask (s : State) (x : Ctx) : Nat :=
  maskOf ((x.planes.flatMap fun p => s.check1 x p.1 p.2.1 p.2.2)
    ++ (if x.stations.all (s.check2 x) then [] else [rDecode])
    ++ x.stations.flatMap (s.check3 x) ++ x.stations.flatMap (s.check4 x)
    ++ (if s.check5 x then [] else [rMains]) ++ s.check6 x ++ s.check7 x ++ s.check8 x)

/-- Bytes of a plane's blocks that are not resident (R46, R64). -/
def State.missing (s : State) (addr : Nat) : Nat :=
  match s.findRec addr with
  | some (_, r) => r.missing
  | none => fieldAt (s.lmemBytes (addr + 0x20) 8) 0 8

/-- The earliest S of a denial (R46); 0 where none can be computed. -/
def State.earliest (s : State) (x : Ctx) (mask : Nat) : Nat :=
  let t := s.scPeriod x.cls
  if (bit mask rResident ∨ bit mask rReach) ∧ t ≠ 0 ∧ s.posQ.isSome then
    let r := s.fld F.APR_LINK_RATE_RATE 0
    let rate := if 10 ≤ r ∧ r ≤ 320 then r else 280
    let miss := (x.planes.map fun p => s.missing p.2.2).sum
    let e := s.pos + s.lead + (ceilDiv (480 * miss) (t * rate) : Nat)
    unsign (match s.lastFlight with
      | some p => max e (p.stop + s.gapFor p x)
      | none => e) 64
  else 0

/-- ADMIT is committed in one step (R40, R45): slots, in-flight count, APR_LAST_SERIAL, state and record; READY becomes
PRINT at the first admission (R25), and the throttle's triggers are looked at (R259). -/
def State.commitAdmit (s : State) (c : Nat) : State :=
  let x := s.ctx c
  let s := (s.ringReserve x.audRing 1).ringReserve x.evRing 3
  let s := s.setCtx c { x with st := .admitted, evRsv := 3, order := s.apr.order, begun := 0 }
  let s := { s with apr := { serials := s.apr.serials ++ [x.serial], order := s.apr.order + 1 } }
  let s := (s.setPair64 F.APR_LAST_SERIAL_LO 0 x.serial).frameEvent c evAdmit 0 0 (unsign x.start 64) false
  (if s.sys.mode = .ready then s.deviceMode .print else s).thrEval

/-- One examination (R42 to R46). -/
def State.examine (s : State) (c : Nat) : State :=
  let x := s.ctx c
  let m := s.examMask x
  if m = 0 then s.commitAdmit c
  else (s.setCtx c { x with reason := m }).frameEvent c evDeny 0 m (s.earliest x m) false

/-! ### Commands (R32 to R35) -/

/-- The command ring served next: the lowest-numbered of rings 12 to 15 with an entry waiting (R35). -/
def State.commandRing (s : State) : Option Nat :=
  if s.domOn .img ∧ s.lmemReady then
    [12, 13, 14, 15].find? fun r => s.ringEn r && decide (s.ringUsed r ≠ 0)
  else none

/-- Every field of a command lies in its range, and every plane address within LMEM (R32, R34). Reserved bits [7:4] of BPP
and RING_SEL count as out of range: BADOP is for reserved bytes (assumption 91). -/
def State.inRange (s : State) (x : Ctx) : Bool :=
  let d := x.desc
  decide (fieldAt d 2 2 < 160 ∧ x.cls ≤ 15 ∧ 1 ≤ x.mask ∧ x.mask < 64 ∧ x.bppOf 0 ≠ 3 ∧ x.bppOf 1 ≠ 3
    ∧ bits (fieldAt d 6 1) 4 4 = 0 ∧ 99 ≤ x.facets ∧ x.facets ≤ 3149 ∧ 1 ≤ x.width ∧ x.width ≤ 12
    ∧ bits (fieldAt d 0x1B 1) 4 4 = 0 ∧ 30 ≤ x.gsm ∧ x.gsm ≤ 400)
    && (List.range 6).all (fun n => decide (-512 ≤ x.trim n ∧ x.trim n ≤ 511))
    && (List.range 6).all fun n => decide (x.planeAddr n 0 < s.lmemSize ∧ x.planeAddr n 1 < s.lmemSize)

/-- The fields a RESTAGE may not change (R33). -/
def restageKey (d : List Byte) : List Byte :=
  takeAt d 1 3 ++ takeAt d 5 11 ++ takeAt d 0x18 12 ++ takeAt d 0x30 204

/-- An index of the frame is held or claimed by another context (R65). -/
def State.heldElsewhere (s : State) (c : Nat) (x : Ctx) : Bool :=
  x.planes.any fun p =>
    (match s.findRec p.2.2 with
      | some (_, r) => r.ctx.isSome && r.ctx != some c
      | none => false)
    || s.fst.claims.any fun k => k.addr == p.2.2 && k.ctx != c

/-- The frame's records are held, and its unopened indices claimed (R65). -/
def State.holdPlanes (s : State) (c : Nat) (x : Ctx) : State :=
  (x.planes.foldl (fun s p => match s.findRec p.2.2 with
    | some (i, r) => s.setRec i (some { r with ctx := some c })
    | none =>
      if s.fst.claims.any (·.addr == p.2.2) then s
      else { s with fst := { s.fst with claims := s.fst.claims ++ [Claim.mk p.2.2 c] } }) s).fstStat

/-- APR.REJECT with its code (R34), on the event ring the command names. -/
def State.reject (s : State) (x : Ctx) (code : Nat) : State :=
  let c := fieldAt x.desc 2 2
  (s.event B.APR 0 evReject).writeEvent x.evRing false
    { blk := B.APR, ev := evReject, ctx := if c < 160 then c else 0xFF, cause := 0, reason := code, serial := x.serial,
      arg := s.plainArg x }

/-- What a command does once its CRC, opcode and reserved bytes are good (R33, R34). Where several conditions of R34 fail, a
CTX out of range comes first, then the context's state, then the other ranges, then HELD (assumption 91). The context keeps
the mask of its last DENY or REVOKE through a STAGE or RELEASE (R55). -/
def State.runCommand (s : State) (x : Ctx) : State :=
  let c := fieldAt x.desc 2 2
  let y := s.ctx c
  if 160 ≤ c then s.reject x 5
  else match fieldAt x.desc 0 1 with
  | 1 =>
    if y.st ≠ .free ∧ y.st ≠ .retired then s.reject x 3
    else if !s.inRange x then s.reject x 5
    else if s.heldElsewhere c x then s.reject x 6
    else ((s.setCtx c { Ctx.init with st := .staged, desc := x.desc, reason := y.reason }).holdPlanes c x).examine c
  | 2 =>
    if y.st ≠ .staged ∨ restageKey x.desc ≠ restageKey y.desc then s.reject x 4
    else if !s.inRange x then s.reject x 5
    else
      let d := takeAt y.desc 0 4 ++ takeAt x.desc 4 1 ++ takeAt y.desc 5 11 ++ takeAt x.desc 0x10 8 ++ takeAt y.desc 0x18 12
        ++ takeAt x.desc 0x24 12 ++ takeAt y.desc 0x30 208
      (s.setCtx c { y with desc := d }).examine c
  | 3 =>
    if y.st ≠ .admitted ∧ y.st ≠ .exposing then s.reject x 4
    else if !s.inRange x then s.reject x 5
    else (s.setCtx c { y with dark := 0x3F }).spoil c cHostAbort 384
  | _ =>
    if y.st ≠ .staged then s.reject x 4
    else if !s.inRange x then s.reject x 5
    else (s.freeRecs c).setCtx c { Ctx.init with reason := y.reason }

/-- The Aperture takes the next command where it is one of opcode `op`, or one that no row names (R34, R35, R38). A
poisoned entry fails its CRC (R311). -/
def State.command (s : State) (op : Nat) (errs : List CwErr) : State :=
  match s.commandRing with
  | none => s
  | some r =>
    let a := s.ringAddr r (s.ringHead r)
    let k := (s.lmemByte a).toNat
    if k ≠ op ∧ 1 ≤ k ∧ k ≤ 4 then s
    else
      let s := s.demand a 256 errs
      let bs := s.lmemBytes a 256
      let p := s.poisoned a 256
      let s := s.setFld F.RING_HEAD_INDEX (ringInst r) ((s.ringHead r + 1) % s.ringSize r)
      let x := { Ctx.init with desc := bs }
      if p ∨ fieldAt bs 0xFC 4 ≠ (crc32c (takeAt bs 0 0xFC)).toNat then s.reject x 1
      else if fieldAt bs 0 1 = 0 ∨ 4 < fieldAt bs 0 1 ∨ fieldAt bs 1 1 ≠ 0 ∨ fieldAt bs 0x1E 2 ≠ 0
          ∨ ¬ allZero (takeAt bs 0x94 104) then s.reject x 2
      else s.runCommand x

def execStage (errs : List CwErr) (s : State) : Host.Outcome State Fault Refusal := .next (s.finish (s.command 1 errs))
def execRestage (errs : List CwErr) (s : State) : Host.Outcome State Fault Refusal := .next (s.finish (s.command 2 errs))
def execAbort (errs : List CwErr) (s : State) : Host.Outcome State Fault Refusal := .next (s.finish (s.command 3 errs))
def execRelease (errs : List CwErr) (s : State) : Host.Outcome State Fault Refusal := .next (s.finish (s.command 4 errs))

/-- APR_STN_STOP_CLEAR: a 1 clears a station's bit only while its array is below warning, and ends the cut (R55, R119);
not a bit set in this very cycle (R13). -/
def stnStopClear (v : Word) (s : State) : State :=
  let held := (s.freshBits (F.APR_STN_STOP.addr 0)).toNat
  forAll ((List.range 6).filter fun n => bit v.toNat n && !bit held n && (s.stn n).fmt.arrState == 0) s fun s n =>
    let s := s.setReg (F.APR_STN_STOP.addr 0) (putBits (s.reg (F.APR_STN_STOP.addr 0)) n 1 0)
    (s.setFlag F.FMT_STAT_CUT n false).endDark n darkCut

def execAprStnStopClear (v : Word) (s : State) : Host.Outcome State Fault Refusal :=
  .next (s.finish (s.onPage B.APR 0 F.APR_STN_STOP.off fun s =>
    if s.domOn .img then stnStopClear v s else s))

/-! ### Postings (R61, R62, R65, R69) -/

/-- A record's context is beyond STAGED. -/
def State.beyondStaged (s : State) (slot : Nat) : Bool :=
  match (s.planeRec slot).bind (·.ctx) with
  | some c => decide ((s.ctx c).st ≠ .staged)
  | none => false

/-- FST takes the next posting where it is one of opcode `op`, or one that no row names. One that names an index not yet open
opens it first, also where the posting is then ignored (R69; assumption 128). -/
def State.posting (s : State) (op : Nat) (errs : List CwErr) : State :=
  match s.nextImageRing with
  | none => s
  | some r =>
    let k := (s.lmemByte (s.ringAddr r (s.ringHead r))).toNat
    if k ≠ op ∧ 1 ≤ k ∧ k ≤ 2 then s
    else
      let (s, bs, p) := s.takePosting r errs
      let addr := fieldAt bs 8 8
      if !postingOk bs p then s.badPost
      else match fieldAt bs 0 1 with
        | 1 =>
          match s.findRec addr with
          | some (i, _) => s.postTo r i (fieldAt bs 0x10 4) (fieldAt bs 0x14 4) (s.beyondStaged i) errs
          | none => match s.freeSlot with
            | none => (s.bump F.FST_NOREC 0).event B.FST 0 3
            | some i =>
              let s := s.openIndex addr i errs
              s.postTo r i (fieldAt bs 0x10 4) (fieldAt bs 0x14 4) (s.beyondStaged i) errs
        | 2 => s.dropRec addr
        | _ => s.badPost

def execPost (errs : List CwErr) (s : State) : Host.Outcome State Fault Refusal := .next (s.finish (s.posting 1 errs))
def execDrop (errs : List CwErr) (s : State) : Host.Outcome State Fault Refusal := .next (s.finish (s.posting 2 errs))

end Sys2Proof.Machine
end

