-- ==== Sys2Proof/Machine/Ckpt.lean ====
section
/-! DEFINITION. The checkpoint records of the receipt chain (R163). Which words of the SEC region hold them is the
model's (assumption 6). -/

namespace Sys2Proof.Machine

/-- The record the selector points to: 0 = A, 1 = B. -/
def State.ckptSel (s : State) : Nat := (s.keepWord kwSel).toNat % 2

/-- HEAD of the selected record. -/
def State.ckptHead (s : State) : List Byte :=
  (s.keepWords (kwCkpt s.ckptSel 0) 12).flatMap fun w => leBytes 4 w.toNat

/-- CTR, CEIL and CLEAN of the selected record. -/
def State.ckptCtr (s : State) : Nat :=
  (s.keepWord (kwCkpt s.ckptSel 12)).toNat + 2 ^ 32 * (s.keepWord (kwCkpt s.ckptSel 13)).toNat
def State.ckptCeil (s : State) : Nat :=
  (s.keepWord (kwCkpt s.ckptSel 14)).toNat + 2 ^ 32 * (s.keepWord (kwCkpt s.ckptSel 15)).toNat
def State.ckptClean (s : State) : Bool := s.keepWord (kwCkpt s.ckptSel 16) == 1

/-- 2^ATT_CKPT.LOG2; values outside 13 to 24 are taken as 16 (R177). -/
def State.ckptStep (s : State) : Nat :=
  let l := s.fld F.ATT_CKPT_LOG2 0
  2 ^ (if 13 ≤ l ∧ l ≤ 24 then l else 16)

/-- A commit begins. -/
def State.startCkpt (s : State) (k : Ckpt) : State :=
  { s with att := { s.att with ckpts := s.att.ckpts ++ [k] } }.setFlag F.ATT_STAT_CKPT_BUSY 0 true

/-- A commit that raises CEIL is outstanding. -/
def State.raising (s : State) : Bool := s.att.ckpts.any fun k => k.ceil.isSome

/-- The checkpoint of a power-down, of HIBERNATE and of LOCKDOWN names the last receipt consumed; CLEAN says that it is
also the last written. Before the first receipt of this BOOT nothing of the record changes. -/
def State.ckptDown (s : State) : State :=
  if s.att.firstDone then
    s.startCkpt { head := some s.att.consumed, ceil := none, clean := s.att.consumed.2 == s.att.prev }
  else s.startCkpt { head := none, ceil := none, clean := s.ckptClean }

/-- The sixteen words of a record but CLEAN. -/
def ckptWords (head : List Byte) (ctr ceil : Nat) : List Word :=
  (List.range 12).map (fun i => BitVec.ofNat 32 (fieldAt head (4 * i) 4))
    ++ [BitVec.ofNat 32 ctr, BitVec.ofNat 32 (ctr / 2 ^ 32), BitVec.ofNat 32 ceil, BitVec.ofNat 32 (ceil / 2 ^ 32)]

/-- CKPT_DONE: the oldest commit ends. It writes the record that the selector does not point to and flips the selector;
when a write fails or hits a worn word, CKPT_ERR is raised and SIGN_OK clears (R163, R175). -/
def ckptDone (ok : Bool) (s : State) : State :=
  match s.att.ckpts with
  | [] => s
  | k :: rest =>
    let b := 1 - s.ckptSel
    let s := { s with att := { s.att with ckpts := rest } }.setFlag F.ATT_STAT_CKPT_BUSY 0 (!rest.isEmpty)
    let worn := s.keepWorn kwSel || (List.range 17).any fun i => s.keepWorn (kwCkpt b i)
    if !ok || worn then
      let s := if worn then s.raiseFault 376 else s
      ({ s with att := { s.att with ckptFailed := true } }.event B.ATT 0 2 |>.raiseFault 337).setFlag
        F.SEC_STAT_SIGN_OK 0 false
    else
      let (ctr, head) := k.head.getD (s.ckptCtr, s.ckptHead)
      let s := s.keepStores (kwCkpt b 0) (ckptWords head ctr (k.ceil.getD s.ckptCeil) ++ [if k.clean then 1 else 0])
      (s.keepStore kwSel (BitVec.ofNat 32 b)).event B.ATT 0 1

def execCkptDone (ok : Bool) (s : State) : Host.Outcome State Fault Refusal := .next (s.finish (ckptDone ok s))

end Sys2Proof.Machine
end

