-- ==== Sys2Proof/Machine/P384.lean ====
section
/-! DEFINITION. ECDSA over P-384 as FIPS 186-5 gives it: the curve, signing with a given k, and verification (R2, R156,
R167, R169). -/

namespace Sys2Proof.Machine

/-- The field prime. -/
def ecP : Nat := 2 ^ 384 - 2 ^ 128 - 2 ^ 96 + 2 ^ 32 - 1

/-- The order of the base point. -/
def ecN : Nat :=
  0xFFFFFFFFFFFFFFFFFFFFFFFFFFFFFFFFFFFFFFFFFFFFFFFFC7634D81F4372DDF581A0DB248B0A77AECEC196ACCC52973

/-- The curve's b. -/
def ecB : Nat :=
  0xB3312FA7E23EE7E4988E056BE3F82D19181D9C6EFE8141120314088F5013875AC656398D8A2ED19D2A85C8EDD3EC2AEF

/-- The base point. -/
def ecG : Nat × Nat :=
  (0xAA87CA22BE8B05378EB1C71EF320AD746E1D3B628BA79B9859F741E082542A385502F25DBF55296C3A545E3872760AB7,
   0x3617DE4A96262C6F5D9E98BF9292DC29F8F41DBD289A147CE9DA3113B5F0B8C00A60B1CE1D7E819D7A431D7C90EA0E5F)

/-- `b ^ e mod m`, reading `n` bits of the exponent from the top. -/
def powMod (b e m : Nat) : Nat → Nat
  | 0 => 1 % m
  | n + 1 =>
    let r := powMod b (e / 2) m n
    let r := r * r % m
    if e % 2 = 1 then r * b % m else r

/-- Inverse modulo a prime of at most 384 bits. -/
def invMod (a m : Nat) : Nat := powMod (a % m) (m - 2) m 384

/-- A point; none is the point at infinity. -/
abbrev Pt := Option (Nat × Nat)

/-- Sum of two points. -/
def ptAdd : Pt → Pt → Pt
  | none, q => q
  | p, none => p
  | some (x1, y1), some (x2, y2) =>
    if x1 = x2 ∧ (y1 + y2) % ecP = 0 then none
    else
      let l := if x1 = x2 then (3 * x1 * x1 + ecP - 3) * invMod (2 * y1) ecP % ecP
        else (y2 + ecP - y1) * invMod (x2 + ecP - x1) ecP % ecP
      let x3 := (l * l + 2 * ecP - x1 - x2) % ecP
      some (x3, (l * (x1 + ecP - x3) + ecP - y1) % ecP)

/-- A multiple of a point, reading `n` bits of the factor from the top. -/
def ptMul (k : Nat) (p : Pt) : Nat → Pt
  | 0 => none
  | n + 1 =>
    let r := ptMul (k / 2) p n
    let r := ptAdd r r
    if k % 2 = 1 then ptAdd r p else r

/-- A pair of coordinates is a point of the curve. -/
def ptValid (x y : Nat) : Bool :=
  decide (x < ecP) && decide (y < ecP) && decide ((y * y) % ecP = (x * x * x + (ecP - 3) * x + ecB) % ecP)

/-- Public key of a private key: X then Y, each 48 bytes big-endian. -/
def ecPublic (d : Nat) : List Byte :=
  match ptMul d (some ecG) 384 with
  | some (x, y) => beBytes 48 x ++ beBytes 48 y
  | none => List.replicate 96 0

/-- A signature r then s over a digest, with the per-signature value k (R156). -/
def ecSign (d k : Nat) (digest : List Byte) : List Byte :=
  let z := beNat (digest.take 48)
  match ptMul k (some ecG) 384 with
  | some (x, _) =>
    let r := x % ecN
    beBytes 48 r ++ beBytes 48 (invMod k ecN * (z + r * d) % ecN)
  | none => List.replicate 96 0

/-- Does a signature verify under a public key? -/
def ecVerify (pub digest sig : List Byte) : Bool :=
  let x := beNat (pub.take 48); let y := beNat ((pub.drop 48).take 48)
  let r := beNat (sig.take 48); let t := beNat ((sig.drop 48).take 48)
  let z := beNat (digest.take 48)
  if ¬ ptValid x y ∨ r = 0 ∨ ecN ≤ r ∨ t = 0 ∨ ecN ≤ t then false
  else
    let w := invMod t ecN
    match ptAdd (ptMul (z * w % ecN) (some ecG) 384) (ptMul (r * w % ecN) (some (x, y)) 384) with
    | some (px, _) => px % ecN == r
    | none => false

end Sys2Proof.Machine
end

