-- ==== Sys2Proof/Machine/Sec.lean ====
section
/-! DEFINITION. SEC's lifecycle, keys, tokens and nonce, the zeroization, the TAP and the debug window (R165 to R167,
R171 to R174, R176, R178). -/

namespace Sys2Proof.Machine

/-- Lifecycle codes (R176). -/
def lcBlank : Nat := 0
def lcProvisioned : Nat := 1
def lcField : Nat := 2
def lcReturned : Nat := 3

/-- LC, KEY and ZPEND, as the keep store holds them. -/
def State.lc (s : State) : Nat := (s.keepWord kwLc).toNat % 4
def State.secKey (s : State) : Nat := (s.keepWord kwKey).toNat % 4
def State.zpend (s : State) : Nat := (s.keepWord kwZpend).toNat % 4

/-- The Eyepiece is open. -/
def State.dbgOpen (s : State) : Bool := s.flag F.DBG_STAT_OPEN 0

/-- A byte string held in keep words, byte 4i in bits 7 to 0. -/
def State.keepBytes (s : State) (w n : Nat) : List Byte := (s.keepWords w n).flatMap fun v => leBytes 4 v.toNat

/-- A byte string as the words that hold it. -/
def wordsOf (bs : List Byte) (n : Nat) : List Word := (List.range n).map fun i => BitVec.ofNat 32 (fieldAt bs (4 * i) 4)

/-- A byte string in consecutive registers. -/
def State.regBytes (s : State) (f : Field) (n : Nat) : List Byte :=
  (List.range n).flatMap fun i => leBytes 4 (s.reg ((f.at i).addr 0)).toNat

/-- Consecutive registers given a byte string. -/
def State.setRegBytes (s : State) (f : Field) (bs : List Byte) (n : Nat) : State :=
  forAll (List.range n) s fun s i => s.setReg ((f.at i).addr 0) (BitVec.ofNat 32 (fieldAt bs (4 * i) 4))

/-- IDPUB without its first byte: X then Y; zeros when no identity key is held. -/
def State.idpub (s : State) : List Byte := if s.secKey = 1 then s.keepBytes (kwIdpub 0) 24 else List.replicate 96 0

/-- The uncompressed public key of 97 bytes, or 97 zero bytes (R156, R162). -/
def State.idpub97 (s : State) : List Byte := if s.secKey = 1 then 0x04 :: s.idpub else List.replicate 97 0

/-- EPOCH. -/
def State.epoch (s : State) : Nat := (s.keepWord kwEpoch).toNat % 65536

/-- The HMAC_DRBG seeded from the entropy source: instantiated from nothing, or reseeded (R2, R175). -/
def State.drbgSeed (s : State) (fresh : Bool) : State :=
  let k := if fresh then List.replicate 48 0 else s.sec.drbgK
  let v := if fresh then List.replicate 48 1 else s.sec.drbgV
  let kv := drbgUpdate k v (beBytes 72 (Config.entropy s.freeCtr))
  { s with freeCtr := s.freeCtr + 1, sec := { s.sec with drbgK := kv.1, drbgV := kv.2 } }

/-- `n` bytes of the HMAC_DRBG (R2). -/
def State.drbg (s : State) (n : Nat) : List Byte × State :=
  let r := drbgGenerate n s.sec.drbgK s.sec.drbgV
  (r.1, { s with sec := { s.sec with drbgK := r.2.1, drbgV := r.2.2 } })

/-- A private key, or a signature's k: a number from 1 to n − 1, from 64 bits more than it needs (FIPS 186-5; assumption
3). -/
def State.drbgScalar (s : State) : Nat × State :=
  let r := s.drbg 56
  (1 + beNat r.1 % (ecN - 1), r.2)

/-- The word a read returns. -/
def State.answer (s : State) (w : Word) : State := { s with reply := { word := w, bytes := [], poisoned := false } }

/-- UNSIGNED and SIGN_OK follow the lifecycle and the key (R173). -/
def State.secFollow (s : State) : State :=
  let u := s.lc = lcBlank ∨ s.lc = lcReturned
  (s.setFlag F.SEC_STAT_UNSIGNED 0 u).setFlag F.SEC_STAT_SIGN_OK 0 (decide u || s.secKey == 1)

/-- A key of R165 is held: IDK, BEK, OWNER or a chain head. -/
def State.keyHeld (s : State) : Bool :=
  s.secKey == 1 || s.keepWord kwBekSet == 1 || s.keepWord kwOwnerSet == 1
    || [0, 1].any fun b => (s.keepWords (kwCkpt b 0) 12).any (· ≠ 0)

/-- Steps 3 to 5 of R171: IDK, BEK and both chain heads are overwritten, KEY becomes ZEROIZED if it was VALID, SIGN_OK
clears, for RETURN the lifecycle becomes RETURNED, and ZPEND clears. The next receipt takes the genesis link, and no commit
begun before writes an old head. -/
def State.zeroize (s : State) (ret : Bool) : State :=
  let s := s.keepStores (kwIdk 0) (List.replicate 12 0)
  let s := (s.keepStores (kwBek 0) (List.replicate 8 0)).keepStore kwBekSet 0
  let s := (s.keepStores (kwCkpt 0 0) (List.replicate 12 0)).keepStores (kwCkpt 1 0) (List.replicate 12 0)
  let s := if s.secKey = 1 then s.keepStore kwKey 2 else s
  let s := (s.setFlag F.SEC_STAT_SIGN_OK 0 false).keepStore kwGen 2
  let s := if ret then s.keepStore kwLc 3 else s
  let s := ((s.keepStore kwZpend 0).setRegBytes F.ATT_HEAD [] 12).event B.SEC 0 4
  let s := { s with att := { s.att with
    ckpts := [], prev := List.replicate 48 0, written := [], consumed := (s.ckptCtr, List.replicate 48 0) } }
  (s.setFlag F.ATT_STAT_CKPT_BUSY 0 false).secFollow

/-- A zeroization while the device runs: the next receipt takes CEIL, and the commit that raises CEIL begins (R163,
R164). -/
def State.restartChain (s : State) : State :=
  let c := s.ckptCeil
  { s with att := { s.att with next := c, gapNext := false, genNext := true } }.startCkpt
    { head := none, ceil := some (c + s.ckptStep), clean := false }

/-! ### Commands -/

/-- The command code of SEC_CMD (R176). -/
def SecOp.code : SecOp → Nat
  | .provision => 1 | .commission => 2 | .ret => 3 | .reprovision => 4 | .opn => 5

/-- SEC_CMD_STAT.ERR codes (R176). -/
def seBadop : Nat := 1
def seState : Nat := 2
def seMode : Nat := 3
def seNononce : Nat := 4
def seToken : Nat := 5
def seBadkey : Nat := 6
def seEntropy : Nat := 7
def seKeep : Nat := 8
def seLocked : Nat := 9
def seZeroizing : Nat := 10

/-- A command refused, or ended in error. -/
def State.secErr (s : State) (op : Option SecOp) (err : Nat) : State :=
  let s := (s.setFld F.SEC_CMD_STAT_ERR 0 err).event B.SEC 0 1
  if op = some .opn then s.event B.DBG 0 1 else s

/-- A command done. -/
def State.secOk (s : State) : State := (s.setFld F.SEC_CMD_STAT_ERR 0 0).event B.SEC 0 0

/-- The lifecycle, key and debug state permit a command (R166, R173). -/
def State.secStateOk (s : State) (op : SecOp) : Bool :=
  !s.dbgOpen && match op with
    | .provision => s.lc == lcBlank
    | .commission => s.lc == lcProvisioned && s.secKey == 1
    | .ret => s.lc == lcField
    | .reprovision => s.lc == lcReturned || ((s.lc == lcProvisioned || s.lc == lcField) && s.secKey == 2)
    | .opn => true

/-- The operating mode permits a lifecycle command or OPEN (R174). -/
def State.secModeOk (s : State) (op : SecOp) (tap : Bool) : Bool :=
  match s.sys.mode with
  | .config | .idle => true
  | .safehold => s.fld F.ATT_STAT_PEND 0 == 0 && (s.ctxsWith fun x => decide (2 ≤ x.st.code ∧ x.st.code ≤ 5)).isEmpty
  | .lockdown => op = .opn && tap
  | _ => false

/-- Does the command need a token (R166, R171)? -/
def State.needsToken (s : State) (op : SecOp) : Bool := op ≠ .provision && !(op = .opn && s.lc == lcBlank)

/-- The message a token signs (R167). -/
def State.tokenMessage (s : State) (op : SecOp) : List Byte :=
  0x54 :: leBytes 1 op.code ++ s.regBytes F.SEC_NONCE 12
    ++ (if s.secKey = 1 then sha384 s.idpub97 else List.replicate 48 0) ++ leBytes 2 s.epoch

/-- The token verifies under the owner key. -/
def State.tokenOk (s : State) (op : SecOp) : Bool :=
  ecVerify (s.keepBytes (kwOwner 0) 24) (sha384 (s.tokenMessage op)) (s.regBytes F.SEC_TOKEN 24)

/-- The command runs on until SEC_CMD_DONE; OPEN and RETURN commit ZPEND first where a key is held (R171). -/
def State.secRun (s : State) (op : SecOp) (tap : Bool) : State :=
  let s := { s with sec := { s.sec with cmd := some (op, tap) } }.setFlag F.SEC_CMD_STAT_BUSY 0 true
  if s.keyHeld then
    match op with
    | .opn => s.keepStore kwZpend 1
    | .ret => s.keepStore kwZpend 2
    | _ => s
  else s

/-- A token checked: its nonce is spent; a failure counts, and the eighth in a row locks (R167). -/
def State.secToken (s : State) (op : SecOp) (tap : Bool) : State :=
  if s.fld F.SEC_CMD_STAT_FAILS 0 = 8 then s.secErr (some op) seLocked
  else if !s.sec.nonce then s.secErr (some op) seNononce
  else
    let ok := s.tokenOk op
    let s := { s with sec := { s.sec with nonce := false } }
    if ok then
      let s := s.setFld F.SEC_CMD_STAT_FAILS 0 0
      if op = .reprovision ∧ ¬ s.flag F.SEC_STAT_DRBG_OK 0 then s.secErr (some op) seEntropy else s.secRun op tap
    else
      let n := s.fld F.SEC_CMD_STAT_FAILS 0 + 1
      let s := (s.setFld F.SEC_CMD_STAT_FAILS 0 n).secErr (some op) seToken
      if n = 8 then s.raiseFault 339 else s

/-- A write of SEC_CMD with a lifecycle command or OPEN; `tap`: over SECACC. While a command runs it is discarded. -/
def State.secCmd (s : State) (op : SecOp) (tap : Bool) : State :=
  if !s.domOn .sec then s
  else if s.zpend ≠ 0 then s.secErr (some op) seZeroizing
  else if s.sec.cmd.isSome then s
  else if !s.secModeOk op tap then s.secErr (some op) seMode
  else if !s.secStateOk op then s.secErr (some op) seState
  else if s.needsToken op then s.secToken op tap
  else if op = .provision then
    let o := s.regBytes F.SEC_OWNER 24
    if !ptValid (beNat (o.take 48)) (beNat (o.drop 48)) then s.secErr (some op) seBadkey
    else if !s.flag F.SEC_STAT_DRBG_OK 0 then s.secErr (some op) seEntropy
    else s.secRun op tap
  else s.secRun op tap

def execSecProvision (tap : Bool) (s : State) : Host.Outcome State Fault Refusal :=
  .next (s.finish (s.onSecPage tap B.SEC 0 F.SEC_CMD.off fun s =>
    s.secCmd .provision tap))
def execSecCommission (tap : Bool) (s : State) : Host.Outcome State Fault Refusal :=
  .next (s.finish (s.onSecPage tap B.SEC 0 F.SEC_CMD.off fun s =>
    s.secCmd .commission tap))
def execSecReturn (tap : Bool) (s : State) : Host.Outcome State Fault Refusal :=
  .next (s.finish (s.onSecPage tap B.SEC 0 F.SEC_CMD.off fun s =>
    s.secCmd .ret tap))
def execSecReprovision (tap : Bool) (s : State) : Host.Outcome State Fault Refusal :=
  .next (s.finish (s.onSecPage tap B.SEC 0 F.SEC_CMD.off fun s =>
    s.secCmd .reprovision tap))
def execSecOpen (tap : Bool) (s : State) : Host.Outcome State Fault Refusal :=
  .next (s.finish (s.onSecPage tap B.SEC 0 F.SEC_CMD.off fun s =>
    s.secCmd .opn tap))

/-- PROVISION and REPROVISION: IDK is generated and stored with BEK, and OWNER by PROVISION; EPOCH goes one up; the
lifecycle is written last (R166). The next receipt takes the genesis link (R162). -/
def State.provision (s : State) (owner : Bool) : State :=
  let (d, s) := s.drbgScalar
  let bek := s.regBytes F.SEC_BEK 8
  let s := (s.keepStores (kwIdk 0) (wordsOf (beBytes 48 d) 12)).keepStores (kwIdpub 0) (wordsOf (ecPublic d) 24)
  let s := (s.keepStores (kwBek 0) (wordsOf bek 8)).keepStore kwBekSet (if bek.all (· == 0) then 0 else 1)
  let s := if owner then
      (s.keepStores (kwOwner 0) (wordsOf (s.regBytes F.SEC_OWNER 24) 24)).keepStore kwOwnerSet 1
    else s
  let s := s.keepStore kwEpoch (BitVec.ofNat 32 ((s.epoch + 1) % 65536))
  let s := ((s.keepStore kwKey 1).keepStore kwGen (if s.keepWord kwGen = 0 then 1 else s.keepWord kwGen)).keepStore kwLc 1
  { s with att := { s.att with genNext := true } }.secFollow

/-- SEC_CMD_DONE: the running command ends its keep-store sequence; `ok` is false where the keep store failed, and then
nothing of the sequence stands (R166, R171). -/
def secCmdDone (ok : Bool) (s : State) : State :=
  match s.sec.cmd with
  | none => s
  | some (op, tap) =>
    let held := s.zpend ≠ 0
    let s := { s with sec := { s.sec with cmd := none } }.setFlag F.SEC_CMD_STAT_BUSY 0 false
    if !ok then s.secErr (some op) seKeep
    else match op with
      | .provision => (s.provision true).secOk
      | .reprovision => (s.provision false).secOk
      | .commission => ((s.keepStore kwLc 2).secFollow).secOk
      | .ret => (if held then (s.zeroize true).restartChain else (s.keepStore kwLc 3).secFollow).secOk
      | .opn =>
        let s := if held then (s.zeroize false).restartChain else s
        let s := (s.setFlag F.DBG_STAT_OPEN 0 true).setFld F.DBG_STAT_VIA 0 (if tap then 2 else 1)
        (((s.setFlag F.SEC_STAT_DBG 0 true).event B.DBG 0 0).raiseFault 338).secOk

def execSecCmdDone (ok : Bool) (s : State) : Host.Outcome State Fault Refusal := .next (s.finish (secCmdDone ok s))

/-- SEC_NONCE: accepted in every mode in which SEC is on; a live nonce is replaced (R167, R174, R175). -/
def secNonce (s : State) : State :=
  if !s.domOn .sec then s
  else if s.zpend ≠ 0 then s.secErr none seZeroizing
  else if s.sec.cmd.isSome then s
  else
    let (r, s) := s.drbg 48
    ({ s with sec := { s.sec with nonce := true } }.setRegBytes F.SEC_NONCE r 12).secOk

def execSecNonce (tap : Bool) (s : State) : Host.Outcome State Fault Refusal :=
  .next (s.finish (s.onSecPage tap B.SEC 0 F.SEC_CMD.off fun s =>
    secNonce s))

/-- SEC_BADOP. -/
def secBadop (s : State) : State :=
  if !s.domOn .sec then s
  else if s.zpend ≠ 0 then s.secErr none seZeroizing
  else if s.sec.cmd.isSome then s
  else s.secErr none seBadop

def execSecBadop (tap : Bool) (s : State) : Host.Outcome State Fault Refusal :=
  .next (s.finish (s.onSecPage tap B.SEC 0 F.SEC_CMD.off fun s =>
    secBadop s))

/-- NONCE_EXPIRE: tNONCE has passed. -/
def execNonceExpire (s : State) : Host.Outcome State Fault Refusal :=
  .next (s.finish ({ s with sec := { s.sec with nonce := false } }))

/-- A write of SEC_CMD. -/
def State.writeSecCmd (s : State) (v : Word) (tap : Bool) : State :=
  match bits v.toNat 0 4 with
  | 1 => s.secCmd .provision tap
  | 2 => s.secCmd .commission tap
  | 3 => s.secCmd .ret tap
  | 4 => s.secCmd .reprovision tap
  | 5 => s.secCmd .opn tap
  | 6 => secNonce s
  | _ => secBadop s

/-! ### The TAP (R172, R174, R411) -/

/-- The TAP is powered: not in OFF or HIBERNATE. -/
def State.tapOn (s : State) : Bool := s.sys.mode ≠ .off && s.sys.mode ≠ .hibernate

/-- An instruction loaded into the TAP. -/
def State.tapLoad (s : State) (ir : Nat) (safe : Bool) : State :=
  { s with sec := { s.sec with tap := { ir := ir, safe := safe } } }

/-- BYPASS, also what an instruction that is not permitted loads. -/
def irBypass : Nat := 0xFF

/-- EXTEST is permitted (R174). -/
def State.extestOk (s : State) : Bool :=
  (s.sys.mode = .config || s.sys.mode = .idle) && (s.lc == lcBlank || s.lc == lcReturned || s.dbgOpen)

/-- EXTEST and its IEEE 1149.6 forms: outside BLANK the safety cells hold their inactive values. -/
def State.extest (s : State) (ir : Nat) : State :=
  if !s.tapOn then s
  else if s.extestOk then s.tapLoad ir (s.lc ≠ lcBlank) else s.tapLoad irBypass false

/-- TAP_RESET: TRST_N low resets the TAP only; IDCODE is then its instruction, as IEEE 1149.1 has it. -/
def execTapReset (s : State) : Host.Outcome State Fault Refusal := .next (s.finish (if s.tapOn then s.tapLoad 0x01 false else s))

/-- BYPASS. -/
def execTapBypass (s : State) : Host.Outcome State Fault Refusal :=
  .next (s.finish (if s.tapOn then s.tapLoad irBypass false else s))

/-- IDCODE. -/
def execIdcode (s : State) : Host.Outcome State Fault Refusal :=
  .next (s.finish (if s.tapOn then (s.tapLoad 0x01 false).answer 0x16480A5B else s))

/-- SAMPLE/PRELOAD: the cells shifted out are free values, the boundary register's order being no part of the spec. -/
def execSamplePreload (s : State) : Host.Outcome State Fault Refusal :=
  .next (s.finish (if s.tapOn then
    let (v, s) := (s.tapLoad 0x02 false).draw
    s.answer (BitVec.ofNat 32 v)
  else s))

def execExtest (s : State) : Host.Outcome State Fault Refusal := .next (s.finish (s.extest 0x00))
def execExtestPulse (s : State) : Host.Outcome State Fault Refusal := .next (s.finish (s.extest 0x04))
def execExtestTrain (s : State) : Host.Outcome State Fault Refusal := .next (s.finish (s.extest 0x05))

/-- SCAN: in OPEN-SCAN only; what the chains hold is a free value. -/
def execScan (s : State) : Host.Outcome State Fault Refusal :=
  .next (s.finish (if !s.tapOn then s
    else if s.dbgOpen then
      let (v, s) := (s.tapLoad 0x20 false).draw
      s.answer (BitVec.ofNat 32 v)
    else s.tapLoad irBypass false))

/-! ### The debug window (R178) -/

/-- The window works: the Eyepiece is open and EN = 1. -/
def State.winOn (s : State) : Bool := s.domOn .sec && s.dbgOpen && s.flag F.DBG_WIN_CTRL_EN 0

/-- The window's address, and its advance after a data access with INC = 1. -/
def State.winAddr (s : State) : Nat := s.pair64 F.DBG_WIN_ADDR_LO 0
def State.winStep (s : State) : State :=
  if s.flag F.DBG_WIN_CTRL_INC 0 then s.setPair64 F.DBG_WIN_ADDR_LO 0 (s.winAddr + 4) else s

/-- DBG_WIN_READ: the internal word; one that the window has not stored is a free value. -/
def State.winRead (s : State) : State :=
  if !s.winOn then s.answer 0
  else match s.sec.win.get (fun _ => none) s.winAddr with
    | some w => (s.answer w).winStep
    | none =>
      let (v, s) := s.draw
      (s.answer (BitVec.ofNat 32 v)).winStep

def execDbgWinRead (s : State) : Host.Outcome State Fault Refusal := .next (s.finish (s.winRead))

/-- DBG_WIN_WRITE: the internal word is stored. -/
def State.winWrite (s : State) (v : Word) : State :=
  if !s.winOn then s
  else { s with sec := { s.sec with win := s.sec.win.set (fun _ => none) s.winAddr (some v) } }.winStep

def execDbgWinWrite (v : Word) (tap : Bool) (s : State) : Host.Outcome State Fault Refusal :=
  .next (s.finish (s.onSecPage tap B.DBG 0 F.DBG_WIN_DATA.off fun s =>
    s.winWrite v))

/-! ### The page's views (R176, R178) -/

/-- SEC_STAT. -/
def State.secStat (s : State) : Nat :=
  bits (s.reg (F.SEC_STAT.addr 0)).toNat 21 3 * 2 ^ 21 + bits (s.keepWord kwOwnerSet).toNat 0 1 * 2 ^ 20
    + bits (s.keepWord kwBekSet).toNat 0 1 * 2 ^ 19 + s.zpend * 2 ^ 17 + (if s.dbgOpen then 2 ^ 16 else 0)
    + s.secKey * 2 ^ 12 + s.lc

/-- SEC_OWNER_i: what software wrote in BLANK, the stored key otherwise. -/
def State.ownerWord (s : State) (i : Nat) : Word :=
  if s.lc = lcBlank then s.reg ((F.SEC_OWNER.at i).addr 0) else s.keepWord (kwOwner i)

/-- SEC_IDPUB_i. -/
def State.idpubWord (s : State) (i : Nat) : Word := if s.secKey = 1 then s.keepWord (kwIdpub i) else 0

end Sys2Proof.Machine
end

