-- ==== Sys2Proof/Machine/Att.lean ====
section
/-! DEFINITION. ATT: station roots, the evidence record, the receipt, its chain and counter, and the resumption at BOOT
(R155 to R164, R175, R177). -/

namespace Sys2Proof.Machine

/-! ### Roots (R158, R159) -/

/-- The next level of the tree. -/
def treeLevel : List (List Byte) → List (List Byte)
  | a :: b :: rest => sha384 (0x4E :: a ++ b) :: treeLevel rest
  | l => l

/-- The top of the tree; the fuel is the number of leaves. -/
def treeTop : Nat → List (List Byte) → List Byte
  | 0, l => l.headD (List.replicate 48 0)
  | n + 1, l => if l.length ≤ 1 then l.headD (List.replicate 48 0) else treeTop n (treeLevel l)

/-- The station root of `f` bands of width `w` from the digests of the lines that are not dark. -/
def stationRoot (n w f : Nat) (digs : Sparse (List Byte)) : List Byte :=
  let dark := lineDigest (List.replicate (4096 * w) 0)
  let line := fun l => match digs.get (fun _ => []) l with
    | [] => dark
    | d => d
  let leaves := (List.range f).map fun b => sha384 (0x42 :: (List.range 48).flatMap fun i => line (48 * b + i))
  sha384 (0x53 :: leBytes 1 n ++ leBytes 1 w ++ leBytes 2 f ++ treeTop f leaves)

/-- Every station of the frame has its root, or nothing was exposed. -/
def Ctx.rooted (x : Ctx) : Bool := !x.exposedAny || x.stations.all fun n => (x.at n).root.isSome

/-- STATION_ROOT_FINAL: station n's root of a frame closes. A frame that was stopped hands over its present facet first.
The last root of a fully exposed frame makes its outcome final (R157, R161). -/
def stationRootFinal (c n : Nat) (s : State) : State :=
  let x := s.ctx c
  if 160 ≤ c ∨ ¬ x.uses n ∨ (x.at n).root.isSome ∨ ¬ (bit x.done n ∨ x.stopped) then s
  else
    let s := if bit x.done n then s else s.flushFacet n
    let x := s.ctx c
    let r := stationRoot n x.width x.facets (x.at n).digs
    let s := s.setCtx c (x.setAt n { x.at n with root := some r, digs := [] })
    let x := s.ctx c
    if (x.st = .exposed ∨ x.st = .fused ∨ x.st = .delivered) ∧ x.rooted then s.assignCounter c else s

def execStationRootFinal (c n : Nat) (s : State) : Host.Outcome State Fault Refusal := .next (s.finish (stationRootFinal c n s))

/-! ### The evidence record and the receipt (R155, R160, R162) -/

/-- The evidence record: 672 bytes. -/
def State.evidence (s : State) (x : Ctx) (ctr : Nat) : List Byte :=
  let six := List.range 6
  leBytes 8 x.serial ++ leBytes 8 ctr
    ++ (six.flatMap fun n => leBytes 4 (if x.uses n then (x.at n).lines else 0)) ++ leBytes 8 0
    ++ (six.flatMap fun n =>
      if x.uses n && x.exposedAny then ((x.at n).root).getD (List.replicate 48 0) else List.replicate 48 0)
    ++ (six.flatMap fun n =>
      if !x.uses n then List.replicate 48 0
      else if bit x.opened n then (x.at n).bank else s.bankDigest n (s.bankFor n x.corSet))
    ++ takeAt s.bundle.digest 0 48

/-- The chain link of the next receipt. -/
def State.chainLink (s : State) (genesis : Bool) : List Byte :=
  if genesis then sha384 (0x47 :: s.idpub97 ++ leBytes 2 s.epoch) else takeAt s.att.prev 0 48

/-- The receipt body: 160 bytes. -/
def State.receiptBody (s : State) (x : Ctx) (ctr : Nat) (sigfail : Bool) : List Byte :=
  let spoiled := decide (x.st = .spoiled)
  let uns := s.flag F.SEC_STAT_UNSIGNED 0
  let flags := (if x.degraded then 1 else 0) + (if x.exposedAny then 0 else 2) + (if x.gap then 4 else 0)
    + (if s.lc = lcProvisioned then 8 else 0) + (if uns then 16 else 0) + (if sigfail then 32 else 0)
  leBytes 2 1 ++ leBytes 1 (if spoiled then 2 else 1) ++ leBytes 1 (if spoiled then x.cause else 0) ++ leBytes 1 flags
    ++ leBytes 1 x.mask ++ leBytes 1 x.cls ++ leBytes 1 x.corSet ++ leBytes 8 x.serial ++ leBytes 8 ctr
    ++ leBytes 8 (unsign x.start 64) ++ leBytes 8 (if x.exposedAny then x.tFirst else 0) ++ leBytes 8 x.tEnd
    ++ leBytes 4 (s.fld F.SEC_CFG_ID 0) ++ leBytes 4 x.hostTag ++ leBytes 2 x.facets ++ leBytes 2 s.epoch
    ++ (if uns then leBytes 4 0 else (sha384 s.idpub97).take 4)
    ++ sha384 (0x45 :: s.evidence x ctr) ++ s.chainLink x.genesis

/-- The modes in which receipts are written (R26, R174). -/
def State.receiptMode (s : State) : Bool :=
  s.domOn .sec && (s.sys.mode = .print || s.sys.mode = .drain || s.sys.mode = .safehold) && !s.aon.lockdown

/-- A receipt whose counter must wait for a commit that raises CEIL (R163). -/
def State.ctrWaits (s : State) (ctr : Nat) : Bool := decide (s.ckptCeil ≤ ctr) && s.raising

/-- Checkpoints after a receipt: at CEIL − 4,096, and after the first receipt following BOOT (R163). -/
def State.ckptAfter (s : State) (ctr : Nat) (digest : List Byte) (first : Bool) : State :=
  if s.ckptCeil ≤ ctr + 4096 ∧ ¬ s.raising ∧ ¬ s.att.ckptFailed then
    s.startCkpt { head := some (ctr, digest), ceil := some (ctr + s.ckptStep), clean := false }
  else if first then s.startCkpt { head := some (ctr, digest), ceil := none, clean := false }
  else s

/-- The receipt of the frame whose counter is lowest is written: the evidence record, then the receipt into its audit
ring, signed, unsigned, or with SIGFAIL (R156, R157, R160, R173, R175). -/
def State.writeReceipt (s : State) (noK : Bool) : State :=
  match s.att.queue with
  | [] => s
  | c :: rest =>
    let x := s.ctx c
    let ctr := x.counter.getD 0
    if !x.rooted || !s.receiptMode || s.ctrWaits ctr then s
    else
      let uns := s.flag F.SEC_STAT_UNSIGNED 0
      let fail := (!uns && (noK || s.secKey != 1)) || decide (s.ckptCeil ≤ ctr)
      let body := s.receiptBody x ctr fail
      let digest := sha384 body
      let s := s.storeLmem (s.pair64 F.ATT_EVID_LO 0 / 4096 * 4096 + 1024 * c) (s.evidence x ctr)
      let (k, s) := s.drbgScalar
      let sig := if uns || fail then List.replicate 96 0
        else ecSign (beNat (s.keepBytes (kwIdk 0) 12)) k digest
      let r := x.audRing
      let slot := (s.ringTail r + (s.ringq.store.filter (·.1 == r)).length) % s.ringSize r
      let s := s.putReserved r (body ++ sig)
      let first := !s.att.firstDone
      let s := { s with att := { s.att with
        queue := rest, prev := digest, firstDone := true, written := s.att.written ++ [(ctr, r, slot, digest)] } }
      let s := s.setCtx c { s.ctx c with rcpt := some slot }
      let s := if x.genesis then s.keepStore kwGen 0 else s
      let s := ((s.setFld F.ATT_STAT_PEND 0 rest.length).setPair64 F.ATT_CTR_LO 0 ctr).setRegBytes F.ATT_HEAD digest 12
      let s := (s.event B.ATT 0 0).ckptAfter ctr digest first
      match x.lostPend with
      | some cause => s.lose c cause
      | none => s

/-- The entropy source passes its tests again: SEC has a sound k, and DRBG_OK is set (R175, R176). -/
def State.drbgSound (s : State) : State :=
  ({ s with att := { s.att with retrying := false } }.setFlag F.SEC_STAT_DRBG_OK 0 true).dropFault 336

/-- RECEIPT_WRITE; a sound k ends SEC's retries. -/
def receiptWrite (s : State) : State := (if s.att.retrying then s.drbgSound else s).writeReceipt false

/-- While DRBG_OK is 0, each further test of the entropy source may pass: whether it does is a free value. The model tests
once a microsecond (assumption 111). -/
def State.drbgTest (s : State) : State :=
  if s.domOn .sec ∧ s.sys.mode ≠ .boot ∧ ¬ s.flag F.SEC_STAT_DRBG_OK 0 then
    let (r, s) := s.draw
    if r % 2 = 1 then s.drbgSound else s
  else s

def execReceiptWrite (s : State) : Host.Outcome State Fault Refusal := .next (s.finish (receiptWrite s))

/-- RECEIPT_TIMEOUT: a receipt has not been written within tRECEIPT (R330). -/
def execReceiptTimeout (s : State) : Host.Outcome State Fault Refusal :=
  .next (s.finish (if s.att.queue.isEmpty then s else s.raiseFault 341))

/-- DRBG_HEALTH_FAIL: SEC reseeds and retries (R175). -/
def drbgHealthFail (s : State) : State :=
  if s.domOn .sec then
    { (s.setFlag F.SEC_STAT_DRBG_OK 0 false).drbgSeed false with
      att := { s.att with retrying := !s.att.queue.isEmpty } }.raiseFault 336
  else s

def execDrbgHealthFail (s : State) : Host.Outcome State Fault Refusal := .next (s.finish (drbgHealthFail s))

/-- SIGN_RETRY_TIMEOUT: 10 ms without a sound k (R175). -/
def signRetryTimeout (s : State) : State :=
  if s.att.retrying then
    let s := { s with att := { s.att with retrying := false } }
    ((s.writeReceipt true).setFlag F.SEC_STAT_SIGN_OK 0 false).event B.SEC 0 5
  else s

def execSignRetryTimeout (s : State) : Host.Outcome State Fault Refusal := .next (s.finish (signRetryTimeout s))

/-! ### BOOT (R163, R164, R171, R173) -/

/-- The chain resumes from the selected record. The genesis link is owed since a provisioning or a zeroization; only after
a zeroization does it stand in for the gap (R162, R164). -/
def State.resumeChain (s : State) : State :=
  let gen := s.keepWord kwGen != 0
  let zeroed := s.keepWord kwGen == 2
  let clean := s.ckptClean && !zeroed
  let gap := !clean && !zeroed
  let ceil := s.ckptCeil
  let s := { s with att := {
    ckpts := [], ckptFailed := false, next := if clean then s.ckptCtr + 1 else ceil, gapNext := gap, genNext := gen
    prev := s.ckptHead, queue := [], written := []
    consumed := (s.ckptCtr, s.ckptHead)
    firstDone := false, evidSet := false, retrying := false } }
  let s := s.setPair64 F.ATT_CTR_LO 0 s.ckptCtr
  let s := if gap then
      (s.keepStore kwGap (BitVec.ofNat 32 (min ((s.keepWord kwGap).toNat + 1) (2 ^ 32 - 1)))).event B.ATT 0 3
    else s
  if clean then s else s.startCkpt { head := none, ceil := some (ceil + s.ckptStep), clean := false }

/-- SEC comes up in BOOT: it completes a pending zeroization before any other work, closes the Eyepiece, resumes the
chain and begins to load the bundle from flash (R170, R171). -/
def State.secBoot (s : State) : State :=
  let s := { s with sec := { s.sec with nonce := false, cmd := none, win := [] } }
  let s := (s.setReg (F.DBG_STAT.addr 0) 0).setFlag F.SEC_STAT_DBG 0 false
  let z := s.zpend
  let s := if z = 0 then s else s.zeroize (z = 2)
  let s := ((s.drbgSeed true).setFlag F.SEC_STAT_DRBG_OK 0 true).secFollow.resumeChain
  let s := { s with bundle := { s.bundle with loading := some none } }
  (s.setFlag F.SEC_BUNDLE_STAT_BUSY 0 true).setFld F.SEC_BUNDLE_STAT_SRC 0 1

end Sys2Proof.Machine
end

