-- ==== Sys2Proof/Machine/Link.lean ====
section
/-! DEFINITION. BLN: link states, the back channel and the identity memory (R138, R144 to R150, R154). -/

namespace Sys2Proof.Machine

/-- The link's state, by its code (R154). -/
def State.link (s : State) (n : Nat) : Nat := s.fld F.BLN_STAT_LSTATE n
def lkDown : Nat := 0
def lkTrain : Nat := 1
def lkId : Nat := 2
def lkUp : Nat := 3
def lkFault : Nat := 4

/-! ### Commands -/

/-- The whole identity memory asked for (R148, R149). -/
def State.askId (s : State) (n : Nat) : State :=
  let s := (s.setFld F.BLN_STAT_LSTATE n lkId).setFlag F.BLN_STAT_ID_VALID n false
  let s := s.setFlag F.BLN_CTRL_IDREAD n false
  (s.setBln n { (s.stn n).bln with idMem := [], idFailed := false }).emit
    (.control n 0xA8 (leBytes 2 0 ++ leBytes 2 (0xC54 / 4) ++ leBytes 2 0))

/-- BLN_ENABLE: EN written to 1 starts training from DOWN (R146). -/
def blnEnable (n : Nat) (s : State) : State :=
  if s.flag F.BLN_CTRL_EN n then s else (s.setFlag F.BLN_CTRL_EN n true).trainLink n

def execBlnEnable (n : Nat) (s : State) : Host.Outcome State Fault Refusal :=
  .next (s.finish (s.onPage B.BLN n F.BLN_CTRL.off fun s =>
    if n < 6 ∧ s.domOn (.bln n) then blnEnable n s else s))

/-- BLN_DISABLE: EN written to 0 takes the link DOWN (R146), and spoils frames that use it LINK (R48). -/
def blnDisable (n : Nat) (s : State) : State :=
  if s.flag F.BLN_CTRL_EN n then
    let s := (((s.setFlag F.BLN_CTRL_EN n false).setFld F.BLN_STAT_LSTATE n lkDown).setFld F.BLN_STAT_FCAUSE n 0).setFld
      F.BLN_STAT_LANE_LOCK n 0
    let s := ((s.setFlag F.BLN_STAT_ID_VALID n false).setFlag F.BLN_STAT_RANK_OK n false).setFlag F.BLN_STAT_DARK n true
    (((s.setBln n { (s.stn n).bln with retrainHeld := false }).dropFault (64 + n)).cutFacet n leadMax).outOfService n cLink (64 + n)
  else s

def execBlnDisable (n : Nat) (s : State) : Host.Outcome State Fault Refusal :=
  .next (s.finish (s.onPage B.BLN n F.BLN_CTRL.off fun s =>
    if n < 6 ∧ s.domOn (.bln n) then blnDisable n s else s))

/-- BLN_RETRAIN: held while any ADMITTED or EXPOSING frame uses the station (R146). -/
def blnRetrain (n : Nat) (s : State) : State :=
  if !s.flag F.BLN_CTRL_EN n then s
  else if s.stnUsed n then
    (s.setBln n { (s.stn n).bln with retrainHeld := true }).setFlag F.BLN_CTRL_RETRAIN n true
  else s.trainLink n

def execBlnRetrain (n : Nat) (s : State) : Host.Outcome State Fault Refusal :=
  .next (s.finish (s.onPage B.BLN n F.BLN_CTRL.off fun s =>
    if n < 6 ∧ s.domOn (.bln n) then blnRetrain n s else s))

/-- BLN_AUTO_RETRAIN: from FAULT with AUTO = 1, at a facet of no frame, at most once every 10 ms (R146). -/
def blnAutoRetrain (n : Nat) (s : State) : State :=
  let b := (s.stn n).bln
  let due := match b.autoAt with
    | some t => decide (t + 10000000 ≤ s.now)
    | none => true
  if s.flag F.BLN_CTRL_AUTO n && s.link n == lkFault && (s.stn n).fmt.owners.isEmpty && due then
    (s.setBln n { b with autoAt := some s.now }).trainLink n
  else s

def execBlnAutoRetrain (n : Nat) (s : State) : Host.Outcome State Fault Refusal :=
  .next (s.finish (if s.stnOn n then blnAutoRetrain n s else s))

/-- BLN_IDREAD: the identity memory is read again (R149). -/
def execBlnIdread (n : Nat) (s : State) : Host.Outcome State Fault Refusal :=
  .next (s.finish (s.onPage B.BLN n F.BLN_CTRL.off fun s =>
    if n < 6 ∧ s.domOn (.bln n) ∧ (s.link n = lkId ∨ s.link n = lkUp) then s.askId n else s))

/-- ID_ACK: ID_CHG clears (R149). -/
def execIdAck (n : Nat) (s : State) : Host.Outcome State Fault Refusal :=
  .next (s.finish (s.onPage B.BLN n F.BLN_CTRL.off fun s =>
    if n < 6 ∧ s.domOn (.bln n) then
    (s.setFlag F.BLN_STAT_ID_CHG n false).setFlag F.BLN_CTRL_ID_ACK n false else s))

/-- A write of BLN_CTRL through the register path: EN, AUTO, then the commands whose bits are 1 (R154). -/
def State.writeBlnCtrl (s : State) (n : Nat) (v : Word) : State :=
  let w := v.toNat
  let s := s.setFlag F.BLN_CTRL_AUTO n (bit w 1)
  let s := if bit w 0 then blnEnable n s else blnDisable n s
  let s := if bit w 3 then s.setFlag F.BLN_STAT_ID_CHG n false else s
  let s := if bit w 2 then blnRetrain n s else s
  if bit w 4 ∧ (s.link n = lkId ∨ s.link n = lkUp) then s.askId n else s

/-! ### Training and identity -/

/-- TRAIN_DONE (R146). -/
def execTrainDone (n : Nat) (s : State) : Host.Outcome State Fault Refusal :=
  .next (s.finish (if n < 6 ∧ s.domOn (.bln n) ∧ s.link n = lkTrain then (s.setFld F.BLN_STAT_LANE_LOCK n 0x3F).askId n else s))

/-- TRAIN_TIMEOUT (R146). -/
def execTrainTimeout (n : Nat) (s : State) : Host.Outcome State Fault Refusal :=
  .next (s.finish (if n < 6 ∧ s.domOn (.bln n) ∧ s.link n = lkTrain then s.linkFault n 4 else s))

/-- The identity memory read passes the checks of R149. -/
def idOk (m : List Byte) : Bool :=
  decide (m.length = 0xC54 ∧ fieldAt m 0 4 = 0x44495A4C ∧ fieldAt m 4 2 = 1 ∧ fieldAt m 6 2 = 0xC54 ∧ fieldAt m 0x18 1 = 48
    ∧ fieldAt m 0xC50 4 = (crc32c (takeAt m 0 0xC50)).toNat)

/-- The first identity read of a station since BOOT is compared with its FACET record (R389). -/
def State.facetKey (s : State) (n : Nat) (uid : List Byte) : State :=
  if n ∈ s.cal.idChecked then s
  else
    let s := { s with cal := { s.cal with idChecked := s.cal.idChecked ++ [n] } }
    match newestRec s.cal.active.recs 6 n with
    | some r =>
      if r.key = uid then s
      else
        let f := (s.stn n).fac
        let clear := (List.range 16).map fun j => (0x064 + 4 * j, (0 : Word))
        let s := s.setFac n { f with held := f.held ++ clear }
        let s := if (s.stn n).fmt.owners = [] then s.applyHeld n else s
        (s.setFld F.CAL_STAT_STALE 0 (setBit (s.fld F.CAL_STAT_STALE 0) n)).raiseFault 372
    | none => s

/-- A read that has failed or timed out (R149): the link stays in IDREAD until IDREAD or RETRAIN is written. -/
def State.idFail (s : State) (n : Nat) : State :=
  (s.setBln n { (s.stn n).bln with idFailed := true }).event B.BLN n 3

/-- Readings taken before the link came UP are no longer VALID (R154). -/
def State.clearValid (s : State) (n : Nat) : State :=
  let s := forAll (List.range 4) s fun s i => s.setFlag (F.BLN_TEMP_VALID.at i) n false
  s.setBln n { (s.stn n).bln with apc := [] }

/-- IDREAD_DONE: the read has finished (R149). -/
def idreadDone (n : Nat) (s : State) : State :=
  let b := (s.stn n).bln
  if s.link n ≠ lkId ∨ b.idFailed then s
  else if !idOk b.idMem then s.idFail n
  else
    let uid := takeAt b.idMem 8 16
    let s := (s.setFlag F.BLN_STAT_ID_VALID n true).setFlag F.BLN_STAT_RANK_OK n
      (bit (s.fld F.BLN_RANK_MASK n) (fieldAt b.idMem 0x19 1))
    let s := if b.unitSeen.isSome ∧ b.unitSeen ≠ some uid then
        (s.setFlag F.BLN_STAT_ID_CHG n true).event B.BLN n 4 else s
    let s := s.setBln n { b with unitSeen := some uid }
    let s := forAll (List.range 4) s fun s i =>
      s.setReg ((F.BLN_UNIT_ID.at i).addr n) (BitVec.ofNat 32 (fieldAt uid (4 * i) 4))
    ((((s.facetKey n uid).setFld F.BLN_STAT_LSTATE n lkUp).clearValid n).event B.BLN n 0).searchLight n

def execIdreadDone (n : Nat) (s : State) : Host.Outcome State Fault Refusal :=
  .next (s.finish (if n < 6 ∧ s.domOn (.bln n) then idreadDone n s else s))

/-- IDREAD_TIMEOUT: the link stays in IDREAD (R149). -/
def execIdreadTimeout (n : Nat) (s : State) : Host.Outcome State Fault Refusal :=
  .next (s.finish (if n < 6 ∧ s.domOn (.bln n) ∧ s.link n = lkId ∧ ¬ (s.stn n).bln.idFailed then s.idFail n else s))

/-! ### Back channel (R147, R150) -/

/-- The link hears its back channel. -/
def State.hears (s : State) (n : Nat) : Bool := decide (n < 6) && s.domOn (.bln n) && decide (1 ≤ s.link n ∧ s.link n ≤ 3)

/-- BC_STATUS: byte 1, SEQ and lane lock of a STATUS block. One whose SEQ is more than a facet behind the last FSTART
counts as missing. -/
def bcStatus (n flags seq lanes : Nat) (s : State) : State :=
  let b := (s.stn n).bln
  let behind := match b.sent with
    | (k, _) :: _ => decide (1 < (k + 65536 - seq % 65536) % 65536)
    | [] => false
  if behind then s
  else
    let s := ((s.setFld F.BLN_DRV_STAT_SEQ n seq).setFld F.BLN_DRV_STAT_LANE_LOCK n lanes).setFld F.BLN_DRV_STAT_FLAGS n flags
    let s := s.setFld F.BLN_STAT_LANE_LOCK n lanes
    let s := if bit flags 3 ∨ bit flags 4 then
        let cs := ((b.sent.find? (·.1 == seq % 65536)).map (·.2)).getD []
        let s := s.bump F.BLN_CRC_CNT n
        if cs = [] then s else forAll cs (s.event B.BLN n 2) fun s c => s.spoilRun c cLink (64 + n)
      else s
    if s.link n = lkUp ∧ bit flags 1 then s.linkFault n 2
    else if s.link n = lkUp ∧ bit flags 2 then s.linkFault n 3
    else if s.link n = lkUp ∧ lanes % 64 ≠ 0x3F then s.linkFault n 4
    else s

def execBcStatus (n flags seq lanes : Nat) (s : State) : Host.Outcome State Fault Refusal :=
  .next (s.finish (if s.hears n then bcStatus n flags seq lanes s else s))

/-- VALID of a reading: it was reported since the link came UP (R154). -/
def State.validBit (s : State) (n : Nat) : Nat := if s.link n = lkUp then 2 ^ 31 else 0

/-- BC_TEMP: the temperature is held for TMP, which takes it up with TMP_ARRAY_UPDATE. -/
def execBcTemp (n i : Nat) (temp : BitVec 16) (s : State) : Host.Outcome State Fault Refusal :=
  .next (s.finish (if s.hears n ∧ i < 4 then
    s.setReg ((F.BLN_TEMP.at i).addr n) (BitVec.ofNat 32 (s.validBit n + temp.toNat)) else s))

/-- BC_APC: an emitter's power reading. -/
def execBcApc (n e ps power : Nat) (s : State) : Host.Outcome State Fault Refusal :=
  .next (s.finish (if s.hears n ∧ e < 48 then
    let b := (s.stn n).bln
    s.setBln n { b with apc := b.apc.set (fun _ => 0) e (BitVec.ofNat 32 (s.validBit n + ps % 8 * 2 ^ 16 + power % 65536)) }
  else s))

/-- BC_IDDATA: four bytes of identity memory, in answer to IDREQ. -/
def execBcIddata (n addr : Nat) (w : Word) (s : State) : Host.Outcome State Fault Refusal :=
  .next (s.finish (if s.hears n ∧ s.link n = lkId ∧ addr + 4 ≤ 0xC54 then
    let b := (s.stn n).bln
    let m := takeAt b.idMem 0 addr ++ leBytes 4 w.toNat ++ b.idMem.drop (addr + 4)
    s.setBln n { b with idMem := m }
  else s))

/-- BC_IDLE: a valid block that says nothing (R147). -/
def execBcIdle (_n : Nat) (s : State) : Host.Outcome State Fault Refusal := .next (s.finish s)

/-- BC_BAD_BLOCK: a block of unlisted type, or (`crc`) one whose CRC-8 fails, is counted; more than BC_ERR_MAX of the
latter within a facet period enter FAULT (R147, R150). -/
def bcBadBlock (n : Nat) (crc : Bool) (s : State) : State :=
  let s := s.bump F.BLN_BCERR_CNT n
  if crc then
    let b := (s.stn n).bln
    let s := s.setBln n { b with bcErrs := b.bcErrs + 1 }
    if s.fld F.BLN_CFG_BC_ERR_MAX n < b.bcErrs + 1 then s.linkFault n 5 else s
  else s

def execBcBadBlock (n : Nat) (crc : Bool) (s : State) : Host.Outcome State Fault Refusal :=
  .next (s.finish (if s.hears n then bcBadBlock n crc s else s))

/-- BCLOSS: no valid block for `tBCLOSS` (R150). In TRAIN the 10 ms of R146 bound the wait instead. -/
def execBcloss (n : Nat) (s : State) : Host.Outcome State Fault Refusal :=
  .next (s.finish (if s.hears n ∧ s.link n ≠ lkTrain then s.linkFault n 1 else s))

/-! ### Views (R154) -/

/-- BLN_APC_DATA and BLN_ID_DATA. -/
def State.apcData (s : State) (n : Nat) : Word := (s.stn n).bln.apc.get (fun _ => 0) (s.fld F.BLN_APC_SEL_EMITTER n)
def State.idData (s : State) (n : Nat) : Nat :=
  let a := 4 * s.fld F.BLN_ID_SEL_ADDR n
  if s.flag F.BLN_STAT_ID_VALID n ∧ a ≤ 0xC50 then fieldAt (s.stn n).bln.idMem a 4 else 0

end Sys2Proof.Machine
end

