-- ==== Sys2Proof/Machine/Mains.lean ====
section
/-! DEFINITION. The mains monitor: crossings, the phase loop, U½ and voltage events, measurement windows and available
power (R242 to R247, R260, R261). A crossing comes with how long ago it was, U½ and the one-cycle RMS current of phase 0;
a window with U10, I10 and P. -/

namespace Sys2Proof.Machine

/-! MNS_STAT.PSTATE codes (R245). -/
def mnSearch : Nat := 0
def mnLocked : Nat := 1
def mnCoast : Nat := 2
def mnLost : Nat := 3

def State.mnState (s : State) : Nat := s.fld F.MNS_STAT_PSTATE 0
def State.setMnState (s : State) (v : Nat) : State := s.setFld F.MNS_STAT_PSTATE 0 v
def State.setMns (s : State) (x : Mns) : State := { s with mns := x }

/-- COAST in half-cycles: values outside 1 to 50 are taken as 20. -/
def State.coastMax (s : State) : Nat :=
  let c := s.fld F.MNS_CFG_COAST 0
  if 1 ≤ c ∧ c ≤ 50 then c else 20

/-- Nominal half-period in ns. -/
def State.nomHalf (s : State) : Nat := if s.flag F.MNS_CFG_NOMF 0 then 8333333 else 10000000

/-- Frequency in 0.01 Hz of a cycle of `t` ns, rounded down. -/
def freqOf (t : Nat) : Nat := 100000000000 / t

/-- Between 45 Hz and 66 Hz. -/
def freqOk (t : Nat) : Bool := decide (4500 * t ≤ 100000000000 ∧ 100000000000 ≤ 6600 * t)

/-! ### Voltage events (R244) -/

/-- An event ends: its record is written. -/
def State.endEvt (s : State) (typ : Nat) (e : VEvt) : State :=
  let s := s.setReg (F.MNS_EVT_INFO.addr 0)
    (BitVec.ofNat 32 (typ * 2 ^ 30 + min 255 (100 * e.resid / s.udin) * 2 ^ 16 + min 0xFFFF e.dur))
  s.setPair64 F.MNS_EVT_TIME_LO 0 e.start

/-- One half-cycle of an event that goes on. -/
def VEvt.more (e : VEvt) (u : Nat) (low : Bool) : VEvt :=
  { e with dur := e.dur + 1, resid := if low then min e.resid u else max e.resid u }

/-- U½ is taken: UHALF, and the events it starts, carries on or ends. A dip in which an interruption starts is recorded
as the interruption only, and as one: where U½ falls below INT_TH again within the dip, its interruption goes on. -/
def State.takeUhalf (s : State) (u : Nat) : State :=
  let s := s.setFld F.MNS_URMS_UHALF 0 (min 0xFFFF u)
  let d := s.udin
  let hys := s.fld F.MNS_EVCFG_HYS 0
  let dt := s.fld F.MNS_EVCFG_DIP_TH 0
  let it := s.fld F.MNS_EVCFG_INT_TH 0
  let st := s.fld F.MNS_EVCFG_SWELL_TH 0
  let fresh : VEvt := { start := s.now, dur := 1, resid := u }
  let s := match s.mns.intr with
    | none =>
      if 100 * u < it * d then
        let s := s.setFlag F.MNS_STAT_INTR 0 true
        match s.mns.gone with
        | some e => s.setMns { s.mns with intr := some (e.more u true), merged := true }
        | none => (s.setMns { s.mns with intr := some fresh, merged := true }).event B.MNS 0 2
      else s.setMns { s.mns with gone := s.mns.gone.map fun (e : VEvt) => { e with dur := e.dur + 1 } }
    | some e =>
      if (10 * it + hys) * d ≤ 1000 * u then
        let again := s.mns.gone.isSome
        let gone := if s.mns.dip.isSome then some { e with dur := e.dur + 1 } else none
        let s := (s.setMns { s.mns with intr := none, gone := gone }).setFlag F.MNS_STAT_INTR 0 false
        let s := s.endEvt 3 e
        if again then s else s.bump F.MNS_CNT_DIP 0
      else s.setMns { s.mns with intr := some (e.more u true) }
  let s := match s.mns.dip with
    | none =>
      if 100 * u < dt * d then
        let s := s.setMns { s.mns with dip := some fresh, merged := s.mns.intr.isSome }
        (s.setFlag F.MNS_STAT_DIP 0 true).event B.MNS 0 0
      else s
    | some e =>
      if (10 * dt + hys) * d ≤ 1000 * u then
        let m := s.mns.merged
        let s := (s.setMns { s.mns with dip := none, merged := false, gone := none }).setFlag F.MNS_STAT_DIP 0 false
        if m then s else (s.endEvt 1 e).bump F.MNS_CNT_DIP 0
      else s.setMns { s.mns with dip := some (e.more u true) }
  match s.mns.swell with
  | none =>
    if st * d < 100 * u then
      ((s.setMns { s.mns with swell := some fresh }).setFlag F.MNS_STAT_SWELL 0 true).event B.MNS 0 1
    else s
  | some e =>
    if 1000 * u + hys * d ≤ 10 * st * d then
      ((s.setMns { s.mns with swell := none }).setFlag F.MNS_STAT_SWELL 0 false).endEvt 2 e
    else s.setMns { s.mns with swell := some (e.more u false) }

/-! ### Frequency (R243, R244) -/

/-- fcyc of an interval of `t` ns between positive-going crossings; outside 45 Hz to 66 Hz it raises FREQ and F_162. -/
def State.takeFcyc (s : State) (t : Nat) : State :=
  let s := s.setFld F.MNS_FREQ_FCYC 0 (min 0xFFFF (freqOf t))
  if freqOk t then (s.setFlag F.MNS_STAT_FREQ_ERR 0 false).dropFault 162
  else ((s.setFlag F.MNS_STAT_FREQ_ERR 0 true).event B.MNS 0 7).raiseFault 162

/-- A positive-going crossing is met at `t`: fcyc is taken from the last interval between two of them. -/
def State.meetPos (s : State) (t : Nat) : State :=
  let s' := match s.mns.fcycAt with
    | some t0 => if t0 < t then s.takeFcyc (t - t0) else s
    | none => s
  s'.setMns { s'.mns with fcycAt := some t }

/-- The crossing before this one in the same direction. -/
def State.sameBefore (s : State) (pos : Bool) : Option Nat := if pos then s.mns.posAt else s.mns.negAt

/-! ### The loop (R245, R246) -/

/-- A phase in 0.01°, in ns of the loop's cycle. -/
def State.phaseNs (s : State) (e : Int) : Int := e * (2 * s.mns.half : Nat) / 36000

/-- The crossing that the loop predicts next: half a period after the last, less what is left of the slew (R246). -/
def State.predicted (s : State) : Nat × Bool := match s.mns.last with
  | some (t, p) => (((t : Int) + s.mns.half - s.phaseNs s.mns.slew).toNat, !p)
  | none => (s.now, true)

/-- Within ±10 % of half a period of the predicted crossing. -/
def State.inWindow (s : State) (t : Nat) : Bool := decide (10 * ((t : Int) - s.predicted.1).natAbs ≤ s.mns.half)

/-- A crossing becomes the loop's last; half a period follows the last whole cycle, or failing one the last half. -/
def State.takeCrossing (s : State) (t : Nat) (pos : Bool) : State :=
  let x := s.mns
  let h := match s.sameBefore pos, x.last with
    | some t0, _ => if t0 < t ∧ freqOk (t - t0) then (t - t0) / 2 else x.half
    | none, some (t0, _) => if t0 < t ∧ freqOk (2 * (t - t0)) then t - t0 else x.half
    | none, none => s.nomHalf
  let x := { x with fireAt := s.predicted.1, last := some (t, pos), half := h }
  s.setMns (if pos then { x with posAt := some t } else { x with negAt := some t })

/-- Is a crossing valid (R245)? It alternates with the last, falls within ±10 % of half a period of the predicted one,
and implies a frequency from 45 Hz to 66 Hz. -/
def State.crossingValid (s : State) (t : Nat) (pos : Bool) : Bool :=
  match s.mns.last with
  | none => false
  | some (t0, p0) => p0 != pos && s.inWindow t && decide (t0 < t) && freqOk (2 * (t - t0))

/-- SEARCH or LOST counts as U10 = 0 while it lasts (R247). -/
def State.noSupply (s : State) : State := (s.setMns { s.mns with badAt := some s.now }).setReg (F.MNS_PAVAIL.addr 0) 0

/-- LOCKED is entered. -/
def State.enterLocked (s : State) : State :=
  ((s.setMnState mnLocked).setMns { s.mns with valid := 0, coast := 0, cand := none }).event B.MNS 0 6

/-- A return from COAST (R246): ε against the coasting prediction, in 0.01°. Up to 20° the prediction slews to the measured
phase from where it stands. -/
def State.mainsReturn (s : State) (t : Nat) (pos : Bool) : State :=
  let x := s.mns
  let (b, p) := x.last.getD (t, pos)
  let cyc : Int := 2 * x.half
  let d := ((t : Int) - b - (if p = pos then 0 else x.half)) % cyc
  let d := if (x.half : Int) < d then d - cyc else d
  let e := (36000 * d + x.half) / cyc
  let s := s.setFld F.MNS_PHERR_ERR 0 (unsign e 16)
  let s := s.setMns { s.mns with last := some (t, pos), posAt := none, negAt := none }
  let s := s.setMns (if pos then { s.mns with posAt := some t } else { s.mns with negAt := some t })
  let s := s.enterLocked
  if 36000 * d.natAbs ≤ 2000 * cyc.toNat then s.setMns { s.mns with slew := e, fireAt := ((t : Int) - d).toNat }
  else
    let s := ((s.event B.MNS 0 5).raiseFault 161).bump F.MNS_CNT_RESYNC 0
    (s.setMns { s.mns with slew := 0, fireAt := t }).heaterResync

/-- 2° of the slew in one cycle. -/
def slewStep (e : Int) : Int := if 200 < e then e - 200 else if e < -200 then e + 200 else 0

/-- LOST (R245, R246, R260). -/
def State.mainsLost (s : State) : State :=
  let s := (((s.setMnState mnLost).event B.MNS 0 4).raiseFault 160).bump F.MNS_CNT_LOSS 0
  let s := s.noSupply.htLost
  let s := forAll (s.bySerial (s.ctxsWith fun x => x.st = .admitted || x.st = .exposing)) s fun s c => s.spoil c cMains 160
  s.thrEval

/-- The predicted crossing passes with none that is valid: COAST is entered or goes on at the last frequency, LOST follows
after COAST half-cycles, and the heaters follow a positive-going prediction (R245, R246). -/
def State.passPredicted (s : State) : State :=
  let s := if s.mnState = mnLocked then
      ((s.setMnState mnCoast).setMns { s.mns with coast := 0, cand := none }).event B.MNS 0 3
    else s
  let n := s.mns.coast + 1
  let p := s.predicted
  let s := s.setMns { s.mns with coast := n, last := some p, slew := 0, fireAt := p.1 }
  if s.coastMax ≤ n then s.mainsLost
  else if p.2 then s.heaterCycle none else s

/-- Do two crossings make a return: alternating, and half a period apart within ±2 % (R245)? -/
def State.isReturn (s : State) (c : Nat × Bool) (t : Nat) (pos : Bool) : Bool :=
  c.2 != pos && decide (50 * ((t : Int) - c.1 - s.mns.half).natAbs ≤ s.mns.half)

/-- A crossing in LOCKED: a valid one is taken; one in the window of the predicted crossing that is not valid counts as
missing. -/
def State.crossLocked (s : State) (t : Nat) (pos : Bool) (i1 : Option Nat) : State :=
  if s.crossingValid t pos then
    let s := s.takeCrossing t pos
    if pos then (s.setMns { s.mns with slew := slewStep s.mns.slew }).heaterCycle i1 else s
  else if s.inWindow t then s.passPredicted
  else s

/-- A crossing in COAST: the second of a return, or the first of one. In the window of the predicted crossing, that one
has passed. -/
def State.crossCoast (s : State) (t : Nat) (pos : Bool) (i1 : Option Nat) : State :=
  if s.mns.cand.any fun c => s.isReturn c t pos then
    let s := s.mainsReturn t pos
    if pos then s.heaterCycle i1 else s
  else
    let s := s.setMns { s.mns with cand := some (t, pos) }
    if s.inWindow t then s.passPredicted else s

/-- A crossing in SEARCH or LOST: the eighth valid one in a row locks the loop. -/
def State.crossSearch (s : State) (t : Nat) (pos : Bool) (i1 : Option Nat) : State :=
  let s := if s.mnState = mnLost then
      ((s.setMnState mnSearch).setMns { s.mns with last := none, posAt := none, negAt := none, valid := 0, half := s.nomHalf
        }).dropFault 160
    else s
  let n := if s.crossingValid t pos then s.mns.valid + 1 else 0
  let s := (s.takeCrossing t pos).noSupply
  let s := s.setMns { s.mns with valid := n, slew := 0, fireAt := t }
  if n = 8 then
    let s := s.enterLocked
    if pos then s.heaterCycle i1 else s
  else s

/-- MAINS_CROSSING: a zero crossing `ago` ns ago, with U½ and the one-cycle RMS current of phase 0. -/
def mainsCrossing (pos : Bool) (ago uhalf i1 : Nat) (s : State) : State :=
  if s.fld F.MNS_SCALE_VFS 0 = 0 then s
  else
    let t := s.now - ago
    let i1 := if s.fld F.MNS_SCALE_IFS 0 = 0 then none else some i1
    let s := s.takeUhalf uhalf
    let s := if pos then s.meetPos t else s
    if s.mnState = mnLocked then s.crossLocked t pos i1
    else if s.mnState = mnCoast then s.crossCoast t pos i1
    else s.crossSearch t pos i1

def execMainsCrossing (pos : Bool) (ago uhalf i1 : Nat) (s : State) : Host.Outcome State Fault Refusal :=
  .next (s.finish (if s.domOn .ana then mainsCrossing pos ago uhalf i1 s else s))

/-- When a crossing can be called missing: past the window of the predicted one in LOCKED, and from the prediction on in
COAST, which runs on it. -/
def State.missingFrom (s : State) : Nat := s.predicted.1 + if s.mnState = mnLocked then s.mns.half / 10 else 0

/-- MAINS_CROSSING_MISSING: a predicted crossing passes its window with none. -/
def mainsCrossingMissing (uhalf : Nat) (s : State) : State :=
  let st := s.mnState
  if s.fld F.MNS_SCALE_VFS 0 = 0 then s
  else if st = mnLocked ∨ st = mnCoast then
    if s.missingFrom ≤ s.now then (s.takeUhalf uhalf).passPredicted else s
  else if st = mnSearch then ((s.takeUhalf uhalf).setMns { (s.takeUhalf uhalf).mns with valid := 0 }).noSupply
  else (s.takeUhalf uhalf).noSupply

def execMainsCrossingMissing (uhalf : Nat) (s : State) : Host.Outcome State Fault Refusal :=
  .next (s.finish (if s.domOn .ana then mainsCrossingMissing uhalf s else s))

/-- MNS_SCALE or MNS_CFG written: with a scale of 0 the loop stays in SEARCH and P_avail is 0 (R242). -/
def State.mainsScale (s : State) : State :=
  if s.fld F.MNS_SCALE_VFS 0 = 0 then
    (((s.setMnState mnSearch).setMns { s.mns with last := none, posAt := none, negAt := none, valid := 0 }).dropFault 160
      ).noSupply.htLost
  else s

/-! ### Measurement windows and available power (R243, R247) -/

/-- U_min over the last AWIN, in 0.1 V; a time in SEARCH or LOST within it counts as 0. -/
def State.uMinAvail (s : State) : Nat :=
  let from_ := s.now - max 1 (s.fld F.MNS_AVAIL_AWIN 0) * 100000000
  let bad := match s.mns.badAt with
    | some t => decide (from_ ≤ t)
    | none => false
  if bad then 0
  else
    let us := (s.mns.wins.filter fun w => decide (from_ < w.1)).map (·.2)
    us.foldl min (us.headD 0)

/-- MNS_WINDOW_END: U10 in 0.1 V, I10 in 0.01 A, and P in W. -/
def mnsWindowEnd (u10 i10 : Nat) (p : Int) (s : State) : State :=
  let hasV := decide (s.fld F.MNS_SCALE_VFS 0 ≠ 0)
  let hasI := decide (s.fld F.MNS_SCALE_IFS 0 ≠ 0)
  let s := if hasV then s.setFld F.MNS_URMS_U10 0 (min 0xFFFF u10) else s
  let s := if hasI then s.setFld F.MNS_IRMS_I10 0 (min 0xFFFF i10) else s
  let s := if hasV && hasI then s.setReg (F.MNS_POWER.addr 0) (BitVec.ofInt 32 p) else s
  let s := if hasV && !(s.mnState == mnSearch || s.mnState == mnLost) then s else s.noSupply
  let win := max 1 (s.fld F.MNS_AVAIL_AWIN 0) * 100000000
  let kept := s.mns.wins.filter fun w => decide (s.now < w.1 + win)
  let s := s.setMns { s.mns with wins := (s.now, if hasV then min 0xFFFF u10 else 0) :: kept }
  let np := max 1 (s.fld F.MNS_AVAIL_NPH 0)
  let s := s.setReg (F.MNS_PAVAIL.addr 0) (BitVec.ofNat 32 (np * s.uMinAvail * s.fld F.MNS_AVAIL_ILIM 0 / 100))
  s.thrEval

def execMnsWindowEnd (u10 i10 : Nat) (p : Int) (s : State) : Host.Outcome State Fault Refusal :=
  .next (s.finish (if s.domOn .ana then mnsWindowEnd u10 i10 p s else s))

/-- MNS_F10_UPDATE: f10 in 0.01 Hz. -/
def mnsF10Update (f : Nat) (s : State) : State := s.setFld F.MNS_FREQ_F10 0 (min 0xFFFF f)

def execMnsF10Update (f : Nat) (s : State) : Host.Outcome State Fault Refusal :=
  .next (s.finish (if s.domOn .ana ∧ s.fld F.MNS_SCALE_VFS 0 ≠ 0 then mnsF10Update f s else s))

end Sys2Proof.Machine
end

