-- ==== Sys2Proof/Machine/Temp.lean ====
section
/-! DEFINITION. Temperature channels and array pages (R256 to R258, R264). A channel's update comes with its raw
measurement: ΔV of a diode in nV, or a thermistor's resistance in mΩ. -/

namespace Sys2Proof.Machine

def Tmp.init : Tmp := { hist := [], rating := false, failing := false, fresh := 0, stale := 0, heard := [] }
def State.tmp (s : State) (p : Nat) : Tmp := s.tmps.get (fun _ => Tmp.init) p
def State.setTmp (s : State) (p : Nat) (x : Tmp) : State := { s with tmps := s.tmps.set (fun _ => Tmp.init) p x }

/-! ### Measurement (R256) -/

/-- x / y rounded to the nearest integer, halves up; y > 0. -/
def roundQ (x y : Int) : Int := (2 * x + y) / (2 * y)

/-- A diode's temperature in 1/16 °C: ΔV × q / (η × k × ln 8) − 273.15 °C + OFS, with q/k = 16021766340/1380649 K/V and
ln 8 = 2.0794415416798357. -/
def diodeTemp (dv ideal : Nat) (ofs : Int) : Int :=
  let num : Int := 16 * (dv : Int) * 16021766340 * 10 ^ 11
  let den : Int := 1380649 * (ideal : Int) * 20794415416798357
  roundQ (num * 10 - 43704 * den) (10 * den) + ofs

/-- 2 × atanh(z) for 0 ≤ z ≤ 1/3, in 2^-60: `n` terms. -/
def atanhSeries : Nat → Int → Int → Int → Int
  | 0, _, _, _ => 0
  | n + 1, z2, p, k => 2 * p / k + atanhSeries n z2 (p * z2 / 2 ^ 60) (k + 2)

/-- ln 2 in 2^-60. -/
def ln2 : Int := 799144290325165978

/-- ln(p / q) in 2^-60, for p, q > 0. -/
def lnQ (p q : Nat) : Int :=
  let e : Int := (Nat.log2 p : Int) - Nat.log2 q
  let m : Int := if 0 ≤ e then (p : Int) * 2 ^ 60 / (q * 2 ^ e.toNat) else (p : Int) * 2 ^ 60 * 2 ^ (-e).toNat / q
  let (m, e) := if m < 2 ^ 60 then (2 * m, e - 1) else (m, e)
  let z := (m - 2 ^ 60) * 2 ^ 60 / (m + 2 ^ 60)
  e * ln2 + atanhSeries 24 (z * z / 2 ^ 60) z 1

/-- A thermistor's temperature in 1/16 °C by the Beta model: 1/T = 1/298.15 K + ln(R/R25)/BETA. `r` in mΩ, `r25` in
10 Ω. None where the model gives no temperature. -/
def betaTemp (r r25 beta : Nat) : Option Int :=
  if r = 0 ∨ r25 = 0 ∨ beta = 0 then none
  else
    let one : Int := 2 ^ 60
    let den : Int := 100 * beta * one + 29815 * lnQ r (10000 * r25)
    if den ≤ 0 then none else some (roundQ (16 * 29815 * beta * one * 10 - 43704 * den) (10 * den))

/-- A channel's temperature; none where the sensor is at fault. Where the spec states no result (coefficients outside
their ranges, a result outside the format) the value is free (assumption 1). -/
def State.measure (s : State) (n raw : Nat) : Option Int × State :=
  let sens := s.fld F.TMP_SENS_IDEAL n
  let top := s.fld F.TMP_SENS_OFS n
  let diode := s.fld F.TMP_CFG_TYPE n == 1
  let bad := if diode then decide (raw < 20000000 ∨ 90000000 < raw) else decide (raw < 10000 ∨ 10000000000 < raw)
  if bad then (none, s)
  else
    let v := if diode then (if 9000 ≤ sens ∧ sens ≤ 11000 then some (diodeTemp raw sens (signed top 16)) else none)
      else betaTemp raw top sens
    match v with
    | some x => if -32768 ≤ x ∧ x ≤ 32767 then (some x, s) else let d := s.draw; (some (signed d.1 16), d.2)
    | none => let d := s.draw; (some (signed d.1 16), d.2)

/-! ### Threshold states (R257) -/

def State.thWarn (s : State) (p : Nat) : Int := s.sfld F.TMP_TH_A_WARN p
def State.thLimit (s : State) (p : Nat) : Int := s.sfld F.TMP_TH_A_LIMIT p
def State.thAbs (s : State) (p : Nat) : Int := s.sfld F.TMP_TH_B_ABS p

/-- The highest threshold a value reaches. -/
def State.levelOf (s : State) (p : Nat) (v : Int) : Nat :=
  if s.thAbs p ≤ v then 3 else if s.thLimit p ≤ v then 2 else if s.thWarn p ≤ v then 1 else 0

/-- The state after a value: it rises at once, and falls by one level past its hysteresis. -/
def State.nextLevel (s : State) (p st : Nat) (v : Int) : Nat :=
  let h : Int := s.fld F.TMP_TH_B_HYST p
  let l := s.levelOf p v
  if st < l then l
  else if st = 3 ∧ v < s.thAbs p - h then 2
  else if st = 2 ∧ v < s.thLimit p - h then 1
  else if st = 1 ∧ v < s.thWarn p - h then 0
  else st

def State.tmState (s : State) (p : Nat) : Nat := s.fld F.TMP_STAT_STATE p

/-- A state is taken, with the event of a rise or of the fall back to NORMAL. -/
def State.setTmState (s : State) (p st : Nat) : State :=
  let old := s.tmState p
  let s := s.setFld F.TMP_STAT_STATE p st
  if old < st then s.event B.TMP p (st - 1)
  else if st = 0 ∧ old ≠ 0 then (s.setFld F.TMP_STAT_CAUSE p 0).event B.TMP p 5
  else s

/-! ### TS channels (R256, R257) -/

/-- The value RWIN ago: the last one taken at or before then. -/
def State.valueAgo (s : State) (n : Nat) : Option Int :=
  let w := max 1 (s.fld F.TMP_RATE_RWIN n) * 10000000
  ((s.tmp n).hist.find? fun e => decide (e.1 + w ≤ s.now)).map (·.2)

/-- Values kept: those within RWIN, and the newest before it. -/
def keepHist (now w : Nat) : List (Nat × Int) → List (Nat × Int)
  | [] => []
  | e :: es => if e.1 + w ≤ now then [e] else e :: keepHist now w es

/-- A sound value of a TS channel. -/
def State.tsValue (s : State) (n : Nat) (v : Int) : State :=
  let x := s.tmp n
  let rwin := max 1 (s.fld F.TMP_RATE_RWIN n)
  let rate := s.fld F.TMP_RATE_RATE n
  let fast := decide (rate ≠ 0) && match s.valueAgo n with
    | some o => decide ((16 * rate * rwin : Nat) < 1000 * (v - o))
    | none => false
  let s := s.setTmp n { x with rating := fast, failing := false, hist := (s.now, v) :: keepHist s.now (rwin * 10000000) x.hist }
  let s := (s.setFlag F.TMP_STAT_VALID n true).setSFld F.TMP_VALUE_TEMP n v
  let s := s.dropFault (192 + n)
  let st := s.nextLevel n (s.tmState n) v
  let s := s.setTmState n (if fast then max 2 st else st)
  let s := if fast ∧ ¬ x.rating then s.event B.TMP n 3 else s
  let s := if fast then s.setFld F.TMP_STAT_CAUSE n 2 else s
  let s := if st = 3 then s.setFld F.TMP_STAT_CAUSE n 1 else s
  if fast ∨ st = 3 then (s.raiseFault (168 + n)).htProtect n else s.dropFault (168 + n)

/-- A sensor fault of a TS channel. -/
def State.tsFault (s : State) (n : Nat) : State :=
  let x := s.tmp n
  let s := s.setTmp n { x with failing := true, rating := false, hist := [] }
  let s := s.setFlag F.TMP_STAT_VALID n false
  let s := if x.failing then s else s.event B.TMP n 4
  let s := (s.raiseFault (192 + n)).setTmState n 2
  (s.setFld F.TMP_STAT_CAUSE n 3).htProtect n

/-- TMP_SENSOR_UPDATE. -/
def tmpSensorUpdate (n raw : Nat) (s : State) : State :=
  let s := match s.measure n raw with
    | (some v, s) => s.tsValue n v
    | (none, s) => s.tsFault n
  s.thrEval

def execTmpSensorUpdate (n raw : Nat) (s : State) : Host.Outcome State Fault Refusal :=
  .next (s.finish (if n < 24 ∧ s.domOn .ana ∧ (s.fld F.TMP_CFG_TYPE n = 1 ∨ s.fld F.TMP_CFG_TYPE n = 2) then tmpSensorUpdate n raw s
    else s))

/-! ### Arrays (R258) -/

/-- The array page of a station. -/
def arrPage (n : Nat) : Nat := 0x20 + n

/-- Is source `i` of a station's array selected? -/
def State.srcOn (s : State) (n i : Nat) : Bool :=
  if i < 4 then bit (s.fld F.TMP_ASRC_BLN (arrPage n)) i else i == 4 && s.flag F.TMP_ASRC_TS_EN (arrPage n)

/-- Its VALID and value. -/
def State.srcValue (s : State) (n i : Nat) : Bool × Int :=
  if i < 4 then (s.flag (F.BLN_TEMP_VALID.at i) n, s.sfld (F.BLN_TEMP_TEMP.at i) n)
  else
    let t := s.fld F.TMP_ASRC_TS (arrPage n)
    (decide (t < 24) && s.flag F.TMP_STAT_VALID t, s.sfld F.TMP_VALUE_TEMP t)

/-- The array's state reaches FMT (R116 to R119, R258). -/
def State.toFmt (s : State) (n st : Nat) : State :=
  let f := (s.stn n).fmt
  let s := s.setFmt n { f with
    arrState := st, limitPend := f.limitPend || decide (f.arrState < 2 ∧ 2 ≤ st) }
  if st = 3 ∧ f.arrState ≠ 3 then (s.raiseFault (216 + n)).thermCut n
  else if st ≠ 3 then s.dropFault (216 + n) else s

/-- The array page is judged: the highest valid value of its selected sources, and at least LIMIT while one is stale. -/
def State.judgeArray (s : State) (n : Nat) : State :=
  let p := arrPage n
  let x := s.tmp p
  let sel := (List.range 5).filter (s.srcOn n)
  let good := (sel.filter fun i => bit x.fresh i).map fun i => (s.srcValue n i).2
  let lost := sel.any fun i => bit x.stale i
  let s := s.setFlag F.TMP_STAT_VALID p (sel.all fun i => bit x.fresh i)
  let st := s.tmState p
  let (st, s) := match good with
    | [] => (st, s)
    | v :: vs =>
      let top := vs.foldl max v
      (s.nextLevel p st top, s.setSFld F.TMP_VALUE_TEMP p top)
  let st' := if lost then max 2 st else st
  let s := s.setTmState p st'
  let s := if st' = 3 then s.setFld F.TMP_STAT_CAUSE p 1 else if lost then s.setFld F.TMP_STAT_CAUSE p 3 else s
  s.toFmt n st'

/-- A mask with bit `i` set or cleared. -/
def maskPut (m i : Nat) (b : Bool) : Nat := if bit m i = b then m else if b then m + 2 ^ i else m - 2 ^ i

/-- A source becomes stale; SRC_LOST at each time a selected one does. -/
def State.srcStale (s : State) (n i : Nat) : State :=
  let p := arrPage n
  let x := s.tmp p
  let s := s.setTmp p { x with fresh := maskPut x.fresh i false, stale := maskPut x.stale i true }
  if bit x.stale i ∨ ¬ s.srcOn n i then s else s.event B.TMP p 6

/-- TMP_ARRAY_UPDATE: source `i` of station `n` (0 to 3 BLN_TEMP_i, 4 the TS channel) reports. -/
def tmpArrayUpdate (n i : Nat) (s : State) : State :=
  let p := arrPage n
  let x := s.tmp p
  let x := { x with heard := (i, s.now) :: x.heard.filter fun e => e.1 ≠ i }
  let s := s.setTmp p x
  let s := if (s.srcValue n i).1 then s.setTmp p { x with fresh := maskPut x.fresh i true, stale := maskPut x.stale i false }
    else s.srcStale n i
  s.judgeArray n

/-- A source has not reported for 10 ms. -/
def State.srcSilent (s : State) (n i : Nat) : Bool :=
  ((s.tmp (arrPage n)).heard.find? fun e => e.1 == i).all fun e => decide (e.2 + 10000000 ≤ s.now)

/-- TMP_SOURCE_STALE: a source has not reported for 10 ms. -/
def tmpSourceStale (n i : Nat) (s : State) : State := if s.srcSilent n i then (s.srcStale n i).judgeArray n else s

def execTmpArrayUpdate (n i : Nat) (s : State) : Host.Outcome State Fault Refusal :=
  .next (s.finish (if n < 6 ∧ i < 5 ∧ s.domOn .ana ∧ s.srcOn n i then tmpArrayUpdate n i s else s))
def execTmpSourceStale (n i : Nat) (s : State) : Host.Outcome State Fault Refusal :=
  .next (s.finish (if n < 6 ∧ i < 5 ∧ s.domOn .ana ∧ s.srcOn n i then tmpSourceStale n i s else s))

end Sys2Proof.Machine
end

