-- ==== Sys2Proof/Machine/Cal.lean ====
section
/-! DEFINITION. Calibration runs: starting, a pair of runs judged and applied, abandoning, and what BOOT and CONFIG apply
of the store (R389 to R396). A pair comes with what each run measured: tap values for ADC, PXSTART and ZC; for DESKEW the
lowest and highest passing tap of lanes 1 to 5; for FACET, facet by facet, the sums of periods and of pulse widths over
REVS revolutions in 31.25 ps. -/

namespace Sys2Proof.Machine

/-! Kinds, in the order they run: 0 ADC, 1 PXSTART, 2 DESKEW, 3 ZC, 4 FACET (R397). -/

/-- Record TYPE of a kind (R388). -/
def calType (k : Nat) : Nat := [4, 3, 2, 5, 6].getD k 0

/-- A field of CAL_LIM outside its range is taken as its reset value (R397). -/
def inRangeOr (v lo hi d : Nat) : Nat := if lo ≤ v ∧ v ≤ hi then v else d
def State.lim (s : State) (i : Nat) : Nat := (s.reg ((F.CAL_LIM.at i).addr 0)).toNat
def State.minWin (s : State) : Nat := bits (s.lim 0) 8 8
def State.deskewTol (s : State) : Nat := bits (s.lim 0) 0 8
def State.pxTol (s : State) : Nat := bits (s.lim 1) 0 8
def State.adcTol (s : State) : Nat × Nat := (bits (s.lim 2) 0 8, bits (s.lim 2) 8 8)
def State.zcTol (s : State) : Nat := bits (s.lim 3) 0 8
def State.facetTol (s : State) : Nat × Nat := (bits (s.lim 4) 0 8, bits (s.lim 4) 8 8)
def State.calRevs (s : State) : Nat := inRangeOr (bits (s.lim 4) 16 16) 64 16384 1024

def State.calClass (s : State) : Nat := bits (s.reg (F.CAL_CFG.addr 0)).toNat 0 4
def State.calPairs (s : State) : Nat := max 1 (bits (s.reg (F.CAL_CFG.addr 0)).toNat 8 2)
def State.calStore (s : State) : Bool := bit (s.reg (F.CAL_CFG.addr 0)).toNat 16

/-- CAL_RESULT of a kind: the worst over its instances, in the order of the codes (R397). -/
def State.calResult (s : State) (k code : Nat) : State :=
  let a := F.CAL_RESULT.addr 0
  s.setReg a (putBits (s.reg a) (4 * k) 4 (max code (bits (s.reg a).toNat (4 * k) 4)))

/-- The polygon is near the speed of CAL_CFG.CLASS: its last period lies within LOCK_TOL of T_c (DEDUCED). -/
def State.nearSpeed (s : State) (n : Nat) : Bool :=
  match (s.stn n).fac.periods.head? with
  | some p =>
    let t : Int := 32 * s.scPeriod s.calClass
    decide (((p.1 : Int) - t).natAbs * 10000 ≤ t.toNat * s.fld F.FAC_CFG_LOCK_TOL n ∧ 0 < t)
  | none => false

/-- Does an instance have what its kind needs (R390)? -/
def State.calReady (s : State) (k i : Nat) : Bool :=
  match k with
  | 0 => true
  | 1 => s.flag F.CLK_STAT_SYN_LOCK i && s.fld F.CLK_STAT_CLASS i == s.calClass
  | 2 => s.link i == lkUp
  | 3 => s.sys.calFrom = .ready && s.moState i == moRun && s.moMode i == 0
  | _ => s.sys.calFrom = .ready && s.flag F.FAC_STAT_BD_OK i && s.nearSpeed i && s.programmed i s.calClass

/-- Instances asked for. -/
def State.calAsked (s : State) (k : Nat) : List Nat :=
  let stn := bits (s.reg (F.CAL_REQ.addr 0)).toNat 8 6
  match k with
  | 0 => List.range 16
  | 3 => (List.range 24).filter fun c => bit (s.reg (F.CAL_ZC_MASK.addr 0)).toNat c
  | _ => (List.range 6).filter fun n => bit stn n

/-- Laser-dark request of a station that DESKEW measures (R390). -/
def darkDeskew : Nat := 0x204

/-- The kinds from `k` on: instances that lack their condition are skipped; the first kind with one that does not runs.
When none is left, the run is over: CAL.DONE, and the device returns to the mode it came from. -/
def State.calNext (s : State) (k : Nat) : Nat → State
  | 0 =>
    let s := ((s.setFlag F.CAL_STAT_BUSY 0 false).setFld F.CAL_STAT_KIND 0 0).event B.CAL 0 0
    s.deviceMode s.sys.calFrom
  | n + 1 =>
    let want := if bit (s.reg (F.CAL_REQ.addr 0)).toNat k then s.calAsked k else []
    let s := if want.any (fun i => !s.calReady k i) then s.calResult k 2 else s
    match want.filter (s.calReady k) with
    | [] => s.calNext (k + 1) n
    | is =>
      let s := { s with cal := { s.cal with jobs := is.map fun i => { kind := k, inst := i, pairs := 0 } } }
      let s := s.setFld F.CAL_STAT_KIND 0 (k + 1)
      if k = 2 then forAll is s fun s n => s.laserDark n darkDeskew else s

/-- CALIBRATE is entered (R390, R396). -/
def State.calStart (s : State) : State :=
  let s := { s with cal := { s.cal with jobs := [], storeErr := false } }
  let s := (s.setReg (F.CAL_RESULT.addr 0) 0).setFlag F.CAL_STAT_BUSY 0 true
  s.calNext 0 5

/-- Every run is abandoned (R396): ABANDONED for the kinds asked for and not finished. -/
def State.calAbandon (s : State) : State :=
  if ¬ s.flag F.CAL_STAT_BUSY 0 then s
  else
    let k := s.fld F.CAL_STAT_KIND 0 - 1
    let s := forAll ((List.range 5).filter fun j => decide (k ≤ j) && bit (s.reg (F.CAL_REQ.addr 0)).toNat j) s fun s j =>
      s.calResult j 5
    let s := forAll (s.cal.jobs.filter (·.kind == 2) |>.map (·.inst)) s fun s n => s.endDark n darkDeskew
    ({ s with cal := { s.cal with jobs := [] } }.setFlag F.CAL_STAT_BUSY 0 false).setFld F.CAL_STAT_KIND 0 0

/-! ### Judging a pair (R391 to R393) -/

/-- D_BALL of a station in 31.25 ps: of the PXSTART run just made, or of the stored record. -/
def State.dBall (s : State) (n : Nat) : Int :=
  let d := match s.cal.trims.find? (·.1 == 3 * 256 + n) with
    | some t => t.2
    | none => ((newestRec s.cal.active.recs 3 n).map (·.data)).getD []
  signed (fieldAt d 128 2) 16

/-- SIG and FOFS of every facet from the sums of one run (R392): `ts` and `ws` in 31.25 ps over `revs` revolutions. -/
def State.facetVals (s : State) (n : Nat) (ts ws : List Int) : List (Int × Int) :=
  let revs : Int := s.calRevs
  let f : Int := ts.length
  let st := ts.sum
  let sw := ws.sum
  let up := s.fld F.FAC_CFG_EDGE n == 0
  let fr : Int := s.pixFreq n s.calClass
  (ts.zip ws).map fun x =>
    let sig := roundQ (f * x.1 - st) (f * revs)
    let dw := if up then f * x.2 - sw else sw - f * x.2
    (sig, roundQ ((dw - 2 * f * revs * s.dBall n) * fr) (2 * f * revs * 250 * 2 ^ 23))

/-- A list turned by `r` places. -/
def rotate (r : Nat) (xs : List Int) : List Int := xs.drop r ++ xs.take r

/-- The second run's rotation against the first: the one with the lowest score (R127, R392). -/
def facetTurn (a b : List Int) : Nat :=
  let score := fun r => ((a.zip (rotate r b)).map fun x => (x.1 - x.2).natAbs).foldl max 0
  (List.range b.length).foldl (fun m r => if score r < score m then r else m) 0

/-- Even and odd places of a list. -/
def evens (xs : List Int) : List Int := (xs.zipIdx.filter fun x => x.2 % 2 == 0).map (·.1)
def odds (xs : List Int) : List Int := (xs.zipIdx.filter fun x => x.2 % 2 == 1).map (·.1)

/-- The values of two runs as compared, and whether each is within its range. -/
def State.calValues (s : State) (k i : Nat) (a b : List Int) : List Int × List Int × Bool :=
  let within := fun (lo hi : Int) (x : Int) => decide (lo ≤ x ∧ x ≤ hi)
  match k with
  | 0 => (a, b, (a.take 1 ++ b.take 1).all (within (-64) 63) && (a.drop 1 ++ b.drop 1).all (within (-128) 127))
  | 1 => (a, b, (a.take 128 ++ b.take 128).all (within 0 127) && (a.drop 128 ++ b.drop 128).all (within (-32768) 32767))
  | 2 =>
    let mid := fun (xs : List Int) => ((evens xs).zip (odds xs)).map fun x => (x.1 + x.2) / 2
    let wide := fun (xs : List Int) => ((evens xs).zip (odds xs)).all fun x => decide ((s.minWin : Int) ≤ x.2 - x.1 + 1)
    (mid a, mid b, wide a && wide b && (mid a ++ mid b).all (within (-128) 127))
  | 3 => (a, b, (a ++ b).all (within (-31) 31))
  | _ =>
    let ra := s.facetVals i (evens a) (odds a)
    let r := facetTurn (evens a) (evens b)
    let rb := s.facetVals i (rotate r (evens b)) (rotate r (odds b))
    let flat := fun (xs : List (Int × Int)) => xs.flatMap fun x => [x.1, x.2]
    (flat ra, flat rb, (flat ra ++ flat rb).all (within (-32768) 32767))

/-- Tolerance of value `j` of a kind. -/
def State.calTol (s : State) (k j : Nat) : Nat :=
  match k with
  | 0 => if j = 0 then s.adcTol.1 else s.adcTol.2
  | 1 => if j < 128 then s.pxTol else 2
  | 2 => s.deskewTol
  | 3 => s.zcTol
  | _ => if j % 2 = 0 then s.facetTol.1 else s.facetTol.2

/-- How many numbers a run of a kind gives. -/
def State.calCount (s : State) (k i : Nat) : Nat :=
  match k with
  | 0 => 2
  | 1 => 129
  | 2 => 10
  | 3 => 1
  | _ => 2 * s.nFacets i

def byteOf (x : Int) : List Byte := leBytes 1 (unsign x 8)
def halfOf (x : Int) : List Byte := leBytes 2 (unsign x 16)

/-- DATA of a record (R388). -/
def calData (k : Nat) (v : List Int) : List Byte :=
  match k with
  | 0 => v.flatMap halfOf
  | 1 => (v.take 128).flatMap byteOf ++ halfOf (v.getD 128 0) ++ [0, 0]
  | 2 => [0] ++ v.flatMap byteOf ++ [0, 0]
  | 3 => v.flatMap byteOf ++ [0, 0, 0]
  | _ => takeAt (((evens v).zip (odds v)).flatMap fun x => halfOf x.2 ++ halfOf x.1) 0 64

/-- Values put in force: trims by record type and instance, and the FAC_FACET registers under the timing of R135. -/
def State.calApply (s : State) (typ i : Nat) (d : List Byte) : State :=
  if typ = 6 then
    let f := (s.stn i).fac
    let ws := (List.range 16).map fun j => (0x064 + 4 * j, BitVec.ofNat 32 (fieldAt d (4 * j) 4))
    let s := s.setFac i { f with held := f.held ++ ws }
    if (s.stn i).fmt.owners = [] then s.applyHeld i else s
  else { s with cal := s.cal.setTrim typ i d }

/-- KEY of a record: UNIT_ID of the scanning unit for FACET. -/
def State.calKey (s : State) (k i : Nat) : List Byte :=
  if k = 4 then takeAt (s.stn i).bln.idMem 0x08 16 else List.replicate 16 0

/-- A job is over; when it was the kind's last, the next kind begins. -/
def State.calJobDone (s : State) (k i : Nat) : State :=
  let s := if k = 2 then s.endDark i darkDeskew else s
  let s := { s with cal := { s.cal with jobs := s.cal.jobs.filter fun j => j.inst != i } }
  if s.cal.jobs = [] then s.calNext (k + 1) (4 - k) else s

/-- CAL_RUN_DONE: a pair of one instance ends. `lost`: the condition of R390 was lost mid-run. -/
def calRunDone (k i : Nat) (a b : List Int) (lost storeOk : Bool) (s : State) : State :=
  match s.cal.jobs.find? fun j => j.kind == k && j.inst == i with
  | none => s
  | some j =>
    if a.length ≠ s.calCount k i ∨ b.length ≠ s.calCount k i then s
    else
      let (va, vb, fit) := s.calValues k i a b
      let agree := (va.zip vb).zipIdx.all fun x => decide ((x.1.1 - x.1.2).natAbs ≤ s.calTol k x.2)
      if !lost && !fit then
        (((s.calResult k 4).raiseFault 369).event B.CAL 0 2).calJobDone k i
      else if lost || !agree then
        if j.pairs + 1 < s.calPairs then
          { s with cal := { s.cal with jobs := s.cal.jobs.map fun x =>
              if x.inst == i then { x with pairs := x.pairs + 1 } else x } }
        else (((s.calResult k 3).raiseFault 368).event B.CAL 0 1).calJobDone k i
      else
        let d := calData k ((va.zip vb).map fun x => (x.1 + x.2) / 2)
        let s := (s.calResult k 1).calApply (calType k) i d
        let s := if k = 4 then s.setFld F.CAL_STAT_STALE 0 (maskPut (s.fld F.CAL_STAT_STALE 0) i false) else s
        let s := if s.calStore then s.calWrite (calType k) i (s.calKey k i) d storeOk else s
        s.calJobDone k i

def execCalRunDone (k i : Nat) (a b : List Int) (lost storeOk : Bool) (s : State) : Host.Outcome State Fault Refusal :=
  .next (s.finish (if s.domOn .ctl then calRunDone k i a b lost storeOk s else s))

/-! ### BOOT and CONFIG (R389) -/

/-- At BOOT, CAL reads the active bank: torn records are counted and raise F_370 once, and the valid keys are counted. -/
def State.calBoot (s : State) : State :=
  let rs := s.cal.active.recs
  let torn := (rs.filter (·.torn)).length
  let s := { s with cal := { s.cal with jobs := [], storeErr := false, idChecked := [], trims := [] } }
  let s := (s.calStat.setFld F.CAL_STORE_STAT_TORN 0 (min 255 torn)).setFld F.CAL_STORE_STAT_RECS 0
    (min 255 (newestRecs rs).length)
  if torn = 0 then s else s.raiseFault 370

/-- Trims of some types applied from the store: ADC and ZC as CTL and ANA switch on. -/
def State.calTrims (s : State) (typs : List Nat) : State :=
  ((newestRecs s.cal.active.recs).filter fun r => decide (r.typ ∈ typs)).foldl (fun s r => s.calApply r.typ r.inst r.data) s

/-- DESKEW, PXSTART and FACET values, as the last act of the change into CONFIG. -/
def State.calConfig (s : State) : State := s.calTrims [2, 3, 6]

end Sys2Proof.Machine
end

