-- ==== Sys2Proof/Machine/Enc.lean ====
section
/-! DEFINITION. The encoder: host jobs, its saved state, and Loupe dumps in trace mode (R88 to R92, R95). -/

namespace Sys2Proof.Machine

def Lup.init : Lup :=
  { words := [], total := 0, trigAt := none, trigNow := false, stopped := false, blocks := [], held := none
    tickAt := none }
def State.lup (s : State) (b : Nat) : Lup := s.lups.get (fun _ => Lup.init) b
def State.setLup (s : State) (b : Nat) (x : Lup) : State := { s with lups := s.lups.set (fun _ => Lup.init) b x }
def State.setEnc (s : State) (x : Enc) : State := { s with enc := x }

/-- Bytes the device stores in LMEM: those beyond the capacity, and all of them while LMEM does not serve, go nowhere. -/
def State.devStore (s : State) (a : Nat) (bs : List Byte) : State :=
  if s.lmemReady then s.storeLmem a (bs.take (s.lmemSize - a)) else s

def State.encBusy (s : State) : Bool := s.flag F.ENC_STAT_BUSY 0
def State.encErr (s : State) (code : Nat) : State := (s.setFld F.ENC_STAT_ERR 0 code).event B.ENC 0 1

/-- History of a column: zeros before any band. -/
def Enc.histOf (e : Enc) (c : Nat) : List Nat :=
  let h := e.hist.get (fun _ => []) c
  if h = [] then List.replicate 4096 0 else h

/-! ### Commands (R88, R91, R92) -/

/-- START would be refused with BADCFG. -/
def State.encBad (s : State) : Bool :=
  let w := s.fld F.ENC_CFG_WIDTH 0
  let n := s.fld F.ENC_BANDS_BANDS 0
  decide (w = 0 ∨ 12 < w) || s.fld F.ENC_CFG_BPP 0 == 3 || s.fld F.ENC_CFG_HIST 0 == 3 || n == 0
    || decide (3149 < n + s.fld F.ENC_BAND0_BANDS 0)

/-- ENC_START. After RESTORE or ABORT too a job begins at ENC_STAT.BAND 0 and labels its entries from ENC_BAND0; what the
restored position then does the spec leaves open (assumption 97). -/
def encStart (s : State) : State :=
  if ¬ s.pageEn B.ENC 0 then s
  else if s.encBusy then s.encErr 2
  else if s.encBad then s.encErr 1
  else
    let s := (s.setFld F.ENC_STAT_ERR 0 0).setFlag F.ENC_STAT_DONE 0 false
    let s := (s.setFld F.ENC_STAT_BAND 0 0).setFlag F.ENC_STAT_BUSY 0 true
    let s := if s.fld F.ENC_ENTRY_ENTRY 0 = 0 then (s.setReg (F.ENC_IDX_CRC.addr 0) 0).setPair64 F.ENC_COMP_LO 0 0 else s
    s.setEnc { s.enc with
      port := [], ran := true, saveReq := false, hist := if s.fld F.ENC_CFG_HIST 0 = 1 then s.enc.hist else [] }

/-- The 124 register bytes of a state record: twelve registers, then zeros (assumption 9). -/
def encRegs : List Field :=
  [F.ENC_CFG, F.ENC_BANDS, F.ENC_BAND0, F.ENC_DST_LO, F.ENC_DST_HI, F.ENC_IDX_LO, F.ENC_IDX_HI, F.ENC_ENTRY, F.ENC_IDX_CRC,
    F.ENC_COMP_LO, F.ENC_COMP_HI]

/-- The state record of R91. -/
def State.encRecord (s : State) : List Byte :=
  let h := (List.range 12).flatMap fun c => packLine 4 (s.enc.histOf c)
  let r := encRegs.flatMap fun f => leBytes 4 (s.reg (f.addr 0)).toNat
  let body := h ++ takeAt (r ++ leBytes 4 (s.fld F.ENC_STAT_BAND 0)) 0 124
  body ++ leBytes 4 (crc32c body).toNat

/-- The state is stored at ENC_SAVE; with no job ever run, a zero-history state at ENC_ENTRY = 0. -/
def State.encSaveNow (s : State) : State :=
  let t := if s.enc.ran then s
    else (s.setEnc { s.enc with hist := [] }).setFld F.ENC_ENTRY_ENTRY 0 0
  (s.devStore (s.pair64 F.ENC_SAVE_LO 0) t.encRecord).event B.ENC 0 3

/-- ENC_SAVE. A record is written within one step, so ENC_STAT.SAVING reads 1 in no state between two commands
(assumption 96). -/
def encSave (s : State) : State :=
  if ¬ s.pageEn B.ENC 0 then s
  else if s.encBusy then s.setEnc { s.enc with saveReq := true }
  else s.encSaveNow

/-- ENC_RESTORE: the record is read through ECC. -/
def encRestore (errs : List CwErr) (s : State) : State :=
  if ¬ s.pageEn B.ENC 0 then s
  else if s.encBusy then s.encErr 2
  else
    let a := s.pair64 F.ENC_SAVE_LO 0
    let s := s.demand a 24704 errs
    let bs := s.lmemBytes a 24704
    let ok := s.lmemReady && decide (a + 24704 ≤ s.lmemSize) && !s.poisoned a 24704
      && decide (fieldAt bs 24700 4 = (crc32c (bs.take 24700)).toNat)
    if !ok then s.encErr 3
    else
      let s := forAll (List.range 11) s fun s i =>
        s.setReg ((encRegs.getD i F.ENC_CFG).addr 0) (BitVec.ofNat 32 (fieldAt bs (24576 + 4 * i) 4))
      let s := (s.setFld F.ENC_STAT_BAND 0 (fieldAt bs (24576 + 44) 4)).setFld F.ENC_STAT_ERR 0 0
      s.setEnc { s.enc with
        ran := true
        hist := forAll (List.range 12) [] fun h c => h.set (fun _ => []) c (unpackLine 4 (takeAt bs (2048 * c) 2048)) }

/-- The host job stops at once, and the partial band is discarded. -/
def State.encStopJob (s : State) (code : Nat) : State :=
  if s.encBusy then
    ((s.setFlag F.ENC_STAT_BUSY 0 false).setEnc { s.enc with port := [], saveReq := false }).encErr code
  else s

/-- ENC_ABORT. -/
def encAbort (s : State) : State := s.encStopJob 5

def execEncStart (s : State) : Host.Outcome State Fault Refusal :=
  .next (s.finish (s.onPage B.ENC 0 F.ENC_CTRL.off fun s =>
    if s.domOn .img then encStart s else s))
def execEncSave (s : State) : Host.Outcome State Fault Refusal :=
  .next (s.finish (s.onPage B.ENC 0 F.ENC_CTRL.off fun s =>
    if s.domOn .img then encSave s else s))
def execEncRestore (errs : List CwErr) (s : State) : Host.Outcome State Fault Refusal :=
  .next (s.finish (s.onPage B.ENC 0 F.ENC_CTRL.off fun s =>
    if s.domOn .img then encRestore errs s else s))
def execEncAbort (s : State) : Host.Outcome State Fault Refusal :=
  .next (s.finish (s.onPage B.ENC 0 F.ENC_CTRL.off fun s =>
    if s.domOn .img then encAbort s else s))

/-! ### Trace mode (R90, R234) -/

/-- The block of a group of 24,576 samples: line 8g + j holds nibble j of the samples of group g. -/
def traceBlock (ws : List Word) : List Byte :=
  let ws := (ws ++ List.replicate (24576 - ws.length) 0).take 24576
  let groups := chunks 4096 6 ws
  encodeBlock 2 true (List.replicate 4096 0)
    (groups.flatMap fun g => (List.range 8).map fun j => g.map fun w => bits w.toNat (4 * j) 4)

/-- A length rounded up to 64 bytes. -/
def roundUp64 (n : Nat) : Nat := (n + 63) / 64 * 64

/-- The blocks of a dump, oldest word first, each stored after the one before; their addresses and lengths. -/
def State.dumpBlocks (s : State) (a : Nat) : List (List Word) → State × List (Nat × Nat)
  | [] => (s, [])
  | ws :: rest =>
    let b := traceBlock ws
    let r := (s.devStore a b).dumpBlocks (a + roundUp64 b.length) rest
    (r.1, (a, b.length) :: r.2)

/-- ENC runs the Loupe job of a buffer. -/
def State.runLoupe (s : State) (b : Nat) : State :=
  let x := s.lup b
  let n := x.words.length
  let (s, bl) := s.dumpBlocks (s.pair64 F.LUP_AREA_LO b) (chunks 24576 ((n + 24575) / 24576) x.words.reverse)
  let s := s.setLup b { x with blocks := bl }
  let s := s.setEnc { s.enc with loupe := some b, loupeReq := s.enc.loupeReq.filter (· ≠ b) }
  let s := s.setFlag F.ENC_STAT_LOUPE 0 true
  if s.encBusy then s.event B.ENC 0 2 else s

/-- A Loupe request is served: the host job, if one is active, stands at a band boundary (R91), and no save waits for it
(R92). -/
def State.serveLoupe (s : State) : State :=
  match s.enc.loupe, s.enc.loupeReq with
  | none, b :: _ => if s.pageEn B.ENC 0 ∧ ¬ (s.encBusy ∧ (s.enc.port ≠ [] ∨ s.enc.saveReq)) then s.runLoupe b else s
  | _, _ => s

/-- ENC_LOUPE_JOB: the job of a buffer that dumps runs, pre-empting the host job at a band boundary. -/
def encLoupeJob (b : Nat) (s : State) : State :=
  if b ∈ s.enc.loupeReq ∧ s.enc.loupe = none then
    (s.setEnc { s.enc with loupeReq := b :: s.enc.loupeReq.filter (· ≠ b) }).serveLoupe
  else s

def execEncLoupeJob (b : Nat) (s : State) : Host.Outcome State Fault Refusal :=
  .next (s.finish (if s.domOn .img then encLoupeJob b s else s))

/-! ### Bands (R88, R89) -/

/-- One block of a band and its entry. -/
def State.encBlock (s : State) (bpp c : Nat) (lines : List (List Nat)) : State :=
  let zero := s.flag F.ENC_CFG_SKIP_ZERO 0 && lines.all fun l => l.all (· == 0)
  let hist := fun (s : State) h => s.setEnc { s.enc with hist := s.enc.hist.set (fun _ => []) c h }
  if zero then hist s []
  else
    let blk := encodeBlock bpp (s.fld F.ENC_CFG_HIST 0 == 2) (s.enc.histOf c) lines
    let a := s.pair64 F.ENC_DST_LO 0
    let e := s.fld F.ENC_ENTRY_ENTRY 0
    let ent := leBytes 8 a ++ leBytes 2 (s.fld F.ENC_BAND0_BANDS 0 + s.fld F.ENC_STAT_BAND 0) ++ leBytes 1 c ++ leBytes 1 0
      ++ leBytes 4 blk.length
    let s := (s.devStore a blk).devStore (s.pair64 F.ENC_IDX_LO 0 + 0x80 + 16 * e) ent
    let s := s.setPair64 F.ENC_DST_LO 0 (a + roundUp64 blk.length)
    let s := s.setFld F.ENC_ENTRY_ENTRY 0 (e + 1)
    let s := s.setReg (F.ENC_IDX_CRC.addr 0) (~~~ crc32cFrom (~~~ s.reg (F.ENC_IDX_CRC.addr 0)) ent)
    let s := s.setPair64 F.ENC_COMP_LO 0 (s.pair64 F.ENC_COMP_LO 0 + blk.length)
    hist s (lines.getLastD [])

/-- Bytes of one band of the job. -/
def State.encBandBytes (s : State) : Nat := 48 * s.fld F.ENC_CFG_WIDTH 0 * 512 * 2 ^ s.fld F.ENC_CFG_BPP 0

/-- ENC_BAND_DONE: a band whose bytes the port holds is coded; then a save, the end of the job, or a Loupe job. -/
def encBandDone (s : State) : State :=
  let n := s.encBandBytes
  if ¬ s.encBusy ∨ s.enc.loupe.isSome ∨ s.enc.port.length < n ∨ n = 0 ∨ ¬ s.pageEn B.ENC 0 then s
  else
    let bpp := s.fld F.ENC_CFG_BPP 0
    let w := s.fld F.ENC_CFG_WIDTH 0
    let lines := (chunks (w * 512 * 2 ^ bpp) 48 (s.enc.port.take n)).map (unpackLine (2 ^ bpp))
    let s := s.setEnc { s.enc with port := s.enc.port.drop n }
    let s := forAll (List.range w) s fun s c => s.encBlock bpp c (lines.map fun l => (l.drop (4096 * c)).take 4096)
    let s := s.setFld F.ENC_STAT_BAND 0 (s.fld F.ENC_STAT_BAND 0 + 1)
    let last := decide (s.fld F.ENC_BANDS_BANDS 0 ≤ s.fld F.ENC_STAT_BAND 0)
    let save := s.enc.saveReq
    let s := if save then s.encSaveNow.setEnc { s.enc with saveReq := false } else s
    let s := if last ∨ save then (s.setFlag F.ENC_STAT_BUSY 0 false).setEnc { s.enc with port := [] } else s
    let s := if last then (s.setFlag F.ENC_STAT_DONE 0 true).event B.ENC 0 0 else s
    match s.enc.loupeReq with
    | b :: _ => s.runLoupe b
    | [] => s

def execEncBandDone (s : State) : Host.Outcome State Fault Refusal := .next (s.finish (if s.domOn .img then encBandDone s else s))

/-! ### The input port (R318) -/

/-- The port takes bytes from a channel. -/
def State.encTake (s : State) (bs : List Byte) : State :=
  if s.encBusy then s.setEnc { s.enc with port := s.enc.port ++ bs } else s

/-- The port asks for data. -/
def State.encAsks (s : State) (ch : Nat) : Bool := s.encBusy && s.enc.loupe.isNone && s.fld F.ENC_CFG_CH 0 == ch

/-- The DMA source returned an error, or poison (R92, R311). -/
def State.encSource (s : State) : State := s.encStopJob 4

end Sys2Proof.Machine
end

