-- ==== Sys2Proof/Machine/Loupe.lean ====
section
/-! DEFINITION. Loupe buffers: arming, triggers, the end of recording, and the record of a dump (R232 to R234, R240,
R376). -/

namespace Sys2Proof.Machine

/-! LUP_STAT.STATE codes. -/
def luIdle : Nat := 0
def luArmed : Nat := 1
def luTriggered : Nat := 2
def luDumping : Nat := 3
def luDone : Nat := 4

def State.luState (s : State) (b : Nat) : Nat := s.fld F.LUP_STAT_STATE b
def State.setLuState (s : State) (b v : Nat) : State := s.setFld F.LUP_STAT_STATE b v

/-- Writes of its RW registers are discarded (R240). -/
def State.luHeld (s : State) (b : Nat) : Bool := decide (1 ≤ s.luState b ∧ s.luState b ≤ 3)

/-- LUP_ARM: discarded unless IDLE or DONE. -/
def lupArm (b : Nat) (s : State) : State :=
  if (s.luState b = luIdle ∨ s.luState b = luDone) ∧ s.pageEn B.LUP b ∧ (s.lup b).held = none then
    ((s.setLup b Lup.init).setFld F.LUP_STAT_COUNT b 0).setLuState b luArmed
  else s

/-- TSRC of a buffer. -/
def State.tsrc (s : State) (b : Nat) : Nat := s.fld F.LUP_TRIG_TSRC b

/-- The TRIG broadcast of a trigger (R370, R376). -/
def State.sendTrig (s : State) (b : Nat) : State :=
  if s.casActive ∧ bit (s.fld F.CAS_CFG_TRIG 0) b then
    let n := (s.cas.oseq + 1) % 2 ^ 32
    let p := s.mkPacket 0x0A 0xFF 0 (leBytes 8 s.now ++ leBytes 4 n ++ leBytes 4 0)
    let s := { s with cas := { s.cas with oseq := n, seen := s.cas.seen ++ [(0x0A, s.nodeId, n)] } }
    s.broadcast p
  else s

/-- A trigger of a buffer: in ARMED only. It is forwarded, and triggers the buffers that wait for it: `n` bounds the
chain. `word`: where the trigger word is the word recorded last, not the next, the press time of its tick. -/
def State.lupTrigger (s : State) (b : Nat) (word : Option Nat) : Nat → State
  | 0 => s
  | n + 1 =>
    if s.luState b ≠ luArmed then s
    else
      let x := s.lup b
      let s := match word with
        | some t => (s.setLup b { x with trigAt := some (x.total - 1) }).setPair64 F.LUP_TTIME_LO b t
        | none => s.setLup b { x with trigNow := true }
      let s := (s.setLuState b luTriggered).event B.LUP b 0
      let cast := s.casActive && bit (s.fld F.CAS_CFG_TRIG 0) b
      let s := s.sendTrig b
      let next := (List.range 4).filter fun c =>
        (s.tsrc c == 7 && s.fld F.LUP_TRIG_ARG c == b) || (s.tsrc c == 8 && cast)
      next.foldl (fun s c => s.lupTrigger c none n) s

/-- Longest chain of triggers among the four buffers. -/
def lupChain : Nat := 5

/-- Trigger every armed buffer whose source is `t` with argument `arg` (R233). -/
def State.lupSource (s : State) (t arg : Nat) : State :=
  if s.domOn .ctl then
    forAll ((List.range 4).filter fun b => s.tsrc b == t && s.fld F.LUP_TRIG_ARG b == arg) s fun s b =>
      s.lupTrigger b none lupChain
  else s

/-- A cascade trigger (R233, R376). -/
def State.lupCascade (s : State) : State :=
  if s.domOn .ctl then
    forAll ((List.range 4).filter fun b => s.tsrc b == 8) s fun s b => s.lupTrigger b none lupChain
  else s

/-- LUP_TRIG: acts with any TSRC. -/
def lupTrig (b : Nat) (s : State) : State := s.lupTrigger b none lupChain

/-- Recording ends: the dump waits for ENC. With nothing recorded there is nothing to dump. -/
def State.lupEnd (s : State) (b : Nat) (stopped : Bool) : State :=
  let x := s.lup b
  if x.words = [] then s.setLuState b luIdle
  else
    let s := (s.setLup b { x with stopped := stopped }).setLuState b luDumping
    s.setEnc { s.enc with loupeReq := s.enc.loupeReq ++ [b] }

/-- LUP_STOP. -/
def lupStop (b : Nat) (s : State) : State :=
  if s.luState b = luArmed ∨ s.luState b = luTriggered then s.lupEnd b true else s

/-- Words recorded since the trigger word, that word included. -/
def Lup.since (x : Lup) : Nat := match x.trigAt with
  | some t => x.total - t
  | none => 0

/-- 65,536 − PRE words after the trigger have been recorded. -/
def State.lupFull (s : State) (b : Nat) : Bool :=
  (s.lup b).trigAt.isSome && decide (65536 - s.fld F.LUP_PRE_PRE b ≤ (s.lup b).since)

/-- LUP_RECORD_END. -/
def lupRecordEnd (b : Nat) (s : State) : State :=
  if s.luState b = luTriggered ∧ s.lupFull b then s.lupEnd b false else s

/-- Does a recorded word trigger, by its level or a crossing (R233)? -/
def levelTrig (t : Nat) (prev : Option Word) (w : Word) (level : Int) : Bool :=
  let v := w.toInt
  match t, prev with
  | 1, _ => decide (level < v)
  | 2, _ => decide (v < level)
  | 3, some p => decide (p.toInt ≤ level ∧ level < v)
  | 4, some p => decide (level ≤ p.toInt ∧ v < level)
  | _, _ => false

/-- One word recorded at a tick, and the trigger judged. -/
def State.lupRecord (s : State) (b tick : Nat) (w : Word) : State :=
  let st := s.luState b
  if st = luArmed ∨ (st = luTriggered ∧ ¬ s.lupFull b) then
    let x := s.lup b
    let prev := x.words.head?
    let at_ := if x.trigNow then some x.total else x.trigAt
    let s := if x.trigNow then s.setPair64 F.LUP_TTIME_LO b tick else s
    let s := s.setLup b
      { x with words := (w :: x.words).take 65536, total := x.total + 1, trigAt := at_, trigNow := false }
    let s := s.bump F.LUP_STAT_COUNT b
    if st = luArmed ∧ levelTrig (s.tsrc b) prev w (s.reg (F.LUP_LEVEL.addr b)).toInt then s.lupTrigger b (some tick) lupChain else s
  else s

/-- Tick period in 4 ns: of the divider, or of the slot. -/
def State.lupTickPeriod (s : State) (b : Nat) : Nat :=
  if s.flag F.LUP_CFG_TICK b then max 9 (s.fld F.LUP_DIV_DIV b) + 1
  else s.fld F.CTL_PERIOD_VALUE (s.fld F.LUP_CFG_SLOT b)

/-- The 256-byte record of a dump (R234). The press time of a trigger that did not come is free (assumption 1). -/
def State.lupBytes (s : State) (b : Nat) : List Byte × State :=
  let x := s.lup b
  let n := x.words.length
  let first := x.total - n
  let pack := s.flag F.LUP_CFG_PACK b
  let (t, s) := match x.trigAt with
    | some _ => (s.pair64 F.LUP_TTIME_LO b, s)
    | none => s.draw
  let blocks := x.blocks.flatMap fun k => leBytes 8 k.1 ++ leBytes 4 k.2 ++ leBytes 4 0
  let body := leBytes 4 0x4C505545 ++ leBytes 2 1 ++ leBytes 1 b
    ++ leBytes 1 ((if pack then 1 else 0) + if x.stopped then 2 else 0) ++ leBytes 4 n
    ++ leBytes 4 (match x.trigAt with | some i => i - first | none => n) ++ leBytes 8 t
    ++ leBytes 4 (s.lupTickPeriod b) ++ leBytes 4 (s.fld F.LUP_NODE_A_OFS b * 4)
    ++ leBytes 4 (if pack then s.fld F.LUP_NODE_B_OFS b * 4 else 0) ++ leBytes 1 x.blocks.length
  let body := takeAt (takeAt body 0 0x30 ++ takeAt blocks 0 48) 0 0xFC
  (body ++ leBytes 4 (crc32c body).toNat, s)

/-- The record is written when its ring has a free slot; the buffer then is DONE, and arms itself with REARM = 1. -/
def State.lupWrite (s : State) (b : Nat) (rec : List Byte) : Option State :=
  let r := 24 + b
  if s.ringEn r ∧ s.ringWaiting r = 0 ∧ 0 < s.ringRoom r ∧ s.ringWritable r then
    let s := s.ringPut r rec
    let s := ((s.setLup b { s.lup b with held := none }).setLuState b luDone).event B.LUP b 1
    some (if s.flag F.LUP_CFG_REARM b then lupArm b s else s)
  else none

/-- LUP_DUMP_DONE. -/
def lupDumpDone (b : Nat) (s : State) : State :=
  if s.enc.loupe = some b ∧ s.luState b = luDumping then
    let s := (s.setEnc { s.enc with loupe := none }).setFlag F.ENC_STAT_LOUPE 0 false
    let (rec, s) := s.lupBytes b
    match s.lupWrite b rec with
    | some t => t
    | none => (s.setLup b { s.lup b with held := some rec }).event B.LUP b 2
  else s

/-- LUP_RECORD_WRITE: a held record. -/
def lupRecordWrite (b : Nat) (s : State) : State :=
  match (s.lup b).held with
  | some rec => (s.lupWrite b rec).getD s
  | none => s

/-- LUP_GIO_EDGE: an edge on a GIO pin, either polarity, with the level after it. -/
def lupGioEdge (pin : Nat) (level : Bool) (s : State) : State :=
  let g := if level then s.balls.gio ||| BitVec.twoPow 128 pin else s.balls.gio &&& ~~~ BitVec.twoPow 128 pin
  (s.setGio g).lupSource 6 pin

def State.lupOn (s : State) (b : Nat) : Bool := decide (b < 4) && s.domOn .ctl

def execLupArm (b : Nat) (s : State) : Host.Outcome State Fault Refusal :=
  .next (s.finish (s.onPage B.LUP b F.LUP_CTRL.off fun s =>
    if s.lupOn b then lupArm b s else s))
def execLupTrig (b : Nat) (s : State) : Host.Outcome State Fault Refusal :=
  .next (s.finish (s.onPage B.LUP b F.LUP_CTRL.off fun s =>
    if s.lupOn b then lupTrig b s else s))
def execLupStop (b : Nat) (s : State) : Host.Outcome State Fault Refusal :=
  .next (s.finish (s.onPage B.LUP b F.LUP_CTRL.off fun s =>
    if s.lupOn b then lupStop b s else s))
def execLupRecordEnd (b : Nat) (s : State) : Host.Outcome State Fault Refusal :=
  .next (s.finish (if s.lupOn b then lupRecordEnd b s else s))
def execLupDumpDone (b : Nat) (s : State) : Host.Outcome State Fault Refusal :=
  .next (s.finish (if s.lupOn b then lupDumpDone b s else s))
def execLupRecordWrite (b : Nat) (s : State) : Host.Outcome State Fault Refusal :=
  .next (s.finish (if s.lupOn b then lupRecordWrite b s else s))
def execLupGioEdge (pin : Nat) (level : Bool) (s : State) : Host.Outcome State Fault Refusal :=
  .next (s.finish (if pin < 128 then lupGioEdge pin level s else s))

end Sys2Proof.Machine
end

