-- ==== Sys2Proof/Machine/Dma.lean ====
section
/-! DEFINITION. Writes into LMEM and what they meet, the sixteen DMA channels, BAR 2, and parity retries (R48, R66, R160,
R169, R299, R307, R311, R315 to R321, R325, R326, R357, R360). -/

namespace Sys2Proof.Machine

/-! ### Protected LMEM (R48, R66, R160, R169) -/

/-- Owned by a frame that is ADMITTED, EXPOSING, or SPOILED while still exposing. -/
def State.ownedRange (s : State) (a n : Nat) : Bool :=
  (List.range 2048).any fun i => match s.planeRec i with
    | some r => match r.ctx with
      | some c =>
        let x := s.ctx c
        (x.st = .admitted || x.st = .exposing || x.running) && r.meets a n
      | none => false
    | none => false

/-- In the bundle region, while it is protected, or in the evidence area. -/
def State.guarded (s : State) (a n : Nat) : Bool :=
  ((s.bundle.ok || s.bundle.loading.isSome) && rangesMeet a n s.bundleBase (2 ^ 31))
    || (s.att.evidSet && rangesMeet a n (s.pair64 F.ATT_EVID_LO 0 / 4096 * 4096) (160 * 1024))

/-- Codewords an access covers only in part: they are read, modified and written back. -/
def partCws (a n : Nat) : List Nat := (cwsOf a n).filter fun c => decide (¬ (a ≤ c ∧ c + 128 ≤ a + n))

/-- A write to LMEM in one request (R304, R311): codewords it covers only in part are read through ECC first and keep
their poison; with `mark` every codeword it touches is left poisoned. -/
def State.lmemWrite (s : State) (a : Nat) (bs : List Byte) (mark : Bool) (errs : List CwErr) : State :=
  let parts := partCws a bs.length
  let s := forAll parts s fun s c => s.readCw c errs false
  let lost := (errs.filter fun e => e.parity && decide (e.addr ∈ parts)).map (·.addr)
  let s := forAll lost (s.storeLmem a bs) State.markPoison
  if mark then forAll (cwsOf a bs.length) s State.markPoison else s

/-! ### Channels -/

def Dma.init : Dma :=
  { next := 0, reading := 0, writing := 0, dst := (0, 0), stopping := 0, withdrawn := false, asked := false }
def State.dma (s : State) (c : Nat) : Dma := s.dmas.get (fun _ => Dma.init) c
def State.setDma (s : State) (c : Nat) (x : Dma) : State := { s with dmas := s.dmas.set (fun _ => Dma.init) c x }

/-! DMA_STAT.STATE codes. -/
def dmIdle : Nat := 0
def dmWait : Nat := 1
def dmRun : Nat := 2
def dmReadback : Nat := 3
def dmStopping : Nat := 4

/-! DMA_STAT.ECODE codes. -/
def eBadcfg : Nat := 1
def eAlign : Nat := 2
def eNofill : Nat := 3
def eSrcerr : Nat := 4
def eDsterr : Nat := 5
def eLastbeat : Nat := 6
def eReadback : Nat := 7
def eOwn : Nat := 8
def eAborted : Nat := 9

def State.dmState (s : State) (c : Nat) : Nat := s.fld F.DMA_STAT_STATE c
def State.setDmState (s : State) (c v : Nat) : State := s.setFld F.DMA_STAT_STATE c v
def State.esize (s : State) (c : Nat) : Nat := 2 ^ s.fld F.DMA_CFG_ESIZE c
def State.burstSize (s : State) (c : Nat) : Nat := 64 * 2 ^ min 3 (s.fld F.DMA_CFG_BURST c)
def State.dcount (s : State) (c i : Nat) : Nat :=
  let n := s.fld (F.DMA_CNT_COUNT.at i) c
  if i = 0 then n else n % 2 ^ 16
def State.dtotal (s : State) (c : Nat) : Nat := s.dcount c 0 * s.dcount c 1 * s.dcount c 2
def State.sspace (s : State) (c : Nat) : Nat := s.fld F.DMA_CFG_SSPACE c
def State.dspace (s : State) (c : Nat) : Nat := s.fld F.DMA_CFG_DSPACE c
def State.toPort (s : State) (c : Nat) : Bool := s.dspace c == 2
def State.paced (s : State) (c : Nat) : Bool := s.fld F.DMA_CFG_REQ c != 0
def State.dstep (s : State) (c : Nat) (f : Field) (i : Nat) : Int := (s.reg ((f.at i).addr c)).toInt

/-- Transfer aligned: SRC, DST and every step are multiples of ESIZE (R317). The port has no destination address. -/
def State.dmaAligned (s : State) (c : Nat) : Bool :=
  let e := s.esize c
  let ok := fun (x : Int) => decide (x % (e : Int) = 0)
  decide (s.pair64 F.DMA_SRC_LO c % e = 0) && [0, 1, 2].all (fun i => ok (s.dstep c F.DMA_SSTEP i))
    && (s.toPort c || (decide (s.pair64 F.DMA_DST_LO c % e = 0) && [0, 1, 2].all fun i => ok (s.dstep c F.DMA_DSTEP i)))

/-- A configuration START refuses (R315, R325). -/
def State.dmaBad (s : State) (c : Nat) : Bool :=
  s.fld F.DMA_CFG_ESIZE c == 7 || decide (2 ≤ s.sspace c) || s.dspace c == 3 || decide (2 < s.fld F.DMA_CFG_REQ c)
    || s.dtotal c == 0 || (s.toPort c && (s.fld F.DMA_CFG_REQ c != 1 || s.fld F.ENC_CFG_CH 0 != c))

/-- START is refused with a code; nothing moves. -/
def State.dmaRefuse (s : State) (c code : Nat) : State := (s.setFlag F.DMA_STAT_ERR c true).setFld F.DMA_STAT_ECODE c code

/-- DMA_START. -/
def dmaStart (c : Nat) (s : State) : State :=
  if s.dmState c ≠ dmIdle ∨ ¬ s.pageEn B.DMA c then s
  else if s.dmaBad c then s.dmaRefuse c eBadcfg
  else if ¬ s.dmaAligned c ∧ ¬ s.flag F.DMA_CFG_ALIGN_FB c then s.dmaRefuse c eAlign
  else if (s.sspace c = 0 ∨ s.dspace c = 0) ∧ ¬ s.lmemReady then s.dmaRefuse c eNofill
  else
    let s := (s.setReg (F.DMA_STAT.addr c) 0).setPair64 F.DMA_REMAIN_LO c (s.dtotal c)
    (s.setDma c Dma.init).setDmState c (if s.paced c then dmWait else dmRun)

/-- The channel stops in error: DMA.ERR (R321). -/
def State.dmaStop (s : State) (c code : Nat) : State :=
  let s := (s.setDma c { Dma.init with next := (s.dma c).next }).setDmState c dmIdle
  ((s.setFlag F.DMA_STAT_ERR c true).setFld F.DMA_STAT_ECODE c code).event B.DMA c 1

/-- A stop with the faulting address. -/
def State.dmaStopAt (s : State) (c code a : Nat) : State := (s.setPair64 F.DMA_ERR_ADDR_LO c a).dmaStop c code

/-- DMA_ABORT: once every outstanding response is in. -/
def dmaAbort (c : Nat) (s : State) : State :=
  let x := s.dma c
  if s.dmState c = dmIdle then s
  else if x.reading ≠ 0 ∨ x.writing ≠ 0 ∨ s.dmState c = dmReadback then
    (s.setDma c { x with stopping := eAborted }).setDmState c dmStopping
  else s.dmaStop c eAborted

/-! ### Bursts (R316, R317) -/

/-- Address of element `k` on one side. -/
def State.elemAddr (s : State) (c : Nat) (base step : Field) (k : Nat) : Nat :=
  let c0 := s.dcount c 0
  let c1 := s.dcount c 1
  let off := (k % c0 : Nat) * s.dstep c step 0 + (k / c0 % c1 : Nat) * s.dstep c step 1
    + (k / (c0 * c1) : Nat) * s.dstep c step 2
  ((((s.pair64 base c : Nat) : Int) + off) % (2 ^ 64 : Nat)).toNat

def State.srcAddr (s : State) (c k : Nat) : Nat := s.elemAddr c F.DMA_SRC_LO F.DMA_SSTEP k
def State.dstAddr (s : State) (c k : Nat) : Nat := s.elemAddr c F.DMA_DST_LO F.DMA_DSTEP k

/-- Elements of the burst that starts at `k`: contiguous on both sides, within BURST bytes and one BURST-aligned block of
each side; half of that in fallback. `n` bounds the count, `len` is what has joined. -/
def State.burstLen (s : State) (c k : Nat) : Nat → Nat → Nat
  | 0, len => len
  | n + 1, len =>
    let e := s.esize c
    let b := s.burstSize c
    let lim := if s.dmaAligned c then b else b / 2
    let a := s.srcAddr c k
    let d := s.dstAddr c k
    let next := k + len
    let port := s.toPort c
    if next < s.dtotal c ∧ e * (len + 1) ≤ lim ∧ s.srcAddr c next = a + e * len ∧ (a + e * (len + 1) - 1) / b = a / b
        ∧ (port ∨ (s.dstAddr c next = d + e * len ∧ (d + e * (len + 1) - 1) / b = d / b)) then
      s.burstLen c k n (len + 1)
    else len

/-- The burst a channel issues next: its elements. -/
def State.nextBurst (s : State) (c : Nat) : Nat := s.burstLen c (s.dma c).next 511 1

/-- What DMA_DONE does: the read-back is issued when the count is 0; otherwise the next request or burst. -/
def State.dmaGoOn (s : State) (c : Nat) : State :=
  let x := s.dma c
  let s := if x.withdrawn then (s.setFlag F.DMA_STAT_WITHDRAWN c true).event B.DMA c 2 else s
  let s := s.setDma c { x with reading := 0, writing := 0, dst := (0, 0), withdrawn := false, asked := false }
  if s.pair64 F.DMA_REMAIN_LO c = 0 then s.setDmState c dmReadback
  else s.setDmState c (if s.paced c then dmWait else dmRun)

/-- A burst written into LMEM: one request, or in fallback one for each element (R317). -/
def State.dmaStore (s : State) (c a : Nat) (bs : List Byte) (mark : Bool) (errs : List CwErr) : State :=
  if s.dmaAligned c then s.lmemWrite a bs mark errs
  else
    let e := s.esize c
    forAll (List.range (bs.length / e)) s fun s i => s.lmemWrite (a + i * e) (takeAt bs (i * e) e) mark errs

/-- The write of a burst of `n` elements is issued (R316, R320, R321). `mark`: the source carried poison. -/
def State.dmaWrite (s : State) (c n : Nat) (bs : List Byte) (mark : Bool) (errs : List CwErr) : State :=
  let x := s.dma c
  let a := s.dstAddr c x.next
  let s := if mark then (s.setFlag F.DMA_STAT_POISON c true).event B.DMA c 3 else s
  let sent := fun (s : State) (dst : Nat × Nat) =>
    let s := s.setPair64 F.DMA_REMAIN_LO c (s.pair64 F.DMA_REMAIN_LO c - n)
    s.setDma c { s.dma c with next := x.next + n, reading := 0, writing := n, dst := dst }
  if s.toPort c then sent (if mark then s.encSource else s.encTake bs) (0, 0)
  else if s.dspace c = 1 then
    if !s.flag F.HST_LINK_UP 0 then s.dmaStopAt c eDsterr a
    else
      let s := s.storeHost a bs
      sent (if mark then s.emit (.epWrite a bs.length) else s) (a, bs.length)
  else if s.lmemSize < a + bs.length then s.dmaStopAt c eDsterr a
  else if s.guarded a bs.length then s.dmaStop c eOwn
  else if s.ownedRange a bs.length then ((s.accErr 6 0 true 0 a).event B.APR 0 evOwnWrite).dmaStop c eOwn
  else sent (s.dmaStore c a bs mark errs) (a, bs.length)

/-- A channel that wants to issue a burst. One with a host space waits while requests for host memory are held (R359). -/
def State.dmaReady (s : State) (c : Nat) : Bool :=
  let x := s.dma c
  let host := s.sspace c == 1 || s.dspace c == 1
  let held := host && s.flag F.HST_LINK_UP 0 && !s.hostReady
  s.dmState c == dmRun && x.reading == 0 && x.writing == 0 && (!s.paced c || x.asked) && !held && s.pageEn B.DMA c

/-- A channel's place in the order of service: PRIO = 1 first, and equal channels in turn after the one served last (R320,
assumption 117). -/
def State.dmaPlace (s : State) (c : Nat) : Nat :=
  (if s.flag F.DMA_CFG_PRIO c then 0 else 16) + (c + 15 - s.dmaLast) % 16

/-- It is the channel's turn: none that wants a burst stands before it. -/
def State.dmaTurn (s : State) (c : Nat) : Bool :=
  (List.range 16).all fun d => d == c || !s.dmaReady d || decide (s.dmaPlace c < s.dmaPlace d)

/-- The bytes read for a burst at `a`: in fallback, outward to whole ESIZE-aligned spans (R317). -/
def State.dmaSpan (s : State) (c a len : Nat) : Nat × Nat :=
  let e := s.esize c
  if s.dmaAligned c then (a, len) else (a / e * e, (a + len + e - 1) / e * e - a / e * e)

/-- DMA_BURST: one burst is issued. Reads of LMEM are answered at once; a read of host memory waits for its completion. -/
def dmaBurst (c : Nat) (withdrawn : Bool) (errs : List CwErr) (s : State) : State :=
  let x := s.dma c
  if ¬ s.dmaReady c ∨ ¬ s.dmaTurn c then s
  else
    let n := s.nextBurst c
    let len := n * s.esize c
    let a := s.srcAddr c x.next
    let s := { s with dmaLast := c }
    let s := s.setDma c { x with withdrawn := withdrawn && s.paced c }
    if s.sspace c = 1 then
      if !s.flag F.HST_LINK_UP 0 then (if s.toPort c then s.encSource else s).dmaStopAt c eSrcerr a
      else s.setDma c { s.dma c with reading := n }
    else if s.lmemSize < a + len ∨ ¬ s.lmemReady then (if s.toPort c then s.encSource else s).dmaStopAt c eSrcerr a
    else
      let span := s.dmaSpan c a len
      let s := s.demand span.1 span.2 errs
      s.dmaWrite c n (s.lmemBytes a len) (s.poisoned span.1 span.2) errs

/-- Bytes of LMEM, or of host memory, whose contents are undefined become free values (R321, assumption 1). -/
def State.blur (s : State) (host : Bool) (a n : Nat) : State :=
  forAll (List.range n) s fun s i =>
    let (v, s) := s.draw
    if host then s.storeHost (a + i) [BitVec.ofNat 8 v] else s.storeLmem (a + i) [BitVec.ofNat 8 v]

/-- DMA_RESPONSE: a read completion with its bytes, or a write answer. -/
def dmaResponse (c : Nat) (ok : Bool) (data : List Byte) (errs : List CwErr) (s : State) : State :=
  let x := s.dma c
  if x.reading = 0 ∧ x.writing = 0 then s
  else if s.dmState c = dmStopping then s.dmaStop c x.stopping
  else if x.reading ≠ 0 then
    if ok then s.dmaWrite c x.reading (takeAt data 0 (x.reading * s.esize c)) false errs
    else (if s.toPort c then s.encSource else s).dmaStopAt c eSrcerr (s.srcAddr c x.next)
  else if ok then s.dmaGoOn c
  else
    let s := s.blur (s.dspace c == 1) x.dst.1 x.dst.2
    let a := s.dstAddr c (x.next - x.writing)
    s.dmaStopAt c (if s.pair64 F.DMA_REMAIN_LO c = 0 then eLastbeat else eDsterr) a

/-- DMA_READBACK_DONE: the last written codeword is read through ECC where it lies in LMEM. -/
def dmaReadbackDone (c : Nat) (ok : Bool) (errs : List CwErr) (s : State) : State :=
  if s.dmState c = dmStopping ∧ (s.dma c).reading = 0 ∧ (s.dma c).writing = 0 then s.dmaStop c (s.dma c).stopping
  else if s.dmState c ≠ dmReadback then s
  else
    let s := if s.dspace c = 0 then s.demand (s.dstAddr c (s.dtotal c - 1) + s.esize c - 1) 1 errs else s
    if ok then ((s.setFlag F.DMA_STAT_DONE c true).setDmState c dmIdle).event B.DMA c 0 else s.dmaStop c eReadback

/-- DMA_REQUEST: a waiting channel samples its request asserted, from the port or from its GIO pin (R318). -/
def dmaRequest (c : Nat) (s : State) : State :=
  let asserted := if s.fld F.DMA_CFG_REQ c = 1 then s.encAsks c || !s.toPort c
    else s.balls.gio.getLsbD (s.fld F.DMA_CFG_PIN c)
  if s.dmState c = dmWait ∧ asserted then (s.setDma c { s.dma c with asked := true }).setDmState c dmRun else s

def State.dmaOn (s : State) (c : Nat) : Bool := decide (c < 16) && s.domOn .hst

def execDmaStart (c : Nat) (s : State) : Host.Outcome State Fault Refusal :=
  .next (s.finish (s.onPage B.DMA c F.DMA_CTRL.off fun s =>
    if s.dmaOn c then dmaStart c s else s))
def execDmaAbort (c : Nat) (s : State) : Host.Outcome State Fault Refusal :=
  .next (s.finish (s.onPage B.DMA c F.DMA_CTRL.off fun s =>
    if s.dmaOn c then dmaAbort c s else s))
def execDmaRequest (c : Nat) (s : State) : Host.Outcome State Fault Refusal :=
  .next (s.finish (if s.dmaOn c then dmaRequest c s else s))
def execDmaBurst (c : Nat) (withdrawn : Bool) (errs : List CwErr) (s : State) : Host.Outcome State Fault Refusal :=
  .next (s.finish (if s.dmaOn c then dmaBurst c withdrawn errs s else s))
def execDmaResponse (c : Nat) (ok : Bool) (data : List Byte) (errs : List CwErr) (s : State) :
    Host.Outcome State Fault Refusal := .next (s.finish (if s.dmaOn c then dmaResponse c ok data errs s else s))
def execDmaReadbackDone (c : Nat) (ok : Bool) (errs : List CwErr) (s : State) : Host.Outcome State Fault Refusal :=
  .next (s.finish (if s.dmaOn c then dmaReadbackDone c ok errs s else s))

/-- Every channel stops with ABORTED (R359). -/
def State.dmaAbortAll (s : State) : State :=
  forAll ((List.range 16).filter fun c => s.dmState c != dmIdle) s fun s c => s.dmaStop c eAborted

/-- DMA_BUSY (R326). -/
def State.dmaBusy (s : State) : Nat := ((List.range 16).filter fun c => s.dmState c != dmIdle).foldl setBit 0

/-! ### BAR 2 (R357, R360) -/

/-- BAR 2 base, aligned to 1 GiB. -/
def State.b2Base (s : State) : Nat := s.pair64 F.HST_B2_BASE_LO 0 / 2 ^ 30 * 2 ^ 30

/-- The host reaches the BARs: link up, in D0. -/
def State.hostPath (s : State) : Bool := s.domOn .hst && s.flag F.HST_LINK_UP 0 && !s.flag F.HST_LINK_D3 0

/-- BAR2_WRITE. `ep`: the TLP is poisoned. -/
def bar2Write (off : Nat) (data : List Byte) (ep : Bool) (errs : List CwErr) (s : State) : State :=
  let a := s.b2Base + off
  let s := if ep then (s.emit (.aer 0)).raiseFault 309 else s
  if s.sys.mode = .lockdown then s.accErr 8 1 true 0 off
  else if ¬ s.lmemReady then s.accErr 5 1 true 0 off
  else
    let s := if s.lmemSize < a + data.length then s.accErr 4 1 true 0 off else s
    let bs := data.take (s.lmemSize - a)
    if bs = [] then s
    else if s.guarded a bs.length then s.accErr 6 1 true 0 off
    else if s.ownedRange a bs.length then (s.accErr 6 1 true 0 off).event B.APR 0 evOwnWrite
    else s.lmemWrite a bs ep errs

def execBar2Write (off : Nat) (data : List Byte) (ep : Bool) (errs : List CwErr) (s : State) :
    Host.Outcome State Fault Refusal := .next (s.finish (if s.hostPath ∧ off < bar2Size then bar2Write off data ep errs s else s))

/-- BAR2_READ. -/
def bar2Read (off len : Nat) (errs : List CwErr) (s : State) : State :=
  let a := s.b2Base + off
  if ¬ s.lmemReady then { s with reply := { word := 0, bytes := List.replicate len 0, poisoned := false } }
  else
    let n := min len (s.lmemSize - a)
    let s := s.demand a n errs
    let hide := s.bundle.ok && s.bundle.enc
    let bs := (s.lmemBytes a n).zipIdx.map fun x => if hide && decide (s.bundleBase ≤ a + x.2) then 0 else x.1
    let bs := takeAt bs 0 len
    let ep := decide (n ≠ 0) && s.poisoned a n
    let s := { s with reply := { word := BitVec.ofNat 32 (leNat (bs.take 4)), bytes := bs, poisoned := ep } }
    if ep then s.emit (.aer 0) else s

def execBar2Read (off len : Nat) (errs : List CwErr) (s : State) : Host.Outcome State Fault Refusal :=
  .next (s.finish (if s.hostPath ∧ off < bar2Size then bar2Read off len errs s else s))

/-- B2_BASE_WRITE: the low or the high word; bits 29 to 0 read 0. -/
def b2BaseWrite (hi : Bool) (v : Word) (s : State) : State :=
  if hi then s.setReg (F.HST_B2_BASE_HI.addr 0) v
  else s.setReg (F.HST_B2_BASE_LO.addr 0) (BitVec.ofNat 32 (v.toNat / 2 ^ 30 * 2 ^ 30))

def execB2BaseWrite (hi : Bool) (v : Word) (s : State) : Host.Outcome State Fault Refusal :=
  .next (s.finish (if s.hostPath then (if s.sys.mode = .lockdown
      then s.accErr 8 0 true 0 ((if hi then F.HST_B2_BASE_HI else F.HST_B2_BASE_LO).addr 0)
      else b2BaseWrite hi v s) else s))

/-! ### Parity (R299) -/

/-- MEM_PARITY_ALERT: `tries` attempts after the first; when the fourth attempt fails too, DMA writes among the commands
stop their channels, and host writes at the given BAR 2 offsets are discarded and counted, with a cause the spec does not
give. Reads among them come back with poison: the read that follows carries the mark (`CwErr.parity`). -/
def memParityAlert (tries : Nat) (failed : Bool) (chans : List Nat) (hostOffs : List Nat) (s : State) : State :=
  let s := s.bumpBy F.MEM_PAR_CNT_RETRY 0 (if failed then 3 else max 1 (min 3 tries))
  if failed then
    let s := ((s.bump F.MEM_PAR_CNT_FAIL 0).raiseFault 303).event B.MEM 0 3
    let s := forAll (chans.filter fun c => decide (c < 16 ∧ s.dspace c = 0 ∧ (s.dma c).writing ≠ 0)) s fun s c =>
      dmaResponse c false [] [] s
    forAll hostOffs s fun s o =>
      let (v, s) := s.draw
      s.accErr (v % 16) 1 true 0 o
  else s

def execMemParityAlert (tries : Nat) (failed : Bool) (chans : List Nat) (hostOffs : List Nat) (s : State) :
    Host.Outcome State Fault Refusal :=
  .next (s.finish (if s.domOn .mem then memParityAlert tries failed chans hostOffs s else s))

end Sys2Proof.Machine
end

