-- ==== Sys2Proof/Machine/Power.lean ====
section
/-! DEFINITION. Rail supervision and the rail logs (R281 to R283, R292, R293). -/

namespace Sys2Proof.Machine

/-- Hidden state of a rail before its first scan. -/
def Rail.init : Rail :=
  { runGood := 0, runWarn := 0, runFault := 0, beenGood := false, changed := false, commitAt := 0 }

/-- A rail's hidden state. -/
def State.rail (s : State) (r : Nat) : Rail := s.rails.get (fun _ => Rail.init) r

/-- A rail's hidden state given a value. -/
def State.setRail (s : State) (r : Nat) (x : Rail) : State :=
  { s with rails := s.rails.set (fun _ => Rail.init) r x }

/-- PWR_RAIL_CFG, PWR_RAIL_UV and PWR_RAIL_OV of a rail, from its keep-store record (R284, R292). -/
def State.railCfg (s : State) (r : Nat) : Nat := (s.keepWord (kwRail r 0)).toNat
def State.railUv (s : State) (r : Nat) : Nat := (s.keepWord (kwRail r 1)).toNat
def State.railOv (s : State) (r : Nat) : Nat := (s.keepWord (kwRail r 2)).toNat

/-- State codes of a rail (R281). -/
def railOff : Nat := 0
def railRamp : Nat := 1
def railGood : Nat := 2
def railWarn : Nat := 3
def railFault : Nat := 4
def railDisch : Nat := 5

/-- EN as the tests take it: asserted, or the rail is driven by no scope (R281). -/
def State.railEn (s : State) (r : Nat) : Bool := s.flag F.PWR_RAIL_STAT_EN r || !bit (s.railCfg r) 30

/-- The runs of scans after a value (R281): OV tests in every state; UV tests only while EN is asserted (assumption 116) and
the rail has been GOOD since. -/
def railRuns (x : Rail) (en : Bool) (uv ov v : Nat) : Rail :=
  let uvOn := en && x.beenGood
  let fault := (uvOn && decide (v < bits uv 0 16)) || decide (bits ov 16 16 < v)
  let warn := !fault && ((uvOn && decide (v < bits uv 16 16)) || decide (bits ov 0 16 < v))
  let good := decide (bits uv 16 16 ≤ v) && decide (v ≤ bits ov 0 16)
  { x with
    runGood := if good then min (x.runGood + 1) 15 else 0
    runWarn := if warn then min (x.runWarn + 1) 15 else 0
    runFault := if fault then min (x.runFault + 1) 15 else 0 }

/-- The state a rail enters after a scan (R281). -/
def railNext (x : Rail) (en : Bool) (filt offLv v old : Nat) : Nat :=
  let n := max filt 1
  if n ≤ x.runFault then railFault
  else if n ≤ x.runWarn then railWarn
  else if !en then (if v ≤ offLv then railOff else railDisch)
  else if n ≤ x.runGood then railGood
  else if !x.beenGood then railRamp
  else old

/-- PWR_RAIL_EXT after a value in GOOD, WARN or FAULT (R292). -/
def State.railExt (s : State) (r v : Nat) : State :=
  let s := if s.fld F.PWR_RAIL_EXT_MAX r < v then s.setFld F.PWR_RAIL_EXT_MAX r v else s
  if v < s.fld F.PWR_RAIL_EXT_MIN r then s.setFld F.PWR_RAIL_EXT_MIN r v else s

/-- What entering a state does: events, counts and the fault source (R281 to R283, R292). -/
def State.railEnter (s : State) (r old new : Nat) : State :=
  if old = new then s
  else
    let s := if old = railFault then s.dropFault (224 + r) else s
    if new = railWarn then
      ((s.bump F.PWR_RAIL_LOG_WARN_CNT r).event B.PWR r 0).setRail r { s.rail r with changed := true }
    else if new = railFault then
      (((s.bump F.PWR_RAIL_LOG_FAULT_CNT r).setPair64 F.PWR_RAIL_FTIME_LO r s.now).event B.PWR r 1
        |>.setRail r { s.rail r with changed := true }).raiseFault (224 + r)
    else if new = railGood then s.event B.PWR r 2
    else s

/-- One rail's part of a scan. -/
def State.scanRail (s : State) (r v : Nat) : State :=
  let v := min v 65535
  let s := s.setFld F.PWR_RAIL_STAT_VALUE r v
  if bit (s.railCfg r) 31 then
    let x := railRuns (s.rail r) (s.railEn r) (s.railUv r) (s.railOv r) v
    let old := s.fld F.PWR_RAIL_STAT_STATE r
    let new := railNext x (s.railEn r) (bits (s.railCfg r) 16 4) (bits (s.railCfg r) 0 16) v old
    let s := s.setRail r { x with beenGood := x.beenGood || new == railGood }
    let s := (s.setFld F.PWR_RAIL_STAT_STATE r new).railEnter r old new
    if 2 ≤ new ∧ new ≤ 4 then s.railExt r v else s
  else s

/-- SV_r_EN asserted or released (R286): a rail just asserted must be GOOD again before its UV tests apply. -/
def State.driveEn (s : State) (r : Nat) (on : Bool) : State :=
  let was := s.flag F.PWR_RAIL_STAT_EN r
  let s := s.setFlag F.PWR_RAIL_STAT_EN r on
  if on ∧ ¬ was then
    (s.setRail r { s.rail r with beenGood := false, runGood := 0, runWarn := 0, runFault := 0 }).setFld
      F.PWR_RAIL_STAT_STATE r railRamp
  else s

/-- SV_r_DIS asserted or released. -/
def State.driveDis (s : State) (r : Nat) (on : Bool) : State := s.setFlag F.PWR_RAIL_STAT_DIS r on

/-! ### Rail logs (R283) -/

/-- CHK of a log record: the low 16 bits of the CRC-32C over words 0 to 2, the rail number, and GEN. -/
def logChk (w0 w1 w2 : Word) (r gen : Nat) : Nat :=
  (crc32c (leBytes 4 w0.toNat ++ leBytes 4 w1.toNat ++ leBytes 4 w2.toNat ++ leBytes 1 r ++ leBytes 2 gen)).toNat % 2 ^ 16

/-- GEN of the record at keep word `k`, when its CHK is good. -/
def State.logGen (s : State) (r k : Nat) : Option Nat :=
  let w := fun i => s.keepWord (k + i)
  let gen := bits (w 3).toNat 16 16
  if bits (w 3).toNat 0 16 = logChk (w 0) (w 1) (w 2) r gen then some gen else none

/-- Is `a` newer than `b`, modulo 65,536? -/
def genNewer (a b : Nat) : Bool := decide (0 < (a + 65536 - b) % 65536 ∧ (a + 65536 - b) % 65536 < 32768)

/-- The newer valid record of a rail: its first keep word and its GEN. -/
def State.logNewest (s : State) (r : Nat) : Option (Nat × Nat) :=
  match s.logGen r (kwLogX r 0), s.logGen r (kwLogY r 0) with
  | some a, some b => if genNewer b a then some (kwLogY r 0, b) else some (kwLogX r 0, a)
  | some a, none => some (kwLogX r 0, a)
  | none, some b => some (kwLogY r 0, b)
  | none, none => none

/-- A log record written with a GEN. -/
def State.writeLog (s : State) (r k gen : Nat) (w0 w1 w2 : Word) : State :=
  s.keepStores k [w0, w1, w2, BitVec.ofNat 32 (gen * 2 ^ 16 + logChk w0 w1 w2 r gen)]

/-- A commit of one rail: the older record is written with GEN one above the newer one's. -/
def State.commitRail (s : State) (r : Nat) : State :=
  let w0 := s.reg (F.PWR_RAIL_LOG.addr r)
  let w1 := s.reg (F.PWR_RAIL_FTIME_LO.addr r)
  let w2 := s.reg (F.PWR_RAIL_FTIME_HI.addr r)
  let s := match s.logNewest r with
    | some (k, g) =>
      s.writeLog r (if k = kwLogX r 0 then kwLogY r 0 else kwLogX r 0) ((g + 1) % 65536) w0 w1 w2
    | none => s.writeLog r (kwLogX r 0) 1 w0 w1 w2
  s.setRail r { s.rail r with changed := false, commitAt := s.now }

/-- Every changed rail committed (R283). -/
def State.commitRails (s : State) : State :=
  forAll (List.range 48) s fun s r => if (s.rail r).changed then s.commitRail r else s

/-- RAIL_LOG_TIMER: 600 s since a changed rail's last commit. -/
def execRailLogTimer (r : Nat) (s : State) : Host.Outcome State Fault Refusal :=
  .next (s.finish (if r < 48 ∧ (s.rail r).changed ∧ (s.rail r).commitAt + 600 * 10 ^ 9 ≤ s.now then s.commitRail r else s))

/-- LOG_COMMIT: PWR_LOG_CTRL.COMMIT. -/
def execLogCommit (s : State) : Host.Outcome State Fault Refusal :=
  .next (s.finish (s.onPage B.PWR 0x40 F.PWR_LOG_CTRL.off fun s =>
    s.commitRails))

/-- Both records of every rail written with zero counts, and the AON counts cleared. -/
def State.clearLogs (s : State) : State :=
  forAll (List.range 48) s fun s r =>
    let s := (s.setReg (F.PWR_RAIL_LOG.addr r) 0).setPair64 F.PWR_RAIL_FTIME_LO r 0
    let s := (s.writeLog r (kwLogX r 0) 1 0 0 0).writeLog r (kwLogY r 0) 2 0 0 0
    s.setRail r { s.rail r with changed := false, commitAt := s.now }

/-- LOG_CLEAR: PWR_LOG_CTRL.CLEAR acts in CONFIG only (R293). -/
def execLogClear (s : State) : Host.Outcome State Fault Refusal :=
  .next (s.finish (s.onPage B.PWR 0x40 F.PWR_LOG_CTRL.off fun s =>
    if s.sys.mode = .config then s.clearLogs else s))

/-- At a BOOT from OFF the AON counts are loaded from the newer valid record; where there is none they start at 0 and
PWR.LOG_TORN is raised (R283). -/
def State.loadLogs (s : State) : State :=
  forAll (List.range 48) s fun s r =>
    match s.logNewest r with
    | some (k, _) =>
      ((s.setReg (F.PWR_RAIL_LOG.addr r) (s.keepWord k)).setReg (F.PWR_RAIL_FTIME_LO.addr r) (s.keepWord (k + 1))).setReg
        (F.PWR_RAIL_FTIME_HI.addr r) (s.keepWord (k + 2))
    | none => ((s.setReg (F.PWR_RAIL_LOG.addr r) 0).setPair64 F.PWR_RAIL_FTIME_LO r 0).event B.PWR 0x40 1

/-- A write of PWR_BLN_EN (R271): taken in CONFIG and IDLE only. The stations' domains follow with DOMAIN_SWITCH. -/
def State.writeBlnEn (s : State) (v : Word) : State :=
  if s.sys.mode = .config ∨ s.sys.mode = .idle then s.setFld F.PWR_BLN_EN_STN 0x40 (bits v.toNat 0 6)
  else s

/-- PWR_BLN_EN_WRITE. -/
def execPwrBlnEnWrite (v : Word) (s : State) : Host.Outcome State Fault Refusal :=
  .next (s.finish (s.onPage B.PWR 0x40 F.PWR_BLN_EN.off fun s =>
    s.writeBlnEn v))

/-! ### Feed domains -/

/-- Hidden state of a supervisor that has just started. -/
def Fed.init : Fed :=
  { token := false, giving := none, claimAt := none, otherVinOk := false, acks := 0, repaired := false, clr := false
    heardAt := 0, sentAt := 0 }

/-- A supervisor's hidden state. -/
def State.fed (s : State) (n : Nat) : Fed := s.feds.get (fun _ => Fed.init) n

/-- A supervisor's hidden state given a value. -/
def State.setFed (s : State) (n : Nat) (x : Fed) : State := { s with feds := s.feds.set (fun _ => Fed.init) n x }

/-- Both pumps stopped, as FSA and FSB switch off (R288, R290). -/
def State.stopFeeds (s : State) : State :=
  let s := s.clearPages fun b _ => b == B.FED
  ({ s with feds := [] }.setDom .fsa false).setDom .fsb false

end Sys2Proof.Machine
end

