-- ==== Sys2Proof/Machine/Seq.lean ====
section
/-! DEFINITION. The sequencer's engine scopes and program steps (R284 to R291, R294). MAIN's wake and return, which
switch domains and modes, stand in Machine/Modes.lean. -/

namespace Sys2Proof.Machine

/-- Step word `i` of the stored program (R285). -/
def State.stepWord (s : State) (i : Nat) : Nat := (s.keepWord (kwStep (i % 256))).toNat

/-- First step of a scope's UP program; 0xFF = none (R294). -/
def State.entryUp (s : State) (sc : Nat) : Nat := bits (s.keepWord (kwEntry sc)).toNat 0 8

/-- First step of a scope's DN program; 0xFF = none. -/
def State.entryDn (s : State) (sc : Nat) : Nat := bits (s.keepWord (kwEntry sc)).toNat 8 8

/-- SEQ_CFG.SYNC_EN. -/
def State.syncEn (s : State) : Bool := bit (s.keepWord kwSeqCfg).toNat 0

/-- Scope states and pending requests (R294). -/
def State.scopeState (s : State) (sc : Nat) : Nat := bits (s.fld F.SEQ_SCOPE 0) (4 * sc) 2
def State.setScopeState (s : State) (sc v : Nat) : State :=
  s.setReg (F.SEQ_SCOPE.addr 0) (putBits (s.reg (F.SEQ_SCOPE.addr 0)) (4 * sc) 2 v)
def State.scopePend (s : State) (sc : Nat) : Nat := bits (s.fld F.SEQ_SCOPE 0) (4 * sc + 2) 2
def State.setScopePend (s : State) (sc v : Nat) : State :=
  s.setReg (F.SEQ_SCOPE.addr 0) (putBits (s.reg (F.SEQ_SCOPE.addr 0)) (4 * sc + 2) 2 v)

/-- Scope states: 0 OFF, 1 UP, 2 ON, 3 DN. Pending: 0 none, 1 on, 2 off. -/
def scOff : Nat := 0
def scUp : Nat := 1
def scOn : Nat := 2
def scDn : Nat := 3

/-- A program runs. -/
def State.seqRuns (s : State) : Bool := s.flag F.SEQ_STAT_RUN 0

/-- The running program and step (R294). -/
def State.seqScope (s : State) : Nat := s.fld F.SEQ_STAT_PSCOPE 0
def State.seqUp (s : State) : Bool := s.flag F.SEQ_STAT_UP 0
def State.seqAbort (s : State) : Bool := s.flag F.SEQ_STAT_ABORT 0
def State.seqStep (s : State) : Nat := s.fld F.SEQ_STAT_STEP 0

/-- Hidden state changed. -/
def State.setSeq (s : State) (q : Seq) : State := { s with seq := q }

/-- A program starts at its entry. -/
def State.startProgram (s : State) (sc : Nat) (up abort begun : Bool) : State :=
  let s := ((((s.setFlag F.SEQ_STAT_RUN 0 true).setFld F.SEQ_STAT_PSCOPE 0 sc).setFlag F.SEQ_STAT_UP 0 up).setFlag
    F.SEQ_STAT_ABORT 0 abort).setFld F.SEQ_STAT_STEP 0 (if up then s.entryUp sc else s.entryDn sc)
  -- an on request held from the cycle of the off shows pending from here on (R291)
  let held := !up && s.seq.heldOn.contains sc
  let s := (s.setScopeState sc (if up then scUp else scDn)).setScopePend sc (if held then 1 else 0)
  s.setSeq { s.seq with
    heldOn := if up then s.seq.heldOn else s.seq.heldOn.filter (· ≠ sc)
    wait := .ready, begun := begun, reqAt := s.now, barTimeout := false
    state0 := if up then s.fld F.SEQ_STAT_STATE 0 else s.seq.state0 }

/-- Order in which pending requests are taken: MAIN first, then 1 to 3; scope 3 first on the way to HIBERNATE, a chip
reset or LOCKDOWN (R288). -/
def State.seqOrder (s : State) : List Nat :=
  if s.seq.after = .none then [0, 1, 2, 3] else [0, 3, 2, 1]

/-- With no program running, a pending power-up starts at once. -/
def State.takeUps (s : State) : State :=
  if s.seqRuns then s
  else match s.seqOrder.find? fun sc => s.scopePend sc == 1 && s.scopeState sc == scOff with
    | some sc => s.startProgram sc true false true
    | none => s

/-- The change toward BOOT begins: CAS takes the straps as they stand (R269, R368), and out of OFF MODE shows BOOT (R27). -/
def State.beginBoot (s : State) (cause : Nat) : State :=
  let on := s.balls.casen == some true && s.balls.cnode.isSome
  let s := (s.setFlag F.CAS_STAT_CASEN 0 on).setFld F.CAS_STAT_NODE_ID 0 (if on then (s.balls.cnode.getD 0).toNat else 0)
  let s := { s with sys := { s.sys with waking := false, mainWait := none, bootSevere := none } }
  let s := if s.sys.mode = .off then { s with sys := { s.sys with mode := .boot, prev := .off } } else s
  -- UNIT_ID is compared with the one last read since BOOT (R149)
  let s := forAll (List.range 6) s fun s n => s.setBln n { (s.stn n).bln with unitSeen := none }
  s.beginMode .boot false cause

/-- The MAIN UP program has ended, or none is stored: SEQ waits for the main supplies, then BOOT (R288). -/
def State.mainUpDone (s : State) : State :=
  if s.flag F.PWR_MAIN_STAT_ALL_OK 0x40 then s.beginBoot causeDevice
  else { s with sys := { s.sys with mainWait := some s.now } }

/-- In HIBERNATE every SV_r_EN is held low, and every SV_r_DIS at its level (R288). -/
def State.holdRails (s : State) : State := forAll (List.range 48) s fun s r => s.driveEn r false

/-- A power-up is given up: both pumps stop, FSA and FSB switch off, the device is in HIBERNATE (R276, R288). -/
def State.wakeReturn (s : State) (last : Nat) : State :=
  let s := s.stopFeeds.holdRails.setFld F.PWR_MAIN_STAT_LAST 0x40 last
  let s := { s with sys := { s.sys with waking := false, mainWait := none } }
  if s.sys.mode = .off then s.setMode .hibernate causeSupply else s

/-- A scope's UP program is cut short: its DN program follows as an abort at the next scan boundary (R286, R291). -/
def State.abortUp (s : State) (sc : Nat) : State :=
  if s.entryDn sc = 0xFF then
    let s := ((s.setFlag F.SEQ_STAT_RUN 0 false).setScopeState sc scOff).setSeq { s.seq with wait := .ready, begun := false }
    if sc = 0 ∧ s.sys.waking then s.wakeReturn 3 else s.takeUps
  else s.startProgram sc false true false

/-- END of the running program (R286). -/
def State.endProgram (s : State) : State :=
  let sc := s.seqScope
  let up := s.seqUp
  let s := ((s.setFlag F.SEQ_STAT_RUN 0 false).setFlag F.SEQ_STAT_ABORT 0 false).setScopeState sc (if up then scOn else scOff)
  let s := s.event B.SEQ 0 0
  let s := s.setSeq { s.seq with wait := .ready, begun := false, barTimeout := false }
  let s := if up ∧ sc ≠ 0 ∧ s.seq.after ≠ .none then s.setScopePend sc 2 else s
  if sc = 0 ∧ s.sys.waking then (if up then s.mainUpDone else s.wakeReturn 3) else s.takeUps

/-- The next step may start. -/
def State.goStep (s : State) (i : Nat) : State :=
  (s.setFld F.SEQ_STAT_STEP 0 (i % 256)).setSeq { s.seq with wait := .ready }

/-- SEQ_ALT filled (R294). -/
def State.fillAlt (s : State) (why arg : Nat) : State :=
  s.setReg (F.SEQ_ALT.addr 0) (BitVec.ofNat 32
    (s.seqStep * 2 ^ 24 + why * 2 ^ 20 + (if s.seqUp then 0 else 2 ^ 19) + arg % 128))

/-- ALT taken (R286): recorded and raised; 0xFF in an UP program aborts it with F_281. -/
def State.takeAlt (s : State) (why arg alt : Nat) : State :=
  let s := (s.fillAlt why arg).event B.SEQ 0 1
  if s.seqUp ∧ alt = 0xFF then (s.raiseFault 281).abortUp s.seqScope else s.goStep alt

/-- The step the running program stands at: its word, when the program runs, has begun and waits for nothing. -/
def State.readyStep (s : State) : Option Nat :=
  if s.seqRuns ∧ s.seq.begun ∧ s.seq.wait = .ready then some (s.stepWord s.seqStep) else none

/-- SEQ_ENABLE: an ENABLE step changes its ball, or is skipped and recorded with WHY = DISEN (R286). -/
def seqEnable (s : State) : State :=
  match s.readyStep with
  | some w =>
    if bits w 28 4 = 1 then
      let r := bits w 0 6
      let on := bit w 27
      if bit w 26 then
        if on ∧ s.flag F.PWR_RAIL_STAT_EN r then (s.fillAlt 3 r).goStep (s.seqStep + 1)
        else (s.driveDis r on).goStep (s.seqStep + 1)
      else (s.driveEn r on).goStep (s.seqStep + 1)
    else s
  | none => s

def execSeqEnable (s : State) : Host.Outcome State Fault Refusal := .next (s.finish (seqEnable s))

/-- This device pulls SEQSYNC low: with SYNC_EN = 1 at all times but while it waits at a barrier, which no abort does, and
for 2 µs after an advance (R289). -/
def State.syncHeld (s : State) : Bool := s.syncEn && !(s.seqRuns && s.seq.wait == .barrier) && !s.seq.repull

/-- SEQ_STAT: SYNC_HELD follows what the device drives, and a line that it holds reads low (R294). -/
def State.seqStat (s : State) : Word :=
  let w := putBits (s.reg (F.SEQ_STAT.addr 0)) F.SEQ_STAT_SYNC_HELD.lo 1 (if s.syncHeld then 1 else 0)
  if s.syncHeld ∨ ¬ s.syncEn then putBits w F.SEQ_STAT_SYNC_LINE.lo 1 0 else w

/-- The step that waits has waited for a time. -/
def State.waited (s : State) (ns : Nat) : Bool := decide (s.seq.waitAt + ns ≤ s.now)

/-- COUNT × UNIT of a WAIT step, in ns (R285). -/
def waitNs (w : Nat) : Nat := bits w 0 16 * (1000 * 10 ^ bits w 25 2)

/-- A CHECK's timeout, 10 µs × 2^TO (R285). -/
def checkNs (w : Nat) : Nat := 10000 * 2 ^ bits w 22 4

/-- A barrier passed: STATE one up in an UP program; one down in a DN program, and in an abort never below the state at
which the aborted UP program began (R289). -/
def State.moveSync (s : State) : State :=
  let st := s.fld F.SEQ_STAT_STATE 0
  if s.seqUp then s.setFld F.SEQ_STAT_STATE 0 (st + 1)
  else if s.seqAbort ∧ st ≤ s.seq.state0 then s
  else s.setFld F.SEQ_STAT_STATE 0 (st - 1)

/-- SEQ_WAIT: a timed wait starts; a barrier releases SEQSYNC, or passes at once with SYNC_EN = 0, in an abort, and after
a barrier of this DN program has timed out (R286, R289). -/
def seqWait (s : State) : State :=
  match s.readyStep with
  | some w =>
    if bits w 28 4 = 2 then
      if bit w 27 then
        if !s.syncEn ∨ s.seqAbort ∨ s.seq.barTimeout then (s.moveSync).goStep (s.seqStep + 1)
        else (s.setFlag F.SEQ_STAT_SYNC_LINE 0 false).setSeq { s.seq with wait := .barrier, repull := false, waitAt := s.now }
      else s.setSeq { s.seq with wait := .timer, waitAt := s.now }
    else s
  | none => s

def execSeqWait (s : State) : Host.Outcome State Fault Refusal := .next (s.finish (seqWait s))

/-- SEQ_WAIT_EXPIRE: a timed wait's COUNT × UNIT has passed. -/
def execSeqWaitExpire (s : State) : Host.Outcome State Fault Refusal :=
  .next (s.finish (if s.seqRuns ∧ s.seq.wait = .timer ∧ s.waited (waitNs (s.stepWord s.seqStep)) then s.goStep (s.seqStep + 1) else s))

/-- COND of a CHECK, at the values of the last scan and the GIO level given (R285). -/
def State.checkHolds (s : State) (w : Nat) (gio : Bool) : Bool :=
  let arg := bits w 0 7
  match bits w 26 2 with
  | 0 => s.fld F.PWR_RAIL_STAT_STATE arg == railGood || s.fld F.PWR_RAIL_STAT_STATE arg == railWarn
  | 1 => decide (s.fld F.PWR_RAIL_STAT_VALUE arg ≤ bits (s.railCfg arg) 0 16)
  | 2 => gio
  | _ => !gio

/-- A CHECK looked at: it passes, or waits. -/
def State.lookCheck (s : State) (w : Nat) (gio : Bool) : State :=
  if s.checkHolds w gio then s.goStep (s.seqStep + 1)
  else if s.seq.wait = .check then s
  else s.setSeq { s.seq with wait := .check, waitAt := s.now }

/-- SEQ_CHECK: a CHECK step starts, or one that waits is looked at again; `gio` is the level of GIO_ARG. -/
def seqCheck (gio : Bool) (s : State) : State :=
  let w := s.stepWord s.seqStep
  if s.seqRuns ∧ s.seq.begun ∧ (s.seq.wait = .ready ∨ s.seq.wait = .check) ∧ bits w 28 4 = 3 then s.lookCheck w gio else s

def execSeqCheck (gio : Bool) (s : State) : Host.Outcome State Fault Refusal := .next (s.finish (seqCheck gio s))

/-- SEQ_CHECK_TIMEOUT: a CHECK's timeout passes first. A DN program that turns to forced discharge raises FORCED on the
rail's page (R286, R291, R292). -/
def seqCheckTimeout (s : State) : State :=
  if s.seqRuns ∧ s.seq.wait = .check ∧ s.waited (checkNs (s.stepWord s.seqStep)) then
    let w := s.stepWord s.seqStep
    let s := if !s.seqUp ∧ bits w 26 2 < 2 then s.event B.PWR (bits w 0 7) 3 else s
    s.takeAlt 1 (bits w 0 7) (bits w 8 8)
  else s

def execSeqCheckTimeout (s : State) : Host.Outcome State Fault Refusal := .next (s.finish (seqCheckTimeout s))

/-- COND of a JUMP (R285). -/
def State.jumpHolds (s : State) (w : Nat) (gio : Bool) : Bool :=
  match bits w 24 4 with
  | 0 => true
  | 1 => gio
  | 2 => !gio
  | 3 => s.flag F.PWR_RAIL_STAT_EN (bits w 0 7)
  | _ => false

/-- A JUMP step that is not END. -/
def State.jump (s : State) (w : Nat) (gio : Bool) : State :=
  s.goStep (if s.jumpHolds w gio then bits w 8 8 else s.seqStep + 1)

/-- SEQSYNC is pulled low 2 µs after an advance (R289). -/
def execSeqsyncRepull (s : State) : Host.Outcome State Fault Refusal :=
  .next (s.finish (if s.seq.repull ∧ s.seq.passAt + 2000 ≤ s.now then
      (s.setFlag F.SEQ_STAT_SYNC_LINE 0 false).setSeq { s.seq with repull := false } else s))

/-- SEQ_BARRIER_PASS: SEQSYNC has been high for tSYNCHI (R289). -/
def seqBarrierPass (s : State) : State :=
  if s.seqRuns ∧ s.seq.wait = .barrier then
    let s := (s.setFlag F.SEQ_STAT_SYNC_LINE 0 true).moveSync.event B.SEQ 0 4
    (s.goStep (s.seqStep + 1)).setSeq { s.seq with wait := .ready, repull := true, passAt := s.now }
  else s

def execSeqBarrierPass (s : State) : Host.Outcome State Fault Refusal := .next (s.finish (seqBarrierPass s))

/-- SEQ_BARRIER_TIMEOUT: F_282 and SYNC_TO; an UP program takes ALT, a DN program goes on, its later barriers passing at
once (R286, R289). -/
def seqBarrierTimeout (s : State) : State :=
  if s.seqRuns ∧ s.seq.wait = .barrier ∧ s.waited (waitNs (s.stepWord s.seqStep)) then
    let w := s.stepWord s.seqStep
    let s := ((s.raiseFault 282).event B.SEQ 0 3).setFlag F.SEQ_STAT_SYNC_LINE 0 false
    if s.seqUp then s.takeAlt 2 0 (bits w 16 8)
    else
      let s := s.moveSync
      (s.goStep (s.seqStep + 1)).setSeq { s.seq with wait := .ready, barTimeout := true }
  else s

def execSeqBarrierTimeout (s : State) : Host.Outcome State Fault Refusal := .next (s.finish (seqBarrierTimeout s))

/-- A request refused (R288, R294): 1 SCOPE, 2 MODE. -/
def State.seqRefuse (s : State) (why : Nat) : State := (s.setFld F.SEQ_STAT_REFUSE 0 why).event B.SEQ 0 2

/-- Modes in which engine scopes may be requested (R288). -/
def seqModeOk (m : Mode) : Bool :=
  m = .config || m = .idle || m = .warmup || m = .ready || m = .calibrate || m = .safehold

/-- A power-up request that is taken: by a scope that is OFF, on the way down, or asked off and not yet begun. -/
def State.takeOn (s : State) (sc : Nat) : State :=
  if s.scopeState sc = scOff then (s.setScopePend sc 1).takeUps
  else if s.scopeState sc = scDn then s.setScopePend sc 1
  else if s.scopeState sc = scOn ∧ s.scopePend sc = 2 then
    if s.seq.reqAt = s.now then s.setSeq { s.seq with heldOn := s.seq.heldOn.filter (· ≠ sc) ++ [sc] }
    else s.setScopePend sc 0
  else s

/-- A power-up request of an engine scope (R288, R291). -/
def State.seqOn (s : State) (sc : Nat) : State :=
  let taken := s.setSeq { s.seq with onAt := some (sc, s.now) }
  if !seqModeOk s.sys.mode then s.seqRefuse 2
  else if sc = 0 ∨ s.entryUp sc = 0xFF then s.seqRefuse 1
  else taken.takeOn sc

/-- A power-down request of an engine scope (R288, R291). -/
def State.seqOff (s : State) (sc : Nat) : State :=
  if !seqModeOk s.sys.mode then s.seqRefuse 2
  else if sc = 0 ∨ s.entryDn sc = 0xFF then s.seqRefuse 1
  else if s.scopeState sc = scOn then
    let held := if s.seq.onAt = some (sc, s.now) then s.seq.heldOn.filter (· ≠ sc) ++ [sc] else s.seq.heldOn
    (s.setScopePend sc 2).setSeq { s.seq with reqAt := s.now, heldOn := held }
  else if s.scopeState sc = scUp then s.abortUp sc
  else s

/-- A write of SEQ_REQ (R294). -/
def State.writeSeqReq (s : State) (v : Word) : State :=
  let s := s.setReg (F.SEQ_REQ.addr 0) (v &&& 0x103)
  if bit v.toNat 8 then s.seqOn (bits v.toNat 0 2) else s.seqOff (bits v.toNat 0 2)

/-- SEQ_REQ_ON. -/
def execSeqReqOn (sc : Nat) (s : State) : Host.Outcome State Fault Refusal :=
  .next (s.finish (s.onPage B.SEQ 0 F.SEQ_REQ.off fun s =>
    s.writeSeqReq (BitVec.ofNat 32 (0x100 + sc % 4))))

/-- SEQ_REQ_OFF. -/
def execSeqReqOff (sc : Nat) (s : State) : Host.Outcome State Fault Refusal :=
  .next (s.finish (s.onPage B.SEQ 0 F.SEQ_REQ.off fun s =>
    s.writeSeqReq (BitVec.ofNat 32 (sc % 4))))

/-- SEQ_DN_START: at a scan boundary, the DN program of a scope asked off begins, or the abort that waits for one. The
rail logs are committed and a checkpoint begins as it does (R163, R283, R288). -/
def seqDnStart (s : State) : State :=
  let begin_ := fun (s : State) =>
    let s := (s.setSeq { s.seq with begun := true }).commitRails
    if s.domOn .sec then s.ckptDown else s
  if s.seqRuns then (if !s.seq.begun ∧ !s.seqUp then begin_ s else s)
  else match s.seqOrder.find? fun sc => s.scopePend sc == 2 && s.scopeState sc == scOn with
    | some sc => begin_ (s.startProgram sc false (s.seq.after == .crst || s.seq.after == .lockdown) false)
    | none => s

def execSeqDnStart (s : State) : Host.Outcome State Fault Refusal := .next (s.finish (seqDnStart s))

/-- Every engine scope that is ON is asked off, for what follows (R288, R334). -/
def State.runDown (s : State) (a : SeqAfter) : State :=
  let s := s.setSeq { s.seq with after := a, reqAt := s.now }
  forAll [1, 2, 3] s fun s sc =>
    if s.scopeState sc ≠ scOn then s.setScopePend sc 0
    else if s.entryDn sc = 0xFF then (s.setScopeState sc scOff).setScopePend sc 0
    else s.setScopePend sc 2

/-- No engine scope is on the way up, ON or on the way down. -/
def State.scopesOff (s : State) : Bool := [1, 2, 3].all fun sc => s.scopeState sc == scOff

/-- SV_SCAN: every rail's value is updated, and a CHECK of a rail that waits is looked at (R281, R286). -/
def svScan (vals : List Nat) (s : State) : State :=
  let s := ((vals.take 48).zipIdx).foldl (fun s x => s.scanRail x.2 x.1) s
  let w := s.stepWord s.seqStep
  if s.seqRuns ∧ s.seq.begun ∧ s.seq.wait = .check ∧ bits w 26 2 < 2 then s.lookCheck w false else s

/-- The scan runs while SEQ is not in HIBERNATE or OFF (R281). -/
def execSvScan (vals : List Nat) (s : State) : Host.Outcome State Fault Refusal :=
  .next (s.finish (if (s.sys.mode = .hibernate ∨ s.sys.mode = .off) ∧ ¬ s.sys.waking then s else svScan vals s))

/-- Every EN low, every DIS with EDIS = 1 asserted, every program and request dropped, every scope OFF (R290). -/
def State.emergencyRails (s : State) : State :=
  let s := forAll (List.range 48) s fun s r =>
    let s := s.driveEn r false
    if bit (s.railCfg r) 27 then s.driveDis r true else s
  let s := (((s.setReg (F.SEQ_SCOPE.addr 0) 0).setFlag F.SEQ_STAT_RUN 0 false).setFlag F.SEQ_STAT_ABORT 0 false)
  s.setSeq { s.seq with wait := .ready, begun := false, barTimeout := false, repull := false, heldOn := [], after := .none }

end Sys2Proof.Machine
end

