-- ==== Sys2Proof/Machine/Feeds.lean ====
section
/-! DEFINITION. The feed supervisors (R272 to R280, R295). -/

namespace Sys2Proof.Machine

/-- State codes (R274) and causes (R295). -/
def fedOff : Nat := 0
def fedStandby : Nat := 1
def fedOwner : Nat := 2
def fedSync : Nat := 3
def fedFault : Nat := 4

/-- A feed-supervisor message (R275). -/
def fedWord (typ lseq : Nat) (vinOk : Bool) : Word :=
  let top := typ * 2 ^ 20 + lseq % 65536 * 2 ^ 4 + (if vinOk then 8 else 0)
  BitVec.ofNat 32 (top * 256 + (crc8 (beBytes 3 top)).toNat)

/-- Is a message's CRC-8 good, and its TYPE the one given? -/
def fedGood (w : Word) (typ : Nat) : Bool :=
  bits w.toNat 28 4 == typ && (crc8 (beBytes 3 (w.toNat / 256))).toNat == bits w.toNat 0 8

/-- VIN within VIN_UV to VIN_OV, at the last measurement (R273). -/
def State.vinOk (s : State) (n : Nat) : Bool :=
  let th := (s.keepWord (kwFeed n 1)).toNat
  decide (bits th 0 16 ≤ s.fld F.FED_MEAS_VIN n) && decide (s.fld F.FED_MEAS_VIN n ≤ bits th 16 16)

/-- The test of a condition of R273, at the last measurement: 1 VIN_LOW, 2 VIN_HIGH, 3 DROP, 4 OVERCUR, 5 REVERSE, 6 SHORT,
8 BUS_FAULT. -/
def State.fedTest (s : State) (n cond : Nat) : Bool :=
  let w := fun k => (s.keepWord (kwFeed n k)).toNat
  let vin := s.fld F.FED_MEAS_VIN n
  let vbus := s.fld F.FED_MEAS_VBUS n
  let shunt := s.sfld F.FED_IMEAS_SHUNT n
  let ioff : Int := bits (w 3) 0 12
  let gs := s.flag F.FED_STAT_GS n
  match cond with
  | 1 => decide (vin < bits (w 1) 0 16)
  | 2 => decide (bits (w 1) 16 16 < vin)
  | 3 => gs && decide (bits (w 3) 24 8 + vbus < vin)
  | 4 => decide ((10 * bits (w 3) 12 12 : Nat) < shunt)
  | 5 => gs && decide (shunt < -ioff)
  | 6 => !gs && decide (ioff < shunt.natAbs)
  | 8 => decide (vbus < bits (w 2) 0 10)
  | _ => false

/-- FED_n_GATE toggles: the pump is commanded, a claimant's from 1.0 µs after its message, and hardware holds it off while
FED_n_XGS is high (R272, R275). -/
def State.fedPump (s : State) (n : Nat) : Bool :=
  s.flag F.FED_STAT_PUMP n && !s.flag F.FED_STAT_XGS n && (s.fed n).claimAt.all fun t => decide (t + 1640 ≤ s.now)

/-- A message sent by supervisor n. -/
def State.fedSend (s : State) (n typ : Nat) : State :=
  s.emit (.fedMsg n (fedWord typ (s.fld F.FED_STAT_LSEQ n) (s.vinOk n)))

/-- A supervisor enters OWNER and pumps (R274, R275). -/
def State.fedOwn (s : State) (n gap : Nat) : State :=
  let s := ((s.setFld F.FED_STAT_STATE n fedOwner).setFlag F.FED_STAT_PUMP n true).setFlag F.FED_STAT_GS n true
  let s := s.setFlag F.FED_STAT_XGS (1 - n) true
  let s := (s.bump F.FED_CNT_OWNER n).setFld F.FED_GAP_GAP n (min gap 65535)
  (s.setFed n { s.fed n with token := true, giving := none, sentAt := s.now }).event B.FED n 0

/-- A supervisor enters STANDBY. -/
def State.fedStand (s : State) (n : Nat) : State :=
  ((s.setFld F.FED_STAT_STATE n fedStandby).setFlag F.FED_STAT_PUMP n false).event B.FED n 1

/-- A supervisor enters FAULT with a cause; F_272 + n is raised (R274, R282). -/
def State.fedFail (s : State) (n cause : Nat) : State :=
  let s := ((s.setFld F.FED_STAT_STATE n fedFault).setFlag F.FED_STAT_PUMP n false).setFld F.FED_STAT_CAUSE n cause
  let s := (s.bump F.FED_CNT_FAULTS n).event B.FED n 2
  (s.setFed n { s.fed n with repaired := false, clr := false, acks := 0 }).raiseFault (272 + n)

/-- A condition of R273 holds, in a state where it acts. -/
def State.fedCondition (s : State) (n cond : Nat) : State :=
  let st := s.fld F.FED_STAT_STATE n
  if st = fedOff then s
  else if cond = 8 then s.raiseFault 280
  else if cond = 6 then
    let s := s.raiseFault 275
    if st = fedFault then (s.setFld F.FED_STAT_CAUSE n 6).setFed n { s.fed n with clr := (s.fed n).clr && s.fld F.FED_STAT_CAUSE n == 6 }
    else s.fedFail n 6
  else if (cond = 1 ∨ cond = 2) ∧ (st = fedOwner ∨ st = fedStandby ∨ st = fedSync) ∨ (3 ≤ cond ∧ cond ≤ 5 ∧ st = fedOwner) then
    let s := s.fedFail n cond
    if st = fedOwner then s.setFed n { s.fed n with giving := some fedFault } else s
  else s

/-- FED_CONDITION: the test of a condition has been true for FILT, at the voltages and the shunt value measured (R273). The laser-dark
and SAFEHOLD of BUS_FAULT follow with F_280 (R279). -/
def fedConditionCmd (n cond vin vbus : Nat) (shunt : Int) (s : State) : State :=
  if n < 2 ∧ s.pageOn B.FED n then
    let s := ((s.setFld F.FED_MEAS_VIN n vin).setFld F.FED_MEAS_VBUS n vbus).setSFld F.FED_IMEAS_SHUNT n shunt
    if s.fedTest n cond then s.fedCondition n cond else s
  else s

def execFedCondition (n cond vin vbus : Nat) (shunt : Int) (s : State) : Host.Outcome State Fault Refusal :=
  .next (s.finish (fedConditionCmd n cond vin vbus shunt s))

/-- FED_RENEW_TIMER: the owner sends RENEW with the next LSEQ (R275). -/
def fedRenew (n : Nat) (s : State) : State :=
  if n < 2 ∧ (s.fed n).token ∧ s.fld F.FED_STAT_STATE n = fedOwner ∧ (s.fed n).sentAt + 50000 ≤ s.now then
    ((s.setFed n { s.fed n with sentAt := s.now }).setFld F.FED_STAT_LSEQ n (s.fld F.FED_STAT_LSEQ n + 1)).fedSend n 1
  else s

def execFedRenewTimer (n : Nat) (s : State) : Host.Outcome State Fault Refusal := .next (s.finish (fedRenew n s))

/-- A valid message has arrived: LINK_OK, and the sender's VIN_OK; a supervisor still in OFF becomes STANDBY (R276). -/
def State.fedHeard (s : State) (n : Nat) (w : Word) : State :=
  let s := (s.setFlag F.FED_STAT_LINK_OK n true).setFed n { s.fed n with otherVinOk := bit w.toNat 11, heardAt := s.now }
  if s.fld F.FED_STAT_STATE n = fedOff then s.fedStand n else s

/-- FED_RX_RENEW: STANDBY and SYNC answer ACK with the same LSEQ; the fourth in a row takes SYNC to STANDBY (R275,
R278). -/
def fedRxRenew (n : Nat) (w : Word) (s : State) : State :=
  if n < 2 ∧ s.pageOn B.FED n ∧ fedGood w 1 then
    let s := s.fedHeard n w
    let st := s.fld F.FED_STAT_STATE n
    if st = fedStandby then (s.setFld F.FED_STAT_LSEQ n (bits w.toNat 12 16)).fedSend n 2
    else if st = fedSync then
      let s := (s.setFld F.FED_STAT_LSEQ n (bits w.toNat 12 16)).fedSend n 2
      let s := s.setFed n { s.fed n with acks := (s.fed n).acks + 1 }
      if 4 ≤ (s.fed n).acks then s.fedStand n else s
    else s
  else s

def execFedRxRenew (n : Nat) (w : Word) (s : State) : Host.Outcome State Fault Refusal := .next (s.finish (fedRxRenew n w s))

/-- FED_RX_ACK: the owner's lease is renewed (R275). -/
def fedRxAck (n : Nat) (w : Word) (s : State) : State :=
  if n < 2 ∧ s.pageOn B.FED n ∧ fedGood w 2 ∧ bits w.toNat 12 16 = s.fld F.FED_STAT_LSEQ n then s.fedHeard n w else s

def execFedRxAck (n : Nat) (w : Word) (s : State) : Host.Outcome State Fault Refusal := .next (s.finish (fedRxAck n w s))

/-- FED_RX_HANDOFF: a STANDBY receiver becomes OWNER and pumps at once; `gap` is the time from XGS low until its switch
conducts, in 10 ns (R275, R295). -/
def fedRxHandoff (n : Nat) (w : Word) (gap : Nat) (s : State) : State :=
  if n < 2 ∧ s.pageOn B.FED n ∧ fedGood w 3 then
    let s := (s.fedHeard n w).setFlag F.FED_STAT_XGS n false
    if s.fld F.FED_STAT_STATE n = fedStandby then s.fedOwn n gap else s
  else s

def execFedRxHandoff (n : Nat) (w : Word) (gap : Nat) (s : State) : Host.Outcome State Fault Refusal :=
  .next (s.finish (fedRxHandoff n w gap s))

/-- A CLAIM sent: the claimant takes the token and pumps once the message has gone (R275). -/
def State.fedClaim (s : State) (n gap : Nat) : State :=
  let s := (s.fedSend n 4).fedOwn n gap
  s.setFed n { s.fed n with claimAt := some s.now }

/-- FED_RX_CLAIM: an owner stops pumping and enters FAULT with CLAIMED. When two CLAIMs cross, FED 0 keeps the token
and FED 1 enters STANDBY (R275). -/
def fedRxClaim (n : Nat) (w : Word) (s : State) : State :=
  if n < 2 ∧ s.pageOn B.FED n ∧ fedGood w 4 then
    let s := s.fedHeard n w
    let crossing := match (s.fed n).claimAt with
      | some t => decide (s.now < t + 1640)
      | none => false
    if crossing then
      if n = 0 then s else ((s.setFed n { s.fed n with token := false, claimAt := none }).fedStand n).setFlag F.FED_STAT_GS n false
    else if s.fld F.FED_STAT_STATE n = fedOwner then
      ((s.fedFail n 7).setFed n { s.fed n with token := false, giving := none, repaired := false, clr := false }).setFlag
        F.FED_STAT_GS n false
    else s.setFed n { s.fed n with token := false, giving := none }
  else s

def execFedRxClaim (n : Nat) (w : Word) (s : State) : Host.Outcome State Fault Refusal := .next (s.finish (fedRxClaim n w s))

/-- FED_SWITCH_OFF: GS low and the shunt below IOFF after the pump stopped: HANDOFF is sent (R275). -/
def fedSwitchOff (n : Nat) (s : State) : State :=
  match (s.fed n).giving with
  | some st =>
    let s := (s.setFlag F.FED_STAT_GS n false).setFlag F.FED_STAT_XGS (1 - n) false
    let s := ((s.fedSend n 3).event B.FED n 4).setFed n { s.fed n with token := false, giving := none }
    if st = fedStandby then s.fedStand n else s
  | none => s

def execFedSwitchOff (n : Nat) (s : State) : Host.Outcome State Fault Refusal :=
  .next (s.finish (if n < 2 then fedSwitchOff n s else s))

/-- FED_OFF_TIMEOUT: the owner cannot see its switch off within 2 µs: no HANDOFF, SHORT, and the token stays (R275,
R280). -/
def fedOffTimeout (n : Nat) (s : State) : State :=
  match (s.fed n).giving with
  | some _ =>
    let s := s.setFed n { s.fed n with giving := none }
    let s := if s.fld F.FED_STAT_STATE n = fedFault then s.setFld F.FED_STAT_CAUSE n 6 else s.fedFail n 6
    s.raiseFault 275
  | none => s

def execFedOffTimeout (n : Nat) (s : State) : Host.Outcome State Fault Refusal :=
  .next (s.finish (if n < 2 then fedOffTimeout n s else s))

/-- FED_XGS_LOSS: a standby sees XGS low for 1.0 µs with no HANDOFF: it claims and raises F_276 + (1 − n) (R275). -/
def fedXgsLoss (n gap : Nat) (s : State) : State :=
  if n < 2 ∧ s.fld F.FED_STAT_STATE n = fedStandby then
    ((s.setFlag F.FED_STAT_XGS n false).fedClaim n gap).raiseFault (276 + (1 - n))
  else s

def execFedXgsLoss (n gap : Nat) (s : State) : Host.Outcome State Fault Refusal := .next (s.finish (fedXgsLoss n gap s))

/-- FED_LEASE_EXPIRE: no valid message for tLEASE. FED.LINK, and F_274 once the link is silent in both directions (R282); a STANDBY that sees XGS low claims; at start-up a
supervisor still in OFF claims when its own VIN is valid (R275, R276, R280). -/
def fedLeaseExpire (n : Nat) (xgs : Bool) (vin gap : Nat) (s : State) : State :=
  if n < 2 ∧ s.pageOn B.FED n ∧ (s.fed n).heardAt + 200000 ≤ s.now then
    let s := ((s.setFlag F.FED_STAT_LINK_OK n false).setFlag F.FED_STAT_XGS n xgs).setFld F.FED_MEAS_VIN n vin
    let st := s.fld F.FED_STAT_STATE n
    if st = fedOff then (if !xgs ∧ s.vinOk n then s.fedClaim n gap else s)
    else
      let s := s.event B.FED n 3
      let s := if s.flag F.FED_STAT_LINK_OK (1 - n) then s else s.raiseFault 274
      if st = fedStandby ∧ !xgs then s.fedClaim n gap else s
  else s

def execFedLeaseExpire (n : Nat) (xgs : Bool) (vin gap : Nat) (s : State) : Host.Outcome State Fault Refusal :=
  .next (s.finish (fedLeaseExpire n xgs vin gap s))

/-- FED_STARTUP: 20 µs after power-up the preferred supervisor claims, if its VIN is valid and XGS is low (R276). -/
def fedStartup (vin0 vin1 : Nat) (s : State) : State :=
  let s := (s.setFld F.FED_MEAS_VIN 0 vin0).setFld F.FED_MEAS_VIN 1 vin1
  let p0 := bit (s.keepWord (kwFeed 0 0)).toNat 0
  let p1 := bit (s.keepWord (kwFeed 1 0)).toNat 0
  let n := if p1 ∧ ¬ p0 then 1 else 0
  if s.pageOn B.FED n ∧ s.fld F.FED_STAT_STATE n = fedOff ∧ (s.fed n).heardAt + 20000 ≤ s.now ∧ s.vinOk n
      ∧ ¬ s.flag F.FED_STAT_XGS n then s.fedClaim n 0
  else s

def execFedStartup (vin0 vin1 : Nat) (s : State) : Host.Outcome State Fault Refusal := .next (s.finish (fedStartup vin0 vin1 s))

/-- FED_CTRL.HANDOVER (R280, R295): discarded off the owner's page; refused unless the standby is in STANDBY with VIN
good and the lease runs. -/
def State.fedHandover (s : State) (n : Nat) : State :=
  if s.fld F.FED_STAT_STATE n ≠ fedOwner then s
  else if s.fld F.FED_STAT_STATE (1 - n) = fedStandby ∧ (s.fed n).otherVinOk ∧ s.flag F.FED_STAT_LINK_OK n then
    (s.setFlag F.FED_STAT_PUMP n false).setFed n { s.fed n with giving := some fedStandby }
  else s.event B.FED n 5

def execFedHandover (n : Nat) (s : State) : Host.Outcome State Fault Refusal :=
  .next (s.finish (s.onPage B.FED n F.FED_CTRL.off fun s =>
    if n < 2 then s.fedHandover n else s))

/-- A cause that has cleared takes FAULT to SYNC (R278): VIN causes after REPAIR_T; DROP, OVERCUR, SHORT and CLAIMED
with CLR as well, SHORT only while the shunt reads below IOFF. -/
def State.fedRecover (s : State) (n : Nat) : State :=
  let c := s.fld F.FED_STAT_CAUSE n
  let x := s.fed n
  let ioff := bits (s.keepWord (kwFeed n 3)).toNat 0 12
  let shortGone := decide ((s.sfld F.FED_IMEAS_SHUNT n).natAbs < ioff)
  let ok := x.repaired && (c == 1 || c == 2 || c == 5 || (x.clr && (c != 6 || shortGone)))
  if s.fld F.FED_STAT_STATE n = fedFault ∧ ok then
    (((s.setFld F.FED_STAT_STATE n fedSync).setFld F.FED_STAT_CAUSE n 0).setFed n { x with acks := 0, token := false }).dropFault (272 + n)
  else s

/-- FED_CTRL.CLR (R278). -/
def State.fedClr (s : State) (n : Nat) : State :=
  if s.fld F.FED_STAT_STATE n = fedFault then (s.setFed n { s.fed n with clr := true }).fedRecover n else s

def execFedClr (n : Nat) (s : State) : Host.Outcome State Fault Refusal :=
  .next (s.finish (s.onPage B.FED n F.FED_CTRL.off fun s =>
    if n < 2 then s.fedClr n else s))

/-- FED_REPAIR: VIN has stayed within range for REPAIR_T (R278). -/
def execFedRepair (n vin : Nat) (s : State) : Host.Outcome State Fault Refusal :=
  .next (s.finish (if n < 2 ∧ s.pageOn B.FED n then
      let s := s.setFld F.FED_MEAS_VIN n vin
      if s.vinOk n then (s.setFed n { s.fed n with repaired := true }).fedRecover n else s
    else s))

/-- FED_SUPERVISOR_LOST: the owner's supervisor or its oscillator stops: the pump stops and the switch opens (R280). -/
def execFedSupervisorLost (n : Nat) (s : State) : Host.Outcome State Fault Refusal :=
  .next (s.finish (if n < 2 ∧ s.pageOn B.FED n then
      let s := s.setFlag F.FED_STAT_LINK_OK n false
      let s := ((s.setFld F.FED_STAT_STATE n fedOff).setFlag F.FED_STAT_PUMP n false).setFlag F.FED_STAT_GS n false
      (s.setFlag F.FED_STAT_XGS (1 - n) false).setFed n { Fed.init with otherVinOk := (s.fed n).otherVinOk }
    else s))

end Sys2Proof.Machine
end

