-- ==== Sys2Proof/Machine/Hv.lean ====
section
/-! DEFINITION. High-voltage outputs (R226 to R231, R238, R239). -/

namespace Sys2Proof.Machine

def Hvo.init : Hvo :=
  { phi := 0, phiAt := 0, ocRun := 0, lastI := none, rampFrom := 0, rampAt := none, staged := false, duty := 0 }
def State.hvo (s : State) (o : Nat) : Hvo := s.hvos.get (fun _ => Hvo.init) o
def State.setHvo (s : State) (o : Nat) (x : Hvo) : State := { s with hvos := s.hvos.set (fun _ => Hvo.init) o x }

/-- HVO_STAT.STATE codes (R238). -/
def hvOff : Nat := 0
def hvRun : Nat := 1
def hvRampdn : Nat := 2
def hvFault : Nat := 3

def State.hvState (s : State) (o : Nat) : Nat := s.fld F.HVO_STAT_STATE o

/-- A state entered; HVO_GSTAT shows the outputs in RUN (R239). -/
def State.setHvState (s : State) (o v : Nat) : State :=
  let s := s.setFld F.HVO_STAT_STATE o v
  s.setReg (F.HVO_GSTAT.addr 0x20) (putBits (s.reg (F.HVO_GSTAT.addr 0x20)) o 1 (if v = hvRun then 1 else 0))

/-- Phase of an output's NCO at this press time: FREQ per KCLK cycle (R227). -/
def State.hvPhase (s : State) (o : Nat) : Nat :=
  let x := s.hvo o
  (x.phi + (s.reg (F.HVO_NCO.addr o)).toNat * ((s.now - x.phiAt) / 4)) % 2 ^ 32

/-- HVO_NCO written: the phase goes on from where it stands. -/
def State.writeNco (s : State) (o : Nat) (v : Word) : State :=
  if s.hvState o ≠ hvOff then s
  else (s.setHvo o { s.hvo o with phi := s.hvPhase o, phiAt := s.now }).setReg (F.HVO_NCO.addr o) v

/-- A setting that raises CFG_ERR (R227, R238): f from 100 Hz to 20 kHz, the carrier at least 16 f. -/
def State.hvBad (s : State) (o : Nat) : Bool :=
  let k := s.fld F.HVO_CFG_KIND o
  let p := s.fld F.HVO_PWM_PERIOD o
  let f := (s.reg (F.HVO_NCO.addr o)).toNat * 250000000
  decide (1 < k ∨ p < 625 ∨ 12500 < p)
    || (k == 1 && decide (f < 100 * 2 ^ 32 ∨ 20000 * 2 ^ 32 < f ∨ 250000000 * 2 ^ 32 < 16 * f * p))

/-- HVO_CTRL.EN = 1 (R230, R231). -/
def hvoEnable (o : Nat) (s : State) : State :=
  if !s.sys.mode.moves ∨ s.hvState o = hvRampdn then s
  else
    let s := s.setFlag F.HVO_CTRL_EN o true
    if s.hvState o ≠ hvOff ∨ ¬ s.pageEn B.HVO o then s
    else if s.hvBad o then (s.setFld F.HVO_STAT_FCAUSE o 3).event B.HVO o 4
    else
      let s := ((s.setHvState o hvRun).setFld F.HVO_STAT_FCAUSE o 0).event B.HVO o 0
      let s := s.setHvo o { s.hvo o with ocRun := 0, lastI := none, duty := 0 }
      let slot := s.fld F.HVO_CFG_SLOT o
      s.hvDemand slot (if slot < 96 then s.slotU slot else 0)

/-- An output begins to ramp down; a stage-2 output of a staged ramp waits for stage 1 (R230). -/
def State.rampOne (s : State) (o : Nat) (staged wait : Bool) : State :=
  if s.hvState o ≠ hvRun then s
  else
    let d := s.fld F.HVO_DEMAND_DEMAND o
    let s := (s.setHvState o hvRampdn).setFlag F.HVO_STAT_SATREP o true
    s.setHvo o { s.hvo o with rampFrom := d, rampAt := if wait then none else some s.now, staged := staged }

/-- A stage-1 output that ramps, with its stage or alone, holds stage 2 back: it has not reached 0. -/
def State.stageOneBusy (s : State) : Bool :=
  (List.range 32).any fun o => !s.flag F.HVO_CFG_STAGE o && s.hvState o == hvRampdn

/-- Stage 2 starts once every stage-1 output has reached 0. -/
def State.stageTwo (s : State) : State :=
  if s.stageOneBusy then s
  else forAll (List.range 32) s fun s o =>
    if s.hvState o = hvRampdn ∧ (s.hvo o).staged ∧ (s.hvo o).rampAt.isNone then
      s.setHvo o { s.hvo o with rampAt := some s.now }
    else s

/-- Every output in RUN ramps down by stages: SAFEHOLD, LOCKDOWN, IDLE, a SEVERE or GRAVE reaction (R230). A ramp in
progress continues (R231). -/
def State.rampAll (s : State) : State :=
  (forAll (List.range 32) s fun s o => s.rampOne o true (s.flag F.HVO_CFG_STAGE o)).stageTwo

/-- Stations whose frames lose an output, at which it leaves RUN: the frames spoil FAULT and the station goes on exposing
(R229). -/
def State.hvSpoil (s : State) (o src : Nat) : State :=
  match hvStation o with
  | some n => s.spoilAt n cFault src false
  | none => s

/-- HVO_CTRL.EN = 0: the output ramps alone, at once also where it waited for its stage, or FAULT clears to OFF (R229,
R230); its station's frames spoil (R48). -/
def State.hvStop (s : State) (o : Nat) : State :=
  if s.hvState o = hvFault then
    ((s.setHvState o hvOff).setFld F.HVO_STAT_FCAUSE o 0).dropFault (if s.fld F.HVO_STAT_FCAUSE o = 2 then 151 else 150)
  else if s.hvState o = hvRun then
    let s := s.rampOne o false false
    match hvStation o with
    | some n => forAll (s.bySerial (s.ctxsWith (s.struckAt n))) s fun s c => s.spoil c cFault 150
    | none => s
  else if s.hvState o = hvRampdn ∧ (s.hvo o).rampAt.isNone then s.setHvo o { s.hvo o with rampAt := some s.now, staged := false }
  else s

def hvoDisable (o : Nat) (s : State) : State := (s.setFlag F.HVO_CTRL_EN o false).hvStop o

/-- A conversion in Q1.15: its code, -8,192 to 8,191, over full scale. -/
def convQ15 (c : Int) : Int := 4 * clampI (-8192) 8191 c

/-- The mean of the conversions of a DC output's measurement period (R228). -/
def meanOf (cs : List Int) : Int := sat16 ((cs.map convQ15).sum / cs.length)

/-- The conversions of an AC output, taken at 8 points of its NCO's period from phase 0 on, times a wave of that period. -/
def demod (wave : Nat → Int) (cs : List Int) : Int :=
  ((List.range 8).map fun k => convQ15 (cs.getD k 0) * wave (k * 2 ^ 29)).sum / 4

/-- The amplitude, demodulated synchronously against the NCO: in phase and in quadrature (R228; assumption 114). -/
def amplitudeOf (cs : List Int) : Int :=
  let a := demod sine cs
  let b := demod cosine cs
  sat16 ((a * a + b * b).toNat.sqrt / 2 ^ 30 : Nat)

/-- What an output reports of the conversions of a measurement period (R228). -/
def State.measured (s : State) (o : Nat) (cs : List Int) : Int :=
  if s.fld F.HVO_CFG_KIND o = 1 then amplitudeOf cs else meanOf cs

/-- The conversions make up a measurement period: 8 of each input of an AC output, some of a DC output. -/
def State.measures (s : State) (o : Nat) (vs is : List Int) : Bool :=
  if s.fld F.HVO_CFG_KIND o = 1 then vs.length == 8 && is.length == 8 else vs != [] && is != []

/-- HVO_MEASURE: the conversions of VMON and IMON in a measurement period; over-current and arc are judged (R228, R229,
R231). -/
def hvoMeasure (o : Nat) (vs is : List Int) (s : State) : State :=
  let st := s.hvState o
  if (st ≠ hvRun ∧ st ≠ hvRampdn) ∨ !s.measures o vs is then s
  else
    let v := s.measured o vs
    let i := s.measured o is
    let x := s.hvo o
    let s := s.setReg (F.HVO_MEAS.addr o) (BitVec.ofNat 32 (unsign v 16 * 2 ^ 16 + unsign i 16))
    let run := if s.sfld F.HVO_LIM_ILIM o < i then x.ocRun + 1 else 0
    let arc := match x.lastI with
      | some j => decide (s.sfld F.HVO_LIM_ARC o < (if i < j then j - i else i - j))
      | none => false
    let s := s.setHvo o { x with ocRun := run, lastI := some i }
    if decide (4 ≤ run) || arc then
      let oc := decide (4 ≤ run)
      let s := (s.setHvState o hvFault).setFld F.HVO_STAT_FCAUSE o (if oc then 1 else 2)
      let s := ((s.setFld F.HVO_DEMAND_DEMAND o 0).setFlag F.HVO_STAT_SATREP o false).event B.HVO o (if oc then 1 else 2)
      let s := s.raiseFault (if oc then 150 else 151)
      if st = hvRun then s.hvSpoil o (if oc then 150 else 151) else s.stageTwo
    else s

/-- TDN in ns; 0 is taken as 1 (R238). -/
def State.hvTdn (s : State) (o : Nat) : Nat := max 1 (s.fld F.HVO_TDN_TDN o) * 100000

/-- The linear ramp of an output has lasted TDN: its demand is 0 (R230). -/
def State.hvAtZero (s : State) (o : Nat) : Bool :=
  s.hvState o == hvRampdn && match (s.hvo o).rampAt with
    | some t => decide (t + s.hvTdn o ≤ s.now)
    | none => false

/-- HVO_RAMPED: the demand of an output that ramps has reached 0; its HV_n_EN drops (R230). -/
def hvoRamped (o : Nat) (s : State) : State :=
  if s.hvAtZero o then
    let s := ((s.setHvState o hvOff).setFld F.HVO_DEMAND_DEMAND o 0).setFlag F.HVO_STAT_SATREP o false
    (s.event B.HVO o 3).stageTwo
  else s

/-- HVO_SYNC: φ becomes 0 in the same cycle on every output whose bit is set (R227). -/
def hvoSync (mask : Word) (s : State) : State :=
  forAll ((List.range 32).filter fun o => bit mask.toNat o) s fun s o =>
    s.setHvo o { s.hvo o with phi := 0, phiAt := s.now }

/-- An output that exists and is powered. -/
def State.hvOn (s : State) (o : Nat) : Bool := decide (o < 32) && s.domOn .ctl

def execHvoEnable (o : Nat) (s : State) : Host.Outcome State Fault Refusal :=
  .next (s.finish (s.onPage B.HVO o F.HVO_CTRL.off fun s =>
    if s.hvOn o then hvoEnable o s else s))
def execHvoDisable (o : Nat) (s : State) : Host.Outcome State Fault Refusal :=
  .next (s.finish (s.onPage B.HVO o F.HVO_CTRL.off fun s =>
    if s.hvOn o then hvoDisable o s else s))
def execHvoMeasure (o : Nat) (vs is : List Int) (s : State) : Host.Outcome State Fault Refusal :=
  .next (s.finish (if s.hvOn o then hvoMeasure o vs is s else s))
def execHvoRamped (o : Nat) (s : State) : Host.Outcome State Fault Refusal := .next (s.finish (if s.hvOn o then hvoRamped o s else s))
def execHvoSync (mask : Word) (s : State) : Host.Outcome State Fault Refusal :=
  .next (s.finish (s.onPage B.HVO 0x20 F.HVO_SYNC.off fun s =>
    if s.domOn .ctl then hvoSync mask s else s))

/-- HVO_DEMAND (R238): on the way down the demand falls linearly over TDN (R230). -/
def State.hvDemandNow (s : State) (o : Nat) : Nat :=
  let x := s.hvo o
  let tdn := s.hvTdn o
  if s.hvState o = hvRampdn then
    match x.rampAt with
    | some t => x.rampFrom * (tdn - (s.now - t)) / tdn
    | none => x.rampFrom
  else s.fld F.HVO_DEMAND_DEMAND o

/-! ### The balls of an output (R226, R227) -/

/-- HV_n_EN: high while the output runs or ramps down; it drops in FAULT and as the demand reaches 0 (R229 to R231). -/
def State.hvEn (s : State) (o : Nat) : Bool := s.domOn .ctl && (s.hvState o == hvRun || s.hvState o == hvRampdn)

/-- The duty that an output asks for now, in 1/32,768: the demand, or 1/2 + 1/2 × A × sin(2π × (φ + PHASE / 65,536)). -/
def State.hvDuty (s : State) (o : Nat) : Nat :=
  if s.fld F.HVO_CFG_KIND o = 1 then
    (2 ^ 14 + s.hvDemandNow o * sine (s.hvPhase o + (s.reg (F.HVO_PHASE.addr o)).toNat % 2 ^ 16 * 2 ^ 16) / 2 ^ 31).toNat
  else s.hvDemandNow o

/-- Carrier periods begun since press time 0, and the KCLK cycle of the present one (assumption 113). -/
def State.hvCarrier (s : State) (o t : Nat) : Nat × Nat :=
  let p := max 1 (s.fld F.HVO_PWM_PERIOD o)
  (t / 4 / p, t / 4 % p)

/-- HV_n_DRV: high for the duty's part of each carrier period, from its start. -/
def State.hvDrv (s : State) (o : Nat) : Bool :=
  s.hvEn o && decide ((s.hvCarrier o s.now).2 * 32768 < (s.hvo o).duty * max 1 (s.fld F.HVO_PWM_PERIOD o))

/-- Each output that drives takes its duty as a carrier period begins; `t0`: press time at the edge of KCLK before. -/
def State.hvCarrierAll (s : State) (t0 : Nat) : State :=
  forAll ((List.range 32).filter fun o => s.hvEn o && decide ((s.hvCarrier o t0).1 ≠ (s.hvCarrier o s.now).1)) s fun s o =>
    s.setHvo o { s.hvo o with duty := s.hvDuty o }

end Sys2Proof.Machine
end

