-- ==== Sys2Proof/Machine/Node.lean ====
section
/-! DEFINITION. This node's own part on the cascade: its state and the head role, messages sent on rings 28 and 29,
ring-wide writes sent, BYPASS and REJOIN (R366 to R369, R373, R375, R382). -/

namespace Sys2Proof.Machine

/-! ### State, map and roles -/

/-- CAS_STAT.STATE. -/
def State.casState (s : State) : Nat := s.fld F.CAS_STAT_STATE 0
def State.setCasState (s : State) (v : Nat) : State := s.setFld F.CAS_STAT_STATE 0 v

/-- A node entered into, or struck from, CAS_MAP; NODES follows. -/
def State.setPresent (s : State) (k : Nat) (on : Bool) : State :=
  let f := if k < 32 then F.CAS_MAP_LO else F.CAS_MAP_HI
  let s := s.setReg (f.addr 0) (putBits (s.reg (f.addr 0)) (k % 32) 1 (if on then 1 else 0))
  s.setFld F.CAS_STAT_NODES 0 ((List.range 64).filter s.casPresent).length

/-- The master that nodes without one take: the head when it is among them, else the lowest ID (R377). -/
def State.pickMaster (s : State) (among : List Nat) : Nat :=
  let h := s.fld F.CAS_STAT_HEAD_ID 0
  if s.flag F.CAS_STAT_HEAD_OK 0 ∧ h ∈ among then h else (among.find? fun _ => true).getD s.nodeId

/-- Nodes of the island, in rising order (R373). -/
def State.island (s : State) : List Nat := (List.range 64).filter s.casPresent

/-- A master taken: TB_MASTER, θ of a master, and the parent follow. -/
def State.setMaster (s : State) (m : Nat) : State :=
  let s := s.setFlag F.CAS_STAT_TB_MASTER 0 (m == s.nodeId)
  let s := if m = s.nodeId then s.setReg (F.CAS_TB.addr 0) 0 else s
  { s with cas := { s.cas with master := some m, parentB := s.routeB m } }

/-- The island keeps its master while it is present; when it leaves, another goes on (R377). -/
def State.judgeTb (s : State) : State :=
  match s.cas.master with
  | some m => if s.casPresent m then s.setMaster m else s.setMaster (s.pickMaster s.island)
  | none => s.setMaster (s.pickMaster s.island)

/-- This node takes the head role. -/
def State.takeHead (s : State) : State :=
  let s := (s.setFlag F.CAS_STAT_IS_HEAD 0 true).setFlag F.CAS_STAT_HEAD_OK 0 true
  ((s.setFld F.CAS_STAT_HEAD_ID 0 s.nodeId).dropFault 323).judgeTb

/-- CAS_CFG.HEAD as written: the role goes to the lower ID of two that claim it, and the other raises F_326 (R373). -/
def State.judgeHead (s : State) : State :=
  let h := s.fld F.CAS_STAT_HEAD_ID 0
  if s.flag F.CAS_CFG_HEAD 0 then
    if s.flag F.CAS_STAT_IS_HEAD 0 then s
    else if s.flag F.CAS_STAT_HEAD_OK 0 ∧ h < s.nodeId then s.raiseFault 326 else s.takeHead
  else if s.flag F.CAS_STAT_IS_HEAD 0 then
    ((s.setFlag F.CAS_STAT_IS_HEAD 0 false).setFlag F.CAS_STAT_HEAD_OK 0 false).judgeTb
  else s

/-- The DISC this node broadcasts: its ID, HEAD, its state, and its nonce (R370). -/
def State.sendDisc (s : State) : State :=
  s.broadcast (s.mkPacket 0x13 0xFF 0
    (leBytes 1 s.nodeId ++ leBytes 1 (s.fld F.CAS_CFG_HEAD 0) ++ leBytes 1 s.casState ++ leBytes 1 0
      ++ leBytes 4 s.cas.nonce))

/-- Discovery starts: the node knows itself alone. -/
def State.startDisc (s : State) : State :=
  let s := (s.setReg (F.CAS_MAP_LO.addr 0) 0).setReg (F.CAS_MAP_HI.addr 0) 0
  let c := { s.cas with discAt := s.now, missing := [], hopsA := [], hopsB := [], joining := true, tbGood := 0, master := none, upSeen := [] }
  let s := { s with cas := { c with merging := false } }
  ((s.setPresent s.nodeId true).setCasState casDisc).judgeHead.judgeTb

/-- Ports whose link is up. -/
def State.anyPort (s : State) : Bool := s.portUp false || s.portUp true

/-- The links of an enabled cascade train as the domain comes on, and the node draws the nonce of its DISC (R373). -/
def State.casStart (s : State) : State :=
  let (n, s) := s.draw
  { s with cas := { Cas.init with nonce := n % 2 ^ 32 } }.setCasState casTrain

/-! ### Messages (R375) -/

/-- A message refused: by its destination, or at this node because the destination is absent. -/
def State.msgRefused (s : State) : State := ((s.bump F.CAS_NACK_CNT 0).event B.CAS 0 5).raiseFault 328

/-- A record that a receiving ring cannot take is dropped and counted; the second component says that it was taken. -/
def State.takeMsg (s : State) (r : Nat) (bs : List Byte) : State × Bool :=
  let ok := s.ringEn r && ((s.ringWaiting r == 0 && decide (0 < s.ringRoom r) && s.ringWritable r)
    || decide (s.ringq.queue.length < 64))
  (s.putUnreserved r bs, ok)

/-- Entries sent on a ring, and one more. -/
def Cas.sentOn (c : Cas) (r : Nat) : Nat := if r = 28 then c.sent28 else c.sent29
def Cas.sendOn (c : Cas) (r : Nat) : Cas :=
  if r = 28 then { c with sent28 := (c.sent28 + 1) % 2 ^ 32 } else { c with sent29 := (c.sent29 + 1) % 2 ^ 32 }

/-- One entry of ring 28 or 29 taken and sent. -/
def State.sendMsg (s : State) (r : Nat) (bs : List Byte) : State :=
  let k := fieldAt bs 1 1
  if fieldAt bs 0 1 ≠ 1 then s.event B.APR (ringInst r) 1
  else if k ≠ 0xFF ∧ ¬ s.casPresent k then s.msgRefused
  else
    let s := { s with cas := s.cas.sendOn r }
    let e := leBytes 1 1 ++ leBytes 1 s.nodeId ++ takeAt bs 2 1 ++ leBytes 1 0 ++ leBytes 4 (s.cas.sentOn r)
      ++ takeAt bs 8 24
    if k = s.nodeId then
      let (s, ok) := s.takeMsg (r + 2) e
      if ok then s else s.msgRefused
    else
      let p := s.mkPacket 0x06 k (r - 28) e
      if k = 0xFF then s.broadcast p else s.sendTo p

/-- Entries between the head and the tail of ring 28 or 29 are sent, in order, while the node takes part in the cascade. -/
def State.sendMsgs (s : State) (r : Nat) : Nat → State
  | 0 => s
  | n + 1 =>
    if s.casActive ∧ s.ringEn r ∧ s.lmemReady ∧ s.ringUsed r ≠ 0 then
      let bs := s.ringGet r (s.ringHead r)
      let s := s.setFld F.RING_HEAD_INDEX (ringInst r) ((s.ringHead r + 1) % s.ringSize r)
      (s.sendMsg r bs).sendMsgs r n
    else s

/-- Both message rings. -/
def State.msgPump (s : State) : State :=
  let s := s.sendMsgs 28 (s.ringUsed 28)
  s.sendMsgs 29 (s.ringUsed 29)

/-! ### Ring-wide writes (R366, R367) -/

/-- A ring-wide write leaves on both ports, and is counted in PRS_STAT.OUT until both copies have returned; one
that would leave a port that is down returns at once. -/
def State.ringWide (s : State) (addr : Nat) (v : Word) : State :=
  if !s.casActive then s
  else if !s.anyPort then (if s.fld F.PRS_STAT_OUT 0 = 0 then s.event B.PRS 0 0 else s)
  else
    let o := (s.cas.oseq + 1) % 2 ^ 32
    let copies := ([true, false].filter s.portUp).length
    let s := { s with cas := { s.cas with oseq := o, ringOut := s.cas.ringOut ++ [(o, copies)] } }
    (s.bump F.PRS_STAT_OUT 0).broadcast
      (s.mkPacket 0x04 0xFF 0 (leBytes 4 (addr % 2 ^ 27) ++ leBytes 4 v.toNat ++ leBytes 4 o ++ leBytes 4 0))

/-! ### BYPASS and REJOIN (R369, R380, R382) -/

/-- CAS_BYPASS: the node forwards traffic and delivers none. -/
def casBypassCmd (s : State) : State :=
  if s.casEnabled ∧ s.domOn .cas then s.setCasState casBypass else s

/-- CAS_REJOIN: leaves BYPASS or DUP, with a new nonce, and reruns discovery. -/
def casRejoin (s : State) : State :=
  if s.casEnabled ∧ s.domOn .cas ∧ (s.casState = casBypass ∨ s.casState = casDup) then
    let (n, s) := s.draw
    let s := { s with cas := { s.cas with nonce := n % 2 ^ 32 } }.dropFault 325
    if s.anyPort then s.startDisc.sendDisc.msgPump else s.setCasState casTrain
  else s

def execCasBypass (s : State) : Host.Outcome State Fault Refusal :=
  .next (s.finish (s.onPage B.CAS 0 F.CAS_CTRL.off fun s =>
    casBypassCmd s))
def execCasRejoin (s : State) : Host.Outcome State Fault Refusal :=
  .next (s.finish (s.onPage B.CAS 0 F.CAS_CTRL.off fun s =>
    casRejoin s))

end Sys2Proof.Machine
end

