-- ==== Sys2Proof/Machine/Modes.lean ====
section
/-! DEFINITION. Operating modes and power domains: requests and their refusals, entry to SAFEHOLD and LOCKDOWN, what a
domain loses as it switches off, wake, loss of supplies, chip reset, and the last step of a program (R25, R26, R267 to R271,
R276, R286, R288, R290, R334). Completing a change, which applies register pairs, stands in Machine/Entry.lean. -/

namespace Sys2Proof.Machine

/-! ### Domains -/

/-- The domains a mode change switches, in the order of R269; SEQ switches FSA and FSB. -/
def domOrder : List Dom :=
  [.sec, .hst, .ctl, .mem, .cas, .ana, .gio, .img, .bln 0, .bln 1, .bln 2, .bln 3, .bln 4, .bln 5]

/-- The mode the domains are switched for: the target of the change that runs. -/
def State.domMode (s : State) : Mode := match s.sys.trans with
  | some t => t.target
  | none => s.sys.mode

/-- A domain is on in a mode (R268). -/
def State.domWanted (s : State) (m : Mode) (d : Dom) : Bool :=
  let run := decide (3 ≤ m.code ∧ m.code ≤ 10)
  match d with
  | .aon => m ≠ .off
  | .mem => decide (2 ≤ m.code ∧ m.code ≤ 10)
  | .img => run
  | .bln n => run && bit (s.fld F.PWR_BLN_EN_STN 0x40) n
  | .cas => decide (2 ≤ m.code) && s.casEnabled
  | _ => decide (2 ≤ m.code)

/-- The next domain to switch, and whether on: off first, in reverse order, then on (R269). -/
def State.nextDomain (s : State) : Option (Dom × Bool) :=
  match domOrder.reverse.find? fun d => s.domOn d && !s.domWanted s.domMode d with
  | some d => some (d, false)
  | none => (domOrder.find? fun d => !s.domOn d && s.domWanted s.domMode d).map fun d => (d, true)

/-- A domain's position in the order of R269. -/
def Dom.position : Dom → Nat
  | .aon => 0 | .fsa => 1 | .fsb => 1 | .sec => 2 | .hst => 3 | .ctl => 4 | .mem => 5 | .cas => 6 | .ana => 7 | .gio => 8
  | .img => 9 | .bln _ => 10

/-- A domain's start is due: 10 µs for each position after the first that the change switched, off in reverse order; a
position whose domain does not switch keeps its slot (R269). -/
def State.domDue (s : State) (d : Dom) (on : Bool) : Bool := match s.sys.domAt with
  | some (t, k, dir) =>
    dir != on || decide (t + 10000 * ((d.position : Int) - k).natAbs ≤ s.now)
  | none => true

/-- The first switching of a change is noted. -/
def State.noteDom (s : State) (d : Dom) (on : Bool) : State :=
  if s.sys.trans.isSome ∧ ¬ s.sys.domAt.any (fun x => x.2.2 == on) then
    { s with sys := { s.sys with domAt := some (s.now, d.position, on) } }
  else s

/-- Access paths are numbered 0 host, 1 cascade, 2 Eyepiece; latches of a path lost (R7). -/
def State.dropLatches (s : State) (p : Nat) : State :=
  { s with latches := s.latches.filter fun e => e.1 / 2 ^ 27 ≠ p }

/-- Fault sources of a domain's pages read clear once it is off. -/
def State.dropPairs (s : State) (d : Dom) : State :=
  { s with flt := { s.flt with pair := s.flt.pair.filter fun n => match faultPage n with
    | some (b, i) => domOf b i ≠ d
    | none => d ≠ .ctl || n < 32 || 48 ≤ n } }

/-- The domain's registers, back at their reset values. FLT_GRAVE and MEM_CTRL are held in AON (R322, R335), CASEN and NODE_ID as sampled; the
page of the shared CLK outputs goes with the last station. -/
def State.clearDomain (s : State) (d : Dom) : State :=
  let last := match d with
    | .bln _ => bits (s.fld F.PWR_DOM_STAT 0x40) 22 6 == 0
    | _ => false
  let g := s.reg (F.FLT_GRAVE.addr 0x10)
  let lo := s.reg (F.FLT_GRAVE_TIME_LO.addr 0x10)
  let hi := s.reg (F.FLT_GRAVE_TIME_HI.addr 0x10)
  let st := s.reg (F.CAS_STAT.addr 0) &&& 0x7F
  let ft := s.reg (F.MEM_CTRL.addr 0)
  let s := s.clearPages fun b i => if b = B.CLK ∧ i = 6 then last else domOf b i == d
  ((((s.setReg (F.FLT_GRAVE.addr 0x10) g).setReg (F.FLT_GRAVE_TIME_LO.addr 0x10) lo).setReg
    (F.FLT_GRAVE_TIME_HI.addr 0x10) hi).setReg (F.CAS_STAT.addr 0) st).setReg (F.MEM_CTRL.addr 0) ft

/-- A domain switches off: its registers and the rest of its state are lost, and its balls are isolated (R269). -/
def State.domDown (s : State) (d : Dom) : State :=
  let s := ((s.setDom d false).clearDomain d).dropPairs d
  match d with
  | .sec =>
    { s with att := Att.init, sec := Sec.init, bundle := Bundle.init, keep := { s.keep with queue := [] } }.dropLatches 2
  | .hst => { s with dmas := [], dmaLast := 15, ints := { s.ints with fnMask := false }, ringq := { queue := [], store := [] } }.dropLatches 0
  | .ctl =>
    let s := s.calTear
    { s with
      flt := { Flt.init with pair := s.flt.pair }
      cal := { s.cal with jobs := [], storeErr := false, trims := [], idChecked := [] }
      mots := [], pgns := [], stps := [], ctls := [], hvos := [], lups := [] }
  | .mem => s.loseLmem
  | .cas => { s with cas := Cas.init }.dropLatches 1
  | .ana => { s with htrs := [], sched := Sched.init, mns := Mns.init, tmps := [] }
  | .img =>
    let s := { s with
      ctxs := [], apr := { serials := [], order := 0 }, fst := Fst.init, enc := Enc.init
      att := { s.att with queue := [] } }
    forAll (List.range 6) (s.setFld F.ATT_STAT_PEND 0 0) fun s n => (s.setFmt n Fmt.init).setCor n Cor.init
  | .bln n => (s.setFac n Fac.init).setBln n { Bln.init with unitSeen := (s.stn n).bln.unitSeen }
  | _ => s

/-- A domain switches on; CAL reads its store and applies the trims as CTL and ANA come on (R389), and SEC starts on BOOT's
work (R170, R171). -/
def State.domUp (s : State) (d : Dom) : State :=
  let s := s.setDom d true
  match d with
  | .sec => s.secBoot
  | .ctl => s.calBoot.calTrims [5]
  | .ana => s.calTrims [4]
  | .cas => s.casStart
  | .mem => { s with ecc := { s.ecc with windowAt := s.now } }
  | _ => s

/-- Entry to HIBERNATE waits for the engine scopes' DN programs and for the checkpoint (R288). -/
def State.runDownDone (s : State) : Bool := s.scopesOff && !s.seqRuns && s.att.ckpts.isEmpty

/-! ### Requests (R25 to R27) -/

/-- A change given up for a more urgent one: a host request whose change it was, and one held, are refused (R26). `met`: a
SAFEHOLD request held is met by the entry. -/
def State.preempt (s : State) (met : Bool) : State :=
  let byHost := match s.sys.trans with
    | some t => t.host
    | none => false
  let s := if byHost then s.refuse refPreempted else s
  let held := s.sys.drainIdle || (match s.sys.pend with
    | some p => !(met && p = .safehold)
    | none => false)
  let s := if held then s.refuse refPreempted else s
  { s with sys := { s.sys with trans := none, pend := none, drainIdle := false, wakeHeld := false } }

/-- The device is in BOOT or on the way into it. -/
def State.inBoot (s : State) : Bool := s.sys.mode = .boot || s.domMode = .boot

/-- What entry to SAFEHOLD does to frames and lasers (R26, R50). -/
def State.stopFrames (s : State) (cause src why : Nat) : State :=
  ((s.darkAll why).spoilAll cause src).loseAll cause

/-- A host request for SAFEHOLD from CONFIG to CALIBRATE. -/
def State.hostSafehold (s : State) : State :=
  ((s.preempt true).stopFrames cHostAbort 384 darkMode).beginMode .safehold true causeHost

/-- Entry to HIBERNATE begins: scopes run down, rail logs committed, the checkpoint begun (R163, R288). -/
def State.goHibernate (s : State) : State :=
  ((s.beginMode .hibernate true causeHost).runDown .hibernate).commitRails.ckptDown

/-- A host request acted on with no change running (R25, R26). -/
def State.actOn (s : State) (t : Mode) : State :=
  let m := s.sys.mode
  let go := s.beginMode t true causeHost
  match t with
  | .safehold => if m.running then s.hostSafehold else s.refuse refUnreachable
  | .hibernate =>
    if m ≠ .idle then s.refuse refUnreachable
    else if s.seqRuns then { s with sys := { s.sys with pend := some .hibernate } }
    else s.goHibernate
  | .idle =>
    if m = .config then (if s.bundle.ok then go else s.refuse refNoBundle)
    else if m = .warmup ∨ m = .ready then go
    else if m = .print then { s with sys := { s.sys with drainIdle := true } }.beginMode .drain true causeHost
    else if m = .drain then { s with sys := { s.sys with drainIdle := true } }
    else if m = .safehold then (if s.severeActive then s.refuse refFaultActive else go)
    else s.refuse refUnreachable
  | .warmup => if m = .idle then go else s.refuse refUnreachable
  | .drain => if m = .print then go else s.refuse refUnreachable
  | .calibrate =>
    if m = .idle ∨ m = .ready then { s with sys := { s.sys with calFrom := m } }.beginMode .calibrate true causeHost
    else s.refuse refUnreachable
  | _ => s.refuse refBadTarget

/-- A host request for a listed target. One for SAFEHOLD is met by an entry to SAFEHOLD that runs already (R26). -/
def State.modeReq (s : State) (t : Mode) : State :=
  if s.sys.devAt = some s.now then s.refuse refPreempted
  else if s.inBoot then
    if t = .safehold then { s with sys := { s.sys with pend := some .safehold } }
    else s.refuse (if s.zpend ≠ 0 then refZeroizing else refUnreachable)
  else match s.sys.trans with
    | none => s.actOn t
    | some x =>
      if t = .safehold ∧ x.target = .safehold then
        let s := if s.sys.pend.any (· ≠ .safehold) then s.refuse refPreempted else s
        { s with sys := { s.sys with pend := none } }
      else if t = .safehold ∧ x.target ≠ .lockdown ∧ x.target ≠ .hibernate then
        (if s.sys.mode = .safehold then s.preempt true else s.hostSafehold)
      else { s with sys := { s.sys with pend := some t } }

/-- TARGET = 0x0: a request held is cancelled; IDLE pending in DRAIN too (R26, R27). -/
def State.cancelReq (s : State) : State := { s with sys := { s.sys with pend := none, drainIdle := false } }

/-- Target of a SYS_MODE_REQ code (R27). -/
def reqTarget (v : Nat) : Option Mode :=
  match v % 16 with
  | 1 => some .hibernate | 4 => some .idle | 5 => some .warmup | 8 => some .drain | 9 => some .calibrate
  | 10 => some .safehold | _ => none

/-- A write of SYS_MODE_REQ. -/
def State.writeModeReq (s : State) (v : Word) : State :=
  let s := s.setReg (F.SYS_MODE_REQ.addr 0) (v &&& 0xF)
  if v.toNat % 16 = 0 then s.cancelReq
  else match reqTarget v.toNat with
    | some t => s.modeReq t
    | none => s.refuse refBadTarget

/-- The host's own write of SYS_MODE_REQ: it needs the link, and in LOCKDOWN it is a host access error (R24, R361). -/
def State.hostModeReq (s : State) (v : Word) : State :=
  if !s.hostPath then s
  else if s.sys.mode = .lockdown then s.accErr 8 0 true 0 0x40
  else s.writeModeReq v

def execModeReqCancel (s : State) : Host.Outcome State Fault Refusal :=
  .next (s.finish (s.onPage B.SYS 0 F.SYS_MODE_REQ.off fun s =>
    s.hostModeReq 0x0))
def execModeReqHibernate (s : State) : Host.Outcome State Fault Refusal :=
  .next (s.finish (s.onPage B.SYS 0 F.SYS_MODE_REQ.off fun s =>
    s.hostModeReq 0x1))
def execModeReqIdle (s : State) : Host.Outcome State Fault Refusal :=
  .next (s.finish (s.onPage B.SYS 0 F.SYS_MODE_REQ.off fun s =>
    s.hostModeReq 0x4))
def execModeReqWarmup (s : State) : Host.Outcome State Fault Refusal :=
  .next (s.finish (s.onPage B.SYS 0 F.SYS_MODE_REQ.off fun s =>
    s.hostModeReq 0x5))
def execModeReqDrain (s : State) : Host.Outcome State Fault Refusal :=
  .next (s.finish (s.onPage B.SYS 0 F.SYS_MODE_REQ.off fun s =>
    s.hostModeReq 0x8))
def execModeReqCalibrate (s : State) : Host.Outcome State Fault Refusal :=
  .next (s.finish (s.onPage B.SYS 0 F.SYS_MODE_REQ.off fun s =>
    s.hostModeReq 0x9))
def execModeReqSafehold (s : State) : Host.Outcome State Fault Refusal :=
  .next (s.finish (s.onPage B.SYS 0 F.SYS_MODE_REQ.off fun s =>
    s.hostModeReq 0xA))

/-- MODE_REQ_INVALID: a TARGET of the reader's choice that is not listed. -/
def execModeReqInvalid (target : Nat) (s : State) : Host.Outcome State Fault Refusal :=
  .next (s.finish (s.onPage B.SYS 0 F.SYS_MODE_REQ.off fun s =>
    if (reqTarget target).isNone ∧ target % 16 ≠ 0 then s.hostModeReq (BitVec.ofNat 32 (target % 16)) else s))

/-! ### SEVERE and GRAVE -/

/-- The actions of R327, which a SEVERE and a GRAVE report share: lasers dark, high voltage ramped down, heaters off,
motors stopped, and every ADMITTED or EXPOSING frame spoiled: FEED for F_280, FAULT otherwise (R50, R279). -/
def State.severeActs (s : State) (src : Nat) : State :=
  let s := s.stopFrames (if src = 280 then cFeed else cFault) src src
  ((s.rampAll).htAllOff).motionStop

/-- A SEVERE report's change of mode (R25, R26, R339). -/
def State.severeMode (s : State) (src : Nat) : State :=
  if s.inBoot then { s with sys := { s.sys with bootSevere := some (s.sys.bootSevere.getD src) } }
  else match s.sys.mode, s.sys.trans with
    | .safehold, some t =>
      if t.target = .idle then
        let s := { s with sys := { s.sys with trans := none } }.preempt true
        s.refuse refFaultActive
      else s
    | m, some t =>
      if t.target = .safehold then
        (if t.began = s.now ∧ ¬ t.host ∧ src < t.cause then { s with sys := { s.sys with trans := some { t with cause := src } } }
         else s)
      else if t.target = .lockdown ∨ t.target = .hibernate ∨ ¬ m.running then s
      else (s.preempt true).beginMode .safehold false src
    | m, none => if m.running then (s.preempt true).beginMode .safehold false src else s

/-- Entry to LOCKDOWN begins (R25, R26, R163, R181, R220, R288, R335). -/
def State.goLockdown (s : State) (src : Nat) : State :=
  if s.sys.mode = .off ∨ (s.sys.mode = .hibernate ∧ s.sys.trans = none) ∨ s.domMode = .lockdown then s
  else
    let s := (((s.preempt false).darkAll darkMode).calAbandon).beginMode .lockdown false src
    let s := { s with sys := { s.sys with crst := none } }
    let s := s.motionLock.ctlLock.runDown .lockdown
    if s.domOn .sec then s.ckptDown else s

/-! ### Chip reset (R334) -/

/-- A CRST reaction's mode part: in BOOT it counts as SEVERE, in LOCKDOWN it resets nothing; otherwise the wait begins. -/
def State.crstMode (s : State) (src : Nat) : State :=
  if s.inBoot then { s with sys := { s.sys with bootSevere := some (s.sys.bootSevere.getD src) } }
  else if s.domMode = .lockdown ∨ s.sys.mode = .off ∨ s.sys.mode = .hibernate then s
  else { s with sys := { s.sys with crst := some (s.sys.crst.getD s.now) } }

/-- Every switched domain resets and the change into BOOT begins. -/
def State.chipReset (s : State) : State :=
  let s := domOrder.reverse.foldl (fun s d => if s.domOn d then s.domDown d else s) s
  let s := { s with sys := { s.sys with crst := none, pend := none, drainIdle := false } }
  (s.setSeq { s.seq with after := .none }).beginBoot causeDevice

/-- Step 2 of R334 is over: no receipt is pending and every high-voltage enable has dropped, or 25 ms have passed. -/
def State.crstWaited (s : State) (t : Nat) : Bool :=
  (s.fld F.ATT_STAT_PEND 0 == 0 && (List.range 32).all fun o => !s.hvEn o) || decide (t + 25000000 ≤ s.now)

/-- CRST_RESET: the wait for receipts and high voltage is over: the engine scopes run down, then the reset. -/
def crstReset (straps : Straps) (s : State) : State :=
  let s := { s with balls := { s.balls with mstrap := straps.mstrap, casen := straps.casen, cnode := straps.cnode } }
  if s.sys.crst.isNone ∨ (s.seq.after ≠ .crst ∧ ¬ s.sys.crst.any s.crstWaited) then s
  else
    let s := if s.seq.after = .crst then s else s.runDown .crst
    if s.scopesOff ∧ ¬ s.seqRuns then s.chipReset else s

def execCrstReset (straps : Straps) (s : State) : Host.Outcome State Fault Refusal := .next (s.finish (crstReset straps s))

/-! ### Supplies (R25, R267, R288, R290, R409) -/

/-- Power-up begins: SEQ switches FSA and FSB on (R276, R288). -/
def State.startWake (s : State) : State :=
  let s := (s.setDom .fsa true).setDom .fsb true
  let fresh := { Fed.init with heardAt := s.now }
  { (s.setFed 0 fresh).setFed 1 fresh with timeFrac := 0, sys := { s.sys with waking := true } }

/-- HIB_WAKE: HIB_WAKE_N has been low for two ACLK periods. While an entry to HIBERNATE runs, that entry completes first
(R26). -/
def execHibWake (s : State) : Host.Outcome State Fault Refusal :=
  .next (s.finish (if s.sys.mode = .hibernate ∧ ¬ s.sys.waking ∧ s.sys.trans = none then s.startWake
    else if s.sys.mode ≠ .hibernate ∧ s.domMode = .hibernate then { s with sys := { s.sys with wakeHeld := true } }
    else s))

/-- MAIN_UP_START: KCLK is locked and a feed owns a bus at BUS_OK. -/
def mainUpStart (s : State) : State :=
  let owner := s.fld F.FED_STAT_STATE 0 = fedOwner ∨ s.fld F.FED_STAT_STATE 1 = fedOwner
  if s.sys.waking ∧ s.sys.mainWait = none ∧ ¬ s.seqRuns ∧ owner then
    (if s.entryUp 0 = 0xFF then s.mainUpDone else s.startProgram 0 true false true)
  else s

def execMainUpStart (s : State) : Host.Outcome State Fault Refusal := .next (s.finish (mainUpStart s))

/-- FED_NOFEED: no supervisor owns a bus at BUS_OK within 10 ms. -/
def execFedNofeed (s : State) : Host.Outcome State Fault Refusal :=
  .next (s.finish (if s.sys.waking ∧ s.sys.mainWait = none ∧ ¬ s.seqRuns then s.wakeReturn 4 else s))

/-- MAINOK_TIMEOUT: the main supplies are not valid within tMAINOK. -/
def mainokTimeout (s : State) : State :=
  if !s.sys.mainWait.any (fun t => decide (t + 10000000 ≤ s.now)) then s
  else
    let s := { s with sys := { s.sys with mainWait := none } }.raiseFault 281
    if s.entryDn 0 = 0xFF then s.wakeReturn 3 else s.startProgram 0 false true false

def execMainokTimeout (s : State) : Host.Outcome State Fault Refusal := .next (s.finish (mainokTimeout s))

/-- MAIN_SUPPLIES_VALID: every detector has been above its threshold for 100 µs; the straps as they stand. -/
def mainValid (straps : Straps) (s : State) : State :=
  if !s.balls.vstby then s
  else
    let s := (s.setFld F.PWR_MAIN_STAT_OK 0x40 0x7F).setFlag F.PWR_MAIN_STAT_ALL_OK 0x40 true
    let s := { s with balls := { s.balls with mstrap := straps.mstrap, casen := straps.casen, cnode := straps.cnode } }
    if s.sys.mainWait.isSome then s.beginBoot causeDevice else s

def execMainSuppliesValid (straps : Straps) (s : State) : Host.Outcome State Fault Refusal := .next (s.finish (mainValid straps s))

/-- The main supplies are lost: rails released, every switched domain isolated, pumps stopped; HIBERNATE follows, the
LOCKDOWN latch clears, and F_283 waits for the next BOOT (R290, R335). -/
def State.supplyLoss (s : State) : State :=
  let s := (s.preempt false).emergencyRails
  let s := domOrder.reverse.foldl (fun s d => if s.domOn d then s.domDown d else s) s
  let s := s.stopFeeds.setFld F.PWR_MAIN_STAT_LAST 0x40 2
  let s := { s with
    aon := { s.aon with lockdown := false, lossSeen := true }
    ints := { s.ints with frozen := true }
    sys := { s.sys with crst := none, waking := false, wakeHeld := false, mainWait := none, bootSevere := none } }
  s.setMode .hibernate causeSupply

/-- MAIN_SUPPLIES_LOST: some detectors, one bit each, have stayed low for 2 µs. -/
def mainLost (low : Nat) (s : State) : State :=
  if low % 128 = 0 then s
  else
    let ok := (s.reg (F.PWR_MAIN_STAT.addr 0x40)).toNat % 128
    let s := (s.setFld F.PWR_MAIN_STAT_OK 0x40 (ok - (ok &&& low))).setFlag F.PWR_MAIN_STAT_ALL_OK 0x40 false
    if (s.sys.mode = .off ∨ s.sys.mode = .hibernate) ∧ s.sys.trans = none then s else s.supplyLoss

def execMainSuppliesLost (low : Nat) (s : State) : Host.Outcome State Fault Refusal := .next (s.finish (mainLost low s))

/-- VSTBY_LOST: as for a supply loss, then OFF: everything but the keep store and the calibration store is gone. -/
def vstbyLost (s : State) : State :=
  let s := s.calTear
  let t := { State.reset with
    pending := s.pending, freeCtr := s.freeCtr, hostMem := s.hostMem, reply := s.reply, emitted := s.emitted
    keep := { s.keep with queue := [] }
    cal := { Cal.init with bankA := s.cal.bankA, bankB := s.cal.bankB }
    balls := { s.balls with vstby := false, wakeN := false }
    sys := { State.reset.sys with mode := .off, prev := s.sys.mode, trans := none } }
  ((t.setDom .aon false).setDom .fsa false).setDom .fsb false

def execVstbyLost (s : State) : Host.Outcome State Fault Refusal := .next (s.finish (if s.balls.vstby then vstbyLost s else s))

/-- VSTBY_VALID: from OFF. Press time starts at 0; with the main supplies valid SEQ powers up toward BOOT. -/
def vstbyValid (mains : Bool) (straps : Straps) (s : State) : State :=
  if s.balls.vstby then s
  else
    let s := { s with time := 0, timeFrac := 0, balls := { s.balls with vstby := true } }.setDom .aon true
    if mains then mainValid straps s.startWake else s.setMode .hibernate causeSupply

def execVstbyValid (mains : Bool) (straps : Straps) (s : State) : Host.Outcome State Fault Refusal :=
  .next (s.finish (vstbyValid mains straps s))

/-! ### Steps of the device's own -/

/-- WARMUP_COMPLETE: every warm-up condition of the loaded bundle is met. -/
def execWarmupComplete (s : State) : Host.Outcome State Fault Refusal :=
  .next (s.finish (if s.sys.mode = .warmup then s.deviceMode .ready else s))

/-- BOOT_EXIT: zeroization, fill and bundle load are over; without LMEM there is no fill to wait for (R314). -/
def bootExit (s : State) : State :=
  let mem := s.aon.fillDone || decide (s.fld F.MEM_STAT_TRAIN_ERR 0 ≠ 0)
  if s.sys.mode = .boot ∧ s.sys.trans = none ∧ s.zpend = 0 ∧ mem ∧ s.bundle.loading = none then s.deviceMode .config else s

def execBootExit (s : State) : Host.Outcome State Fault Refusal := .next (s.finish (bootExit s))

/-- What waits for the end of a program goes on: a chip reset, or a held request for HIBERNATE (R26, R291, R334). -/
def State.afterProgram (s : State) : State :=
  if s.seqRuns then s
  else if s.seq.after = .crst ∧ s.sys.crst.isSome ∧ s.scopesOff then s.chipReset
  else if s.sys.trans = none ∧ s.sys.pend = some .hibernate then
    { s with sys := { s.sys with pend := none } }.actOn .hibernate
  else s

/-- SEQ_JUMP: a JUMP step, or END; `gio` is the level of GIO_ARG (R285, R286). -/
def seqJump (gio : Bool) (s : State) : State :=
  match s.readyStep with
  | some w =>
    if bits w 28 4 ≠ 4 then s
    else if bits w 24 4 = 0xF then s.endProgram.afterProgram
    else s.jump w gio
  | none => s

def execSeqJump (gio : Bool) (s : State) : Host.Outcome State Fault Refusal := .next (s.finish (seqJump gio s))

end Sys2Proof.Machine
end

