-- ==== Sys2Proof/Machine/Blocks.lean ====
section
/-! DEFINITION. PAGE_CTRL: taking a block out of service and back, and block reset (R14, R48, R56, R417, R421). -/

namespace Sys2Proof.Machine

/-- Pages on which PAGE_CTRL.EN acts (R417). What an instance page is the spec does not define: the model's choice
(assumption 87) is that the engine pages CTL 0x60, HVO 0x20, HTR 8 and DMA 0x10, which serve all instances of their block,
are none, and that CLK's instance 6 is one. -/
def enActs (blk inst : Nat) : Bool :=
  pageExists blk inst && (blk == B.DEC || blk == B.FMT || blk == B.COR || blk == B.FAC || blk == B.CLK || blk == B.BLN
    || blk == B.ENC || blk == B.MOT || blk == B.STP || blk == B.PGN || (blk == B.CTL && decide (inst < 0x60))
    || (blk == B.HVO && decide (inst < 0x20)) || (blk == B.HTR && decide (inst < 8)) || blk == B.LUP
    || (blk == B.DMA && decide (inst < 0x10)))

/-- The blocks of a station, whose pages darken it. -/
def stnBlocks : List Nat := [B.DEC, B.FMT, B.COR, B.FAC, B.CLK, B.BLN]

/-- The fault source by which a station's block taken out of service ranks (R54). -/
def stnSrc (blk n : Nat) : Nat :=
  if blk = B.BLN then 64 + n else if blk = B.DEC then 76 + n else if blk = B.FMT then 88 + n else 70 + n

/-- The block of a page stops work: EN = 0, or its reset (R48, R417). -/
def State.pageStops (s : State) (blk i : Nat) : State :=
  if !s.pageOn blk i then s
  else if blk ∈ stnBlocks then
    (if i < 6 then
      let s := (s.laserDark i darkPage).outOfService i (if blk = B.BLN then cLink else cFault) (stnSrc blk i)
      -- FAC or CLK gone, the station is not LOCKED (R128, R134)
      if blk = B.FAC ∨ blk = B.CLK then s.loseLock i else s
    else s)
  else if blk = B.ENC then encAbort s
  else if blk = B.MOT then
    let ran := s.moState i = moRun
    let s := s.moRelease i
    if ran then s.moWithdraw i else s
  else if blk = B.STP then
    let cmd := s.fld F.STP_CTRL_CMD i
    (stpOff i s).setFld F.STP_CTRL_CMD i cmd
  else if blk = B.PGN then pgnStop i s
  else if blk = B.CTL then s.ctlPageOff i
  else if blk = B.HVO then (if s.hvState i = hvFault then s else s.hvStop i)
  else if blk = B.HTR then s.htStop i
  else if blk = B.LUP then lupStop i s
  else if blk = B.DMA then dmaAbort i s
  else s

/-- EN written 0: the instance takes no new work. -/
def State.pageDisable (s : State) (blk i : Nat) : State :=
  if enActs blk i ∧ s.pageEn blk i then (s.setFlag (H.PAGE_CTRL_EN blk) i false).pageStops blk i else s

/-- EN written 1: the instance takes work again; no command is issued anew. A station stays dark while another of its
blocks is out of service. -/
def State.pageEnable (s : State) (blk i : Nat) : State :=
  if enActs blk i then
    let s := s.setFlag (H.PAGE_CTRL_EN blk) i true
    if blk ∈ stnBlocks ∧ i < 6 ∧ stnBlocks.all (fun b => s.pageEn b i) then s.endDark i darkPage else s
  else s

/-! ### Block reset -/

/-- Registers of a page that BLK_RST leaves: PAGE_CTRL, PAGE_LOCK and PAGE_GROUP; and those that report what the page's own
block does not hold: modes, supplies and rails, straps, the link and the ring, keep-store and lifecycle state, receipts,
fault readings, the retained GRAVE record, and the state of the calibration store. -/
def State.rstKeeps (s : State) (blk inst off : Nat) : Bool :=
  let within := fun lo hi => decide (lo ≤ off ∧ off ≤ hi)
  off == 0x008 || off == 0x020 || off == 0x024
  || (blk == B.SYS && within 0x048 0x050)
  || (blk == B.SEC && (within 0x040 0x040 || within 0x048 0x05C || within 0x0B0 0x0DC))
  || (blk == B.KPS && within 0x044 0x054 && off != 0x050) || (blk == B.DBG && off == 0x040) || (blk == B.HST && off == 0x040)
  || (blk == B.PRS && off == 0x044) || (blk == B.CAS && within 0x048 0x054)
  || (blk == B.ATT && (off == 0x040 || within 0x050 0x060 || within 0x080 0x0AC))
  || (blk == B.MEM && within 0x040 0x050)
  || (blk == B.PWR && decide (inst < 48) && within 0x04C 0x05C && off != 0x050)
  || (blk == B.PWR && inst == 0x40 && (off == 0x040 || off == 0x048
      || (off == 0x044 && s.sys.mode ≠ .config && s.sys.mode ≠ .idle)))
  || (blk == B.FLT && decide (inst ≤ 5) && within 0x240 0x244) || (blk == B.FLT && inst == 0x10 && within 0x050 0x058)
  || (blk == B.CAL && (off == 0x04C || off == 0x058))
  || (blk == B.APR && inst == 0 && !(off == 0x010 || [F.APR_CTRL, F.APR_LINK_RATE, F.APR_LEAD, F.APR_GAP_MIN,
      F.APR_GAP_CLASS, F.APR_DEC_MARGIN, F.APR_CTX_SEL, F.APR_PRSV].any (fun f => f.off == off)))
  || (blk == B.FST && !(off == 0x010 || [F.FST_BADPOST, F.FST_NOREC, F.FST_CTRL, F.FST_REC_SEL].any (fun f => f.off == off)))

/-- The rest of a block's state, back as it comes up. -/
def State.rstHidden (s : State) (blk i : Nat) : State :=
  let f := (s.stn i).fmt
  if blk = B.DEC then s.setFmt i { f with decoding := [], lanes := [], hist := [] }
  else if blk = B.FMT then
    s.setFmt i { Fmt.init with
      decoding := f.decoding, lanes := f.lanes, hist := f.hist, arrState := f.arrState, limitPend := f.limitPend
      facetNo := f.facetNo }
  else if blk = B.COR then s.setCor i Cor.init
  else if blk = B.FAC then s.setFac i Fac.init
  else if blk = B.BLN then s.setBln i { Bln.init with dark := (s.stn i).bln.dark, unitSeen := (s.stn i).bln.unitSeen }
  else if blk = B.ENC then { s with enc := { Enc.init with loupeReq := s.enc.loupeReq } }
  else if blk = B.MOT then s.setMot i Mot.init
  else if blk = B.STP then s.setStp i Stp.init
  else if blk = B.PGN then s.setPgn i Pgn.init
  else if blk = B.CTL ∧ i < 0x60 then s.setCtl i Ctl.init
  else if blk = B.HVO ∧ i < 0x20 then s.setHvo i Hvo.init
  else if blk = B.HTR then (if i < 8 then s.setHtr i Htr.init else { s with sched := Sched.init })
  else if blk = B.LUP then
    { s.setLup i Lup.init with enc := { s.enc with loupeReq := s.enc.loupeReq.filter (· ≠ i) } }
  else if blk = B.DMA ∧ i < 0x10 then s.setDma i Dma.init
  else if blk = B.MNS then s.setMns Mns.init
  else if blk = B.TMP then s.setTmp i Tmp.init
  else if blk = B.SEC then { s with sec := { s.sec with nonce := false } }
  else if blk = B.PWR ∧ i < 48 then s.setRail i { Rail.init with changed := (s.rail i).changed, commitAt := (s.rail i).commitAt }
  else if blk = B.SEQ then s.setSeq Seq.init
  else if blk = B.FED then s.setFed i Fed.init
  else if blk = B.ECC then
    { s with ecc := { s.ecc with
      total := s.ecc.total.filter fun e => e.1 / 64 ≠ i
      window := s.ecc.window.filter fun e => e.1 / 64 ≠ i } }
  else if blk = B.INT then
    (if i ≤ 3 then { s with ints := { s.ints with high := s.ints.high.filter fun n => n / 128 ≠ i } }
     else if 0x20 ≤ i then { s with ints := { s.ints with tgts := s.ints.tgts.erase (i - 0x20) } } else s)
  else if blk = B.FLT then
    (if i ≤ 5 then { s with flt := { s.flt with counts := s.flt.counts.filter fun e => e.1 / 64 ≠ i } }
     else { s with flt := { s.flt with log := [], storms := [] } })
  else s

/-- BLK_RST of a ring page is refused while records of the ring are reserved or wait (R56). -/
def State.ringHeld (s : State) (blk i : Nat) : Bool :=
  let r := i - 0x20
  blk == B.APR && decide (0x30 ≤ i ∧ i ≤ 0x37)
    && (decide (s.fld F.RING_RSV_COUNT i ≠ 0) || decide (s.ringWaiting r ≠ 0))

/-- A write of BLK_RST = 1: the block's state but for what is kept, and then EN as written (R14). BUSY and BLK_RST stay set
until BLOCK_RESET_DONE. -/
def State.blkRst (s : State) (blk i : Nat) (en : Bool) : State :=
  if s.ringHeld blk i then s.event B.APR i 1
  else
    let s := if enActs blk i then s.pageStops blk i else if blk = B.CAL then s.calAbandon else s
    -- a thermal cut ends, and tightened caps end, only as R118 and R119 say
    let cut := s.flag F.FMT_STAT_CUT i
    let tight := s.flag F.FMT_STAT_TIGHT i
    let rail := (s.reg (F.PWR_RAIL_STAT.addr i)) &&& 0x300
    let s := { s with regs := s.regs.filter fun e =>
      !(blkOf e.1 == blk && instOf e.1 == i && !s.rstKeeps blk i (offOf e.1)) }
    let s := if blk = B.PWR ∧ i < 48 then s.setReg (F.PWR_RAIL_STAT.addr i) rail else s
    let s := if blk = B.FMT then (s.setFlag F.FMT_STAT_CUT i cut).setFlag F.FMT_STAT_TIGHT i tight else s
    let s := s.rstHidden blk i
    let s := if blk = B.FMT then s.capSync else s
    let s := (s.setFlag (H.PAGE_CTRL_BLK_RST blk) i true).setFlag (H.PAGE_STATUS_BUSY blk) i true
    if en then s.pageEnable blk i else if enActs blk i then s.setFlag (H.PAGE_CTRL_EN blk) i false else s

/-- A page that exists and whose domain is on. -/
def State.pageThere (s : State) (blk i : Nat) : Bool := pageExists blk i && s.pageOn blk i

/-- BLK_RST. -/
def execBlkRst (blk inst : Nat) (en : Bool) (s : State) : Host.Outcome State Fault Refusal :=
  .next (s.finish (s.onPage blk inst 0x008 fun s =>
    if s.pageThere blk inst then s.blkRst blk inst en else s))

/-- BLOCK_RESET_DONE: BLK_RST and BUSY clear. -/
def execBlockResetDone (blk inst : Nat) (s : State) : Host.Outcome State Fault Refusal :=
  .next (s.finish (if s.pageThere blk inst ∧ s.flag (H.PAGE_CTRL_BLK_RST blk) inst then
      (s.setFlag (H.PAGE_CTRL_BLK_RST blk) inst false).setFlag (H.PAGE_STATUS_BUSY blk) inst false
    else s))

/-- PAGE_DISABLE: EN = 0. -/
def execPageDisable (blk inst : Nat) (s : State) : Host.Outcome State Fault Refusal :=
  .next (s.finish (s.onPage blk inst 0x008 fun s =>
    if s.pageThere blk inst then s.pageDisable blk inst else s))

/-- PAGE_ENABLE: EN = 1. -/
def execPageEnable (blk inst : Nat) (s : State) : Host.Outcome State Fault Refusal :=
  .next (s.finish (s.onPage blk inst 0x008 fun s =>
    if s.pageThere blk inst then s.pageEnable blk inst else s))

/-- A write of PAGE_CTRL (R14): BLK_RST first, then EN. -/
def State.writePageCtrl (s : State) (blk i : Nat) (v : Word) : State :=
  if bit v.toNat 1 then s.blkRst blk i (bit v.toNat 0)
  else if bit v.toNat 0 then s.pageEnable blk i
  else s.pageDisable blk i

/-- PAGE_LOCK: LOCK set; it clears at a chip reset and on entry to BOOT only (R15). -/
def execPageLock (blk inst : Nat) (s : State) : Host.Outcome State Fault Refusal :=
  .next (s.finish (s.onPage blk inst 0x020 fun s =>
    if s.pageThere blk inst then s.setFlag (H.PAGE_LOCK_LOCK blk) inst true else s))

end Sys2Proof.Machine
end

