-- ==== Sys2Proof/Machine/Aes.lean ====
section
/-! DEFINITION. AES-256-GCM: the cipher of FIPS 197 and the mode of SP 800-38D, as far as opening a bundle needs them
(R2, R169). -/

namespace Sys2Proof.Machine

/-- Multiplication by x in the field of AES. -/
def xtime (b : Byte) : Byte := if b.getLsbD 7 then (b <<< 1) ^^^ 0x1B else b <<< 1

/-- Product in the field of AES, over `n` bits of the second factor. -/
def gmul (a b : Byte) : Nat → Byte
  | 0 => 0
  | n + 1 => (if b.getLsbD 0 then a else 0) ^^^ gmul (xtime a) (b >>> 1) n

/-- Inverse in the field of AES: the 254th power. -/
def ginv (a : Byte) : Byte :=
  let sq := fun x => gmul x x 8
  let a2 := sq a; let a4 := sq a2; let a8 := sq a4; let a16 := sq a8; let a32 := sq a16; let a64 := sq a32
  let a128 := sq a64
  [a4, a8, a16, a32, a64, a128].foldl (fun x y => gmul x y 8) a2

/-- The S-box. -/
def sbox (a : Byte) : Byte :=
  let x := ginv a
  x ^^^ x.rotateLeft 1 ^^^ x.rotateLeft 2 ^^^ x.rotateLeft 3 ^^^ x.rotateLeft 4 ^^^ 0x63

/-- Byte-wise exclusive or. -/
def xorBytes (a b : List Byte) : List Byte := List.zipWith (· ^^^ ·) a b

/-- Round-key words beyond the key: newest first, `n` still to come, `i` the next one's number. -/
def aesExpand : Nat → Nat → List (List Byte) → List (List Byte)
  | 0, _, w => w
  | n + 1, i, w =>
    let t := w.getD 0 []
    let t := if i % 8 = 0 then
        xorBytes ((t.drop 1 ++ t.take 1).map sbox) [((List.range (i / 8 - 1)).foldl (fun b _ => xtime b) 1), 0, 0, 0]
      else if i % 8 = 4 then t.map sbox else t
    aesExpand n (i + 1) (xorBytes (w.getD 7 []) t :: w)

/-- The 15 round keys of a 32-byte key. -/
def aesKeys (key : List Byte) : List (List Byte) :=
  let ws := (aesExpand 52 8 ((List.range 8).map fun i => (key.drop (4 * i)).take 4).reverse).reverse
  (List.range 15).map fun r => ((ws.drop (4 * r)).take 4).flatten

/-- ShiftRows. -/
def aesShift (st : List Byte) : List Byte := (List.range 16).map fun i => st.getD ((i + 4 * (i % 4)) % 16) 0

/-- MixColumns. -/
def aesMix (st : List Byte) : List Byte :=
  (List.range 16).map fun i =>
    let c := i / 4 * 4
    let a := fun k => st.getD (c + (i + k) % 4) 0
    gmul (a 0) 2 2 ^^^ gmul (a 1) 3 2 ^^^ a 2 ^^^ a 3

/-- One block enciphered. -/
def aesBlock (keys : List (List Byte)) (blk : List Byte) : List Byte :=
  let st := (keys.drop 1).take 13 |>.foldl (fun st k => xorBytes (aesMix (aesShift (st.map sbox))) k)
    (xorBytes blk (keys.getD 0 []))
  xorBytes (aesShift (st.map sbox)) (keys.getD 14 [])

/-- Product in GF(2^128) of GCM, over `n` bits of the first factor from the top. -/
def ghMul (x : Nat) : Nat → Nat → Nat → Nat
  | 0, _, z => z
  | n + 1, v, z =>
    let z := if bit x n then z ^^^ v else z
    ghMul x n (if v % 2 = 1 then (v / 2) ^^^ (0xE1 * 2 ^ 120) else v / 2) z

/-- GHASH over whole blocks. -/
def ghash (h : Nat) (bs : List Byte) : Nat :=
  (List.range ((bs.length + 15) / 16)).foldl (fun y i => ghMul (y ^^^ beNat (takeAt bs (16 * i) 16)) 128 h 0) 0

/-- A byte string filled with zeros to whole blocks. -/
def pad16 (bs : List Byte) : List Byte := bs ++ List.replicate ((16 - bs.length % 16) % 16) 0

/-- GCM with a 12-byte IV: the plaintext, and whether the tag is right. -/
def gcmOpen (key iv aad cipher tag : List Byte) : Bool × List Byte :=
  let ks := aesKeys key
  let h := beNat (aesBlock ks (List.replicate 16 0))
  let pad := (List.range ((cipher.length + 15) / 16)).flatMap fun i => aesBlock ks (iv ++ beBytes 4 (i + 2))
  let gh := ghash h (pad16 aad ++ pad16 cipher ++ beBytes 8 (8 * aad.length) ++ beBytes 8 (8 * cipher.length))
  (decide (xorBytes (beBytes 16 gh) (aesBlock ks (iv ++ [0, 0, 0, 1])) = tag), xorBytes cipher pad)

end Sys2Proof.Machine
end

