-- ==== Sys2Proof/Machine/Ints.lean ====
section
/-! DEFINITION. The interrupt controller (R343 to R354). -/

namespace Sys2Proof.Machine

/-- State of a target that nothing has touched. -/
def Tgt.init : Tgt := { stack := [], heldTill := 0, pinLow := false, sentFor := none, lapsed := false }

/-- A target's hidden state. -/
def State.tgt (s : State) (t : Nat) : Tgt := s.ints.tgts.get (fun _ => Tgt.init) t

/-- A target's hidden state given a value; INT_TGT_INSVC follows the stack (R354). -/
def State.setTgt (s : State) (t : Nat) (x : Tgt) : State :=
  let s := { s with ints := { s.ints with tgts := s.ints.tgts.set (fun _ => Tgt.init) t x } }
  let g := (x.stack.map (·.2)).foldl min 255
  (s.setFld F.INT_TGT_INSVC_DEPTH (0x20 + t) x.stack.length).setFld F.INT_TGT_INSVC_GROUP (0x20 + t)
    (if x.stack = [] then 0 else g)

/-- A target receives nothing: PARKED, or an MSI-X target while MSI-X Enable or Bus Master Enable is 0 (R349). -/
def State.tgtParked (s : State) (t : Nat) : Bool :=
  decide (2 ≤ s.fld F.INT_TGT_STATE_STATE (0x20 + t))
  || (decide (t ≤ 13) && !(s.flag F.HST_LINK_MSIX_EN 0 && s.flag F.HST_LINK_BME 0))

/-- Follow fallbacks from a target, at most `fuel` hops; none when the chain ends parked or returns (R349). -/
def State.followTgt (s : State) : Nat → List Nat → Nat → Option Nat
  | fuel, seen, t =>
    if !s.tgtParked t then some t
    else match fuel with
      | 0 => none
      | fuel + 1 =>
        let f := s.fld F.INT_TGT_CFG_FALLBACK (0x20 + t)
        if s.flag F.INT_TGT_CFG_FB_EN (0x20 + t) ∧ f ∉ t :: seen then s.followTgt fuel (t :: seen) f else none

/-- The target a source is delivered to now, if any can take it (R345, R349). -/
def State.effTgt (s : State) (src : Nat) : Option Nat :=
  s.followTgt 16 [] (bits (s.reg (intSrcAddr src)).toNat 8 4)

/-- Group of a source's priority (R345). -/
def State.intGroup (s : State) (src : Nat) : Nat :=
  bits (s.reg (intSrcAddr src)).toNat 0 8 / 2 ^ s.fld F.INT_CFG_PRIGRP 0x10

/-- Deliverable to target `t` (R345). -/
def State.deliverable (s : State) (t src : Nat) : Bool :=
  s.intWaiting src && s.effTgt src == some t && (s.tgt t).stack.all fun e => decide (s.intGroup src < e.2)

/-- The deliverable source a target takes next: lowest group, then lowest sub-priority, then lowest number (R345). The
lowest PRIO value is the lowest group and, within it, the lowest sub-priority. -/
def State.bestSrc (s : State) (t : Nat) : Option Nat :=
  ((List.range 512).filter (s.deliverable t)).foldl
    (fun b n => match b with
      | none => some n
      | some m => if bits (s.reg (intSrcAddr n)).toNat 0 8 < bits (s.reg (intSrcAddr m)).toNat 0 8 then some n else b)
    none

/-- Address of the vector-control word of an MSI-X vector (R355). -/
def vecCtl (v : Nat) : Nat := 0x07F00000 + 16 * v + 12

/-- Address of the pending word of an MSI-X vector (R355). -/
def vecPend (v : Nat) : Nat := 0x07F04000 + 4 * (v / 32)

/-- A message committed to an MSI-X vector: sent, or held in the pending-bit array while the vector or the function is masked
(R346). -/
def State.sendVector (s : State) (v : Nat) : State :=
  if bit (s.reg (vecCtl v)).toNat 0 ∨ s.ints.fnMask then s.setReg (vecPend v) (putBits (s.reg (vecPend v)) (v % 32) 1 1)
  else s.emit (.msix v)

/-- One target's part of an arbitration pass (R346, R347). -/
def State.arbitrateTgt (s : State) (t : Nat) : State :=
  let x := s.tgt t
  let x := { x with lapsed := x.lapsed || x.sentFor.any fun n => !s.deliverable t n }
  match s.bestSrc t with
  | none =>
    if 14 ≤ t ∧ x.pinLow then
      s.setTgt t { x with pinLow := false, heldTill := s.now + 1000 * s.fld F.INT_TGT_CFG_MOD (0x20 + t), sentFor := none }
    else s.setTgt t { x with sentFor := if t ≤ 13 then x.sentFor else none }
  | some n =>
    let free := n = 0 ∨ x.heldTill ≤ s.now ∨ s.fld F.INT_TGT_STATE_STATE (0x20 + t) = 1
    if t ≤ 13 then
      if free ∧ (x.sentFor ≠ some n ∨ x.lapsed) then
        let v := (s.fld F.INT_TGT_CFG_VBASE (0x20 + t) + s.intGroup n) % 1024
        ((s.setTgt t { x with heldTill := s.now + 1000 * s.fld F.INT_TGT_CFG_MOD (0x20 + t), sentFor := some n, lapsed := false }).sendVector
          v).bump F.INT_TGT_MSGCNT (0x20 + t)
      else s.setTgt t x
    else if free ∧ ¬ x.pinLow then
      (s.setTgt t { x with pinLow := true, sentFor := some n, lapsed := false }).bump F.INT_TGT_MSGCNT (0x20 + t)
    else s

/-- A waiting source of target `t` has no target that can take it (R349). -/
def State.stranded (s : State) (t : Nat) : Bool :=
  (List.range 512).any fun n =>
    s.intWaiting n && bits (s.reg (intSrcAddr n)).toNat 8 4 == t && (s.effTgt n).isNone

/-- Wake of one target: raised while a source of it is stranded, as PME while the link can carry one (R349). -/
def State.wakeTgt (s : State) (t : Nat) : State :=
  let w := s.stranded t
  let was := s.flag F.INT_TGT_STATE_WAKE (0x20 + t)
  let s := s.setFlag F.INT_TGT_STATE_WAKE (0x20 + t) w
  if w ∧ ¬ was ∧ s.flag F.HST_LINK_UP 0 then s.emit .pme else s

/-- INT_ARBITRATION: one pass over every target. In HIBERNATE the HST domain is off and only wake acts. -/
def arbitrate (s : State) : State :=
  let s := if s.domOn .hst then forAll (List.range 16) s State.arbitrateTgt else s
  forAll (List.range 16) s State.wakeTgt

def execIntArbitration (s : State) : Host.Outcome State Fault Refusal := .next (s.finish (arbitrate s))

/-- INT_EDGE: an edge of an edge source (R344). -/
def execIntEdge (src : Nat) (s : State) : Host.Outcome State Fault Refusal :=
  .next (s.finish (if intIsEdge src then s.intEdge src else s))

/-- A level source takes up its input as it stands now (R344). -/
def State.takeLevel (s : State) (src : Nat) : State :=
  let hi := s.intInput src
  let was := decide (src ∈ s.ints.high)
  let st := s.intState src
  let s := { s with ints := { s.ints with
    high := if hi then (if was then s.ints.high else s.ints.high ++ [src]) else s.ints.high.filter (· ≠ src) } }
  if hi then (if st = 0 then s.setIntState src 1 else s)
  else if st = 1 then s.setIntState src 0
  else if st = 2 ∧ was then s.bump F.INT_SPUR_CNT_LEVEL 0x10
  else s

/-- INT_LEVEL: a level source's input rises or falls. -/
def execIntLevel (src : Nat) (s : State) : Host.Outcome State Fault Refusal :=
  .next (s.finish (if (intPage src).isSome then s.takeLevel src else s))

/-- INT_MOD_EXPIRE: a target's moderation interval ends (R347). -/
def execIntModExpire (t : Nat) (s : State) : Host.Outcome State Fault Refusal :=
  .next (s.finish (if t ≤ 15 ∧ (s.tgt t).heldTill ≤ s.now then s.setTgt t { s.tgt t with heldTill := 0 } else s))

/-- A message was sent for a source that no longer targets `t`: counted in INT_STALE (R346). -/
def State.countStale (s : State) (t : Nat) : State :=
  match (s.tgt t).sentFor with
  | none => s
  | some n =>
    if s.effTgt n = some t then s
    else ((s.bump F.INT_STALE_COUNT 0x10).setFld F.INT_STALE_TGT 0x10 t).setFld F.INT_STALE_SOURCE 0x10 n

/-- A read of INT_TGT_CLAIM (R348): the word it returns, and the state after it. -/
def State.claim (s : State) (t : Nat) : State :=
  let s := s.countStale t
  let x := { s.tgt t with sentFor := none, lapsed := false }
  match s.bestSrc t with
  | some n =>
    if x.stack.length < 8 then
      let w := BitVec.ofNat 32 (2 ^ 31 + bits (s.reg (intSrcAddr n)).toNat 0 8 * 2 ^ 16 + n)
      let s := (s.setTgt t { x with stack := (n, s.intGroup n) :: x.stack }).setIntState n 2
      { s with reply := { word := w, bytes := [], poisoned := false } }
    else
      let s := (s.setTgt t x).bump F.INT_SPUR_CNT_EMPTY 0x10
      { s with reply := { word := 0, bytes := [], poisoned := false } }
  | none =>
    let s := (s.setTgt t x).bump F.INT_SPUR_CNT_EMPTY 0x10
    { s with reply := { word := 0, bytes := [], poisoned := false } }

/-- INT_CLAIM: a read of a target's INT_TGT_CLAIM. -/
def execIntClaim (t : Nat) (s : State) : Host.Outcome State Fault Refusal :=
  .next (s.finish (if t ≤ 15 then s.claim t else s))

/-- A write of INT_TGT_COMPLETE (R348): ends the claim at that target; a level source whose input is high, and an edge
source that was ACTIVE+PENDING, becomes PENDING. -/
def State.complete (s : State) (t src : Nat) : State :=
  let x := s.tgt t
  if x.stack.any (·.1 == src) then
    let again := if intIsEdge src then s.intState src == 3 else decide (src ∈ s.ints.high)
    (s.setTgt t { x with stack := x.stack.filter (·.1 ≠ src) }).setIntState src (if again then 1 else 0)
  else s

/-- INT_COMPLETE: a write of a target's INT_TGT_COMPLETE. -/
def execIntComplete (t src : Nat) (s : State) : Host.Outcome State Fault Refusal :=
  .next (s.finish (s.onPage B.INT (0x20 + t) F.INT_TGT_COMPLETE.off fun s =>
    if t ≤ 15 then s.complete t (src % 512) else s))

/-- A write of INT_SWI: bit b raises IS_(008 + b) (R353). -/
def State.swi (s : State) (v : Word) : State :=
  forAll ((List.range 8).filter fun b => bit v.toNat b) s fun s b => s.intEdge (8 + b)

/-- INT_SWI. -/
def execIntSwi (v : Word) (s : State) : Host.Outcome State Fault Refusal :=
  .next (s.finish (s.onPage B.INT 0x10 F.INT_SWI.off fun s =>
    s.swi v))

/-- A write of INT_SRC: EN, TGT and PRIO; IS_000 keeps EN and PRIO, and its TGT is RWL (R352). -/
def State.writeIntSrc (s : State) (src : Nat) (v : Word) : State :=
  let a := intSrcAddr src
  if src = 0 then
    if s.flag (H.PAGE_LOCK_LOCK B.INT) 0 then s else s.setReg a (putBits (s.reg a) 8 4 (bits v.toNat 8 4))
  else s.setReg a (putBits (s.reg a) 0 13 (bits v.toNat 0 13))

/-- INT_SOURCE_CONFIG. -/
def execIntSourceConfig (src : Nat) (v : Word) (s : State) : Host.Outcome State Fault Refusal :=
  .next (s.finish (s.onPage B.INT (src / 128) F.INT_SRC.off fun s =>
    if src ≤ 511 then s.writeIntSrc src v else s))

/-- A write of INT_TGT_STATE: the target becomes ACTIVE, IDLE or PARKED, and its sources move or wake is raised at
once (R349). -/
def State.writeTgtState (s : State) (t : Nat) (v : Word) : State :=
  let s := s.setFld F.INT_TGT_STATE_STATE (0x20 + t) (bits v.toNat 0 2)
  forAll (List.range 16) s State.wakeTgt

/-- INT_TARGET_STATE. -/
def execIntTargetState (t : Nat) (v : Word) (s : State) : Host.Outcome State Fault Refusal :=
  .next (s.finish (s.onPage B.INT (0x20 + t) F.INT_TGT_STATE.off fun s =>
    if t ≤ 15 then s.writeTgtState t v else s))

end Sys2Proof.Machine
end

