-- ==== Sys2Proof/Machine/Faults.lean ====
section
/-! DEFINITION. The fault collector: reports, classes and reactions, escalation, the log, storms, FAULT_N and the external
inputs (R327 to R342). -/

namespace Sys2Proof.Machine

/-! ### Sources -/

/-- Reserved sources, which are never raised (R330, R362, R379, R395). -/
def srcReserved (n : Nat) : Bool :=
  decide ((9 ≤ n ∧ n ≤ 15) ∨ (17 ≤ n ∧ n ≤ 31) ∨ (48 ≤ n ∧ n ≤ 63) ∨ (100 ≤ n ∧ n ≤ 109) ∨ (115 ≤ n ∧ n ≤ 139)
    ∨ (143 ≤ n ∧ n ≤ 149) ∨ (153 ≤ n ∧ n ≤ 159) ∨ (164 ≤ n ∧ n ≤ 167) ∨ n = 222 ∨ n = 223 ∨ n = 278 ∨ n = 279
    ∨ (284 ≤ n ∧ n ≤ 299) ∨ (312 ≤ n ∧ n ≤ 319) ∨ (330 ≤ n ∧ n ≤ 335) ∨ (342 ≤ n ∧ n ≤ 351) ∨ (354 ≤ n ∧ n ≤ 367)
    ∨ (373 ≤ n ∧ n ≤ 375) ∨ 380 ≤ n)

/-- Sources whose pair is driven by what no command of the model computes: references, PLLs, die temperature, the self-check
and the parity of the retained interrupt state. -/
def srcOutside (n : Nat) : Bool := decide (n ≤ 8) || n == 352 || n == 353

/-- Sources whose cause is over once the command that raised them is: their pair is asserted for the report alone. -/
def srcOneShot (n : Nat) : Bool :=
  decide ((76 ≤ n ∧ n ≤ 99) ∨ n = 112 ∨ n = 152 ∨ n = 161 ∨ (281 ≤ n ∧ n ≤ 283) ∨ (300 ≤ n ∧ n ≤ 302)
    ∨ (305 ≤ n ∧ n ≤ 310) ∨ n = 322 ∨ (326 ≤ n ∧ n ≤ 329) ∨ (336 ≤ n ∧ n ≤ 341) ∨ n = 353 ∨ 368 ≤ n)

/-- FLT_XIN_k (R342). -/
def State.xin (s : State) (k : Nat) : Nat := (s.reg ((F.FLT_XIN.at k).addr 0x10)).toNat

/-- Filter of an external input, in ns (R329). -/
def State.xinDelay (s : State) (k : Nat) : Nat := 10 * bits (s.xin k) 24 8

/-- The balls of an external input, or its filter, last changed at least FILT × 10 ns, and `more` ns, ago. -/
def State.xinSettled (s : State) (k more : Nat) : Bool :=
  decide (s.flt.xinAt.get (fun _ => 0) k + s.xinDelay k + more ≤ s.now)

/-- What the balls of an external input show: 0 clear, 1 asserted, 2 equal (R329). -/
def State.xinReads (s : State) (k : Nat) : Nat :=
  let t := s.balls.gio.getLsbD (bits (s.xin k) 0 7)
  let c := s.balls.gio.getLsbD (bits (s.xin k) 8 7)
  if !bit (s.xin k) 16 ∨ k ∈ s.flt.xinFilt then 0
  else if t = c then 2 else if t then 1 else 0

/-- The wires of the pair have been equal for 16 ns (R328). -/
def State.pairEqual (s : State) (n : Nat) : Bool :=
  !(decide (32 ≤ n ∧ n ≤ 47)) || (s.xinReads (n - 32) == 2 && s.xinSettled (n - 32) 16)

/-- The pair stands asserted (R328, R329). -/
def State.pairAsserted (s : State) (n : Nat) : Bool :=
  if 32 ≤ n ∧ n ≤ 47 then s.xinReads (n - 32) == 1 && s.xinSettled (n - 32) 0
  else srcOutside n || decide (n ∈ s.flt.pair)

/-- A source that exists, and the pair presents a fault that the collector has not taken up: `wire` for a pair whose wires
stay equal (R328). -/
def State.presents (s : State) (n : Nat) (wire : Bool) : Bool :=
  decide (n < 384) && !srcReserved n && !s.srcLive n && (if wire then s.pairEqual n else s.pairAsserted n)

/-- The pair reads clear. -/
def State.clears (s : State) (n : Nat) : Bool :=
  if 32 ≤ n ∧ n ≤ 47 then s.xinReads (n - 32) == 0 && (s.xinSettled (n - 32) 0 || !bit (s.xin (n - 32)) 16)
  else srcOutside n || decide (n ∈ [274, 275, 280, 303, 311]) || decide (n ∉ s.flt.pair)

/-! ### FAULT_N (R333) -/

/-- This device drives FAULT_N: for a source of its own, and in LOCKDOWN until the supplies are lost. -/
def State.fnDrive (s : State) : Bool := !s.flt.drivers.isEmpty || s.aon.lockdown

/-- FAULT_N driven for a source, for at least 1 µs. -/
def State.driveFn (s : State) (n : Nat) : State :=
  if n = 16 then s
  else
    let ds := if n ∈ s.flt.drivers then s.flt.drivers else s.flt.drivers ++ [n]
    { s with flt := { s.flt with drivers := ds, fnHeld := false, fnAt := s.now } }.setFlag F.FLT_GSTAT_FN_LINE 0x10 true

/-- Sources that are clear, and whose latch is, no longer hold FAULT_N once the 1 µs has passed. -/
def State.releaseFn (s : State) : State :=
  if s.flt.fnHeld then
    let ds := s.flt.drivers.filter fun n => s.srcLive n || s.bitOf F.FLT_LATCH (n / 64) (n % 64)
    { s with flt := { s.flt with drivers := ds } }
  else s

/-- FAULT_N_MIN_HOLD: the 1 µs has passed. -/
def faultNMinHold (s : State) : State :=
  if s.flt.fnAt + 1000 ≤ s.now then { s with flt := { s.flt with fnHeld := true } }.releaseFn else s

def execFaultNMinHold (s : State) : Host.Outcome State Fault Refusal := .next (s.finish (faultNMinHold s))

/-- FAULT_N_INPUT: the level of FAULT_N, through its filter. Low while this device does not drive it raises F_016. -/
def faultNInput (low : Bool) (s : State) : State :=
  if !s.domOn .ctl then s
  else
    let s := s.setFlag F.FLT_GSTAT_FN_LINE 0x10 (low || s.fnDrive)
    if low && !s.fnDrive then s.raiseFault 16 else s.dropFault 16

def execFaultNInput (low : Bool) (s : State) : Host.Outcome State Fault Refusal := .next (s.finish (faultNInput low s))

/-! ### The log (R337) -/

/-- The 32 bytes of a record, as the log and an FLT packet hold it. -/
def FltRec.bytes (r : FltRec) : List Byte :=
  let b := fun (x : Bool) (n : Nat) => if x then 2 ^ n else 0
  leBytes 4 (r.source % 512 + r.cls % 8 * 2 ^ 9 + b r.esc 12 + b r.wire 13 + b r.root 14 + b r.storm 15
      + r.node % 64 * 2 ^ 16 + r.react % 32 * 2 ^ 22)
    ++ leBytes 4 (min r.count 0xFFFF + r.tag % 65536 * 2 ^ 16)
    ++ leBytes 8 r.tFirst ++ leBytes 8 r.tLast ++ leBytes 8 r.nodes.toNat

/-- A record from its 32 bytes. -/
def FltRec.ofBytes (bs : List Byte) : FltRec :=
  let w := fieldAt bs 0 4
  { source := bits w 0 9, cls := bits w 9 3, esc := bit w 12, wire := bit w 13, root := bit w 14, storm := bit w 15,
    node := bits w 16 6, react := bits w 22 5, count := fieldAt bs 4 2, tag := fieldAt bs 6 2, tFirst := fieldAt bs 8 8,
    tLast := fieldAt bs 16 8, nodes := BitVec.ofNat 64 (fieldAt bs 24 8) }

def FltRec.none : FltRec :=
  { source := 0, cls := 0, esc := false, wire := false, root := false, storm := false, node := 0, react := 0, count := 0
    tag := 0, tFirst := 0, tLast := 0, nodes := 0 }

/-- A log slot. -/
def State.logRec (s : State) (i : Nat) : FltRec := s.flt.log.get (fun _ => FltRec.none) i

def State.setLogRec (s : State) (i : Nat) (r : FltRec) : State :=
  { s with flt := { s.flt with log := s.flt.log.set (fun _ => FltRec.none) i r } }

/-- A record written at the head of the log; a record overwritten is counted. -/
def State.addRec (s : State) (r : FltRec) : State :=
  let i := s.fld F.FLT_LOG_HEAD_NEXT 0x10
  let s := if (s.flt.log.find i).isSome then s.bump F.FLT_LOG_HEAD_OVF 0x10 else s
  (s.setLogRec i r).setFld F.FLT_LOG_HEAD_NEXT 0x10 ((i + 1) % 256)

/-- The slot of the record open for a source, node and class: its first report at most 10 µs ago. -/
def State.openRec (s : State) (src node cls : Nat) : Option Nat :=
  (s.flt.log.find? fun e =>
    decide (e.2.source = src ∧ e.2.node = node ∧ e.2.cls = cls ∧ s.now ≤ e.2.tFirst + 10000) && !e.2.storm).map (·.1)

/-! ### Storms (R338) -/

/-- The same record, whatever has been merged into it since. -/
def FltRec.same (a b : FltRec) : Bool :=
  a.source == b.source && a.node == b.node && a.cls == b.cls && a.tFirst == b.tFirst && !a.storm && !b.storm

/-- STORM_WIN in ns; values out of range are taken as 100 µs (R342). -/
def State.stormWin (s : State) : Nat :=
  let w := s.fld F.FLT_STORM_CFG_WIN 0x10
  1000 * (if 10 ≤ w ∧ w ≤ 1000 then w else 100)

/-- When the root of a window is elected: at its close, and on the cascade tCFWD later, so long as records that fell into it
may still arrive (R338, R376). -/
def State.stormEnd (s : State) (w : Storm) : Nat := w.opened + s.stormWin + if s.casActive then 20000 else 0

/-- A record of this tag still belongs to the window. -/
def State.stormTakes (s : State) (w : Storm) (tag : Nat) (r : FltRec) : Bool :=
  w.tag == tag && decide (r.tFirst < w.opened + s.stormWin ∧ s.now ≤ s.stormEnd w)

/-- A record enters the window of a tag, opening one where none takes it. -/
def State.stormTag (s : State) (tag : Nat) (r : FltRec) : State :=
  let ws := s.flt.storms
  let ws := if ws.any (fun w => s.stormTakes w tag r) then
      ws.map fun w => if s.stormTakes w tag r then { w with recs := w.recs ++ [r] } else w
    else ws ++ [{ tag := tag, opened := r.tFirst, recs := [r] }]
  { s with flt := { s.flt with storms := ws } }

/-- A record of a shared cause reaches the head: the window of its tag, and with PIN the window of tag 0xFFFF. -/
def State.stormAdd (s : State) (r : FltRec) : State :=
  let s := if r.tag = 0 then s else s.stormTag r.tag r
  if bit r.react 4 ∧ r.tag ≠ 0xFFFF then s.stormTag 0xFFFF r else s

/-- Does a record belong to a storm? -/
def FltRec.shared (r : FltRec) : Bool := r.tag ≠ 0 || bit r.react 4

/-- A record is shared with the head: kept here, or sent as an FLT packet (R376). -/
def State.shareRec (s : State) (r : FltRec) : State :=
  if !r.shared then s
  else if s.casActive ∧ ¬ s.actsHead then s.sendTo (s.mkPacket 0x08 s.headId 0 r.bytes)
  else s.stormAdd r

/-! ### Escalation (R336) -/

/-- Reports per window and the window in ns. -/
def State.escN (s : State) (n : Nat) : Nat := s.fld (F.FLT_ESC_N.at (n % 64)) (n / 64)
def State.escWin (s : State) (n : Nat) : Nat := max 1 (s.fld (F.FLT_ESC_WIN.at (n % 64)) (n / 64)) * 1000000

/-- Counts of a source that still lie in its window decide whether it is escalated. -/
def State.judgeEsc (s : State) (n : Nat) : State :=
  let cs := s.flt.counts.filter fun e => !(e.1 == n && decide (e.2 + s.escWin n ≤ s.now))
  let k := (cs.filter fun e => e.1 == n).length
  { s with flt := { s.flt with counts := cs } }.setBitOf F.FLT_ESCD (n / 64) (n % 64)
    (decide (2 ≤ s.escN n) && decide (s.escN n ≤ k))

/-- A report counted, at its press time. -/
def State.countEsc (s : State) (n t : Nat) : State :=
  if s.escN n < 2 then s.judgeEsc n
  else { s with flt := { s.flt with counts := s.flt.counts ++ [(n, t)] } }.judgeEsc n

/-- ESC_WINDOW_EXPIRE: reports age out of a source's window. -/
def execEscWindowExpire (src : Nat) (s : State) : Host.Outcome State Fault Refusal :=
  .next (s.finish (if src < 384 ∧ s.domOn .ctl then s.judgeEsc src else s))

/-! ### Reports (R331 to R335) -/

/-- The page whose instance raised a report: of the motion, stepper and high-voltage sources the first that names the cause
in FCAUSE (R180, R229). -/
def State.raiser (s : State) (n : Nat) : Option (Nat × Nat) :=
  let pick := fun (blk k : Nat) (f : Field) (c : Nat) => ((List.range k).find? fun i => s.fld f i == c).map fun i => (blk, i)
  let own := if 110 ≤ n ∧ n ≤ 114 then pick B.MOT 24 F.MOT_STAT_FCAUSE (n - 109)
    else if 140 ≤ n ∧ n ≤ 142 then pick B.STP 16 F.STP_STAT_FCAUSE (n - 139)
    else if n = 150 ∨ n = 151 then pick B.HVO 32 F.HVO_STAT_FCAUSE (n - 149) else none
  own.or (faultPage n)

/-- The GRAVE reaction (R335). -/
def State.grave (s : State) (n : Nat) : State :=
  let s := (s.setReg (F.FLT_GRAVE.addr 0x10) (BitVec.ofNat 32 (2 ^ 31 + n))).setPair64 F.FLT_GRAVE_TIME_LO 0x10 s.now
  let s := { s with aon := { s.aon with lockdown := true } }.setFlag F.FLT_GSTAT_FN_LINE 0x10 true
  (s.severeActs n).goLockdown n

/-- Actions of a class and of the reactions, on every report. -/
def State.react (s : State) (n cls r : Nat) : State :=
  let s := if 3 ≤ cls ∨ bit r 4 then s.driveFn n else s
  let s := if cls = 4 then s.grave n else if cls = 3 then (s.severeActs n).severeMode n else s
  let s := if bit r 3 ∧ s.domMode ≠ .lockdown then
      (if cls = 3 then s else (s.severeActs n).severeMode n).crstMode n
    else s
  if bit r 2 ∧ 48 ≤ n then
    match s.raiser n with
    | some (b, i) => if s.pageThere b i then s.blkRst b i (s.pageEn b i) else s
    | none => s
  else s

/-- Interrupts of a record at its opening: IS_001 + class from MINOR up or by INT, IS_000 from MAJOR up or by URG. A node
that is not the head leaves INT and URG of a shared record to it. -/
def State.recInts (s : State) (r : FltRec) : State :=
  let mine := !(r.shared && s.casActive && !s.actsHead)
  let s := if 1 ≤ r.cls ∨ (bit r.react 0 ∧ mine) then s.intEdge (1 + r.cls) else s
  if 2 ≤ r.cls ∨ (bit r.react 1 ∧ mine) then s.intEdge 0 else s

/-- A WIRE reading: FLT_WIRE, and IS_007 (R328, R343). -/
def State.markWire (s : State) (n : Nat) : State :=
  ({ s with flt := { s.flt with wireNow := s.flt.wireNow ++ [n] } }.hwBitOf F.FLT_WIRE (n / 64) (n % 64)).intEdge 7

/-- A report: reading and latch, escalation, the record, interrupts, reactions, and the storm (R328, R331 to R338). -/
def State.report (s : State) (n : Nat) (wire : Bool) : State :=
  let s := (s.setBitOf F.FLT_LIVE (n / 64) (n % 64) (!srcOneShot n || wire)).hwBitOf F.FLT_LATCH (n / 64) (n % 64)
  let s := if srcOneShot n then s.dropFault n else s
  let s := if wire then s.markWire n else s
  let s := if n = 353 then forAll (List.range 512) s fun s i => s.setIntState i 0 else s
  let cfg := (s.reg ((F.FLT_CFG.at (n % 64)).addr (n / 64))).toNat
  let react := if n = 16 then bits cfg 8 4 else bits cfg 8 5
  let tag := bits cfg 16 16
  let s := if tag = 0 ∧ ¬ bit react 4 then s.countEsc n s.now else s.judgeEsc n
  let cls := s.srcClass n
  let esc := decide (min 4 (bits cfg 0 3) < cls)
  let node := if s.casEnabled then s.nodeId else 0
  let s := match s.openRec n node cls with
    | some i =>
      let r := s.logRec i
      s.setLogRec i { r with count := min 0xFFFF (r.count + 1), tLast := s.now }
    | none =>
      let r : FltRec :=
        { source := n, cls := cls, esc := esc, wire := wire, root := false, storm := false, node := node, react := react
          count := 1, tag := tag, tFirst := s.now, tLast := s.now, nodes := 0 }
      ((s.addRec r).recInts r).shareRec r
  (s.lupSource 5 n).react n cls react

/-- FAULT_REPORT: a source's pair changes from clear to asserted. -/
def execFaultReport (src : Nat) (s : State) : Host.Outcome State Fault Refusal :=
  .next (s.finish (if s.domOn .ctl ∧ s.presents src false then s.report src false else s))

/-- FAULT_WIRE: a pair's wires have been equal for 16 ns. A source that read asserted before stays asserted, with WIRE. -/
def faultWire (n : Nat) (s : State) : State :=
  if !s.domOn .ctl then s
  else if s.presents n true then s.report n true
  else if s.srcLive n && s.pairEqual n && decide (n ∉ s.flt.wireNow) then s.markWire n else s

def execFaultWire (src : Nat) (s : State) : Host.Outcome State Fault Refusal := .next (s.finish (faultWire src s))

/-- A source reads clear: it is no longer active, its laser-dark request ends, and FAULT_N may be released. -/
def State.srcClear (s : State) (n : Nat) : State :=
  let s := (s.setBitOf F.FLT_LIVE (n / 64) (n % 64) false).dropFault n
  let s := { s with flt := { s.flt with wireNow := s.flt.wireNow.filter (· ≠ n) } }
  (forAll (List.range 6) s fun s i => s.endDark i n).releaseFn

/-- FAULT_CLEAR. A report of a source that is over at once leaves its dark request until here too. -/
def execFaultClear (src : Nat) (s : State) : Host.Outcome State Fault Refusal :=
  .next (s.finish (if src < 384 ∧ s.domOn .ctl ∧ s.clears src then s.srcClear src else s))

/-- FLT_LATCH bits cleared by a write (R333). -/
def State.clearLatch (s : State) (page j : Nat) (v : Word) : State :=
  let a := (F.FLT_LATCH.at j).addr page
  (s.setReg a (s.w1c a v)).releaseFn

/-- FLT_LATCH_CLEAR: FLT_LATCH_j of source page `page`. -/
def execFltLatchClear (page j : Nat) (v : Word) (s : State) : Host.Outcome State Fault Refusal :=
  .next (s.finish (s.onPage B.FLT page F.FLT_LATCH.off fun s =>
    if page ≤ 5 ∧ j ≤ 1 ∧ s.domOn .ctl then s.clearLatch page j v else s))

/-! ### External inputs (R329) -/

/-- A write of FLT_XIN_k: one that sets EN, or changes balls or filter while EN = 1, restarts the filter, and the input
reads clear until it has passed. -/
def State.writeXin (s : State) (k : Nat) (v : Word) : State :=
  let a := (F.FLT_XIN.at k).addr 0x10
  let old := s.reg a
  let new := v &&& 0xFF017F7F
  let s := s.setReg a new
  if bit new.toNat 16 ∧ new ≠ old then
    { s with flt := { s.flt with
      xinFilt := s.flt.xinFilt.filter (· ≠ k) ++ [k], xinAt := s.flt.xinAt.set (fun _ => 0) k s.now } }
  else if bit new.toNat 16 then s
  else { s with flt := { s.flt with xinFilt := s.flt.xinFilt.filter (· ≠ k) } }

/-- XIN_CFG_WRITE. -/
def execXinCfgWrite (k : Nat) (v : Word) (s : State) : Host.Outcome State Fault Refusal :=
  .next (s.finish (s.onPage B.FLT 0x10 F.FLT_XIN.off fun s =>
    if k < 16 ∧ s.domOn .ctl ∧ ¬ s.flag (H.PAGE_LOCK_LOCK B.FLT) 0x10 then s.writeXin k v else s))

/-- XIN_FILTER_EXPIRE: the filter has passed; balls that show the input asserted report at once. -/
def xinFilterExpire (k : Nat) (s : State) : State :=
  if k < 16 ∧ k ∈ s.flt.xinFilt ∧ s.xinSettled k 0 then
    let s := { s with flt := { s.flt with xinFilt := s.flt.xinFilt.filter (· ≠ k) } }
    if s.presents (32 + k) false then s.report (32 + k) false
    else if s.srcLive (32 + k) && s.clears (32 + k) then s.srcClear (32 + k) else s
  else s

def execXinFilterExpire (k : Nat) (s : State) : Host.Outcome State Fault Refusal := .next (s.finish (xinFilterExpire k s))

/-! ### Configuration (R330, R341) -/

/-- The floor of a source's class. -/
def srcFloor (n : Nat) : Nat := if n = 0 ∨ n = 8 ∨ n = 352 then 4 else if n = 280 then 3 else 0

/-- A write of FLT_CFG: floors hold, a reserved source reads NOTE, and TAG 0xFFFF belongs to F_016 alone. -/
def State.writeFltCfg (s : State) (n : Nat) (v : Word) : State :=
  let c := if srcReserved n then 0 else max (srcFloor n) (bits v.toNat 0 3)
  let t := if n = 16 then 0xFFFF else if bits v.toNat 16 16 = 0xFFFF then 0 else bits v.toNat 16 16
  s.setReg ((F.FLT_CFG.at (n % 64)).addr (n / 64)) (BitVec.ofNat 32 (c + bits v.toNat 8 5 * 2 ^ 8 + t * 2 ^ 16))

/-- A FAULTPOL section obeys R340. -/
def faultPolOk (bs : List Byte) : Bool :=
  bs.length == 3152 && (List.range 384).all fun n =>
    let v := fieldAt bs (8 * n) 4
    decide (srcFloor n ≤ bits v 0 3) && !(srcReserved n && (bits v 0 3 != 0 || bits v 8 5 != 0))
      && !(decide (n ≠ 16) && bits v 16 16 == 0xFFFF)

/-- SEC writes the section (R340). -/
def State.loadFaultPol (s : State) (bs : List Byte) : State :=
  let s := forAll (List.range 384) s fun s n =>
    (s.writeFltCfg n (BitVec.ofNat 32 (fieldAt bs (8 * n) 4))).setReg ((F.FLT_ESC.at (n % 64)).addr (n / 64))
      (BitVec.ofNat 32 (fieldAt bs (8 * n + 4) 4) &&& 0xFF07FFFF)
  let s := forAll (List.range 16) s fun s k => s.writeXin k (BitVec.ofNat 32 (fieldAt bs (0xC00 + 4 * k) 4))
  s.setReg (F.FLT_STORM_CFG.addr 0x10) (BitVec.ofNat 32 (fieldAt bs 0xC40 4) &&& 0x3FF)

/-! ### The close of a window (R338) -/

/-- The earlier of two records: by T_FIRST, then node, then source. -/
def FltRec.before (a b : FltRec) : Bool :=
  decide (a.tFirst < b.tFirst) || (a.tFirst == b.tFirst && (decide (a.node < b.node)
    || (a.node == b.node && decide (a.source < b.source))))

/-- STORM_WINDOW_CLOSE, when the window's end has come: the root is elected and marked, its partners are folded into one storm record, and one urgent vector
goes out for the window. -/
def stormWindowClose (tag : Nat) (s : State) : State :=
  match s.flt.storms.find? fun w => w.tag == tag && decide (s.stormEnd w ≤ s.now) with
  | none => s
  | some w =>
    let s := { s with flt := { s.flt with storms := s.flt.storms.erase w } }
    let logged := fun (r : FltRec) => ((s.flt.log.find? fun e => e.2.same r).map (·.2)).getD r
    match w.recs.map logged with
    | [] => s
    | r0 :: rs =>
      let root := rs.foldl (fun a b => if b.before a then b else a) r0
      let partners := ((r0 :: rs).filter fun r => !r.same root)
      let s := match s.flt.log.find? fun e => e.2.same root with
        | some (i, r) => s.setLogRec i { r with root := true }
        | none => s.addRec { root with root := true }
      let own := if s.casEnabled then s.nodeId else 0
      let s := if root.node = own then s.countEsc root.source root.tFirst else s
      let s := s.intEdge 0
      if partners = [] then s
      else
        let nodes := partners.foldl (fun (m : BitVec 64) r => m ||| BitVec.twoPow 64 r.node) 0
        (s.addRec { root with
          storm := true, root := false, count := (partners.map (·.count)).sum, nodes := nodes
          tLast := partners.foldl (fun t r => max t r.tLast) root.tLast }).intEdge 6

def execStormWindowClose (tag : Nat) (s : State) : Host.Outcome State Fault Refusal := .next (s.finish (stormWindowClose tag s))

/-! ### What the collector shows (R337, R342) -/

/-- FLT_GSTAT. -/
def State.fltGstat (s : State) : Nat :=
  let c := ((List.range 384).filter s.srcLive).foldl (fun m n => max m (s.srcClass n)) 0
  c + (if s.aon.lockdown then 8 else 0) + (if s.fnDrive then 16 else 0)
    + (if s.flag F.FLT_GSTAT_FN_LINE 0x10 || s.fnDrive then 32 else 0) + (if s.actsHead then 64 else 0)

/-- FLT_LOG_DATA_i of the selected slot. -/
def State.logData (s : State) (i : Nat) : Nat := fieldAt (s.logRec (s.fld F.FLT_LOG_SEL_SLOT 0x10)).bytes (4 * i) 4

end Sys2Proof.Machine
end

