-- ==== Sys2Proof/Machine/RegWrite.lean ====
section
/-! DEFINITION. Register writes: the access types of R11, the page header of R14, and what each register of spec/01 to
spec/14 does on a write beyond them. -/

namespace Sys2Proof.Machine

/-- Events a page has: its EVT_STAT bits (R14, and the page rules R27, R55, R56, R93 to R95, R123, R124, R151 to R154, R176
to R178, R210 to R212, R236 to R240, R261 to R264, R292 to R295, R322 to R326, R381 to R383, R397, R398). -/
def evtCount (blk inst : Nat) : Nat :=
  if blk = B.SYS then 2
  else if blk = B.APR then (if inst = 0 then 9 else 2)
  else if blk = B.FST then 5 else if blk = B.DEC then 3 else if blk = B.ENC then 4
  else if blk = B.FMT then 6 else if blk = B.COR then 4 else if blk = B.FAC then 7
  else if blk = B.CLK then (if inst = 6 then 0 else 3)
  else if blk = B.BLN then 6 else if blk = B.SEC then 6 else if blk = B.ATT then 4 else if blk = B.DBG then 2
  else if blk = B.MOT then 8 else if blk = B.STP then 7 else if blk = B.PGN then 5
  else if blk = B.CTL then (if inst = 0x60 then 1 else 6)
  else if blk = B.HVO then (if inst = 0x20 then 0 else 5)
  else if blk = B.LUP then 3 else if blk = B.MNS then 8
  else if blk = B.HTR then (if inst = 8 then 4 else 5)
  else if blk = B.TMP then (if inst < 0x20 then 6 else 7)
  else if blk = B.PWR then (if inst = 0x40 then 2 else 4)
  else if blk = B.SEQ then 5 else if blk = B.FED then 6 else if blk = B.MEM then 4
  else if blk = B.ECC then (if inst = 0x10 then 4 else 3)
  else if blk = B.DMA then (if inst = 0x10 then 0 else 4)
  else if blk = B.HST then 4 else if blk = B.CAS then 7 else if blk = B.PRS then 1
  else if blk = B.CAL then 4 else if blk = B.KPS then 4
  else 0

/-- A word with only a page's event bits left. -/
def evtBits (blk inst : Nat) (v : Word) : Word := BitVec.ofNat 32 (v.toNat % 2 ^ evtCount blk inst)

/-- A write under the access types of R11 alone: RW bits take the value, and 1s clear W1C bits (R13). -/
def State.plain (s : State) (a : Nat) (r : RegRow) (v : Word) : State :=
  let rw := BitVec.ofNat 32 r.rw
  s.setReg a ((s.w1c a (v &&& BitVec.ofNat 32 r.w1c) &&& ~~~ rw) ||| (v &&& rw))

/-- EVT_FORCE: the EVT_STAT bits written as 1 are set. -/
def State.forceEvents (s : State) (blk inst : Nat) (v : Word) : State :=
  s.setReg (regAddr blk inst 0x010) (s.reg (regAddr blk inst 0x010) ||| evtBits blk inst v)

/-- A frame that is ADMITTED or EXPOSING, or SPOILED and still exposing, and uses a station (R48). -/
def State.frameUses (s : State) (p : Ctx → Bool) : Bool :=
  !(s.ctxsWith fun x => (x.st = .admitted || x.st = .exposing || x.running) && p x).isEmpty

/-- An event raised by a write that makes a setting bad. -/
def State.turnsBad (s t : State) (bad : State → Bool) (blk inst b : Nat) : State :=
  if bad t && !bad s then t.event blk inst b else t

/-! ### One function per block: instance `i`, register row `r`, its index `k`, its address `a` -/

def State.wApr (s : State) (i : Nat) (r : RegRow) (k a : Nat) (v : Word) : State :=
  if i = 0 then
    if r.off = F.APR_STN_STOP.off then stnStopClear v s
    else if r.off = F.APR_STN_DIST.off ∧ (k = 0 ∨ s.frameUses fun x => x.uses k) then s
    else if r.off = F.APR_XPORT.off ∨ r.off = F.APR_SC_PERIOD.off then (s.plain a r v).capSync
    else s.plain a r v
  else
    let n := i - 0x20
    if r.off = F.RING_CTRL.off then (s.writeRingCtrl n v).msgPump
    else if r.off = F.RING_SIZE.off ∨ r.off = F.RING_BASE_LO.off ∨ r.off = F.RING_BASE_HI.off then
      (if s.ringEn n then s else s.plain a r v)
    else if r.off = F.RING_HEAD.off then (if 16 ≤ n ∧ n ≤ 27 ∨ 30 ≤ n then s.writeHead n (bits v.toNat 0 16) else s)
    else if r.off = F.RING_TAIL.off then (if hostTail n then (s.writeTail n (bits v.toNat 0 16)).msgPump else s)
    else s.plain a r v

def State.wEnc (s : State) (r : RegRow) (a : Nat) (v : Word) : State :=
  if r.off = F.ENC_CTRL.off then
    let s := if bit v.toNat 0 then encStart s else s
    let s := if bit v.toNat 1 then encSave s else s
    let s := if bit v.toNat 2 then encRestore [] s else s
    if bit v.toNat 3 then encAbort s else s
  else if s.encBusy then s else s.plain a r v

def State.wFmt (s : State) (n : Nat) (r : RegRow) (k a : Nat) (v : Word) : State :=
  if r.off = F.FMT_HOLD.off then speedHoldClear n v s
  else if r.off = F.FMT_LVLW.off ∧ k = 0 then (s.plain a r (v &&& 0xFFFFFFE0)).fmtCheck n
  else (s.plain a r v).fmtCheck n

def State.wCor (s : State) (n : Nat) (r : RegRow) (a : Nat) (v : Word) : State :=
  if r.off = F.COR_CTRL.off then (if bit v.toNat 0 then corLoad n s else s) else s.plain a r v

/-- FAC_START and FAC_FACET_j wait while a frame uses the station (R135). -/
def State.wFac (s : State) (n : Nat) (r : RegRow) (a : Nat) (v : Word) : State :=
  if (r.off = F.FAC_START.off ∨ r.off = F.FAC_FACET.off) ∧ s.stnHolds n then
    s.setFac n { (s.stn n).fac with held := (s.stn n).fac.held ++ [(offOf a, v &&& BitVec.ofNat 32 r.rw)] }
  else
    let s := ((s.turnsBad (s.plain a r v) (fun s => s.facBad n) B.FAC n 6)).checkLock n
    if s.domOn .img then s.fmtCheck n else s

/-- FMT of an enabled output stays; a class that a frame at the station uses keeps its frequency (R48, R136). -/
def State.wClk (s : State) (n : Nat) (r : RegRow) (k a : Nat) (v : Word) : State :=
  if n < 6 ∧ r.off = F.CLK_FREQ.off then
    (if s.frameUses fun x => x.uses n && x.cls == k then s else ((s.plain a r v).checkLock n).retarget n)
  else
    let old := (s.reg a).toNat
    if bit old 0 ∧ bits old 4 2 ≠ bits v.toNat 4 2 then s else s.plain a r v

def State.wBln (s : State) (n : Nat) (r : RegRow) (a : Nat) (v : Word) : State :=
  if r.off = F.BLN_CTRL.off then s.writeBlnCtrl n v
  else if r.off = F.BLN_CFG.off then
    let was := s.flag F.BLN_CFG_SEARCH n
    let s := s.plain a r v
    -- a continuous light no longer wanted ends with a BDW of ON = OFF (assumption 102)
    if s.flag F.BLN_CFG_SEARCH n then (if was then s else s.searchLight n)
    else if was ∧ s.link n = lkUp ∧ ¬ s.locked n then s.bdw n 0 0 else s
  else s.plain a r v

/-- PUSH (R170, R175): accepted in CONFIG with BUNDLE_OK = 0, refused with STATE elsewhere; nothing while a load runs. -/
def bundlePush (s : State) : State :=
  if s.sys.mode ≠ .config ∨ s.bundle.ok then (s.setFld F.SEC_BUNDLE_STAT_ERR 0 8).event B.SEC 0 3
  else if s.bundle.loading.isSome then s
  else
    let s := { s with bundle := { s.bundle with loading := some (some (s.pair64 F.SEC_BUNDLE_ADDR_LO 0)) } }
    let s := (s.setFlag F.SEC_BUNDLE_CTRL_PUSH 0 true).setFlag F.SEC_BUNDLE_STAT_BUSY 0 true
    (s.setFld F.SEC_BUNDLE_STAT_ERR 0 0).setFld F.SEC_BUNDLE_STAT_SRC 0 2

/-- `tap`: the write came over SECACC. -/
def State.wSec (s : State) (tap : Bool) (r : RegRow) (a : Nat) (v : Word) : State :=
  if r.off = F.SEC_CMD.off then s.writeSecCmd v tap
  else if r.off = F.SEC_BUNDLE_CTRL.off then (if bit v.toNat 0 then bundlePush s else s)
  else if r.off = F.SEC_TOKEN.off ∨ r.off = F.SEC_BEK.off then s.setReg a v
  else if r.off = F.SEC_OWNER.off then (if s.lc = lcBlank then s.setReg a v else s)
  else s.plain a r v

/-- Every DBG register discards writes while the Eyepiece is CLOSED (R178). -/
def State.wDbg (s : State) (r : RegRow) (a : Nat) (v : Word) : State :=
  if !s.dbgOpen then s
  else if r.off = F.DBG_WIN_DATA.off then s.winWrite v else s.plain a r v

def State.wAtt (s : State) (r : RegRow) (a : Nat) (v : Word) : State :=
  let s := s.plain a r v
  if r.off = F.ATT_EVID_LO.off ∨ r.off = F.ATT_EVID_HI.off then { s with att := { s.att with evidSet := true } } else s

def State.wMot (s : State) (m : Nat) (r : RegRow) (a : Nat) (v : Word) : State :=
  if r.off = F.MOT_CTRL.off then s.writeMotCtrl m v
  else if (r.off = F.MOT_CFG.off ∨ r.off = F.MOT_BIND.off) ∧ s.moState m ≠ moOff then s
  else if (r.off = F.MOT_ENC.off ∨ r.off = F.MOT_XSCALE.off) ∧ 8 ≤ m then s
  else s.turnsBad (s.plain a r v) (fun s => s.motBad m) B.MOT m 7

def State.wStp (s : State) (m : Nat) (r : RegRow) (a : Nat) (v : Word) : State :=
  if r.off = F.STP_CTRL.off then s.writeStpCtrl m v
  else if r.off = F.STP_CFG.off ∧ s.stState m ≠ stOff then s
  else s.plain a r v

def State.wPgn (s : State) (g : Nat) (r : RegRow) (a : Nat) (v : Word) : State :=
  if r.off = F.PGN_CTRL.off then s.writePgnCtrl g v
  else if r.off = F.PGN_CFG.off ∧ s.pgState g ≠ pgIdle then s
  else if r.off = F.PGN_VMAX.off then s.writeVmax g v
  else if r.off = F.PGN_DMAX.off then s.writeBrake g F.PGN_DMAX v
  else if r.off = F.PGN_JMAX.off then s.writeBrake g F.PGN_JMAX v
  else if r.off = F.PGN_VTGT.off then s.writeVtgt g v
  else s.plain a r v

def State.wCtl (s : State) (n : Nat) (r : RegRow) (a : Nat) (v : Word) : State :=
  if n = 0x60 then s
  else if r.off = F.CTL_CTRL.off then s.writeCtlCtrl n v
  else if s.flag F.CTL_CTRL_EN n then s
  else s.plain a r v

def State.wHvo (s : State) (o : Nat) (r : RegRow) (a : Nat) (v : Word) : State :=
  if o = 0x20 then (if r.off = F.HVO_SYNC.off then hvoSync v s else s)
  else if r.off = F.HVO_CTRL.off then (if bit v.toNat 0 then hvoEnable o s else hvoDisable o s)
  else if (r.off = F.HVO_CFG.off ∨ r.off = F.HVO_PWM.off) ∧ s.hvState o ≠ hvOff then s
  else s.turnsBad (if r.off = F.HVO_NCO.off then s.writeNco o v else s.plain a r v) (fun s => s.hvBad o) B.HVO o 4

def State.wLup (s : State) (b : Nat) (r : RegRow) (a : Nat) (v : Word) : State :=
  if r.off = F.LUP_CTRL.off then
    let s := if bit v.toNat 0 then lupArm b s else s
    let s := if bit v.toNat 1 then lupTrig b s else s
    if bit v.toNat 2 then lupStop b s else s
  else if s.luHeld b then s else s.plain a r v

def State.wFlt (s : State) (i : Nat) (r : RegRow) (k a : Nat) (v : Word) : State :=
  if i = 0x10 then (if r.off = F.FLT_XIN.off then s.writeXin k v else s.plain a r v)
  else if r.off = F.FLT_CFG.off then s.writeFltCfg (64 * i + k) v
  else if r.off = F.FLT_ESC.off then (s.plain a r v).judgeEsc (64 * i + k)
  else if r.off = F.FLT_LATCH.off then s.clearLatch i k v
  else s.plain a r v

def State.wCal (s : State) (r : RegRow) (a : Nat) (v : Word) : State :=
  if r.off = F.CAL_CTRL.off then (if bit v.toNat 0 then s.calClear else s)
  else if (r.off = F.CAL_REQ.off ∨ r.off = F.CAL_ZC_MASK.off ∨ r.off = F.CAL_CFG.off) ∧ s.flag F.CAL_STAT_BUSY 0 then s
  else s.plain a r v

def State.wMns (s : State) (r : RegRow) (a : Nat) (v : Word) : State :=
  if r.off = F.MNS_SCALE.off ∨ r.off = F.MNS_CFG.off then (s.plain a r v).mainsScale else s.plain a r v

def State.wHtr (s : State) (h : Nat) (r : RegRow) (a : Nat) (v : Word) : State :=
  if h = 8 then s.plain a r v
  else if r.off = F.HTR_CTRL.off then (if bit v.toNat 0 then htrEnable h s else htrDisable h s)
  else if (r.off = F.HTR_CFG.off ∨ r.off = F.HTR_TIME.off) ∧ s.htState h ≠ htOff then s
  else s.turnsBad (s.plain a r v) (fun s => s.htBad h) B.HTR h 4

def State.wPwr (s : State) (r : RegRow) (a : Nat) (v : Word) : State :=
  if r.off = F.PWR_BLN_EN.off then s.writeBlnEn v
  else if r.off = F.PWR_LOG_CTRL.off then
    let s := if bit v.toNat 0 then s.commitRails else s
    if bit v.toNat 1 ∧ s.sys.mode = .config then s.clearLogs else s
  else s.plain a r v

def State.wFed (s : State) (n : Nat) (r : RegRow) (a : Nat) (v : Word) : State :=
  if r.off = F.FED_CTRL.off then
    let s := if bit v.toNat 1 then s.fedHandover n else s
    if bit v.toNat 2 then s.fedClr n else s
  else s.plain a r v

/-- Channels in use answer on their ECC pages; the others read 0 (R323). -/
def State.channelOn (s : State) (c : Nat) : Bool := decide (c < chanCount (s.fld F.MEM_CFG_CHANS 0))

def State.wEcc (s : State) (i : Nat) (r : RegRow) (a : Nat) (v : Word) : State :=
  if i = 0x10 then
    (if r.off = F.ECC_TBL_CTRL.off then (if bit v.toNat 0 then s.clearTable else s) else s.plain a r v)
  else if !s.channelOn i then s
  else if r.off = F.ECC_ERASE.off then s.writeErase i v
  else s.plain a r v

def State.wDma (s : State) (c : Nat) (r : RegRow) (a : Nat) (v : Word) : State :=
  if c = 0x10 then s.plain a r v
  else if r.off = F.DMA_CTRL.off then
    let s := if bit v.toNat 0 then dmaStart c s else s
    if bit v.toNat 1 then dmaAbort c s else s
  else if s.dmState c ≠ dmIdle then s
  else s.plain a r v

def State.wInt (s : State) (i : Nat) (r : RegRow) (k a : Nat) (v : Word) : State :=
  if i ≤ 3 then (if r.off = F.INT_SRC.off then s.writeIntSrc (128 * i + k) v else s)
  else if i = 0x10 then (if r.off = F.INT_SWI.off then s.swi v else s.plain a r v)
  else
    let t := i - 0x20
    if r.off = F.INT_TGT_STATE.off then s.writeTgtState t v
    else if r.off = F.INT_TGT_COMPLETE.off then s.complete t (bits v.toNat 0 9)
    else if r.off = F.INT_TGT_CFG.off then
      let s := s.plain a r (if 14 ≤ t then v &&& 0xFFFFFC00 else v)
      forAll (List.range 16) s State.wakeTgt
    else s

def State.wCas (s : State) (r : RegRow) (a : Nat) (v : Word) : State :=
  if r.off = F.CAS_CTRL.off then
    let s := if bit v.toNat 0 then casBypassCmd s else s
    if bit v.toNat 1 then casRejoin s else s
  else if r.off = F.CAS_CFG.off then (s.plain a r v).judgeHead
  else s.plain a r v

/-! ### One write -/

/-- A write of a block's register that the tables hold. RWL registers of a locked page discard it; the banks of a loop slot
judge the active bank first (R222). -/
def State.writeRow (s : State) (tap : Bool) (blk i : Nat) (r : RegRow) (k a : Nat) (v : Word) : State :=
  if blk = B.CTL ∧ i < 0x60 ∧ r.off = F.CTL_A.off then ctlBankWrite i false k v s
  else if blk = B.CTL ∧ i < 0x60 ∧ r.off = F.CTL_B.off then ctlBankWrite i true k v s
  else if r.lock ∧ s.flag (H.PAGE_LOCK_LOCK blk) i then s
  else match blk with
    | 0x00 => if r.off = F.SYS_MODE_REQ.off then s.writeModeReq v else s
    | 0x01 => s.wSec tap r a v
    | 0x02 => if r.off = F.KPS_DATA.off then s.writeKpsData v else s.plain a r v
    | 0x03 => s.wDbg r a v
    | 0x05 => s.wDma i r a v
    | 0x06 => s.wInt i r k a v
    | 0x08 => s.wCas r a v
    | 0x10 => s.wApr i r k a v
    | 0x13 => s.wEnc r a v
    | 0x14 => s.wFmt i r k a v
    | 0x15 => s.wCor i r a v
    | 0x16 => s.wAtt r a v
    | 0x18 => s.wFac i r a v
    | 0x19 => s.wClk i r k a v
    | 0x1A => s.wBln i r a v
    | 0x20 => s.wMot i r a v
    | 0x21 => s.wStp i r a v
    | 0x22 => s.wPgn i r a v
    | 0x23 => s.wCtl i r a v
    | 0x24 => s.wHvo i r a v
    | 0x25 => s.wLup i r a v
    | 0x26 => s.wFlt i r k a v
    | 0x27 => s.wCal r a v
    | 0x29 => s.wMns r a v
    | 0x2A => s.wHtr i r a v
    | 0x30 => s.wPwr r a v
    | 0x31 => if r.off = F.SEQ_REQ.off then s.writeSeqReq v else s.plain a r v
    | 0x32 => s.wFed i r a v
    | 0x39 => s.wEcc i r a v
    | _ => s.plain a r v

/-- A write that reaches one page (R11, R12, R14 to R16). -/
def State.writePage (s : State) (tap : Bool) (blk i off : Nat) (v : Word) : State :=
  let a := regAddr blk i off
  if off = 0x008 then s.writePageCtrl blk i v
  else if off = 0x010 then s.setReg a (s.w1c a v)
  else if off = 0x014 then s.setReg a (evtBits blk i v)
  else if off = 0x018 then s.forceEvents blk i v
  else if off = 0x020 then (if bit v.toNat 0 then s.setFlag (H.PAGE_LOCK_LOCK blk) i true else s)
  else if off = 0x024 then s.setReg a (v &&& 0xFFFF)
  else if off < 0x040 then s
  else match rowAt blk i off with
    | some (r, k) => s.writeRow tap blk i r k a v
    | none => s

/-- A write into the MSI-X structures (R355): an unmasked vector that is pending is sent. -/
def State.writeMsix (s : State) (addr : Nat) (v : Word) : State :=
  if 4 ≤ instOf addr then s
  else if addr % 16 = 12 then
    let n := addr % 0x4000 / 16
    let s := s.setReg addr (v &&& 1)
    if ¬ bit v.toNat 0 ∧ bit (s.reg (vecPend n)).toNat (n % 32) ∧ s.flag F.HST_LINK_MSIX_EN 0 ∧ ¬ s.ints.fnMask then
      (s.setReg (vecPend n) (putBits (s.reg (vecPend n)) (n % 32) 1 0)).emit (.msix n)
    else s
  else s.setReg addr (if addr % 16 = 0 then v &&& 0xFFFFFFFC else v)

/-! ### Addresses -/

/-- The members of a Prism address in rising order: 0xE0 + g names group g, 0xFF every instance (R9, R10). -/
def State.members (s : State) (blk inst : Nat) : List Nat :=
  if inst = 0xFF then instancesOf blk
  else (instancesOf blk).filter fun i => bit (s.fld (H.PAGE_GROUP_GRP blk) i) (inst - 0xE0)

/-- Does an instance field name a Prism address? -/
def isPrism (inst : Nat) : Bool := decide (0xE0 ≤ inst ∧ inst ≤ 0xEF) || inst == 0xFF

/-- Does any instance of the block exist? -/
def blockExists (blk : Nat) : Bool := !(instancesOf blk).isEmpty

/-- A write at a BAR 0 offset, past the checks of its path (R9, R10, R18, R361, R364): `bad` records a host access error. -/
def State.writeAddr (s : State) (tap : Bool) (addr : Nat) (v : Word) (bad : State → Nat → State) : State :=
  let addr := addr % 2 ^ 27 / 4 * 4
  let blk := blkOf addr
  let inst := instOf addr
  let one := fun (s : State) (i : Nat) => if s.pageOn blk i then s.writePage tap blk i (offOf addr) v else bad s 3
  if blk = 0x7F then s.writeMsix addr v
  else if !blockExists blk then bad s 2
  else if isPrism inst then forAll (s.members blk inst) s one
  else if pageExists blk inst then one s inst
  else bad s 2

/-- A pair of a REGS section applied by SEC (R168, R270, R364): copies that find no page, or an off one, are dropped. -/
def State.applyPair (s : State) (p : Nat × Word) : State := s.writeAddr false p.1 p.2 (fun s _ => s)

end Sys2Proof.Machine
end

