-- ==== Sys2Proof/Machine/Bundle.lean ====
section
/-! DEFINITION. Configuration bundles: layout, verification in the order of R169, and what each section does (R168 to R170,
R235, R270, R271, R284, R287, R340, R394, R422). -/

namespace Sys2Proof.Machine

/-! ### Layout (R168, R422) -/

/-- Header fields. -/
def bhSections (img : List Byte) : Nat := fieldAt img 6 2
def bhFlags (img : List Byte) : Nat := fieldAt img 8 4
def bhCfgId (img : List Byte) : Nat := fieldAt img 0x0C 4
def bhVersion (img : List Byte) : Nat := fieldAt img 0x10 4
def bhTotal (img : List Byte) : Nat := fieldAt img 0x14 4
def bhEnc (img : List Byte) : Bool := bit (bhFlags img) 0

/-- Where the payload starts. -/
def payloadAt (img : List Byte) : Nat := 0x140 + 64 * bhSections img

/-- The section table. -/
def sectionTable (img : List Byte) : List Section := (List.range (bhSections img)).map fun i =>
  let o := 0x140 + 64 * i
  { typ := fieldAt img o 1, id := fieldAt img (o + 1) 1, station := fieldAt img (o + 2) 1, offset := fieldAt img (o + 8) 4
    length := fieldAt img (o + 0x0C) 4, digest := takeAt img (o + 0x10) 48 }

/-- A section's bytes. -/
def Section.bytes (x : Section) (img : List Byte) : List Byte := takeAt img x.offset x.length

/-- The header, as far as step 1 of R169 tests it. -/
def headerLayout (img : List Byte) : Bool :=
  fieldAt img 0 4 == 0x4E5A5552 && fieldAt img 4 2 == 1
    && decide (1 ≤ bhSections img ∧ bhSections img ≤ 4096 ∧ bhFlags img < 4 ∧ bhTotal img ≤ 2 ^ 31
      ∧ payloadAt img ≤ bhTotal img)
    && fieldAt img 0x24 12 == 0 && fieldAt img 0xA1 63 == 0

/-- ID and LENGTH of a section by type (R235, R284, R340, R394, R422). -/
def Section.shapeOk (x : Section) : Bool :=
  match x.typ with
  | 1 => decide (x.length % 8 = 0)
  | 2 => x.id == 0 && x.length == 1888
  | 3 => decide (x.id ≤ 95) && x.length == 416
  | 4 => x.length == 196608
  | 5 => x.id == 0 && x.length == 256
  | 6 => x.id == 0 && x.length == 3152
  | 7 => x.id == 0 && x.length == 64
  | _ => false

/-- No two members of a list agree under `f`. -/
def distinctBy (f : Section → Nat) : List Section → Bool
  | [] => true
  | x :: xs => xs.all (fun y => f y ≠ f x) && distinctBy f xs

/-- The section table, as far as step 1 tests it. -/
def tableLayout (img : List Byte) : Bool :=
  let ss := sectionTable img
  let ofType := fun t => ss.filter fun x => x.typ == t
  (List.range (bhSections img)).all (fun i => fieldAt img (0x140 + 64 * i + 3) 5 == 0)
    && ss.all (fun x => x.shapeOk && decide (x.offset % 64 = 0 ∧ payloadAt img ≤ x.offset
      ∧ x.offset + x.length ≤ bhTotal img) && (if x.typ = 4 then decide (x.station ≤ 5) else x.station == 0))
    && disjointRanges (ss.map fun x => (x.offset, x.length))
    && distinctBy (fun x => x.id * 8 + x.station) (ofType 4) && distinctBy (·.id) (ofType 3)
    && [2, 5, 6, 7].all (fun t => decide ((ofType t).length ≤ 1))

/-! ### Section contents -/

/-- The pairs of a REGS section. -/
def regsPairs (bs : List Byte) : List (Nat × Word) := (List.range (bs.length / 8)).map fun i =>
  (fieldAt bs (8 * i) 4, BitVec.ofNat 32 (fieldAt bs (8 * i + 4) 4))

/-- A REGS pair names a register that exists, outside SEC, DBG and KPS (R169, R422); the RWK registers all lie in KPS. -/
def pairOk (p : Nat × Word) : Bool :=
  let a := p.1
  let blk := blkOf a
  let off := offOf a
  let named := fun i => decide (off % 4 = 0) && (decide (off ≤ 0x024) || (rowAt blk i off).isSome)
  decide (a < 2 ^ 27) && blk ≠ B.SEC && blk ≠ B.DBG && blk ≠ B.KPS && (instancesOf blk).any named
    && (isPrism (instOf a) || pageExists blk (instOf a))

/-- One step of a SEQPROG section is well formed: KIND and COND listed, zero fields 0, rails 0 to 47 (R285, R287). -/
def stepOk (w : Nat) : Bool :=
  match bits w 28 4 with
  | 1 => bits w 6 20 == 0 && decide (bits w 0 6 ≤ 47)
  | 2 => bits w 24 1 == 0
  | 3 => bits w 16 6 == 0 && bits w 7 1 == 0 && (decide (2 ≤ bits w 26 2) || decide (bits w 0 7 ≤ 47))
  | 4 =>
    let c := bits w 24 4
    (decide (c ≤ 3) || c == 0xF) && bits w 16 8 == 0 && bits w 7 1 == 0 && (c ≠ 3 || decide (bits w 0 7 ≤ 47))
  | _ => false

/-- Is the step END? -/
def stepEnds (w : Nat) : Bool := bits w 28 4 == 4 && bits w 24 4 == 0xF

/-- Is it a barrier? -/
def stepBarrier (w : Nat) : Bool := bits w 28 4 == 2 && bit w 27

/-- The steps that may follow step `i`; ALT = 0xFF aborts an UP program and has no successor here. -/
def stepNext (w i : Nat) : List Nat :=
  let alt := fun a => if a = 0xFF then [] else [a]
  match bits w 28 4 with
  | 2 => if bit w 27 then (i + 1) :: alt (bits w 16 8) else [i + 1]
  | 3 => (i + 1) :: alt (bits w 8 8)
  | 4 =>
    let c := bits w 24 4
    if c = 0xF then [] else if c = 0 then [bits w 8 8] else [bits w 8 8, i + 1]
  | _ => [i + 1]

/-- Where a step's JUMP or ALT leads. -/
def stepJumps (w : Nat) : List Nat :=
  match bits w 28 4 with
  | 2 => if bit w 27 then [bits w 16 8] else []
  | 3 => [bits w 8 8]
  | 4 => if bits w 24 4 = 0xF then [] else [bits w 8 8]
  | _ => []

/-- The 256 steps of a section, and its words. -/
def seqWord (bs : List Byte) (o : Nat) : Nat := fieldAt bs o 4
def seqSteps (bs : List Byte) : List Nat := (List.range 256).map fun i => seqWord bs (4 * i)

/-- Steps from which every path reaches END within `n` steps. -/
def endsWithin (ws : List Nat) : Nat → List Bool
  | 0 => List.replicate 256 false
  | n + 1 =>
    let t := endsWithin ws n
    ws.zipIdx.map fun x => stepEnds x.1 || (!(stepNext x.1 x.2).isEmpty && (stepNext x.1 x.2).all fun j => t.getD j false)

/-- Steps a program reaches from its entry, in rising order. -/
def reached (ws : List Nat) (entry : Nat) : Nat → List Nat
  | 0 => if entry < 255 then [entry] else []
  | n + 1 =>
    let r := reached ws entry n
    (List.range 256).filter fun j =>
      decide (j ∈ r) || r.any fun i => decide (j ∈ stepNext (ws.getD i 0) i)

/-- A SEQPROG section obeys R287. -/
def seqprogOk (bs : List Byte) : Bool :=
  let ws := seqSteps bs
  let ends := endsWithin ws 256
  let w := fun i => ws.getD i 0
  let entry := fun sc (up : Bool) => bits (seqWord bs (0x700 + 4 * sc)) (if up then 0 else 8) 8
  let prog := fun sc up => reached ws (entry sc up) 256
  let rail := fun i => bits (w i) 0 6
  let drives := fun i (on : Bool) => bits (w i) 28 4 == 1 && !bit (w i) 26 && bit (w i) 27 == on
  let barriers := fun (p : List Nat) => (p.filter fun i => stepBarrier (w i)).length
  let gio := fun i => (bits (w i) 28 4 == 3 && decide (2 ≤ bits (w i) 26 2))
    || (bits (w i) 28 4 == 4 && (bits (w i) 24 4 == 1 || bits (w i) 24 4 == 2))
  let zero := (List.range 48).all (fun r => seqWord bs (0x40C + 16 * r) == 0) && fieldAt bs 0x714 12 == 0
    && fieldAt bs 0x730 16 == 0 && fieldAt bs 0x750 16 == 0
  let scopeOk := fun sc =>
    let up := prog sc true
    let dn := prog sc false
    (up ++ dn).all (fun i => stepOk (w i) && (bits (w i) 28 4 ≠ 1 ||
        (let c := seqWord bs (0x400 + 16 * rail i); bit c 30 && bits c 28 2 == sc)))
      && (up ++ dn).all (fun i => sc ≠ 0 || !gio i)
      && (entry sc true == 0xFF || ends.getD (entry sc true) false)
      && (entry sc false == 0xFF || ends.getD (entry sc false) false)
      && dn.all (fun i => (stepJumps (w i)).all fun j => decide (i < j ∧ j ≠ 0xFF))
      && (dn.filter fun i => drives i false).map rail == ((up.filter fun i => drives i true).map rail).reverse
      && barriers up == barriers dn
  bs.length == 1888 && zero && (List.range 4).all scopeOk
    && decide (((List.range 4).map fun sc => barriers (prog sc true)).sum ≤ 31)

/-- What a section's bytes must satisfy beyond its length. -/
def Section.contentOk (x : Section) (img : List Byte) : Bool :=
  let bs := x.bytes img
  match x.typ with
  | 1 => (regsPairs bs).all pairOk
  | 2 => seqprogOk bs
  | 3 => fieldAt bs 24 8 == 0
  | 5 => (List.range 16).all fun c => fieldAt bs (16 * c + 12) 4 == 0
  | 6 => faultPolOk bs && fieldAt bs 0xC44 12 == 0
  | 7 => fieldAt bs 20 12 == 0 && fieldAt bs 56 8 == 0
  | _ => true

/-! ### Verification (R169) -/

def beLayout : Nat := 1
def beSigner : Nat := 2
def beSig : Nat := 3
def beRollback : Nat := 4
def beDecrypt : Nat := 5
def beDigest : Nat := 6
def beFlash : Nat := 7
def bePoison : Nat := 9

/-- BUNDLE_DIGEST: header bytes 0x000 to 0x0DF, then the table. -/
def bundleDigest (img : List Byte) : List Byte := sha384 (takeAt img 0 0xE0 ++ takeAt img 0x140 (64 * bhSections img))

/-- The signer is the owner; in BLANK any valid point. -/
def State.signerOk (s : State) (img : List Byte) : Bool :=
  let k := takeAt img 0x40 97
  if s.lc = lcBlank then fieldAt k 0 1 == 4 && ptValid (beNat (takeAt k 1 48)) (beNat (takeAt k 49 48))
  else k == 0x04 :: s.keepBytes (kwOwner 0) 24

/-- The payload in plaintext; none when no bundle key is held or GCM does not authenticate it. -/
def State.plainImage (s : State) (img : List Byte) : Option (List Byte) :=
  let n := payloadAt img
  if !bhEnc img then some img
  else if (s.keepWord kwBekSet).toNat % 2 = 0 then none
  else
    let (ok, pt) := gcmOpen (s.keepBytes (kwBek 0) 8) (takeAt img 0x18 12) (takeAt img 0 0x30 ++ takeAt img 0x140 (n - 0x140))
      (takeAt img n (bhTotal img - n)) (takeAt img 0x30 16)
    if ok then some (takeAt img 0 n ++ pt) else none

/-- The checks of R169 in order: the plaintext image, or the first error. What only the plaintext of an encrypted payload
shows is tested, as LAYOUT, once it is there. -/
def State.verifyBundle (s : State) (img : List Byte) : List Byte ⊕ Nat :=
  let ss := sectionTable img
  if ¬ headerLayout img ∨ img.length < bhTotal img ∨ ¬ tableLayout img then .inr beLayout
  else if ¬ bhEnc img ∧ ¬ ss.all (fun x => x.contentOk img) then .inr beLayout
  else if ¬ s.signerOk img then .inr beSigner
  else if ¬ ecVerify (takeAt img 0x41 96) (bundleDigest img) (takeAt img 0xE0 96) then .inr beSig
  else if bhVersion img < (s.keepWord kwMinver).toNat then .inr beRollback
  else match s.plainImage img with
    | none => .inr beDecrypt
    | some pt =>
      if bhEnc img ∧ ¬ ss.all (fun x => x.contentOk pt) then .inr beLayout
      else if ¬ ss.all (fun x => sha384 (x.bytes pt) == x.digest) then .inr beDigest
      else .inl (takeAt pt 0 (bhTotal img))

/-! ### Applying a bundle -/

/-- A word of SEQ's region written where it differs from the stored copy (R284). -/
def State.seqStore (s : State) (w v : Nat) : State :=
  if s.keepWord w = BitVec.ofNat 32 v then s else s.keepStore w (BitVec.ofNat 32 v)

/-- A SEQPROG section. -/
def State.loadSeqprog (s : State) (bs : List Byte) : State :=
  let s := forAll (List.range 256) s fun s i => s.seqStore (kwStep i) (seqWord bs (4 * i))
  let s := forAll (List.range 48) s fun s r => forAll (List.range 3) s fun s k =>
    s.seqStore (kwRail r k) (seqWord bs (0x400 + 16 * r + 4 * k))
  let s := forAll (List.range 4) s fun s sc => s.seqStore (kwEntry sc) (seqWord bs (0x700 + 4 * sc))
  let s := s.seqStore kwSeqCfg (seqWord bs 0x710)
  forAll (List.range 2) s fun s n => forAll (List.range 4) s fun s k =>
    s.seqStore (kwFeed n k) (seqWord bs (0x720 + 32 * n + 4 * k))

/-- A CALLIM section; the CAL page's RWL registers are locked (R394). -/
def State.loadCallim (s : State) (bs : List Byte) : State :=
  let s := forAll (List.range 8) s fun s i => s.setReg ((F.CAL_LIM.at i).addr 0) (BitVec.ofNat 32 (fieldAt bs (4 * i) 4))
  let s := forAll (List.range 6) s fun s i =>
    s.setReg ((F.CAL_IDLE.at i).addr 0) (BitVec.ofNat 32 (fieldAt bs (32 + 4 * i) 4))
  s.setFlag (H.PAGE_LOCK_LOCK B.CAL) 0 true

/-- The part of a SPEED section that lives in IMG. -/
def State.loadPeriods (s : State) (bs : List Byte) : State :=
  if bs.isEmpty then s
  else forAll (List.range 16) s fun s c =>
    s.setReg ((F.APR_SC_PERIOD.at c).addr 0) (BitVec.ofNat 32 (fieldAt bs (16 * c) 4))

/-- The sections of a type, and the one SPEED section, of the image in the bundle region. -/
def State.bundleSections (s : State) (typ : Nat) : List (List Byte) :=
  (s.bundle.sections.filter fun x => x.typ == typ).map fun x => s.lmemBytes (s.bundleBase + x.offset) x.length

def State.speedSection (s : State) : List Byte := (s.bundleSections 5).headD []

/-- Does a pair name a page in IMG or BLN (R270)? -/
def pairDeferred (p : Nat × Word) : Bool :=
  match domOf (blkOf p.1) (if isPrism (instOf p.1) then 0 else instOf p.1) with
  | .img => true
  | .bln _ => true
  | _ => false

/-- A verified bundle placed and applied: at BOOT up to the first pair that names IMG or BLN. -/
def State.acceptBundle (s : State) (img : List Byte) : State :=
  let ss := sectionTable img
  let of := fun t => (ss.filter fun x => x.typ == t).map fun x => (x.id, x.bytes img)
  let one := fun t => ((of t).head?.map (·.2)).getD []
  let speed := one 5
  let s := s.storeLmem s.bundleBase img
  let s := { s with bundle := { s.bundle with
    ok := true, enc := bhEnc img, digest := bundleDigest img, sections := ss
    fusBase := (List.range 16).map fun c => fieldAt speed (16 * c + 4) 4
    fusGsm := (List.range 16).map fun c => fieldAt speed (16 * c + 8) 4
    laws := of 3, faultPol := one 6, calLim := one 7, loading := none, delay := s.bundle.delay } }
  let s := if (of 2).isEmpty then s else s.loadSeqprog (one 2)
  let s := (of 3).foldl (fun s x => s.loadLaw x.1 x.2) s
  let s := if (of 6).isEmpty then s else s.loadFaultPol (one 6)
  let s := if (of 7).isEmpty then s else s.loadCallim (one 7)
  let pairs := (of 1).flatMap fun x => regsPairs x.2
  let now := if s.domOn .img then pairs else pairs.takeWhile fun p => !pairDeferred p
  let s := if s.domOn .img then s.loadPeriods speed else s
  let s := now.foldl State.applyPair { s with bundle := { s.bundle with deferred := pairs.drop now.length } }
  let s := (s.setReg (F.SEC_CFG_ID.addr 0) (BitVec.ofNat 32 (bhCfgId img))).setRegBytes F.SEC_BUNDLE_DIG (bundleDigest img) 12
  let s := if bit (bhFlags img) 1 ∧ (s.keepWord kwMinver).toNat < bhVersion img then
      s.keepStore kwMinver (BitVec.ofNat 32 (bhVersion img))
    else s
  s.event B.SEC 0 2

/-- What was deferred is applied as the last act of leaving BOOT: class periods, the remaining pairs, and the calibration
records of domains now on (R270, R389). -/
def State.applyDeferred (s : State) : State :=
  let ps := s.bundle.deferred
  let s := if s.bundle.ok then s.loadPeriods s.speedSection else s
  (ps.foldl State.applyPair { s with bundle := { s.bundle with deferred := [] } }).calConfig

/-! ### BUNDLE_PUSH, BUNDLE_LOAD_DONE -/

/-- BUNDLE_PUSH. -/
def execBundlePush (s : State) : Host.Outcome State Fault Refusal :=
  .next (s.finish (s.onPage B.SEC 0 F.SEC_BUNDLE_CTRL.off fun s =>
    if s.domOn .sec then bundlePush s else s))

/-- LMEM can hold the bundle: the fill runs or has run (R306, R314). -/
def State.lmemThere (s : State) : Bool := s.domOn .mem && (s.flag F.MEM_STAT_FILLING 0 || s.aon.fillDone)

/-- The sampling delay BOOT chooses: the centre of the settings, 0 to 15 in 0.25 ns steps, that read the SFDP signature. Of an
even number of steps the lower middle one (R410; assumption 123). -/
def flashDelay (sfdp : BitVec 16) : Option Nat :=
  let ok := (List.range 16).filter fun i => sfdp.getLsbD i
  match ok.head?, ok.getLast? with
  | some lo, some hi => some ((lo + hi) / 2)
  | _, _ => none

/-- The image a load reads: from flash as `flash` gives it (none: no flash answers, or a read fails) when its signature could
be read, or from LMEM with the errors `errs`; with its error, if reading gives one. -/
def State.readBundle (s : State) (flash : Option (List Byte)) (errs : List CwErr) : State × (List Byte ⊕ Nat) :=
  match s.bundle.loading with
  | some (some a) =>
    let s := s.demand a 0x140 errs
    let h := s.lmemBytes a 0x140
    if s.poisoned a 0x140 then (s, .inr bePoison)
    else if !headerLayout h then (s, .inr beLayout)
    else
      let n := bhTotal h
      let s := s.demand a n errs
      (s, if s.poisoned a n then .inr bePoison else .inl (s.lmemBytes a n))
  | _ =>
    (s, match flash with
      | some img => if s.lmemThere ∧ s.bundle.delay.isSome then .inl img else .inr beFlash
      | none => .inr beFlash)

/-- BUNDLE_LOAD_DONE: a load ends. `sfdp`: the delay settings with which a load from flash found the signature. -/
def bundleLoadDone (sfdp : BitVec 16) (flash : Option (List Byte)) (errs : List CwErr) (s : State) : State :=
  if !s.domOn .sec ∨ s.bundle.loading.isNone then s
  else
    let s := if s.bundle.loading = some none then { s with bundle := { s.bundle with delay := flashDelay sfdp } } else s
    let (s, img) := s.readBundle flash errs
    let s := (s.setFlag F.SEC_BUNDLE_CTRL_PUSH 0 false).setFlag F.SEC_BUNDLE_STAT_BUSY 0 false
    let out : List Byte ⊕ Nat := match img with
      | .inr e => .inr e
      | .inl b => s.verifyBundle b
    match out with
    | .inl b => (s.setFld F.SEC_BUNDLE_STAT_ERR 0 0).acceptBundle b
    | .inr e =>
      let boot := s.bundle.loading == some none
      let s := { s with bundle := { s.bundle with loading := none } }
      let s := (s.setFld F.SEC_BUNDLE_STAT_ERR 0 e).event B.SEC 0 3
      if boot then s.raiseFault 340 else s

def execBundleLoadDone (flash : Option (List Byte)) (errs : List CwErr) (s : State) (sfdp : BitVec 16 := 0xFFFF) :
    Host.Outcome State Fault Refusal := .next (s.finish (bundleLoadDone sfdp flash errs s))

end Sys2Proof.Machine
end

