-- ==== Sys2Proof/Machine/Operands.lean ====
section
/-! DEFINITION. Register reads: what each register shows where `regs` does not hold it as it reads, the 64-bit counters and
their latches, and the effects of the reads that have one (R6, R7, R9 to R12, R14, R18, R172, R178, R348). -/

namespace Sys2Proof.Machine

/-! ### Access paths -/

/-- Path numbers of the latches of R7. -/
def pathNum : Path → Nat
  | .host => 0 | .cascade => 1 | .eyepiece => 2

/-! ### 64-bit counters (R7) -/

/-- The pairs that the spec calls 64-bit counters: block, first and last instance, offset of the low word. -/
def counterRows : List (Nat × Nat × Nat × Nat) :=
  [(B.SYS, 0, 0, F.SYS_MODE_TIME_LO.off), (B.APR, 0, 0, F.APR_LAST_SERIAL_LO.off), (B.APR, 0, 0, F.APR_POS_LO.off),
   (B.FST, 0, 0, F.FST_REC_ADDR_LO.off), (B.FST, 0, 0, F.FST_REC_MISS_LO.off), (B.DEC, 0, 5, F.DEC_BAD_ADDR_LO.off),
   (B.ENC, 0, 0, F.ENC_COMP_LO.off), (B.FAC, 0, 5, F.FAC_BD_TS_LO.off), (B.ATT, 0, 0, F.ATT_CTR_LO.off),
   (B.ATT, 0, 0, F.ATT_CEIL_LO.off), (B.MOT, 0, 23, F.MOT_LPOS_LO.off), (B.PGN, 0, 31, F.PGN_POS_LO.off),
   (B.PGN, 0, 31, F.PGN_CAP_LO.off), (B.LUP, 0, 3, F.LUP_TTIME_LO.off), (B.MNS, 0, 0, F.MNS_EVT_TIME_LO.off),
   (B.PWR, 0, 47, F.PWR_RAIL_FTIME_LO.off), (B.ECC, 0x10, 0x10, F.ECC_SCRUB_POS_LO.off),
   (B.ECC, 0x10, 0x10, F.ECC_TBL_ADDR_LO.off), (B.ECC, 0x10, 0x10, F.ECC_UE_ADDR_LO.off),
   (B.DMA, 0, 15, F.DMA_REMAIN_LO.off), (B.DMA, 0, 15, F.DMA_ERR_ADDR_LO.off), (B.FLT, 0x10, 0x10, F.FLT_GRAVE_TIME_LO.off),
   (B.HST, 0, 0, F.HST_ACC_ADDR_LO.off)]

/-- Is there a counter whose low word is at this offset? -/
def isCounter (blk inst off : Nat) : Bool :=
  counterRows.any fun r => r.1 == blk && decide (r.2.1 ≤ inst) && decide (inst ≤ r.2.2.1) && r.2.2.2 == off

/-! ### Views -/

/-- PAGE_STATUS.READY: EN = 1 and the domain on, and what the block's chapter asks (R14, R42, R101, R153). -/
def State.pageReady (s : State) (blk inst : Nat) : Bool :=
  s.flag (H.PAGE_CTRL_EN blk) inst && s.pageOn blk inst
    && (if blk = B.FMT then s.fmtReady inst else if blk = B.BLN then s.blnReady inst else true)

/-- An operation of the block runs, as its own registers show it (R14; assumption 85). -/
def State.operates (s : State) (blk inst : Nat) : Bool :=
  if blk = B.FST then s.flag F.FST_STAT_OPENING 0
  else if blk = B.DEC then s.fld F.DEC_STAT_LANE_BUSY inst != 0
  else if blk = B.ENC then s.encBusy || s.flag F.ENC_STAT_SAVING 0 || s.enc.loupe.isSome
  else if blk = B.COR then s.flag F.COR_STAT_BUSY inst
  else if blk = B.SEC then s.flag F.SEC_CMD_STAT_BUSY 0 || s.flag F.SEC_BUNDLE_STAT_BUSY 0
  else if blk = B.ATT then s.flag F.ATT_STAT_CKPT_BUSY 0
  else if blk = B.LUP then s.luState inst == 3
  else if blk = B.SEQ then s.flag F.SEQ_STAT_RUN 0
  else if blk = B.MEM then s.flag F.MEM_STAT_FILLING 0
  else if blk = B.DMA then (if inst = 0x10 then s.dmaBusy != 0 else s.dmState inst != dmIdle)
  else if blk = B.CAL then s.flag F.CAL_STAT_BUSY 0
  else if blk = B.KPS then s.flag F.KPS_STAT_BUSY 0
  else false

/-- PAGE_STATUS (R14). -/
def State.pageStatus (s : State) (blk inst : Nat) : Nat :=
  (if s.fltStat blk inst ≠ 0 then 4 else 0)
    + (if s.flag (H.PAGE_STATUS_BUSY blk) inst || s.operates blk inst then 2 else 0)
    + (if s.pageReady blk inst then 1 else 0)

/-- SYS_MODE_STAT (R27). -/
def State.modeStat (s : State) : Nat :=
  let pend := match s.sys.pend with
    | some p => p.code
    | none => if s.sys.drainIdle then Mode.idle.code else 0
  s.sys.refuse % 16 * 2 ^ 16 + (if s.zpend ≠ 0 then 2 ^ 15 else 0) + (if s.aon.fillDone then 2 ^ 14 else 0)
    + (if s.bundle.ok then 2 ^ 13 else 0) + (if s.sys.trans.isSome then 2 ^ 12 else 0) + pend * 2 ^ 8
    + s.sys.prev.code * 2 ^ 4 + s.sys.mode.code

/-- KPS_WEAR of the selected word (R398). -/
def State.kpsWear (s : State) : Nat :=
  let w := s.fld F.KPS_SEL_WORD 0
  let n := s.keep.wear.get (fun _ => 0) w
  (if s.keepWorn w then 2 ^ 31 else 0) + (if w ∈ s.keep.warned then 2 ^ 30 else 0) + min n 200000

/-- The correctable-table entry ECC_TBL_SEL names (R312). -/
def State.tblEntry (s : State) : Option EccEntry := s.ecc.table.get (fun _ => none) (s.fld F.ECC_TBL_SEL_ENTRY 0x10)

/-- ECC_TBL_INFO. -/
def State.tblInfo (s : State) : Nat := match s.tblEntry with
  | none => 0
  | some e => 2 ^ 31 + e.rank % 2 * 2 ^ 30 + e.channel % 4 * 2 ^ 28 + e.device % 32 * 2 ^ 23 + min e.hits 0xFFFF

/-- ECC_DEV_CNT of the selected device of a channel (R305, R323). -/
def State.devCnt (s : State) (ch : Nat) : Nat :=
  let d := s.fld F.ECC_DEV_SEL_DEVICE ch
  let k := (ch * 2 + s.fld F.ECC_DEV_SEL_RANK ch) * 32 + d
  if 19 < d then 0
  else min (s.ecc.window.get (fun _ => 0) k) 0xFFFF * 2 ^ 16 + min (s.ecc.total.get (fun _ => 0) k) 0xFFFF

/-- Word `j` of INT_PEND or INT_ACT of an INT page: the sources in one of two states (R352). -/
def State.intBits (s : State) (i j : Nat) (p : Nat → Bool) : Nat :=
  ((List.range 32).filter fun b => p (s.intState (128 * i + 32 * j + b))).foldl setBit 0

/-- ATT_STAT: PEND reads 0 while IMG is off (R418). -/
def State.attStat (s : State) : Word :=
  let w := s.reg (F.ATT_STAT.addr 0)
  if s.domOn .img then w else putBits w F.ATT_STAT_PEND.lo F.ATT_STAT_PEND.len 0

/-- CTL_CTRL: SWAP reads PEND (R236). -/
def State.ctlCtrl (s : State) (n : Nat) : Nat :=
  (if s.flag F.CTL_CTRL_EN n then 1 else 0) + (if s.flag F.CTL_STAT_PEND n then 2 else 0)

/-- What one register shows of SYS, APR's page 0, FST, SEC, ATT, DBG and KPS; none where it reads as `regs` holds it. -/
def State.viewFrames (s : State) (blk off k : Nat) : Option Word :=
  let nat := fun (v : Nat) => some (BitVec.ofNat 32 v)
  if blk = B.SYS then (if off = F.SYS_MODE_STAT.off then nat s.modeStat else none)
  else if blk = B.APR then
    if off = F.APR_STAT.off then nat s.aprStat
    else if off = F.APR_POS_LO.off then nat (unsign s.pos 64)
    else if off = F.APR_POS_HI.off then nat (unsign s.pos 64 / 2 ^ 32)
    else if off = F.APR_CTX_STATE.off then nat s.ctxState
    else if off = F.APR_CTX_REASON.off then nat s.selCtx.reason
    else if off = F.APR_STN_DIST.off ∧ k = 0 then some 0
    else none
  else if blk = B.FST then
    if off = F.FST_REC_ADDR_LO.off then nat ((s.selRec.map (·.addr)).getD 0)
    else if off = F.FST_REC_ADDR_HI.off then nat ((s.selRec.map (·.addr)).getD 0 / 2 ^ 32)
    else if off = F.FST_REC_INFO.off then nat s.recInfo
    else if off = F.FST_REC_BLOCKS.off then nat s.recBlocks
    else if off = F.FST_REC_ERRS.off then nat s.recErrs
    else if off = F.FST_REC_MISS_LO.off then nat s.recMiss
    else if off = F.FST_REC_MISS_HI.off then nat (s.recMiss / 2 ^ 32)
    else none
  else if blk = B.SEC then
    if off = F.SEC_STAT.off then nat s.secStat
    else if off = F.SEC_EPOCH.off then nat s.epoch
    else if off = F.SEC_MINVER.off then some (s.keepWord kwMinver)
    else if off = F.SEC_TOKEN.off ∨ off = F.SEC_BEK.off then some 0
    else if off = F.SEC_OWNER.off then some (s.ownerWord k)
    else if off = F.SEC_IDPUB.off then some (s.idpubWord k)
    else none
  else if blk = B.ATT then
    if off = F.ATT_STAT.off then some s.attStat
    else if off = F.ATT_CEIL_LO.off then nat s.ckptCeil
    else if off = F.ATT_CEIL_HI.off then nat (s.ckptCeil / 2 ^ 32)
    else if off = F.ATT_GAP_CNT.off then some (s.keepWord kwGap)
    else none
  else if blk = B.DBG then
    (if off = F.DBG_STAT.off ∨ off = F.DBG_IDCODE.off ∨ s.dbgOpen then none else some 0)
  else if blk = B.KPS then
    if off = F.KPS_DATA.off then some (s.kpsShow (s.fld F.KPS_SEL_WORD 0))
    else if off = F.KPS_WEAR.off then nat s.kpsWear
    else none
  else none

/-- The same of the station, motion, loop, memory and supply pages. -/
def State.viewMachine (s : State) (blk i off k : Nat) : Option Word :=
  let nat := fun (v : Nat) => some (BitVec.ofNat 32 v)
  if blk = B.DEC then
    (if off = F.DEC_STAT.off then nat (s.fld F.DEC_STAT_CTX i * 2 ^ 16 + s.laneBusy i) else none)
  else if blk = B.FMT then (if off = F.FMT_LVLW.off ∧ k = 0 then some (s.reg (F.FMT_LVLW.addr i) &&& 0xFFFFFFE0) else none)
  else if blk = B.COR then
    if off = F.COR_NODE_DATA.off then nat (s.corNodeData i)
    else if off = F.COR_DIGEST.off then nat (s.corDigest i k)
    else none
  else if blk = B.BLN then
    if off = F.BLN_APC_DATA.off then some (s.apcData i)
    else if off = F.BLN_ID_DATA.off then nat (s.idData i)
    else none
  else if blk = B.MOT then
    (if 8 ≤ i ∧ (off = F.MOT_ENC.off ∨ off = F.MOT_XSCALE.off ∨ off = F.MOT_ENCPOS.off ∨ off = F.MOT_LPOS_LO.off
        ∨ off = F.MOT_LPOS_HI.off) then some 0 else none)
  else if blk = B.STP then (if off = F.STP_POS.off then some (s.stPos i) else none)
  else if blk = B.CTL then
    if i = 0x60 then
      (if off = F.CTL_ENG_LOAD.off then nat s.engLoad else if off = F.CTL_ENG_CONV.off then nat s.engConv else none)
    else if off = F.CTL_CTRL.off then nat (s.ctlCtrl i) else none
  else if blk = B.HVO then
    (if i = 0x20 then (if off = F.HVO_SYNC.off then some 0 else none)
     else if off = F.HVO_DEMAND.off then nat (s.hvDemandNow i) else none)
  else if blk = B.HTR then
    (if i = 8 ∧ off = F.HTR_THR_STAT.off then
      some (putBits (s.reg (F.HTR_THR_STAT.addr 8)) F.HTR_THR_STAT_REMAIN.lo F.HTR_THR_STAT_REMAIN.len s.thrRemain)
     else none)
  else if blk = B.PWR then
    if i = 0x40 then none
    else if off = F.PWR_RAIL_CFG.off then nat (s.railCfg i)
    else if off = F.PWR_RAIL_UV.off then nat (s.railUv i)
    else if off = F.PWR_RAIL_OV.off then nat (s.railOv i)
    else none
  else if blk = B.SEQ then
    if off = F.SEQ_STAT.off then some s.seqStat
    else if off = F.SEQ_CFG.off then nat (if s.syncEn then 1 else 0)
    else if off = F.SEQ_PROG_DATA.off then nat (s.stepWord (s.fld F.SEQ_PROG_SEL 0 % 256))
    else if off = F.SEQ_ENTRY.off then nat (s.entryDn k * 256 + s.entryUp k)
    else none
  else if blk = B.FED then
    if off = F.FED_STAT.off then
      some (putBits (s.reg (F.FED_STAT.addr i)) F.FED_STAT_PUMP.lo 1 (if s.fedPump i then 1 else 0))
    else if off = F.FED_CFG.off then some (s.keepWord (kwFeed i 0))
    else if off = F.FED_VTH.off then some (s.keepWord (kwFeed i 1))
    else if off = F.FED_BTH.off then some (s.keepWord (kwFeed i 2))
    else if off = F.FED_ITH.off then some (s.keepWord (kwFeed i 3))
    else none
  else if blk = B.ECC then
    if i = 0x10 then
      if off = F.ECC_TBL_ADDR_LO.off then nat ((s.tblEntry.map (·.addr)).getD 0)
      else if off = F.ECC_TBL_ADDR_HI.off then nat ((s.tblEntry.map (·.addr)).getD 0 / 2 ^ 32)
      else if off = F.ECC_TBL_INFO.off then nat s.tblInfo
      else none
    else if !s.channelOn i then some 0
    else if off = F.ECC_DEV_CNT.off then nat (s.devCnt i) else none
  else if blk = B.DMA then (if i = 0x10 ∧ off = F.DMA_BUSY.off then nat s.dmaBusy else none)
  else if blk = B.FLT then
    if i = 0x10 then
      (if off = F.FLT_GSTAT.off then nat s.fltGstat else if off = F.FLT_LOG_DATA.off then nat (s.logData k) else none)
    else none
  else if blk = B.INT then
    if i ≤ 3 then
      if off = F.INT_PEND.off then nat (s.intBits i k fun x => x == 1 || x == 3)
      else if off = F.INT_ACT.off then nat (s.intBits i k fun x => x == 2 || x == 3)
      else none
    else if i = 0x10 ∧ off = F.INT_SWI.off then some 0
    else none
  else none

/-- What a register of a block shows. `r`: its row of the tables; `k`: its index there; `off`: its page offset. -/
def State.showReg (s : State) (blk i off : Nat) (r : RegRow) (k : Nat) : Word :=
  let v := if blk = B.APR ∧ i ≠ 0 then none
    else match s.viewFrames blk r.off k with
      | some w => some w
      | none => s.viewMachine blk i r.off k
  match v with
  | some w => w
  | none => s.reg (regAddr blk i off)

/-- What a page shows at an offset, but for effects of the read (R12, R14). -/
def State.showPage (s : State) (blk i off : Nat) : Word :=
  if off = 0x00C then BitVec.ofNat 32 (s.pageStatus blk i)
  else if off = 0x01C then BitVec.ofNat 32 (s.fltStat blk i)
  else if off < 0x028 then s.reg (regAddr blk i off)
  else if off < 0x040 then 0
  else match rowAt blk i off with
    | some (r, k) => s.showReg blk i off r k
    | none => 0

/-! ### Reads -/

/-- The low word of a counter read on a path: its high word is latched for that path (R7). -/
def State.readLow (s : State) (path : Path) (blk i off : Nat) : State :=
  let l := s.latches.set (fun _ => 0) (pathNum path * 2 ^ 27 + regAddr blk i off) (s.showPage blk i (off + 4))
  { s with latches := l }.answer (s.showPage blk i off)

/-- The high word of a counter read on a path: what that path latched, 0 if nothing (R7). -/
def State.readHigh (s : State) (path : Path) (blk i off : Nat) : State :=
  s.answer (s.latches.get (fun _ => 0) (pathNum path * 2 ^ 27 + regAddr blk i (off - 4)))

/-- A read that reaches one page. -/
def State.readPage (s : State) (path : Path) (blk i off : Nat) : State :=
  if isCounter blk i off then s.readLow path blk i off
  else if 4 ≤ off ∧ isCounter blk i (off - 4) then s.readHigh path blk i off
  else if blk = B.INT ∧ 0x20 ≤ i ∧ off = F.INT_TGT_CLAIM.off then s.claim (i - 0x20)
  else if blk = B.DBG ∧ off = F.DBG_WIN_DATA.off then s.winRead
  else
    let s := if blk = B.KPS ∧ off = F.KPS_DATA.off then s.kpsWait else s
    s.answer (s.showPage blk i off)

/-- The bytes that byte enables name, of a word. -/
def beBytesOf (be : BitVec 4) (w : Word) : List Byte :=
  ((List.range 4).filter fun i => be.getLsbD i).map fun i => BitVec.ofNat 8 (w.toNat / 256 ^ i)

/-- The word an access returns, cut down to the bytes addressed (R6). -/
def State.narrow (s : State) (be : BitVec 4) : State :=
  if be = 15 then s
  else
    let w := s.reply.word
    let cut := BitVec.ofNat 32 (((List.range 4).filter fun i => be.getLsbD i).foldl
      (fun v i => v + w.toNat / 256 ^ i % 256 * 256 ^ i) 0)
    { s with reply := { word := cut, bytes := beBytesOf be w, poisoned := false } }

/-- An access of any size made of accesses of one register (R6): fewer than four bytes with the effects of a full read, and
64 bits as two accesses, lower address first, of which the lower gives the word. -/
def State.sized (s : State) (sz : Size) (a : Nat) (rd : State → Nat → State) : State := match sz with
  | .part be => (rd s a).narrow be
  | .word => rd s a
  | .double =>
    let s := rd s a
    let lo := s.reply.word
    let s := rd s (a + 4)
    { s with reply := { word := lo, bytes := beBytesOf 15 lo ++ beBytesOf 15 s.reply.word, poisoned := false } }

/-- A read of a BAR 0 offset (R7, R9, R10, R12, R18, R355): an absent instance, an off page, and a group without a member
read 0. -/
def State.readAddr (s : State) (path : Path) (addr : Nat) : State :=
  let addr := addr % 2 ^ 27 / 4 * 4
  let blk := blkOf addr
  let inst := instOf addr
  let one := fun (i : Nat) => if s.pageOn blk i then s.readPage path blk i (offOf addr) else s.answer 0
  if blk = 0x7F then s.answer (if instOf addr < 5 then s.reg addr else 0)
  else if isPrism inst then
    match s.members blk inst with
    | [] => s.answer 0
    | i :: _ => one i
  else if pageExists blk inst then one inst
  else s.answer 0

end Sys2Proof.Machine
end

