-- ==== Sys2Proof/Machine/Host.lean ====
section
/-! DEFINITION. The host's side: register accesses through BAR 0, BAR 4 and SECACC, ring-wide writes, link events, and PCIe
errors (R6, R7, R10, R14, R16, R38, R172, R232, R349, R355, R358 to R362, R364 to R367, R374, R381). -/

namespace Sys2Proof.Machine

/-! ### Writes -/

/-- PRS_RING carries a write of this instance field ring-wide (R366). -/
def State.ringSelected (s : State) (inst : Nat) : Bool :=
  if inst = 0xFF then s.flag F.PRS_RING_ALL 0
  else decide (0xE0 ≤ inst ∧ inst ≤ 0xEF) && bit (s.fld F.PRS_RING_GRP 0) (inst - 0xE0)

/-- A write through BAR 0 (R6, R9 to R12, R14, R18, R24, R360, R361, R364, R366, R367). `be`: its byte enables; `ep`: the
TLP is poisoned. While 255 ring-wide writes are out, flow control holds it back: it has not arrived. -/
def hostWrite (addr : Nat) (be : BitVec 4) (ep : Bool) (v : Word) (s : State) : State :=
  let a := addr % bar0Size
  if !s.hostPath || s.fld F.PRS_STAT_OUT 0 == 255 then s
  else if ep then (s.emit (.aer 0)).raiseFault 309
  else if be ≠ 15 then s.accErr 1 0 true 0 a
  else if s.sys.mode = .lockdown then s.accErr 8 0 true 0 a
  else
    let t := s.writeAddr false a v fun s c => s.accErr c 0 true 0 a
    if blkOf a ≠ 0x7F ∧ s.ringSelected (instOf a) then t.ringWide (a / 4 * 4) v else t

/-- The upper half of a 64-bit write, which follows the lower (R6). A poisoned write is discarded whole, once. -/
def upperHalf (ep : Bool) (hi : Option (BitVec 4 × Word)) (wr : BitVec 4 → Word → State → State) (s : State) : State :=
  match hi with
  | some (be, v) => if ep then s else wr be v s
  | none => s

/-- HOST_REG_WRITE. `hi`: byte enables and value of the upper half of a 64-bit write. -/
def execHostRegWrite (addr : Nat) (be : BitVec 4) (ep : Bool) (v : Word) (s : State)
    (hi : Option (BitVec 4 × Word) := none) :
    Host.Outcome State Fault Refusal :=
  .next (s.finish (upperHalf ep hi (fun be v => hostWrite (addr + 4) be ep v) (hostWrite addr be ep v s)))

/-- PRISM_WRITE: `inst` is 0xE0 + g, or 0xFF. -/
def execPrismWrite (blk inst off : Nat) (v : Word) (s : State) : Host.Outcome State Fault Refusal :=
  .next (s.finish (if isPrism inst then hostWrite (regAddr blk inst off) 15 false v s else s))

def execEvtForceWrite (blk inst : Nat) (v : Word) (s : State) : Host.Outcome State Fault Refusal :=
  .next (s.finish (hostWrite (regAddr blk inst 0x018) 15 false v s))

/-- PAGE_GROUP_WRITE: through a group address it reaches those that were members when it arrived (R16). -/
def execPageGroupWrite (blk inst : Nat) (v : Word) (s : State) : Host.Outcome State Fault Refusal :=
  .next (s.finish (hostWrite (regAddr blk inst 0x024) 15 false v s))

/-- RING_TAIL_WRITE: of a ring whose tail the host owns (R38, R56, R375). -/
def execRingTailWrite (r v : Nat) (s : State) : Host.Outcome State Fault Refusal :=
  .next (s.finish (s.onPage B.APR (ringInst r) F.RING_TAIL.off fun s =>
    if r ≤ 31 ∧ hostTail r then (s.writeTail r v).msgPump else s))

/-- RING_CTRL_WRITE: an enabled message ring sends what waits on it (R375). -/
def execRingCtrlWrite (r : Nat) (v : Word) (s : State) : Host.Outcome State Fault Refusal :=
  .next (s.finish (s.onPage B.APR (ringInst r) F.RING_CTRL.off fun s =>
    if r ≤ 31 then (s.writeRingCtrl r v).msgPump else s))

/-! ### Reads -/

/-- A path can be used: the host's while its link is up in D0, the cascade's while the node takes part, and the Eyepiece's
while the debug session is open. -/
def State.pathOpen (s : State) (path : Path) : Bool := match path with
  | .host => s.hostPath
  | .cascade => s.casActive
  | .eyepiece => s.domOn .sec && s.dbgOpen

/-- COUNTER_LOW_READ: `addr` is the BAR 0 offset of a counter's low word. -/
def counterLowRead (path : Path) (addr : Nat) (sz : Size) (s : State) : State :=
  let a := addr % bar0Size
  if s.pathOpen path ∧ isCounter (blkOf a) (instOf a) (offOf a) then s.sized sz a fun s a => s.readAddr path a else s

/-- COUNTER_HIGH_READ: `addr` is the BAR 0 offset of a counter's high word. -/
def counterHighRead (path : Path) (addr : Nat) (sz : Size) (s : State) : State :=
  let a := addr % bar0Size
  if s.pathOpen path ∧ 4 ≤ offOf a ∧ isCounter (blkOf a) (instOf a) (offOf a - 4) then
    s.sized sz a fun s a => s.readAddr path a
  else s

def execCounterLowRead (path : Path) (addr : Nat) (s : State) (sz : Size := .word) : Host.Outcome State Fault Refusal :=
  .next (s.finish (counterLowRead path addr sz s))
def execCounterHighRead (path : Path) (addr : Nat) (s : State) (sz : Size := .word) : Host.Outcome State Fault Refusal :=
  .next (s.finish (counterHighRead path addr sz s))

/-- PRISM_READ (R10). The table has no row for a read of one instance's register: this one takes any instance
(assumption 86). -/
def execPrismRead (path : Path) (blk inst off : Nat) (s : State) (sz : Size := .word) : Host.Outcome State Fault Refusal :=
  .next (s.finish (if s.pathOpen path then s.sized sz (regAddr blk inst off) fun s a => s.readAddr path a else s))

/-- SECACC: an access of the SEC or DBG page over the TAP (R172). LOCKDOWN takes writes for token commands only (R24). -/
def secacc (write : Bool) (addr : Nat) (v : Word) (s : State) : State :=
  let a := addr % bar0Size / 4 * 4
  if !s.tapOn then s
  else
    let s := s.tapLoad 0x10 false
    if (blkOf a ≠ B.SEC ∧ blkOf a ≠ B.DBG) ∨ instOf a ≠ 0 then (if write then s else s.answer 0)
    else if !write then s.readAddr .eyepiece a
    else if !s.tapTakes (blkOf a) (offOf a) then s
    else s.writeAddr true a v fun s _ => s

def execSecacc (write : Bool) (addr : Nat) (v : Word) (s : State) : Host.Outcome State Fault Refusal :=
  .next (s.finish (secacc write addr v s))

/-! ### BAR 4 (R358, R368, R374) -/

/-- Node of a BAR 4 offset. -/
def bar4Node (off : Nat) : Nat := off / 2 ^ 27 % 64

/-- Another node can be reached: the cascade carries traffic, and the node is present. -/
def State.nodeReach (s : State) (k : Nat) : Bool := s.casActive && s.casPresent k

/-- BAR4_WRITE: local at this node's own ID, else sent as WR; to an absent node it is discarded as REMOTE. -/
def bar4Write (off : Nat) (be : BitVec 4) (ep : Bool) (v : Word) (s : State) : State :=
  let k := bar4Node off
  let a := off % bar0Size
  let err := fun (s : State) (c : Nat) => if k = s.nodeId then s.accErr c 0 true 0 a else s.accErr c 2 true k off
  if !s.hostPath || s.fld F.PRS_STAT_OUT 0 == 255 then s
  else if ep then (s.emit (.aer 0)).raiseFault 309
  else if be ≠ 15 then err s 1
  else if s.sys.mode = .lockdown then err s 8
  else if k = s.nodeId then s.writeAddr false a v fun s c => s.accErr c 0 true 0 a
  else if s.nodeReach k then
    s.sendTo (s.mkPacket 0x01 k 0 (leBytes 4 (a / 4 * 4) ++ leBytes 4 v.toNat))
  else s.accErr 7 2 true k off

/-- BAR4_WRITE. `hi`: byte enables and value of the upper half of a 64-bit write. -/
def execBar4Write (off : Nat) (be : BitVec 4) (ep : Bool) (v : Word) (s : State)
    (hi : Option (BitVec 4 × Word) := none) :
    Host.Outcome State Fault Refusal :=
  .next (s.finish (if off < bar4Size then
    upperHalf ep hi (fun be v => bar4Write (off + 4) be ep v) (bar4Write off be ep v s) else s))

/-- The lowest tag that no waiting read uses. -/
def State.freeTag (s : State) : Option Nat := (List.range pciFunction.tags).find? fun t => s.cas.reads.all fun r => r.tag != t

/-- BAR4_READ: local, or an RD whose answer is awaited; a node that cannot be reached reads 0 as REMOTE. With every tag in
use the read waits at the link. -/
def bar4Read (off : Nat) (be : BitVec 4) (s : State) : State :=
  let k := bar4Node off
  let a := off % bar0Size
  if !s.hostPath then s
  else if k = s.nodeId then s.readAddr .host a
  else if s.nodeReach k then
    match s.freeTag with
    | none => s
    | some t =>
      let s := { s with cas := { s.cas with reads := s.cas.reads ++ [RemoteRead.mk t k (a / 4 * 4) be s.now] } }
      s.sendTo (s.mkPacket 0x02 k t (leBytes 4 (a / 4 * 4) ++ leBytes 4 0))
  else (s.accErr 7 2 false k off).answer 0

/-- BAR4_READ. Over the cascade each half of a 64-bit access is a read of its own, answered by its own RDR. -/
def execBar4Read (off : Nat) (s : State) (sz : Size := .word) : Host.Outcome State Fault Refusal :=
  .next (s.finish (if off < bar4Size then
    (if bar4Node off = s.nodeId then s.sized sz off fun s a => bar4Read a 15 s
     else match sz with
      | .part be => bar4Read off be s
      | .word => bar4Read off 15 s
      | .double => bar4Read (off + 4) 15 (bar4Read off 15 s))
    else s))

/-- A waiting remote read completed with 0 as REMOTE (R374). -/
def State.remoteFail (s : State) (r : RemoteRead) : State :=
  let s := { s with cas := { s.cas with reads := s.cas.reads.filter (· ≠ r) } }
  (s.accErr 7 2 false r.node (r.node * 2 ^ 27 + r.off)).answer 0

/-- REMOTE_READ_TIMEOUT: the oldest read has waited tREMTO. -/
def remoteReadTimeout (s : State) : State :=
  match s.cas.reads with
  | [] => s
  | r :: _ =>
    if s.now < r.at_ + 50000 then s
    else (((s.remoteFail r).bump F.CAS_RD_TO_CNT 0).event B.CAS 0 6).raiseFault 327

def execRemoteReadTimeout (s : State) : Host.Outcome State Fault Refusal := .next (s.finish (remoteReadTimeout s))

/-! ### Link events (R349, R355, R359, R362, R381) -/

/-- Wake follows what targets can take (R349). -/
def State.rewake (s : State) : State := forAll (List.range 16) s State.wakeTgt

/-- What every loss of the link or reset of the function does: HST's registers but for the counters, the MSI-X structures,
and the DMA channels. `up`: the link itself stays up (FLR). -/
def State.hostReset (s : State) (up : Bool) : State :=
  let link := s.reg (F.HST_LINK.addr 0) &&& 0xFF1
  let keep := [F.HST_ACC_CNT.addr 0, F.HST_AER_CNT.addr 0]
  let s := { s with regs := s.regs.filter fun e =>
    (blkOf e.1 ≠ B.HST || decide (offOf e.1 < 0x040) || decide (e.1 ∈ keep)) && blkOf e.1 ≠ 0x7F }
  let s := { s.dmaAbortAll with ints := { s.ints with fnMask := false } }
  ((if up then s.setReg (F.HST_LINK.addr 0) link else s).raiseFault 306).rewake

/-- LINK_UP: the link trains, `width` lanes at `speed`. -/
def linkUp (width speed : Nat) (s : State) : State :=
  let s := (s.setReg (F.HST_LINK.addr 0) (BitVec.ofNat 32 (width * 2 ^ 8 + speed * 2 ^ 4 + 1))).event B.HST 0 0
  let s := if width < 8 ∨ speed < 5 then s.raiseFault 311 else s.dropFault 311
  s.drainRings.rewake

/-- The link is up. -/
def State.linkOn (s : State) : Bool := s.domOn .hst && s.flag F.HST_LINK_UP 0

def execLinkUp (width speed : Nat) (s : State) : Host.Outcome State Fault Refusal :=
  .next (s.finish (if s.domOn .hst ∧ ¬ s.flag F.HST_LINK_UP 0 ∧ width ∈ [1, 2, 4, 8] ∧ 1 ≤ speed ∧ speed ≤ 5 then
    linkUp width speed s else s))

/-- LINK_DOWN: F_305 outside D3 and HIBERNATE, where the domain is off (R362). -/
def linkDown (s : State) : State :=
  let s := if s.flag F.HST_LINK_D3 0 then s else s.raiseFault 305
  (s.hostReset false).event B.HST 0 1

def execLinkDown (s : State) : Host.Outcome State Fault Refusal := .next (s.finish (if s.linkOn then linkDown s else s))

def execHotReset (s : State) : Host.Outcome State Fault Refusal :=
  .next (s.finish (if s.linkOn then (s.hostReset false).event B.HST 0 2 else s))

def execFlr (s : State) : Host.Outcome State Fault Refusal :=
  .next (s.finish (if s.linkOn then (s.hostReset true).event B.HST 0 2 else s))

/-- PERST: with HST_CFG.PERST = 1, outside LOCKDOWN, a CRST reaction (R334, R359). -/
def perst (s : State) : State :=
  if s.flag F.HST_CFG_PERST 0 ∧ s.sys.mode ≠ .lockdown ∧ s.domMode ≠ .lockdown then
    let s := (s.raiseFault 306).event B.HST 0 2
    ((s.severeActs 384).severeMode causeHost).crstMode causeHost
  else (s.hostReset false).event B.HST 0 2

def execPerst (s : State) : Host.Outcome State Fault Refusal := .next (s.finish (if s.domOn .hst then perst s else s))

def execD3hotEntry (s : State) : Host.Outcome State Fault Refusal :=
  .next (s.finish (if s.linkOn then s.setFlag F.HST_LINK_D3 0 true else s))

def execD0Return (s : State) : Host.Outcome State Fault Refusal :=
  .next (s.finish (if s.linkOn then (s.setFlag F.HST_LINK_D3 0 false).drainRings else s))

def execBmeSet (s : State) : Host.Outcome State Fault Refusal :=
  .next (s.finish (if s.linkOn then ((s.setFlag F.HST_LINK_BME 0 true).drainRings).rewake else s))

def execBmeClear (s : State) : Host.Outcome State Fault Refusal :=
  .next (s.finish (if s.linkOn then (s.setFlag F.HST_LINK_BME 0 false).rewake else s))

/-- Pending vectors that are not masked are sent as MSI-X is enabled (R355: PCI Express's own rule). -/
def State.sendPendingVectors (s : State) : State :=
  forAll (List.range pciFunction.msixVectors) s fun s n =>
    if bit (s.reg (vecPend n)).toNat (n % 32) ∧ ¬ bit (s.reg (vecCtl n)).toNat 0 then
      (s.setReg (vecPend n) (putBits (s.reg (vecPend n)) (n % 32) 1 0)).emit (.msix n)
    else s

/-- MSIX_ENABLE_CHANGE: MSI-X Enable, and the Function Mask beside it, as now written (R346, R349). -/
def execMsixEnableChange (on : Bool) (s : State) (mask : Bool := false) : Host.Outcome State Fault Refusal :=
  .next (s.finish (if s.linkOn then
    let s := { s.setFlag F.HST_LINK_MSIX_EN 0 on with ints := { s.ints with fnMask := mask } }
    (if on ∧ ¬ mask then s.sendPendingVectors else s).rewake
  else s))

/-! ### PCIe errors (R360) -/

/-- PCIE_CPL_TIMEOUT: the DMA channel whose host read is not answered stops with SRCERR. -/
def execPcieCplTimeout (c : Option Nat) (s : State) : Host.Outcome State Fault Refusal :=
  .next (s.finish (if s.linkOn then
    let s := (s.emit (.aer 1)).raiseFault 308
    match c with
    | some c => if c < 16 ∧ s.sspace c = 1 ∧ (s.dma c).reading ≠ 0 then dmaResponse c false [] [] s else s
    | none => s
  else s))

def execPcieInternalError (s : State) : Host.Outcome State Fault Refusal :=
  .next (s.finish (if s.domOn .hst then (s.emit (.aer 2)).raiseFault 307 else s))

def execPcieCorrectableError (s : State) : Host.Outcome State Fault Refusal :=
  .next (s.finish (if s.domOn .hst then s.bump F.HST_AER_CNT 0 else s))

/-! ### Loupe (R232) -/

/-- The value of a node, by its BAR 0 offset: the register of a page in a powered domain, read with no side effect; else
0. -/
def State.nodeWord (s : State) (addr : Nat) : Word :=
  let blk := blkOf addr
  let i := instOf addr
  if blk = 0x7F then (if i < 5 then s.reg addr else 0)
  else if !isPrism i ∧ pageExists blk i ∧ s.pageOn blk i then s.showPage blk i (offOf addr)
  else 0

/-- The word a tick records: NODE_A, or the low halves of both nodes. -/
def State.lupWord (s : State) (b : Nat) : Word :=
  let x := s.nodeWord (s.fld F.LUP_NODE_A_OFS b * 4)
  if s.flag F.LUP_CFG_PACK b then
    let y := s.nodeWord (s.fld F.LUP_NODE_B_OFS b * 4)
    BitVec.ofNat 32 (y.toNat % 2 ^ 16 * 2 ^ 16 + x.toNat % 2 ^ 16)
  else x

/-- The tick that is due: the sample instant of the slot, or the end of a divider period, `late` ns ago: the nodes are
sampled within 16 ns of it (R232). Where the first divider period begins is the model's choice (assumption 112). -/
def State.lupDue (s : State) (b late : Nat) : Option Nat :=
  let last := (s.lup b).tickAt
  let tick := s.now - min 16 late
  if s.flag F.LUP_CFG_TICK b then
    match last with
    | some t => if t + 4 * s.lupTickPeriod b ≤ tick then some tick else none
    | none => some tick
  else
    let n := s.fld F.LUP_CFG_SLOT b
    if n < 96 ∧ s.sampleHere n ∧ last ≠ some (s.sampleInstant n) then some (s.sampleInstant n) else none

/-- LUP_TICK: a tick of a buffer records the word its nodes show. -/
def lupTick (b late : Nat) (s : State) : State := match s.lupDue b late with
  | some t => (s.setLup b { s.lup b with tickAt := some t }).lupRecord b t (s.lupWord b)
  | none => s

def execLupTick (b late : Nat) (s : State) : Host.Outcome State Fault Refusal :=
  .next (s.finish (if s.lupOn b then lupTick b late s else s))

end Sys2Proof.Machine
end

