-- ==== Sys2Proof/Machine/Cascade.lean ====
section
/-! DEFINITION. Packets received from the cascade, its timers, and its ports (R338, R368 to R380, R382, R383). -/

namespace Sys2Proof.Machine

/-! ### Per-hop delivery (R371) -/

/-- A neighbour packet of this node: TAG holds the HSEQ of an LACK or LNAK. -/
def State.hop (s : State) (b : Bool) (typ tag : Nat) : State := s.sendNeighbour b (s.mkPacket typ 0xFE tag [])

/-- The port can receive. -/
def State.canHear (s : State) (b : Bool) : Bool := s.casEnabled && s.domOn .cas && s.portUp b

/-- The ring is seen to be folded (R369): F_322 and CAS.FOLD at its beginning. -/
def State.setFold (s : State) : State :=
  if s.flag F.CAS_STAT_FOLD 0 then s else ((s.setFlag F.CAS_STAT_FOLD 0 true).event B.CAS 0 1).raiseFault 322

/-- A packet passed on out of the opposite port; one whose HOPS reaches 64 is dropped. -/
def State.passOn (s : State) (typ : Nat) (x : RxPacket) : State :=
  if 64 ≤ x.hops + 1 then s
  else s.putOut (!x.portB)
    { typ := typ, dst := x.dst, src := x.src, hseq := 0, reflected := x.reflected, cls := pktClass typ % 3
      hops := x.hops + 1, tag := x.tag, data := x.data }

/-- A packet of the classes arrives. One out of order is answered LNAK, and one already taken LACK again; neither is
delivered. Otherwise `deliver` is its effect at this node, when it is for it, and it is passed on when it is for others. Own
packets that return are absorbed: `home` is what that means. In BYPASS and DUP a node forwards what comes for its ID too, and
in DUP also what comes from its ID, which is another node's (R369). -/
def State.receive (s : State) (typ : Nat) (x : RxPacket) (home deliver : State → State) : State :=
  let q := s.cas.port x.portB
  if !s.canHear x.portB then s
  else if x.hseq ≠ q.hseqRx then
    let late := (q.hseqRx + 256 - x.hseq % 256) % 256
    if 1 ≤ late ∧ late ≤ 32 then s.hop x.portB 0x14 ((q.hseqRx + 255) % 256) else s.hop x.portB 0x15 q.hseqRx
  else
    let s := (s.setPort x.portB { q with hseqRx := (q.hseqRx + 1) % 256 }).hop x.portB 0x14 x.hseq
    let s := if x.reflected then s.setFold else s
    let acts := decide (s.casState < casBypass)
    if x.src = s.nodeId ∧ s.casState ≠ casDup then (if acts then home s else s)
    else
      let s := if x.dst = s.nodeId ∧ acts then s else s.passOn typ x
      if acts ∧ (x.dst = s.nodeId ∨ x.dst = 0xFF) then deliver s else s

/-- Delivered once: the key is that of R371. -/
def State.once (s : State) (key : Nat × Nat × Nat) (f : State → State) : State :=
  if key ∈ s.cas.seen then s else f { s with cas := { s.cas with seen := s.cas.seen ++ [key] } }

/-! ### Register accesses (R366 to R368, R374) -/

/-- This node applies a remote write of the page (R368). -/
def State.takesRemote (s : State) (addr : Nat) : Bool :=
  s.flag F.CAS_CFG_REMOTE_WR 0 && blkOf addr != B.SEC && blkOf addr != B.DBG && blkOf addr != B.KPS

/-- A write received from a node: applied, or an access error of the target (R24, R361, R368). -/
def State.remoteWrite (s : State) (src addr : Nat) (v : Word) : State :=
  if s.sys.mode = .lockdown then s.accErr 8 3 true src addr
  else if !s.takesRemote addr then s.accErr 9 3 true src addr
  else s.writeAddr false addr v fun s c => s.accErr c 3 true src addr

/-- Offset and value of a WR, RDR or PWR. -/
def pktOff (x : RxPacket) : Nat := fieldAt x.data 0 4 % 2 ^ 27
def pktVal (x : RxPacket) : Word := BitVec.ofNat 32 (fieldAt x.data 4 4)

def casRxWr (x : RxPacket) (s : State) : State :=
  s.receive 0x01 x id fun s => s.remoteWrite x.src (pktOff x) (pktVal x)

/-- CAS_RX_RD: the read is made on the cascade path and its value returned; every read is made. -/
def casRxRd (x : RxPacket) (s : State) : State :=
  s.receive 0x02 x id fun s =>
    let s := s.readAddr .cascade (pktOff x)
    s.sendTo (s.mkPacket 0x03 x.src x.tag (leBytes 4 (pktOff x) ++ leBytes 4 s.reply.word.toNat))

/-- CAS_RX_RDR: of the read that waits under its tag; bit 31 of the offset marks an access not made. -/
def casRxRdr (x : RxPacket) (s : State) : State :=
  s.receive 0x03 x id fun s =>
    match s.cas.reads.find? fun r => r.tag == x.tag && r.node == x.src with
    | none => s
    | some r =>
      if bit (fieldAt x.data 0 4) 31 then s.remoteFail r
      else ({ s with cas := { s.cas with reads := s.cas.reads.filter (· ≠ r) } }.answer (pktVal x)).narrow r.be

/-- A copy of a ring-wide write has come home (R367, R371). -/
def State.ringHome (s : State) (o : Nat) : State :=
  match s.cas.ringOut.find? fun e => e.1 == o with
  | none => s
  | some e =>
    if 2 ≤ e.2 then
      { s with cas := { s.cas with ringOut := s.cas.ringOut.map fun y => if y.1 = o then (y.1, y.2 - 1) else y } }
    else
      let s := { s with cas := { s.cas with ringOut := s.cas.ringOut.filter fun y => y.1 ≠ o } }
      let n := s.fld F.PRS_STAT_OUT 0
      let s := s.setFld F.PRS_STAT_OUT 0 (n - 1)
      if n = 1 then s.event B.PRS 0 0 else s

/-- CAS_RX_PWR. -/
def casRxPwr (x : RxPacket) (s : State) : State :=
  let o := fieldAt x.data 8 4
  s.receive 0x04 x (fun s => s.ringHome o) fun s =>
    s.once (0x04, x.src, o) fun s =>
      let t := s.remoteWrite x.src (pktOff x) (pktVal x)
      if s.sys.mode ≠ .lockdown ∧ s.takesRemote (pktOff x) then t.bump F.PRS_RX_CNT 0 else t

/-! ### Messages, records and triggers (R338, R375, R376) -/

/-- CAS_RX_MSG: to ring 30 + TAG; an entry that finds no room is answered NACK. -/
def casRxMsg (x : RxPacket) (s : State) : State :=
  s.receive 0x06 x id fun s =>
    if 1 < x.tag then s
    else s.once (0x06 + 256 * x.tag, x.src, fieldAt x.data 4 4) fun s =>
      let (s, ok) := s.takeMsg (30 + x.tag) (takeAt x.data 0 32)
      if ok then s else s.sendTo (s.mkPacket 0x07 x.src 0 (takeAt x.data 0 8))

def casRxNack (x : RxPacket) (s : State) : State := s.receive 0x07 x id State.msgRefused

/-- CAS_RX_FLT: the record enters its storm window. -/
def casRxFlt (x : RxPacket) (s : State) : State :=
  s.receive 0x08 x id fun s => if s.domOn .ctl then s.stormAdd (FltRec.ofBytes x.data) else s

def casRxEvt (x : RxPacket) (s : State) : State :=
  s.receive 0x09 x id fun s => s.putUnreserved 31 (eventEntry x.src 0 x.data)

def casRxTrig (x : RxPacket) (s : State) : State :=
  s.receive 0x0A x id fun s => s.once (0x0A, x.src, fieldAt x.data 8 4) State.lupCascade

/-! ### The head (R373) -/

/-- Another node claims the head: the lower ID keeps the role, and the other raises F_326. -/
def State.rivalHead (s : State) (k : Nat) : State :=
  if s.flag F.CAS_STAT_IS_HEAD 0 ∧ k < s.nodeId then
    (((s.setFlag F.CAS_STAT_IS_HEAD 0 false).setFlag F.CAS_STAT_HEAD_OK 0 false).raiseFault 326)
  else s

/-- A LEASE of another node: HEAD_OK and the lease timer. An island that was joined by the head's takes the head's time
(R380). -/
def casRxLease (x : RxPacket) (s : State) : State :=
  s.receive 0x10 x id fun s =>
    let k := fieldAt x.data 4 1 % 64
    let s := s.rivalHead k
    if s.flag F.CAS_STAT_IS_HEAD 0 then s
    else
      let s := ((s.setFld F.CAS_STAT_HEAD_ID 0 k).setFlag F.CAS_STAT_HEAD_OK 0 true).dropFault 323
      let s := { s with cas := { s.cas with leaseAt := s.now } }
      if s.cas.merging ∧ s.cas.master ≠ some k then
        { s with cas := { s.cas with merging := false, joining := true, tbGood := 0 } }.setMaster k
      else { s with cas := { s.cas with merging := false } }

/-- CAS_LEASE_TIMER: the head broadcasts LEASE, every 50 µs. -/
def casLeaseTimer (s : State) : State :=
  if s.casActive ∧ s.flag F.CAS_STAT_IS_HEAD 0 ∧ s.cas.leaseSent + 50000 ≤ s.now then
    let n := (s.cas.lseq + 1) % 2 ^ 32
    let s := { s with cas := { s.cas with lseq := n, leaseSent := s.now } }
    s.broadcast (s.mkPacket 0x10 0xFF 0 (leBytes 4 n ++ leBytes 1 s.nodeId ++ leBytes 3 0))
  else s

/-- HEAD_LEASE_EXPIRE: no LEASE for tHLEASE. -/
def headLeaseExpire (s : State) : State :=
  if s.casActive ∧ s.flag F.CAS_STAT_HEAD_OK 0 ∧ ¬ s.flag F.CAS_STAT_IS_HEAD 0 ∧ s.cas.leaseAt + 200000 ≤ s.now then
    ((s.setFlag F.CAS_STAT_HEAD_OK 0 false).event B.CAS 0 2).raiseFault 323
  else s

/-! ### Discovery (R373, R380) -/

/-- Hops to a node by one port. -/
def State.setHops (s : State) (b : Bool) (k n : Nat) : State :=
  if b then { s with cas := { s.cas with hopsB := s.cas.hopsB.set (fun _ => 64) k n } }
  else { s with cas := { s.cas with hopsA := s.cas.hopsA.set (fun _ => 64) k n } }

/-- A DISC of another node: it is present; a direct copy shows how far it lies by this port, a reflected one that it lies by
the other port alone. -/
def State.meet (s : State) (x : RxPacket) : State :=
  let k := x.src
  let fresh := !s.casPresent k
  let claims := bit (fieldAt x.data 1 1) 0
  let up := fieldAt x.data 2 1 == casUp
  let s := (s.setPresent k true).setHops x.portB k (if x.reflected then 64 else x.hops + 1)
  let s := { s with cas := { s.cas with missing := s.cas.missing.set (fun _ => 0) k 0 } }
  let c := s.cas
  let s := if up ∧ s.casState = casDisc ∧ k ∉ c.upSeen then { s with cas := { c with upSeen := insertIn k c.upSeen } }
    else if up ∧ fresh ∧ s.casState = casUp ∧ ¬ s.flag F.CAS_STAT_HEAD_OK 0 then { s with cas := { c with merging := true } }
    else s
  let s := if claims then s.rivalHead k else s
  s.judgeTb
where
  /-- A number entered into a rising list. -/
  insertIn (k : Nat) : List Nat → List Nat
    | [] => [k]
    | y :: ys => if k < y then k :: y :: ys else y :: insertIn k ys

/-- CAS_RX_DISC. This node's own ID under another nonce is a duplicate: the node with the higher nonce enters DUP. Its own
copy come home unreflected shows the ring whole. -/
def casRxDisc (x : RxPacket) (s : State) : State :=
  let nonce := fieldAt x.data 4 4
  s.receive 0x13 x
    (fun s =>
      if nonce < s.cas.nonce then (s.setCasState casDup).raiseFault 325
      else if nonce = s.cas.nonce ∧ ¬ x.reflected then s.setFlag F.CAS_STAT_FOLD 0 false
      else s)
    fun s => s.meet x

/-- A node that has left: its place, its distances, and what was delivered of it. -/
def State.forget (s : State) (k : Nat) : State :=
  let s := ((s.setPresent k false).setHops true k 64).setHops false k 64
  { s with cas := { s.cas with
      missing := s.cas.missing.set (fun _ => 0) k 0
      seen := s.cas.seen.filter fun e => e.2.1 ≠ k } }

/-- CAS_DISC_TIMER, every 1 ms: nodes from which three DISC in a row are missing are dropped; the first interval over, the node is UP,
and follows the master of the island it has found, or that island takes one. -/
def casDiscTimer (s : State) : State :=
  if s.casActive ∧ (s.casState = casDisc ∨ s.casState = casUp) ∧ s.cas.discAt + 1000000 ≤ s.now then
    let s := { s with cas := { s.cas with discAt := s.now } }
    let s := forAll (s.island.filter (· ≠ s.nodeId)) s fun s k =>
      let n := s.cas.missing.get (fun _ => 0) k + 1
      if 3 < n then s.forget k else { s with cas := { s.cas with missing := s.cas.missing.set (fun _ => 0) k n } }
    let s :=
      if s.casState = casDisc then
        let s := (s.setCasState casUp).event B.CAS 0 0
        s.setMaster (s.pickMaster (if s.cas.upSeen = [] then s.island else s.cas.upSeen))
      else if s.cas.merging then
        { s with cas := { s.cas with merging := false } }.setMaster (s.pickMaster s.island)
      else s.judgeTb
    s.sendDisc
  else s

/-! ### The timebase (R377) -/

/-- Times at the lanes are counted in 31.25 ps; `frac` is the part of them within the present KCLK cycle. -/
def State.laneTime (s : State) (frac : Nat) : Nat := s.now * 32 + frac % 128

/-- CAS_TB_TIMER, every 10 µs: t1 is taken and TSREQ sent to the parent. -/
def casTbTimer (frac : Nat) (s : State) : State :=
  if s.casActive ∧ ¬ s.flag F.CAS_STAT_TB_MASTER 0 ∧ s.cas.tbAt + 10000 ≤ s.now then
    { s with cas := { s.cas with tsT1 := s.laneTime frac, tbAt := s.now } }.hop s.cas.parentB 0x11 0
  else s

/-- CAS_RX_TSREQ: answered with t2, when it arrived, and t3, when the answer leaves, `gap` later. -/
def casRxTsreq (b : Bool) (frac gap : Nat) (s : State) : State :=
  if s.canHear b ∧ s.casState < casBypass then
    let t2 := s.laneTime frac
    s.sendNeighbour b (s.mkPacket 0x12 0xFE 0 (leBytes 8 t2 ++ leBytes 8 (t2 + gap)))
  else s

/-- θ in 31.25 ps, to the nearest: half the sum of both differences, corrected by half of the port's CAS_ASYM. -/
def State.theta (s : State) (b : Bool) (t2 t3 t4 : Nat) : Int :=
  let asym := s.sfld (if b then F.CAS_ASYM_B_PS else F.CAS_ASYM_A_PS) 0
  (1000 * (((t2 : Int) - s.cas.tsT1) + ((t3 : Int) - t4)) + 32 * asym + 1000) / 2000

/-- TB_LOCK judged by one exchange. -/
def State.judgeLock (s : State) (th : Int) : State :=
  let a := th.natAbs
  let n := if a ≤ 64 then min 16 (s.cas.tbGood + 1) else 0
  let s := { s with cas := { s.cas with tbGood := n } }
  if n = 16 ∧ ¬ s.flag F.CAS_STAT_TB_LOCK 0 then
    ((s.setFlag F.CAS_STAT_TB_LOCK 0 true).event B.CAS 0 3).dropFault 324
  else if 1600 < a ∧ s.flag F.CAS_STAT_TB_LOCK 0 then
    ((s.setFlag F.CAS_STAT_TB_LOCK 0 false).event B.CAS 0 4).raiseFault 324
  else s

/-- CAS_RX_TSRSP: from the parent. The counter steps when the node joins and has no frame in flight; otherwise the offset is
slewed. -/
def casRxTsrsp (b : Bool) (frac : Nat) (data : List Byte) (s : State) : State :=
  if s.canHear b ∧ s.casState < casBypass ∧ ¬ s.flag F.CAS_STAT_TB_MASTER 0 ∧ b = s.cas.parentB then
    let th := s.theta b (fieldAt data 0 8) (fieldAt data 8 8) (s.laneTime frac)
    let s := (s.setSFld F.CAS_TB 0 (clampI (-(2 ^ 31)) (2 ^ 31 - 1) th)).judgeLock th
    let s :=
      if s.cas.joining ∧ s.flight = [] then
        { s with time := BitVec.ofInt 64 ((s.now : Int) + (th + 16) / 32), cas := { s.cas with slew := 0 } }
      else { s with cas := { s.cas with slew := th * 2048 } }
    { s with cas := { s.cas with joining := false } }
  else s

/-! ### Acknowledgement (R371) -/

/-- Is sequence number `q` among the 32 that end at `h`? -/
def ackedBy (h q : Nat) : Bool := decide ((h + 256 - q % 256) % 256 < 32)

/-- CAS_RX_LACK: packets up to the one named are delivered. -/
def casRxLack (b : Bool) (h : Nat) (s : State) : State :=
  if s.canHear b then
    let p := s.cas.port b
    (s.setPort b { p with unacked := p.unacked.filter fun x => !ackedBy (h % 256) x.hseq }).pumpPort b 33
  else s

/-- Resends counted, and F_329 above 1,000 in one second (R379). -/
def State.countResends (s : State) (b : Bool) (n : Nat) : State :=
  let s := s.bumpBy (if b then F.CAS_LINK_CNT_B else F.CAS_LINK_CNT_A) 0 n
  let p := s.cas.port b
  let recent := p.resends.filter fun e => decide (s.now < e.1 + 1000000000)
  let before := (recent.map (·.2)).sum
  let s := s.setPort b { p with resends := if n = 0 then recent else recent ++ [(s.now, n)] }
  if before ≤ 1000 ∧ 1000 < before + n then s.raiseFault 329 else s

/-- CAS_RX_LNAK: packets before the one named are delivered; the others are sent again. -/
def casRxLnak (b : Bool) (h : Nat) (s : State) : State :=
  if s.canHear b then
    let p := s.cas.port b
    let again := p.unacked.filter fun x => !ackedBy ((h + 255) % 256) x.hseq
    let s := (s.setPort b { p with unacked := again }).countResends b again.length
    (again.foldl (fun s x => s.emit (.packet b x)) s).pumpPort b 33
  else s

/-- CAS_RX_BAD_PACKET: answered LNAK with the HSEQ awaited. -/
def casRxBadPacket (b : Bool) (s : State) : State :=
  if s.canHear b then s.hop b 0x15 (s.cas.port b).hseqRx else s

/-! ### Ports (R369, R380) -/

/-- CAS_PORT_UP: after its first port trains the node starts discovery. -/
def casPortUp (b : Bool) (s : State) : State :=
  if s.casEnabled ∧ s.domOn .cas ∧ ¬ s.portUp b then
    let s := (s.setFlag (if b then F.CAS_STAT_B_UP else F.CAS_STAT_A_UP) 0 true).dropFault (if b then 321 else 320)
    let s := (s.setPort b { s.cas.port b with hseqTx := 0, hseqRx := 0 }).pumpPort b 33
    let s := { s with cas := { s.cas with trained := true } }
    if s.casState = casTrain then s.startDisc.sendDisc.msgPump else s.msgPump
  else s

/-- CAS_PORT_DOWN: the ring folds; what was not acknowledged there goes out of the other port, the node's own broadcasts
meeting their originator at once. -/
def casPortDown (b : Bool) (s : State) : State :=
  if s.casEnabled ∧ s.domOn .cas ∧ s.portUp b then
    let s := (s.setFlag (if b then F.CAS_STAT_B_UP else F.CAS_STAT_A_UP) 0 false).raiseFault (if b then 321 else 320)
    let p := s.cas.port b
    let s := (s.setPort b { p with unacked := [], queue := [] }).setFold
    let c := s.cas
    let s := { s with cas := if b then { c with hopsB := [] } else { c with hopsA := [] } }
    let s := (p.unacked ++ p.queue).foldl (fun s x =>
      if x.dst = 0xFF ∧ x.src = s.nodeId then (if x.typ = 0x04 then s.ringHome (fieldAt x.data 8 4) else s)
      else s.putOut b x) s
    let s := if !s.anyPort ∧ (s.casState = casDisc ∨ s.casState = casUp) then s.setCasState casTrain else s
    s.judgeTb
  else s

/-! ### The commands -/

def execCasRxWr (x : RxPacket) (s : State) : Host.Outcome State Fault Refusal := .next (s.finish (casRxWr x s))
def execCasRxRd (x : RxPacket) (s : State) : Host.Outcome State Fault Refusal := .next (s.finish (casRxRd x s))
def execCasRxRdr (x : RxPacket) (s : State) : Host.Outcome State Fault Refusal := .next (s.finish (casRxRdr x s))
def execCasRxPwr (x : RxPacket) (s : State) : Host.Outcome State Fault Refusal := .next (s.finish (casRxPwr x s))
def execCasRxMsg (x : RxPacket) (s : State) : Host.Outcome State Fault Refusal := .next (s.finish (casRxMsg x s))
def execCasRxNack (x : RxPacket) (s : State) : Host.Outcome State Fault Refusal := .next (s.finish (casRxNack x s))
def execCasRxFlt (x : RxPacket) (s : State) : Host.Outcome State Fault Refusal := .next (s.finish (casRxFlt x s))
def execCasRxEvt (x : RxPacket) (s : State) : Host.Outcome State Fault Refusal := .next (s.finish (casRxEvt x s))
def execCasRxTrig (x : RxPacket) (s : State) : Host.Outcome State Fault Refusal := .next (s.finish (casRxTrig x s))
def execCasRxLease (x : RxPacket) (s : State) : Host.Outcome State Fault Refusal := .next (s.finish (casRxLease x s))
def execCasRxTsreq (b : Bool) (frac gap : Nat) (s : State) : Host.Outcome State Fault Refusal :=
  .next (s.finish (casRxTsreq b frac gap s))
def execCasRxTsrsp (b : Bool) (frac : Nat) (data : List Byte) (s : State) : Host.Outcome State Fault Refusal :=
  .next (s.finish (casRxTsrsp b frac data s))
def execCasRxDisc (x : RxPacket) (s : State) : Host.Outcome State Fault Refusal := .next (s.finish (casRxDisc x s))
def execCasRxLack (b : Bool) (h : Nat) (s : State) : Host.Outcome State Fault Refusal := .next (s.finish (casRxLack b h s))
def execCasRxLnak (b : Bool) (h : Nat) (s : State) : Host.Outcome State Fault Refusal := .next (s.finish (casRxLnak b h s))

/-- CAS_RX_IDLE: fills the lane; nothing follows from it. -/
def execCasRxIdle (_b : Bool) (s : State) : Host.Outcome State Fault Refusal := .next (s.finish s)

def execCasRxBadPacket (b : Bool) (s : State) : Host.Outcome State Fault Refusal := .next (s.finish (casRxBadPacket b s))
def execCasDiscTimer (s : State) : Host.Outcome State Fault Refusal := .next (s.finish (casDiscTimer s))
def execCasLeaseTimer (s : State) : Host.Outcome State Fault Refusal := .next (s.finish (casLeaseTimer s))
def execHeadLeaseExpire (s : State) : Host.Outcome State Fault Refusal := .next (s.finish (headLeaseExpire s))
def execCasTbTimer (frac : Nat) (s : State) : Host.Outcome State Fault Refusal := .next (s.finish (casTbTimer frac s))
def execCasPortUp (b : Bool) (s : State) : Host.Outcome State Fault Refusal := .next (s.finish (casPortUp b s))
def execCasPortDown (b : Bool) (s : State) : Host.Outcome State Fault Refusal := .next (s.finish (casPortDown b s))

end Sys2Proof.Machine
end

