-- ==== Sys2Proof/Machine/Entry.lean ====
section
/-! DEFINITION. The switching of domains, a station's return to service, and the completion of a mode change with the
entry actions of each mode (R15, R25 to R27, R181, R230, R253, R268 to R271, R288, R390, R396). -/

namespace Sys2Proof.Machine

/-! ### A station switched on outside a BOOT (R271, R389) -/

/-- A REGS pair names the page of a station: FAC, CLK or BLN, by its own instance, by 0xFF, or by a group of which the page
is a member now. -/
def State.pairNames (s : State) (n : Nat) (p : Nat × Word) : Bool :=
  let blk := blkOf p.1
  let i := instOf p.1
  (blk == B.FAC || blk == B.CLK || blk == B.BLN)
    && (i == n || i == 0xFF || (decide (0xE0 ≤ i ∧ i ≤ 0xEF) && bit (s.fld (H.PAGE_GROUP_GRP blk) n) (i - 0xE0)))

/-- The station's configuration restored: the bundle's pairs in order, on the station's page alone, then its calibration
records. -/
def State.restoreStation (s : State) (n : Nat) : State :=
  let s := if s.bundle.ok then
      ((s.bundleSections 1).flatMap regsPairs).foldl (fun s p =>
        if s.pairNames n p then s.writePage false (blkOf p.1) n (offOf p.1) p.2 else s) s
    else s
  ((newestRecs s.cal.active.recs).filter fun r => decide (r.typ ∈ [2, 3, 6] ∧ r.inst = n)).foldl
    (fun s r => s.calApply r.typ r.inst r.data) s

/-! ### DOMAIN_SWITCH (R268, R269) -/

/-- A domain switches on; a station that does so outside the change out of BOOT is restored first. -/
def State.switchOn (s : State) (d : Dom) : State :=
  let s := s.domUp d
  match d with
  | .bln n => if s.sys.mode = .boot then s else s.restoreStation n
  | _ => s

/-- The MAIN DN program follows when the last domain is off on the way to HIBERNATE (R288). -/
def State.mainDown (s : State) : State :=
  if s.domMode = .hibernate ∧ s.sys.trans.isSome ∧ s.nextDomain.isNone ∧ s.scopeState 0 = scOn then
    (if s.entryDn 0 = 0xFF then s.setScopeState 0 scOff else s.setScopePend 0 2)
  else s

/-- DOMAIN_SWITCH: the next domain of the order, at its place in time. On the way to HIBERNATE it waits for the engine scopes and the
checkpoint. -/
def domainSwitch (s : State) : State :=
  match s.nextDomain with
  | none => s
  | some (d, on) =>
    if (s.domMode = .hibernate ∧ ¬ s.runDownDone) ∨ ¬ s.domDue d on then s
    else
      let s := s.noteDom d on
      ((if on then s.switchOn d else s.domDown d).event B.PWR 0x40 0).mainDown

def execDomainSwitch (s : State) : Host.Outcome State Fault Refusal := .next (s.finish (domainSwitch s))

/-! ### Entry actions -/

/-- BOOT: LMEM's straps, the page locks, and what was noted for the next BOOT (R15, R283, R290, R296). -/
def State.enterBoot (s : State) : State :=
  let s := { s with regs := s.regs.filter fun e => decide (offOf e.1 ≠ 0x020) || blkOf e.1 == 0x7F }.sampleMem
  let s := if s.aon.fromOff then s.loadLogs else s
  let s := if s.aon.lossSeen then s.raiseFault 283 else s
  let s := { s with
    aon := { s.aon with fromOff := false, lossSeen := false }
    ints := { s.ints with frozen := false }
    sys := { s.sys with crst := none } }
  s.setSeq { s.seq with after := .none }

/-- HIBERNATE by a host request (R288, R350); the wake of a HIB_WAKE_N found low follows at once (R26). -/
def State.enterHibernate (s : State) : State :=
  let s := s.stopFeeds.holdRails.setFld F.PWR_MAIN_STAT_LAST 0x40 1
  let s := { s with timeFrac := 0, ints := { s.ints with frozen := true } }
  let s := s.setSeq { s.seq with after := .none }
  if s.sys.wakeHeld then { s with sys := { s.sys with wakeHeld := false } }.startWake else s

/-- What entering a mode does (R24, R181, R230, R253, R390, R396). -/
def State.enterMode (s : State) (m : Mode) : State :=
  match m with
  | .boot => s.enterBoot
  | .hibernate => s.enterHibernate
  | .idle =>
    let s := { s with sys := { s.sys with drainIdle := false } }.stopAll
    let s := forAll (List.range 6) s fun s n => s.endDark n darkMode
    forAll (List.range 8) s.motionIdle.rampAll fun s h => s.htStop h
  | .safehold => ((s.darkAll darkMode).motionStop.rampAll).htAllOff.calAbandon
  | .lockdown => ((s.motionLock.ctlLock).rampAll).htAllOff.darkAll darkMode
  | .warmup => s.motionWarm
  | .calibrate => s.calStart
  | .ready =>
    if (s.ctxsWith fun x => decide (2 ≤ x.st.code ∧ x.st.code ≤ 5)).isEmpty then s else s.deviceMode .print
  | .print => s.printCheck
  | .drain => s.printCheck
  | .off => s
  | .config => s

/-! ### MODE_CHANGE_COMPLETE (R26, R269) -/

/-- Every domain, and on the way to HIBERNATE every program and the checkpoint, has reached what the target needs; LOCKDOWN
waits for the end of a lifecycle command (R175). -/
def State.changeReady (s : State) (t : Mode) : Bool :=
  s.nextDomain.isNone && (t ≠ .hibernate || (s.runDownDone && s.scopeState 0 == scOff))
    && (t ≠ .lockdown || s.sec.cmd.isNone)

/-- Where a change ends, and its cause: one out of BOOT ends in SAFEHOLD when a SEVERE source was recorded or the host has
asked for it (R25, R26). -/
def State.changeEnd (s : State) (t : Trans) : Mode × Nat :=
  if s.sys.mode = .boot ∧ t.target = .config then
    match s.sys.bootSevere with
    | some n => (.safehold, n)
    | none => if s.sys.pend = some .safehold then (.safehold, causeHost) else (.config, t.cause)
  else (t.target, t.cause)

/-- A request held is acted on from the mode reached, unless a device change has begun. -/
def State.takePend (s : State) : State :=
  if s.sys.trans.isSome ∨ s.sys.mode = .boot then s
  else match s.sys.pend with
    | none => s
    | some p => { s with sys := { s.sys with pend := none } }.actOn p

def modeChangeComplete (s : State) : State :=
  match s.sys.trans with
  | none => s
  | some t =>
    if !s.changeReady t.target then s
    else
      let (m, cause) := s.changeEnd t
      let leave := s.sys.mode = .boot ∧ t.target = .config
      let s := if leave then
          let s := s.applyDeferred
          { s with sys := { s.sys with
              bootSevere := none, pend := if s.sys.pend = some .safehold then none else s.sys.pend } }
        else s
      ((s.setMode m cause).enterMode m).takePend

def execModeChangeComplete (s : State) : Host.Outcome State Fault Refusal := .next (s.finish (modeChangeComplete s))

end Sys2Proof.Machine
end

