-- ==== Sys2Proof/Machine/Dispatch.lean ====
section
/-! DEFINITION. What every command does: one arm per row of spec/opcode_table.json, each a direct call of its
meaning. -/

namespace Sys2Proof.Machine

/-- The effect of a command on everything but the queue. -/
def exec (i : Instr) (s : State) : Host.Outcome State Fault Refusal :=
  match i with
  | .hostRegWrite addr be ep v hi => Sys2Proof.Machine.execHostRegWrite addr be ep v s hi
  | .counterLowRead path addr sz => Sys2Proof.Machine.execCounterLowRead path addr s sz
  | .counterHighRead path addr sz => Sys2Proof.Machine.execCounterHighRead path addr s sz
  | .prismWrite blk inst off v => Sys2Proof.Machine.execPrismWrite blk inst off v s
  | .prismRead path blk inst off sz => Sys2Proof.Machine.execPrismRead path blk inst off s sz
  | .evtForceWrite blk inst v => Sys2Proof.Machine.execEvtForceWrite blk inst v s
  | .blkRst blk inst en => Sys2Proof.Machine.execBlkRst blk inst en s
  | .blockResetDone blk inst => Sys2Proof.Machine.execBlockResetDone blk inst s
  | .pageDisable blk inst => Sys2Proof.Machine.execPageDisable blk inst s
  | .pageEnable blk inst => Sys2Proof.Machine.execPageEnable blk inst s
  | .pageLock blk inst => Sys2Proof.Machine.execPageLock blk inst s
  | .pageGroupWrite blk inst v => Sys2Proof.Machine.execPageGroupWrite blk inst v s
  | .modeReqCancel => Sys2Proof.Machine.execModeReqCancel s
  | .modeReqHibernate => Sys2Proof.Machine.execModeReqHibernate s
  | .modeReqIdle => Sys2Proof.Machine.execModeReqIdle s
  | .modeReqWarmup => Sys2Proof.Machine.execModeReqWarmup s
  | .modeReqDrain => Sys2Proof.Machine.execModeReqDrain s
  | .modeReqCalibrate => Sys2Proof.Machine.execModeReqCalibrate s
  | .modeReqSafehold => Sys2Proof.Machine.execModeReqSafehold s
  | .modeReqInvalid target => Sys2Proof.Machine.execModeReqInvalid target s
  | .modeChangeComplete => Sys2Proof.Machine.execModeChangeComplete s
  | .domainSwitch => Sys2Proof.Machine.execDomainSwitch s
  | .warmupComplete => Sys2Proof.Machine.execWarmupComplete s
  | .vstbyValid mains straps => Sys2Proof.Machine.execVstbyValid mains straps s
  | .vstbyLost => Sys2Proof.Machine.execVstbyLost s
  | .mainSuppliesValid straps => Sys2Proof.Machine.execMainSuppliesValid straps s
  | .mainSuppliesLost low => Sys2Proof.Machine.execMainSuppliesLost low s
  | .hibWake => Sys2Proof.Machine.execHibWake s
  | .bootExit => Sys2Proof.Machine.execBootExit s
  | .ringTailWrite r v => Sys2Proof.Machine.execRingTailWrite r v s
  | .ringHeadWrite r v => Sys2Proof.Machine.execRingHeadWrite r v s
  | .ringCtrlWrite r v => Sys2Proof.Machine.execRingCtrlWrite r v s
  | .stage errs => Sys2Proof.Machine.execStage errs s
  | .restage errs => Sys2Proof.Machine.execRestage errs s
  | .abort errs => Sys2Proof.Machine.execAbort errs s
  | .release errs => Sys2Proof.Machine.execRelease errs s
  | .aprStnStopClear v => Sys2Proof.Machine.execAprStnStopClear v s
  | .frameFused => Sys2Proof.Machine.execFrameFused s
  | .frameDelivered => Sys2Proof.Machine.execFrameDelivered s
  | .eventQueueDrain => Sys2Proof.Machine.execEventQueueDrain s
  | .receiptTimeout => Sys2Proof.Machine.execReceiptTimeout s
  | .post errs => Sys2Proof.Machine.execPost errs s
  | .drop errs => Sys2Proof.Machine.execDrop errs s
  | .indexOpenDone errs => Sys2Proof.Machine.execIndexOpenDone errs s
  | .poisonMark => Sys2Proof.Machine.execPoisonMark s
  | .poisonHandover => Sys2Proof.Machine.execPoisonHandover s
  | .decBandDelivered n errs => Sys2Proof.Machine.execDecBandDelivered n errs s
  | .decBandLate n => Sys2Proof.Machine.execDecBandLate n s
  | .encStart => Sys2Proof.Machine.execEncStart s
  | .encSave => Sys2Proof.Machine.execEncSave s
  | .encRestore errs => Sys2Proof.Machine.execEncRestore errs s
  | .encAbort => Sys2Proof.Machine.execEncAbort s
  | .encBandDone => Sys2Proof.Machine.execEncBandDone s
  | .encLoupeJob b => Sys2Proof.Machine.execEncLoupeJob b s
  | .facetBoundary n => Sys2Proof.Machine.execFacetBoundary n s
  | .speedHoldClear n v => Sys2Proof.Machine.execSpeedHoldClear n v s
  | .corLoad n => Sys2Proof.Machine.execCorLoad n s
  | .corLoadDone n errs => Sys2Proof.Machine.execCorLoadDone n errs s
  | .bdEdge n frac rising width => Sys2Proof.Machine.execBdEdge n frac s rising width
  | .bdWindowClose n => Sys2Proof.Machine.execBdWindowClose n s
  | .synLock n => Sys2Proof.Machine.execSynLock n s
  | .synUnlock n => Sys2Proof.Machine.execSynUnlock n s
  | .dllLock n => Sys2Proof.Machine.execDllLock n s
  | .dllUnlock n => Sys2Proof.Machine.execDllUnlock n s
  | .classChangeStart n => Sys2Proof.Machine.execClassChangeStart n s
  | .relockDeadline n => Sys2Proof.Machine.execRelockDeadline n s
  | .facetPacketSend n => Sys2Proof.Machine.execFacetPacketSend n s
  | .keepTimer n => Sys2Proof.Machine.execKeepTimer n s
  | .bcStatus n flags seq lanes => Sys2Proof.Machine.execBcStatus n flags seq lanes s
  | .bcTemp n idx temp => Sys2Proof.Machine.execBcTemp n idx temp s
  | .bcApc n e ps power => Sys2Proof.Machine.execBcApc n e ps power s
  | .bcIddata n addr w => Sys2Proof.Machine.execBcIddata n addr w s
  | .bcIdle n => Sys2Proof.Machine.execBcIdle n s
  | .bcBadBlock n crc => Sys2Proof.Machine.execBcBadBlock n crc s
  | .bcloss n => Sys2Proof.Machine.execBcloss n s
  | .blnEnable n => Sys2Proof.Machine.execBlnEnable n s
  | .blnDisable n => Sys2Proof.Machine.execBlnDisable n s
  | .blnRetrain n => Sys2Proof.Machine.execBlnRetrain n s
  | .blnAutoRetrain n => Sys2Proof.Machine.execBlnAutoRetrain n s
  | .blnIdread n => Sys2Proof.Machine.execBlnIdread n s
  | .idAck n => Sys2Proof.Machine.execIdAck n s
  | .trainDone n => Sys2Proof.Machine.execTrainDone n s
  | .trainTimeout n => Sys2Proof.Machine.execTrainTimeout n s
  | .idreadDone n => Sys2Proof.Machine.execIdreadDone n s
  | .idreadTimeout n => Sys2Proof.Machine.execIdreadTimeout n s
  | .secProvision tap => Sys2Proof.Machine.execSecProvision tap s
  | .secCommission tap => Sys2Proof.Machine.execSecCommission tap s
  | .secReturn tap => Sys2Proof.Machine.execSecReturn tap s
  | .secReprovision tap => Sys2Proof.Machine.execSecReprovision tap s
  | .secOpen tap => Sys2Proof.Machine.execSecOpen tap s
  | .secNonce tap => Sys2Proof.Machine.execSecNonce tap s
  | .secBadop tap => Sys2Proof.Machine.execSecBadop tap s
  | .nonceExpire => Sys2Proof.Machine.execNonceExpire s
  | .bundlePush => Sys2Proof.Machine.execBundlePush s
  | .bundleLoadDone flash errs sfdp => Sys2Proof.Machine.execBundleLoadDone flash errs s sfdp
  | .stationRootFinal c n => Sys2Proof.Machine.execStationRootFinal c n s
  | .receiptWrite => Sys2Proof.Machine.execReceiptWrite s
  | .ckptDone ok => Sys2Proof.Machine.execCkptDone ok s
  | .drbgHealthFail => Sys2Proof.Machine.execDrbgHealthFail s
  | .signRetryTimeout => Sys2Proof.Machine.execSignRetryTimeout s
  | .tapReset => Sys2Proof.Machine.execTapReset s
  | .tapBypass => Sys2Proof.Machine.execTapBypass s
  | .idcode => Sys2Proof.Machine.execIdcode s
  | .samplePreload => Sys2Proof.Machine.execSamplePreload s
  | .extest => Sys2Proof.Machine.execExtest s
  | .extestPulse => Sys2Proof.Machine.execExtestPulse s
  | .extestTrain => Sys2Proof.Machine.execExtestTrain s
  | .secacc write addr v => Sys2Proof.Machine.execSecacc write addr v s
  | .scan => Sys2Proof.Machine.execScan s
  | .dbgWinRead => Sys2Proof.Machine.execDbgWinRead s
  | .dbgWinWrite v tap => Sys2Proof.Machine.execDbgWinWrite v tap s
  | .motRun m => Sys2Proof.Machine.execMotRun m s
  | .motStop m => Sys2Proof.Machine.execMotStop m s
  | .motRelease m => Sys2Proof.Machine.execMotRelease m s
  | .motBrake m => Sys2Proof.Machine.execMotBrake m s
  | .motCatchDecide m speed duty => Sys2Proof.Machine.execMotCatchDecide m speed duty s
  | .motCatchTimeout m still => Sys2Proof.Machine.execMotCatchTimeout m still s
  | .motLowSpeed m => Sys2Proof.Machine.execMotLowSpeed m s
  | .motAlignDone m => Sys2Proof.Machine.execMotAlignDone m s
  | .motBemfCrossing m half order => Sys2Proof.Machine.execMotBemfCrossing m half order s
  | .motOlTimeout m => Sys2Proof.Machine.execMotOlTimeout m s
  | .motObserverLoss m => Sys2Proof.Machine.execMotObserverLoss m s
  | .motCoastTimeout m => Sys2Proof.Machine.execMotCoastTimeout m s
  | .motFltInput m => Sys2Proof.Machine.execMotFltInput m s
  | .motEncError m => Sys2Proof.Machine.execMotEncError m s
  | .stpOff m => Sys2Proof.Machine.execStpOff m s
  | .stpEnable m => Sys2Proof.Machine.execStpEnable m s
  | .stpHome m => Sys2Proof.Machine.execStpHome m s
  | .stpCmdDiscard m => Sys2Proof.Machine.execStpCmdDiscard m s
  | .stpClr m => Sys2Proof.Machine.execStpClr m s
  | .stpSwitchChange m w level edge earlier => Sys2Proof.Machine.execStpSwitchChange m w level edge earlier s
  | .stpStandstill m => Sys2Proof.Machine.execStpStandstill m s
  | .stpCoilFault m => Sys2Proof.Machine.execStpCoilFault m s
  | .pgnGo g => Sys2Proof.Machine.execPgnGo g s
  | .pgnStop g => Sys2Proof.Machine.execPgnStop g s
  | .pgnPreset g => Sys2Proof.Machine.execPgnPreset g s
  | .pgnVtgtWrite g v => Sys2Proof.Machine.execPgnVtgtWrite g v s
  | .pgnMoveDone g => Sys2Proof.Machine.execPgnMoveDone g s
  | .pgnCapture g rising ago => Sys2Proof.Machine.execPgnCapture g rising ago s
  | .ctlSample n aR aY aF lat => Sys2Proof.Machine.execCtlSample n aR aY aF lat s
  | .ctlEnable n => Sys2Proof.Machine.execCtlEnable n s
  | .ctlDisable n => Sys2Proof.Machine.execCtlDisable n s
  | .ctlSwap n => Sys2Proof.Machine.execCtlSwap n s
  | .ctlBankWrite n b idx v => Sys2Proof.Machine.execCtlBankWrite n b idx v s
  | .hvoEnable o => Sys2Proof.Machine.execHvoEnable o s
  | .hvoDisable o => Sys2Proof.Machine.execHvoDisable o s
  | .hvoMeasure o vs is => Sys2Proof.Machine.execHvoMeasure o vs is s
  | .hvoRamped o => Sys2Proof.Machine.execHvoRamped o s
  | .hvoSync mask => Sys2Proof.Machine.execHvoSync mask s
  | .lupArm b => Sys2Proof.Machine.execLupArm b s
  | .lupTrig b => Sys2Proof.Machine.execLupTrig b s
  | .lupStop b => Sys2Proof.Machine.execLupStop b s
  | .lupTick b late => Sys2Proof.Machine.execLupTick b late s
  | .lupRecordEnd b => Sys2Proof.Machine.execLupRecordEnd b s
  | .lupDumpDone b => Sys2Proof.Machine.execLupDumpDone b s
  | .lupRecordWrite b => Sys2Proof.Machine.execLupRecordWrite b s
  | .mainsCrossing pos ago uhalf i1 => Sys2Proof.Machine.execMainsCrossing pos ago uhalf i1 s
  | .mainsCrossingMissing uhalf => Sys2Proof.Machine.execMainsCrossingMissing uhalf s
  | .mnsWindowEnd u10 i10 p => Sys2Proof.Machine.execMnsWindowEnd u10 i10 p s
  | .mnsF10Update f => Sys2Proof.Machine.execMnsF10Update f s
  | .htrEnable h => Sys2Proof.Machine.execHtrEnable h s
  | .htrDisable h => Sys2Proof.Machine.execHtrDisable h s
  | .thrEnforce => Sys2Proof.Machine.execThrEnforce s
  | .thrEnd => Sys2Proof.Machine.execThrEnd s
  | .tmpSensorUpdate n raw => Sys2Proof.Machine.execTmpSensorUpdate n raw s
  | .tmpArrayUpdate n idx => Sys2Proof.Machine.execTmpArrayUpdate n idx s
  | .tmpSourceStale n idx => Sys2Proof.Machine.execTmpSourceStale n idx s
  | .fedCondition n cond vin vbus shunt => Sys2Proof.Machine.execFedCondition n cond vin vbus shunt s
  | .fedRenewTimer n => Sys2Proof.Machine.execFedRenewTimer n s
  | .fedRxRenew n w => Sys2Proof.Machine.execFedRxRenew n w s
  | .fedRxAck n w => Sys2Proof.Machine.execFedRxAck n w s
  | .fedRxHandoff n w gap => Sys2Proof.Machine.execFedRxHandoff n w gap s
  | .fedRxClaim n w => Sys2Proof.Machine.execFedRxClaim n w s
  | .fedSwitchOff n => Sys2Proof.Machine.execFedSwitchOff n s
  | .fedOffTimeout n => Sys2Proof.Machine.execFedOffTimeout n s
  | .fedXgsLoss n gap => Sys2Proof.Machine.execFedXgsLoss n gap s
  | .fedLeaseExpire n xgs vin gap => Sys2Proof.Machine.execFedLeaseExpire n xgs vin gap s
  | .fedStartup vin0 vin1 => Sys2Proof.Machine.execFedStartup vin0 vin1 s
  | .fedNofeed => Sys2Proof.Machine.execFedNofeed s
  | .fedHandover n => Sys2Proof.Machine.execFedHandover n s
  | .fedClr n => Sys2Proof.Machine.execFedClr n s
  | .fedRepair n vin => Sys2Proof.Machine.execFedRepair n vin s
  | .svScan vals => Sys2Proof.Machine.execSvScan vals s
  | .railLogTimer r => Sys2Proof.Machine.execRailLogTimer r s
  | .logCommit => Sys2Proof.Machine.execLogCommit s
  | .logClear => Sys2Proof.Machine.execLogClear s
  | .pwrBlnEnWrite v => Sys2Proof.Machine.execPwrBlnEnWrite v s
  | .seqReqOn sc => Sys2Proof.Machine.execSeqReqOn sc s
  | .seqReqOff sc => Sys2Proof.Machine.execSeqReqOff sc s
  | .seqDnStart => Sys2Proof.Machine.execSeqDnStart s
  | .seqEnable => Sys2Proof.Machine.execSeqEnable s
  | .seqWait => Sys2Proof.Machine.execSeqWait s
  | .seqWaitExpire => Sys2Proof.Machine.execSeqWaitExpire s
  | .seqCheck gio => Sys2Proof.Machine.execSeqCheck gio s
  | .seqCheckTimeout => Sys2Proof.Machine.execSeqCheckTimeout s
  | .seqJump gio => Sys2Proof.Machine.execSeqJump gio s
  | .seqBarrierPass => Sys2Proof.Machine.execSeqBarrierPass s
  | .seqBarrierTimeout => Sys2Proof.Machine.execSeqBarrierTimeout s
  | .seqsyncRepull => Sys2Proof.Machine.execSeqsyncRepull s
  | .mainokTimeout => Sys2Proof.Machine.execMainokTimeout s
  | .memTrained verified failed delays storeOk => Sys2Proof.Machine.execMemTrained verified failed delays storeOk s
  | .lmemFillDone => Sys2Proof.Machine.execLmemFillDone s
  | .memParityAlert tries failed chans hostOffs => Sys2Proof.Machine.execMemParityAlert tries failed chans hostOffs s
  | .scrubRead errs lag => Sys2Proof.Machine.execScrubRead errs lag s
  | .eccDevWindow => Sys2Proof.Machine.execEccDevWindow s
  | .eccEraseWrite ch v => Sys2Proof.Machine.execEccEraseWrite ch v s
  | .eccTblClear => Sys2Proof.Machine.execEccTblClear s
  | .bar2Write off data ep errs => Sys2Proof.Machine.execBar2Write off data ep errs s
  | .bar2Read off len errs => Sys2Proof.Machine.execBar2Read off len errs s
  | .b2BaseWrite hi v => Sys2Proof.Machine.execB2BaseWrite hi v s
  | .dmaStart c => Sys2Proof.Machine.execDmaStart c s
  | .dmaAbort c => Sys2Proof.Machine.execDmaAbort c s
  | .dmaRequest c => Sys2Proof.Machine.execDmaRequest c s
  | .dmaBurst c withdrawn errs => Sys2Proof.Machine.execDmaBurst c withdrawn errs s
  | .dmaResponse c ok data errs => Sys2Proof.Machine.execDmaResponse c ok data errs s
  | .dmaReadbackDone c ok errs => Sys2Proof.Machine.execDmaReadbackDone c ok errs s
  | .faultReport src => Sys2Proof.Machine.execFaultReport src s
  | .faultWire src => Sys2Proof.Machine.execFaultWire src s
  | .faultClear src => Sys2Proof.Machine.execFaultClear src s
  | .xinFilterExpire k => Sys2Proof.Machine.execXinFilterExpire k s
  | .xinCfgWrite k v => Sys2Proof.Machine.execXinCfgWrite k v s
  | .faultNInput low => Sys2Proof.Machine.execFaultNInput low s
  | .fltLatchClear page j v => Sys2Proof.Machine.execFltLatchClear page j v s
  | .faultNMinHold => Sys2Proof.Machine.execFaultNMinHold s
  | .crstReset straps => Sys2Proof.Machine.execCrstReset straps s
  | .stormWindowClose tag => Sys2Proof.Machine.execStormWindowClose tag s
  | .intEdge src => Sys2Proof.Machine.execIntEdge src s
  | .intLevel src => Sys2Proof.Machine.execIntLevel src s
  | .intArbitration => Sys2Proof.Machine.execIntArbitration s
  | .intModExpire t => Sys2Proof.Machine.execIntModExpire t s
  | .intClaim t => Sys2Proof.Machine.execIntClaim t s
  | .intComplete t src => Sys2Proof.Machine.execIntComplete t src s
  | .intSwi v => Sys2Proof.Machine.execIntSwi v s
  | .intSourceConfig src v => Sys2Proof.Machine.execIntSourceConfig src v s
  | .intTargetState t v => Sys2Proof.Machine.execIntTargetState t v s
  | .linkUp width speed => Sys2Proof.Machine.execLinkUp width speed s
  | .linkDown => Sys2Proof.Machine.execLinkDown s
  | .hotReset => Sys2Proof.Machine.execHotReset s
  | .flr => Sys2Proof.Machine.execFlr s
  | .perst => Sys2Proof.Machine.execPerst s
  | .d3hotEntry => Sys2Proof.Machine.execD3hotEntry s
  | .bmeClear => Sys2Proof.Machine.execBmeClear s
  | .pcieCplTimeout c => Sys2Proof.Machine.execPcieCplTimeout c s
  | .pcieInternalError => Sys2Proof.Machine.execPcieInternalError s
  | .pcieCorrectableError => Sys2Proof.Machine.execPcieCorrectableError s
  | .bar4Write off be ep v hi => Sys2Proof.Machine.execBar4Write off be ep v s hi
  | .bar4Read off sz => Sys2Proof.Machine.execBar4Read off s sz
  | .remoteReadTimeout => Sys2Proof.Machine.execRemoteReadTimeout s
  | .casRxWr x => Sys2Proof.Machine.execCasRxWr x s
  | .casRxRd x => Sys2Proof.Machine.execCasRxRd x s
  | .casRxRdr x => Sys2Proof.Machine.execCasRxRdr x s
  | .casRxPwr x => Sys2Proof.Machine.execCasRxPwr x s
  | .casRxMsg x => Sys2Proof.Machine.execCasRxMsg x s
  | .casRxNack x => Sys2Proof.Machine.execCasRxNack x s
  | .casRxFlt x => Sys2Proof.Machine.execCasRxFlt x s
  | .casRxEvt x => Sys2Proof.Machine.execCasRxEvt x s
  | .casRxTrig x => Sys2Proof.Machine.execCasRxTrig x s
  | .casRxLease x => Sys2Proof.Machine.execCasRxLease x s
  | .casRxTsreq b frac gap => Sys2Proof.Machine.execCasRxTsreq b frac gap s
  | .casRxTsrsp b frac data => Sys2Proof.Machine.execCasRxTsrsp b frac data s
  | .casRxDisc x => Sys2Proof.Machine.execCasRxDisc x s
  | .casRxLack b h => Sys2Proof.Machine.execCasRxLack b h s
  | .casRxLnak b h => Sys2Proof.Machine.execCasRxLnak b h s
  | .casRxIdle b => Sys2Proof.Machine.execCasRxIdle b s
  | .casDiscTimer => Sys2Proof.Machine.execCasDiscTimer s
  | .casLeaseTimer => Sys2Proof.Machine.execCasLeaseTimer s
  | .headLeaseExpire => Sys2Proof.Machine.execHeadLeaseExpire s
  | .casTbTimer frac => Sys2Proof.Machine.execCasTbTimer frac s
  | .casPortUp b => Sys2Proof.Machine.execCasPortUp b s
  | .casPortDown b => Sys2Proof.Machine.execCasPortDown b s
  | .casBypass => Sys2Proof.Machine.execCasBypass s
  | .casRejoin => Sys2Proof.Machine.execCasRejoin s
  | .keepWrite src v => Sys2Proof.Machine.execKeepWrite src v s
  | .keepWriteApplied verified oldGood => Sys2Proof.Machine.execKeepWriteApplied verified oldGood s
  | .calRunDone k idx a b lost storeOk => Sys2Proof.Machine.execCalRunDone k idx a b lost storeOk s
  | .calClear => Sys2Proof.Machine.execCalClear s
  | .mainUpStart => Sys2Proof.Machine.execMainUpStart s
  | .secCmdDone ok => Sys2Proof.Machine.execSecCmdDone ok s
  | .pgnStopped g => Sys2Proof.Machine.execPgnStopped g s
  | .escWindowExpire src => Sys2Proof.Machine.execEscWindowExpire src s
  | .lupGioEdge pin level => Sys2Proof.Machine.execLupGioEdge pin level s
  | .casRxBadPacket b => Sys2Proof.Machine.execCasRxBadPacket b s
  | .fedSupervisorLost n => Sys2Proof.Machine.execFedSupervisorLost n s
  | .bmeSet => Sys2Proof.Machine.execBmeSet s
  | .d0Return => Sys2Proof.Machine.execD0Return s
  | .msixEnableChange on mask => Sys2Proof.Machine.execMsixEnableChange on s mask

end Sys2Proof.Machine
end

