-- ==== Sys2Proof/Machine/Tick.lean ====
section
/-! DEFINITION. What the block does while no command waits: press time advances by one edge of the clock that carries it
(R20, R21), the encoders are sampled at each edge of KCLK (R193), the high-voltage outputs begin carrier periods (R227), and at each whole microsecond the profile generators update (R198) and the throttle's triggers are looked at (R259). -/

namespace Sys2Proof.Machine

/-- Press time moved on by a number of 1/65,536 ns. -/
def State.advance (s : State) (d : Nat) : State :=
  { s with time := s.time + BitVec.ofNat 64 ((s.timeFrac + d) / 65536), timeFrac := (s.timeFrac + d) % 65536 }

/-- The part of the slew that one KCLK edge carries: at most 52/65,536 ns, below 200 parts per million of 4 ns (R377). -/
def State.slewNow (s : State) : Int := clampI (-52) 52 s.cas.slew

/-- The throttle's triggers are looked at (R259). -/
def State.thrTick (s : State) : State := if s.domOn .ana then s.thrEval else s

/-- One edge of KCLK: 4 ns, corrected by the slew that a cascade member still owes (R20, R377). -/
def State.kclkEdge (s : State) : State :=
  let d := s.slewNow
  let t := { s with cas := { s.cas with slew := s.cas.slew - d } }.advance (4 * 65536 + d).toNat
  let t := (t.encTickAll s.now).hvCarrierAll s.now
  if t.now / 1000 = s.now / 1000 then t else t.pgUpdateAll.stpAdaptAll.drbgTest.thrTick

/-- One edge of ACLK in HIBERNATE: the count gains the last measured ACLK period (R21). -/
def State.aclkEdge (s : State) : State := s.advance (Config.aclkPeriod s.freeCtr)

/-- KCLK runs: in every mode but OFF and HIBERNATE, and from the moment SEQ powers up toward BOOT out of either (R20, R21,
R288). -/
def State.kclkOn (s : State) : Bool :=
  (s.sys.mode ≠ .off && s.sys.mode ≠ .hibernate) || s.sys.waking || s.sys.trans.any fun t => t.target == .boot

/-- One tick of the idle block: KCLK carries the count where it runs, ACLK otherwise while VSTBY is valid, and nothing runs
without it. -/
def State.tick (s : State) : State :=
  if !s.balls.vstby then s
  else if s.kclkOn then s.finish s.kclkEdge
  else s.finish s.aclkEdge

end Sys2Proof.Machine
end

