-- ==== Sys2Proof/Safety.lean ====
section
/-! DEFINITION. The terms that claims use: what a state keeps in every run, what a command may leave alone, and where a
host write reaches its register. -/

namespace Sys2Proof.Machine

/-- WAKE_N stands as the rest of the state drives it (R349, R350). -/
abbrev State.Wired (s : State) : Prop := s.balls.wakeN = s.wakeLow

/-- The canonical form of LMEM: addresses strictly rising, no byte listed that reads as the fill wrote it. -/
abbrev State.memWf (s : State) : Prop := Sparse.wf lmemDefault s.lmem

/-- The canonical form of the register map. -/
abbrev State.regsWf (s : State) : Prop := Sparse.wf regReset s.regs

/-- `t` differs from `s` in registers, the record of W1C bits just set, and the level of WAKE_N alone: the queue, press time,
every byte of LMEM and host memory, and every state that no register holds are as before. -/
def State.onlyRegs (s t : State) : Prop :=
  t = { s with regs := t.regs, fresh := t.fresh, balls := { s.balls with wakeN := t.wakeLow } }

/-- The same, but for the list of source pairs that read asserted. -/
def State.onlyRegsAndFaults (s t : State) : Prop :=
  t = { s with
    regs := t.regs
    fresh := t.fresh
    flt := { s.flt with pair := t.flt.pair }
    balls := { s.balls with wakeN := t.wakeLow } }

/-- Nothing changes but the level of WAKE_N, which follows the state. -/
def State.unchanged (s t : State) : Prop := t = s.finish s

/-- Every register but those at the offsets listed reads as before. -/
def State.regsBut (s t : State) (as : List Nat) : Prop := ∀ a, a ∉ as → t.reg a = s.reg a

/-- Every register outside the blocks listed reads as before. -/
def State.regsOutside (s t : State) (blks : List Nat) : Prop := ∀ a, blkOf a ∉ blks → t.reg a = s.reg a

/-- Offset of a page's EVT_STAT (R14). -/
def evtAddr (blk inst : Nat) : Nat := regAddr blk inst 0x010

/-- Bit `n` of a page's EVT_STAT: the event has been raised and not cleared (R14). -/
def State.raised (s : State) (blk inst n : Nat) : Bool := bit (s.reg (evtAddr blk inst)).toNat n

/-- A host write to the page arrives: outside LOCKDOWN, at an instance that exists, whose domain is on (R9, R18, R24). -/
abbrev State.openPage (s : State) (blk inst : Nat) : Prop :=
  s.sys.mode ≠ .lockdown ∧ pageExists blk inst = true ∧ s.pageOn blk inst = true

/-- A host request for a mode is judged at once: it arrives, no change runs, the device is neither in BOOT nor on the way
into it, and it takes no change of its own in this cycle (R26). -/
abbrev State.requestable (s : State) : Prop :=
  s.openPage B.SYS 0 ∧ s.hostPath = true ∧ s.sys.trans = none ∧ s.inBoot = false ∧ s.sys.devAt ≠ some s.now

/-- The keep word that a keep write's source names, where it reaches the keep store (R384, R385). -/
def State.keepTarget (s : State) : KeepSrc → Option Nat
  | .kps => if s.openPage B.KPS 0 ∧ s.fld F.KPS_SEL_WORD 0 < 0x800 then some (s.fld F.KPS_SEL_WORD 0) else none
  | .sec i => if i < 0x100 ∧ s.domOn .sec then some (0xF00 + i) else none
  | .seq i => if i < 0x400 ∧ s.domOn .sec then some (0x800 + i) else none

/-- A feed's measurements show the values given (R273). -/
def State.fedMeasured (s : State) (n vin vbus : Nat) (shunt : Int) : State :=
  ((s.setFld F.FED_MEAS_VIN n vin).setFld F.FED_MEAS_VBUS n vbus).setSFld F.FED_IMEAS_SHUNT n shunt

/-- The error with which the checks of R169 reject an image, and the image in plaintext where they pass it. -/
def State.loadError (s : State) (img : List Byte) : Option Nat := (s.verifyBundle img).getRight?
def State.loadImage (s : State) (img : List Byte) : List Byte := ((s.verifyBundle img).getLeft?).getD []

/-- The image that BOOT's load reads from flash, where flash answers, a sampling delay reads its signature and LMEM is there
(R170, R410). -/
def State.flashRead (s : State) (sfdp : BitVec 16) (flash : Option (List Byte)) : Option (List Byte) :=
  if s.lmemThere ∧ (flashDelay sfdp).isSome then flash else none

/-- A change that the host asked for in `s` runs toward a mode (R26, R27). -/
abbrev State.hostChange (t s : State) (m : Mode) : Prop :=
  t.sys.trans = some (Trans.mk m true s.now causeHost) ∧ t.sys.mode = s.sys.mode

/-- A request has been refused with a code (R27). -/
abbrev State.refused (t : State) (code : Nat) : Prop := t.sys.refuse = code ∧ t.raised B.SYS 0 1 = true

/-- The state once the entry at a ring's head has been read through ECC, with the errors that the read finds (R38, R303). -/
def State.entryRead (s : State) (r : Nat) (errs : List CwErr) : State := s.demand (s.ringAddr r (s.ringHead r)) 256 errs

/-- A command ring offers a well-formed entry of an opcode: as it is read its CRC is good, its reserved bytes are zero and
nothing of it is poisoned (R32 to R35, R311). -/
abbrev State.offers (s : State) (r op : Nat) (bs : List Byte) (errs : List CwErr) : Prop :=
  s.commandRing = some r ∧ (s.lmemByte (s.ringAddr r (s.ringHead r))).toNat = op ∧
    (s.entryRead r errs).lmemBytes (s.ringAddr r (s.ringHead r)) 256 = bs ∧
    (s.entryRead r errs).poisoned (s.ringAddr r (s.ringHead r)) 256 = false ∧
    fieldAt bs 0xFC 4 = (crc32c (takeAt bs 0 0xFC)).toNat ∧ fieldAt bs 0 1 = op ∧ fieldAt bs 1 1 = 0 ∧
    fieldAt bs 0x1E 2 = 0 ∧ allZero (takeAt bs 0x94 104) = true

/-- The image ring that FST serves next offers a posting of an opcode, well formed as it is read, nothing of it poisoned
(R61, R62, R69). -/
abbrev State.posts (s : State) (r op : Nat) (bs : List Byte) (errs : List CwErr) : Prop :=
  s.nextImageRing = some r ∧ (s.lmemByte (s.ringAddr r (s.ringHead r))).toNat = op ∧
    (s.entryRead r errs).lmemBytes (s.ringAddr r (s.ringHead r)) 256 = bs ∧
    (s.entryRead r errs).poisoned (s.ringAddr r (s.ringHead r)) 256 = false ∧
    fieldAt bs 0 1 = op ∧ postingOk bs false = true

/-- No error found by a read lies in the codewords of an access, which then reads as it stands (R299, R303). -/
abbrev cleanRead (errs : List CwErr) (a n : Nat) : Prop := ∀ e ∈ errs, e.addr ∉ cwsOf a n

/-- The data blocks of the facet packet that left last (R140). -/
def State.lastBlocks (t : State) : List (List Byte) :=
  match t.emitted.getLast? with
  | some (.facet _ _ _ _ bl _ _) => bl
  | _ => []

/-- The CRC of a facet packet: over FSTART, FMASK and its data blocks (R140). -/
def facetCrc (seq j mask : Nat) (blocks : List (List Byte)) : Nat :=
  (crc32c (leBytes 2 seq ++ leBytes 1 (j + if mask = 0 then 16 else 0) ++ leBytes 2 0xC000 ++ leBytes 1 0
    ++ leBytes 6 mask ++ blocks.flatten)).toNat

/-- A SEC command is judged: it arrives, nothing is zeroizing or running, the lifecycle, key and mode permit it, and the
random source is sound (R166, R171, R174, R175). -/
abbrev State.secTakes (s : State) (op : SecOp) (tap : Bool) : Prop :=
  s.domOn .sec = true ∧ (tap = true ∨ s.openPage B.SEC 0) ∧ s.zpend = 0 ∧ s.sec.cmd = none ∧
    s.secStateOk op = true ∧ s.secModeOk op tap = true ∧ s.flag F.SEC_STAT_DRBG_OK 0 = true

/-- A SEC command runs on (R166). -/
abbrev State.secRuns (t : State) (op : SecOp) (tap : Bool) : Prop :=
  t.sec.cmd = some (op, tap) ∧ t.flag F.SEC_CMD_STAT_BUSY 0 = true

/-- A SEC command has been refused with an error (R176). -/
abbrev State.secFails (t : State) (err : Nat) : Prop :=
  t.sec.cmd = none ∧ t.fld F.SEC_CMD_STAT_ERR 0 = err ∧ t.raised B.SEC 0 1 = true

/-- The token of a command has been judged: its nonce is spent; a good one runs the command and clears the failures, a bad
one counts, and the eighth in a row raises F_339 (R167). -/
abbrev State.tokenJudged (s t : State) (op : SecOp) (tap : Bool) : Prop :=
  t.sec.nonce = false ∧
    (if s.tokenOk op = true then t.secRuns op tap ∧ t.fld F.SEC_CMD_STAT_FAILS 0 = 0
     else t.secFails 5 ∧ t.fld F.SEC_CMD_STAT_FAILS 0 = s.fld F.SEC_CMD_STAT_FAILS 0 + 1 ∧
      (s.fld F.SEC_CMD_STAT_FAILS 0 = 7 → 339 ∈ t.flt.pair))

/-- A cascade packet is delivered to this node: the port hears, it comes in order and not reflected, from another node, to
this one or to all, and this node takes part (R369, R371). -/
abbrev State.heard (s : State) (x : RxPacket) : Prop :=
  s.canHear x.portB = true ∧ x.hseq = (s.cas.port x.portB).hseqRx ∧ x.reflected = false ∧ x.src ≠ s.nodeId ∧
    (x.dst = s.nodeId ∨ x.dst = 0xFF) ∧ s.casState < casBypass

/-- A packet of this node, of a type, with its destination, TAG and data, is among those handed to a port between `s` and
`t`. -/
def State.sends (s t : State) (typ dst tag : Nat) (data : List Byte) : Bool :=
  (t.emitted.drop s.emitted.length).any fun e => match e with
  | .packet _ p => p.typ == typ && p.dst == dst && p.tag == tag && p.data == data && p.src == s.nodeId
  | _ => false

/-- What a read of a size returns whose word, and the word 4 above it, are these (R6). -/
def State.sizedReply (s : State) (sz : Size) (lo hi : Word) : Reply := match sz with
  | .part be => ((s.answer lo).narrow be).reply
  | .word => (s.answer lo).reply
  | .double => { word := lo, bytes := beBytesOf 15 lo ++ beBytesOf 15 hi, poisoned := false }

/-- Packets sent again on a port in the last second (R379). -/
def State.resentLast (s : State) (b : Bool) : Nat :=
  (((s.cas.port b).resends.filter fun e => decide (s.now < e.1 + 1000000000)).map (·.2)).sum

/-- The values of two calibration runs agree within their tolerances (R393). -/
def State.calAgrees (s : State) (k : Nat) (v : List Int × List Int × Bool) : Bool :=
  (v.1.zip v.2.1).zipIdx.all fun x => decide ((x.1.1 - x.1.2).natAbs ≤ s.calTol k x.2)

/-- The port that leads to a node can take a packet at once. -/
abbrev State.clearTo (s : State) (k : Nat) : Prop :=
  s.portUp (s.routeB k) = true ∧ (s.cas.port (s.routeB k)).queue = [] ∧ (s.cas.port (s.routeB k)).unacked.length < 32

/-- The state once a read without errors has been made of LMEM: no parity failure stands. -/
def State.taken (s : State) : State := { s with ecc := { s.ecc with parity := [] } }

/-- State of an interrupt source after an edge (R344): INACTIVE becomes PENDING, ACTIVE becomes ACTIVE+PENDING. -/
def edgeMerge (st : Nat) : Nat := if st = 0 then 1 else if st = 2 then 3 else st

end Sys2Proof.Machine
end

