-- ==== Sys2Proof/WellFormed.lean ====
section
/-! DEFINITION. Which operands name something: an instance that exists, an offset within its space, a field within its
width. A command whose operand names nothing is ill formed; a value that the outside world presents has no bound here. -/

namespace Sys2Proof

/-- The bounded operands of a command, each with the first value that is too large. -/
def Instr.bounds : Instr → List (Nat × Nat)
  | .hostRegWrite addr _ _ _ _ => [(addr, 2 ^ 27)]
  | .counterLowRead _ addr _ => [(addr, 2 ^ 27)]
  | .counterHighRead _ addr _ => [(addr, 2 ^ 27)]
  | .prismWrite blk inst off _ => [(blk, 128), (inst, 256), (off, 4096)]
  | .prismRead _ blk inst off _ => [(blk, 128), (inst, 256), (off, 4096)]
  | .evtForceWrite blk inst _ => [(blk, 128), (inst, 256)]
  | .blkRst blk inst _ => [(blk, 128), (inst, 256)]
  | .blockResetDone blk inst => [(blk, 128), (inst, 256)]
  | .pageDisable blk inst => [(blk, 128), (inst, 256)]
  | .pageEnable blk inst => [(blk, 128), (inst, 256)]
  | .pageLock blk inst => [(blk, 128), (inst, 256)]
  | .pageGroupWrite blk inst _ => [(blk, 128), (inst, 256)]
  | .modeReqCancel => []
  | .modeReqHibernate => []
  | .modeReqIdle => []
  | .modeReqWarmup => []
  | .modeReqDrain => []
  | .modeReqCalibrate => []
  | .modeReqSafehold => []
  | .modeReqInvalid target => [(target, 16)]
  | .modeChangeComplete => []
  | .domainSwitch => []
  | .warmupComplete => []
  | .vstbyValid _ _ => []
  | .vstbyLost => []
  | .mainSuppliesValid _ => []
  | .mainSuppliesLost _ => []
  | .hibWake => []
  | .bootExit => []
  | .ringTailWrite r v => [(r, 32), (v, 65536)]
  | .ringHeadWrite r v => [(r, 32), (v, 65536)]
  | .ringCtrlWrite r _ => [(r, 32)]
  | .stage _ => []
  | .restage _ => []
  | .abort _ => []
  | .release _ => []
  | .aprStnStopClear _ => []
  | .frameFused => []
  | .frameDelivered => []
  | .eventQueueDrain => []
  | .receiptTimeout => []
  | .post _ => []
  | .drop _ => []
  | .indexOpenDone _ => []
  | .poisonMark => []
  | .poisonHandover => []
  | .decBandDelivered n _ => [(n, 6)]
  | .decBandLate n => [(n, 6)]
  | .encStart => []
  | .encSave => []
  | .encRestore _ => []
  | .encAbort => []
  | .encBandDone => []
  | .encLoupeJob b => [(b, 4)]
  | .facetBoundary n => [(n, 6)]
  | .speedHoldClear n _ => [(n, 6)]
  | .corLoad n => [(n, 6)]
  | .corLoadDone n _ => [(n, 6)]
  | .bdEdge n _ _ width => [(n, 6), (width, 32)]
  | .bdWindowClose n => [(n, 6)]
  | .synLock n => [(n, 6)]
  | .synUnlock n => [(n, 6)]
  | .dllLock n => [(n, 6)]
  | .dllUnlock n => [(n, 6)]
  | .classChangeStart n => [(n, 6)]
  | .relockDeadline n => [(n, 6)]
  | .facetPacketSend n => [(n, 6)]
  | .keepTimer n => [(n, 6)]
  | .bcStatus n _ _ _ => [(n, 6)]
  | .bcTemp n idx _ => [(n, 6), (idx, 4)]
  | .bcApc n e _ _ => [(n, 6), (e, 48)]
  | .bcIddata n addr _ => [(n, 6), (addr, 3153)]
  | .bcIdle n => [(n, 6)]
  | .bcBadBlock n _ => [(n, 6)]
  | .bcloss n => [(n, 6)]
  | .blnEnable n => [(n, 6)]
  | .blnDisable n => [(n, 6)]
  | .blnRetrain n => [(n, 6)]
  | .blnAutoRetrain n => [(n, 6)]
  | .blnIdread n => [(n, 6)]
  | .idAck n => [(n, 6)]
  | .trainDone n => [(n, 6)]
  | .trainTimeout n => [(n, 6)]
  | .idreadDone n => [(n, 6)]
  | .idreadTimeout n => [(n, 6)]
  | .secProvision _ => []
  | .secCommission _ => []
  | .secReturn _ => []
  | .secReprovision _ => []
  | .secOpen _ => []
  | .secNonce _ => []
  | .secBadop _ => []
  | .nonceExpire => []
  | .bundlePush => []
  | .bundleLoadDone _ _ _ => []
  | .stationRootFinal c n => [(c, 160), (n, 6)]
  | .receiptWrite => []
  | .ckptDone _ => []
  | .drbgHealthFail => []
  | .signRetryTimeout => []
  | .tapReset => []
  | .tapBypass => []
  | .idcode => []
  | .samplePreload => []
  | .extest => []
  | .extestPulse => []
  | .extestTrain => []
  | .secacc _ addr _ => [(addr, 2 ^ 27)]
  | .scan => []
  | .dbgWinRead => []
  | .dbgWinWrite _ _ => []
  | .motRun m => [(m, 24)]
  | .motStop m => [(m, 24)]
  | .motRelease m => [(m, 24)]
  | .motBrake m => [(m, 24)]
  | .motCatchDecide m _ _ => [(m, 24)]
  | .motCatchTimeout m _ => [(m, 24)]
  | .motLowSpeed m => [(m, 24)]
  | .motAlignDone m => [(m, 24)]
  | .motBemfCrossing m _ _ => [(m, 24)]
  | .motOlTimeout m => [(m, 24)]
  | .motObserverLoss m => [(m, 24)]
  | .motCoastTimeout m => [(m, 24)]
  | .motFltInput m => [(m, 24)]
  | .motEncError m => [(m, 24)]
  | .stpOff m => [(m, 16)]
  | .stpEnable m => [(m, 16)]
  | .stpHome m => [(m, 16)]
  | .stpCmdDiscard m => [(m, 16)]
  | .stpClr m => [(m, 16)]
  | .stpSwitchChange m w _ _ _ => [(m, 16), (w, 4)]
  | .stpStandstill m => [(m, 16)]
  | .stpCoilFault m => [(m, 16)]
  | .pgnGo g => [(g, 32)]
  | .pgnStop g => [(g, 32)]
  | .pgnPreset g => [(g, 32)]
  | .pgnVtgtWrite g _ => [(g, 32)]
  | .pgnMoveDone g => [(g, 32)]
  | .pgnCapture g _ _ => [(g, 32)]
  | .ctlSample n _ _ _ _ => [(n, 96)]
  | .ctlEnable n => [(n, 96)]
  | .ctlDisable n => [(n, 96)]
  | .ctlSwap n => [(n, 96)]
  | .ctlBankWrite n _ idx _ => [(n, 96), (idx, 48)]
  | .hvoEnable o => [(o, 32)]
  | .hvoDisable o => [(o, 32)]
  | .hvoMeasure o _ _ => [(o, 32)]
  | .hvoRamped o => [(o, 32)]
  | .hvoSync _ => []
  | .lupArm b => [(b, 4)]
  | .lupTrig b => [(b, 4)]
  | .lupStop b => [(b, 4)]
  | .lupTick b _ => [(b, 4)]
  | .lupRecordEnd b => [(b, 4)]
  | .lupDumpDone b => [(b, 4)]
  | .lupRecordWrite b => [(b, 4)]
  | .mainsCrossing _ _ _ _ => []
  | .mainsCrossingMissing _ => []
  | .mnsWindowEnd _ _ _ => []
  | .mnsF10Update _ => []
  | .htrEnable h => [(h, 8)]
  | .htrDisable h => [(h, 8)]
  | .thrEnforce => []
  | .thrEnd => []
  | .tmpSensorUpdate n _ => [(n, 24)]
  | .tmpArrayUpdate n idx => [(n, 6), (idx, 5)]
  | .tmpSourceStale n idx => [(n, 6), (idx, 5)]
  | .fedCondition n _ _ _ _ => [(n, 2)]
  | .fedRenewTimer n => [(n, 2)]
  | .fedRxRenew n _ => [(n, 2)]
  | .fedRxAck n _ => [(n, 2)]
  | .fedRxHandoff n _ _ => [(n, 2)]
  | .fedRxClaim n _ => [(n, 2)]
  | .fedSwitchOff n => [(n, 2)]
  | .fedOffTimeout n => [(n, 2)]
  | .fedXgsLoss n _ => [(n, 2)]
  | .fedLeaseExpire n _ _ _ => [(n, 2)]
  | .fedStartup _ _ => []
  | .fedNofeed => []
  | .fedHandover n => [(n, 2)]
  | .fedClr n => [(n, 2)]
  | .fedRepair n _ => [(n, 2)]
  | .svScan _ => []
  | .railLogTimer r => [(r, 48)]
  | .logCommit => []
  | .logClear => []
  | .pwrBlnEnWrite _ => []
  | .seqReqOn sc => [(sc, 4)]
  | .seqReqOff sc => [(sc, 4)]
  | .seqDnStart => []
  | .seqEnable => []
  | .seqWait => []
  | .seqWaitExpire => []
  | .seqCheck _ => []
  | .seqCheckTimeout => []
  | .seqJump _ => []
  | .seqBarrierPass => []
  | .seqBarrierTimeout => []
  | .seqsyncRepull => []
  | .mainokTimeout => []
  | .memTrained _ _ _ _ => []
  | .lmemFillDone => []
  | .memParityAlert _ _ _ _ => []
  | .scrubRead _ _ => []
  | .eccDevWindow => []
  | .eccEraseWrite ch _ => [(ch, 4)]
  | .eccTblClear => []
  | .bar2Write off _ _ _ => [(off, 2 ^ 32)]
  | .bar2Read off _ _ => [(off, 2 ^ 32)]
  | .b2BaseWrite _ _ => []
  | .dmaStart c => [(c, 16)]
  | .dmaAbort c => [(c, 16)]
  | .dmaRequest c => [(c, 16)]
  | .dmaBurst c _ _ => [(c, 16)]
  | .dmaResponse c _ _ _ => [(c, 16)]
  | .dmaReadbackDone c _ _ => [(c, 16)]
  | .faultReport src => [(src, 384)]
  | .faultWire src => [(src, 384)]
  | .faultClear src => [(src, 384)]
  | .xinFilterExpire k => [(k, 16)]
  | .xinCfgWrite k _ => [(k, 16)]
  | .faultNInput _ => []
  | .fltLatchClear page j _ => [(page, 6), (j, 2)]
  | .faultNMinHold => []
  | .crstReset _ => []
  | .stormWindowClose tag => [(tag, 65536)]
  | .intEdge src => [(src, 512)]
  | .intLevel src => [(src, 512)]
  | .intArbitration => []
  | .intModExpire t => [(t, 16)]
  | .intClaim t => [(t, 16)]
  | .intComplete t src => [(t, 16), (src, 512)]
  | .intSwi _ => []
  | .intSourceConfig src _ => [(src, 512)]
  | .intTargetState t _ => [(t, 16)]
  | .linkUp width speed => [(width, 32), (speed, 16)]
  | .linkDown => []
  | .hotReset => []
  | .flr => []
  | .perst => []
  | .d3hotEntry => []
  | .bmeClear => []
  | .pcieCplTimeout _ => []
  | .pcieInternalError => []
  | .pcieCorrectableError => []
  | .bar4Write off _ _ _ _ => [(off, 2 ^ 33)]
  | .bar4Read off _ => [(off, 2 ^ 33)]
  | .remoteReadTimeout => []
  | .casRxWr x => [(x.dst, 256), (x.src, 64), (x.hseq, 256), (x.hops, 64), (x.tag, 256), (x.data.length, 33)]
  | .casRxRd x => [(x.dst, 256), (x.src, 64), (x.hseq, 256), (x.hops, 64), (x.tag, 256), (x.data.length, 33)]
  | .casRxRdr x => [(x.dst, 256), (x.src, 64), (x.hseq, 256), (x.hops, 64), (x.tag, 256), (x.data.length, 33)]
  | .casRxPwr x => [(x.dst, 256), (x.src, 64), (x.hseq, 256), (x.hops, 64), (x.tag, 256), (x.data.length, 33)]
  | .casRxMsg x => [(x.dst, 256), (x.src, 64), (x.hseq, 256), (x.hops, 64), (x.tag, 256), (x.data.length, 33)]
  | .casRxNack x => [(x.dst, 256), (x.src, 64), (x.hseq, 256), (x.hops, 64), (x.tag, 256), (x.data.length, 33)]
  | .casRxFlt x => [(x.dst, 256), (x.src, 64), (x.hseq, 256), (x.hops, 64), (x.tag, 256), (x.data.length, 33)]
  | .casRxEvt x => [(x.dst, 256), (x.src, 64), (x.hseq, 256), (x.hops, 64), (x.tag, 256), (x.data.length, 33)]
  | .casRxTrig x => [(x.dst, 256), (x.src, 64), (x.hseq, 256), (x.hops, 64), (x.tag, 256), (x.data.length, 33)]
  | .casRxLease x => [(x.dst, 256), (x.src, 64), (x.hseq, 256), (x.hops, 64), (x.tag, 256), (x.data.length, 33)]
  | .casRxTsreq _ _ _ => []
  | .casRxTsrsp _ _ _ => []
  | .casRxDisc x => [(x.dst, 256), (x.src, 64), (x.hseq, 256), (x.hops, 64), (x.tag, 256), (x.data.length, 33)]
  | .casRxLack _ h => [(h, 256)]
  | .casRxLnak _ h => [(h, 256)]
  | .casRxIdle _ => []
  | .casDiscTimer => []
  | .casLeaseTimer => []
  | .headLeaseExpire => []
  | .casTbTimer _ => []
  | .casPortUp _ => []
  | .casPortDown _ => []
  | .casBypass => []
  | .casRejoin => []
  | .keepWrite _ _ => []
  | .keepWriteApplied _ _ => []
  | .calRunDone k idx _ _ _ _ => [(k, 5), (idx, 96)]
  | .calClear => []
  | .mainUpStart => []
  | .secCmdDone _ => []
  | .pgnStopped g => [(g, 32)]
  | .escWindowExpire src => [(src, 384)]
  | .lupGioEdge pin _ => [(pin, 128)]
  | .casRxBadPacket _ => []
  | .fedSupervisorLost n => [(n, 2)]
  | .bmeSet => []
  | .d0Return => []
  | .msixEnableChange _ _ => []

/-- A command is well formed when every bounded operand is within its bound. -/
def Instr.wf (i : Instr) : Bool := i.bounds.all fun b => decide (b.1 < b.2)

end Sys2Proof
end

