-- ==== Sys2Proof/Certificates/Slice0/Obligations.lean ====
section
/-! DEFINITION. What is claimed of the machine, for the provers. -/

open Sys2Proof Sys2Proof.Machine

/-- INT_EDGE: an edge source goes INACTIVE to PENDING and ACTIVE to ACTIVE+PENDING, further edges merge, and a source
that is no edge source is left alone. INT_LEVEL: a page's source follows its input: INACTIVE becomes PENDING while the
input is high, PENDING becomes INACTIVE while it is low. INT_SWI, as it arrives at its page: bit b of the value is an
edge of IS_(008 + b), for every b from 0 to 7. Each leaves every other register (but the level's spurious count) and
every other part of the state alone. (spec/12 R344, spec/12 R352, spec/12 R353) -/
def Obligations.IntSourceInputs : Prop :=
  (∀ (s : State) (src : Nat), ∃ t, exec (.intEdge src) s = .next t ∧
    t.intState src = (if intIsEdge src then edgeMerge (s.intState src) else s.intState src) ∧
    s.regsBut t [intSrcAddr src] ∧ s.onlyRegs t) ∧
  (∀ (s : State) (src : Nat), (intPage src).isSome = true → ∃ t, exec (.intLevel src) s = .next t ∧
    t.intState src = (if s.intInput src ∧ s.intState src = 0 then 1
      else if ¬ s.intInput src ∧ s.intState src = 1 then 0 else s.intState src) ∧
    (src ∈ t.ints.high ↔ s.intInput src = true) ∧
    s.regsBut t [intSrcAddr src, F.INT_SPUR_CNT_LEVEL.addr 0x10] ∧
    t = { s with regs := t.regs, ints := { s.ints with high := t.ints.high },
                 balls := { s.balls with wakeN := t.wakeLow } }) ∧
  (∀ (s : State) (v : Word), s.openPage B.INT 0x10 → ∃ t, exec (.intSwi v) s = .next t ∧
    (∀ b, b < 8 → t.intState (8 + b) =
      if bit v.toNat b then edgeMerge (s.intState (8 + b)) else s.intState (8 + b)) ∧
    s.regsBut t ((List.range 8).map fun b => intSrcAddr (8 + b)) ∧ s.onlyRegs t)

/-- INT_CLAIM at a target with no deliverable source reads 0. With a deliverable source and fewer than eight open
claims it reads that source's number, its priority and bit 31, and the source becomes the target's innermost claim;
every source but that one keeps its state. INT_COMPLETE, as it arrives at the target's page, ends the claim of the
source at that target: an edge source that was ACTIVE+PENDING, or another whose input is high, is PENDING again, and
otherwise INACTIVE; a source that the target has not claimed changes nothing. (spec/12 R345, spec/12 R348, spec/12
R354) -/
def Obligations.IntClaimAndComplete : Prop :=
  (∀ (s : State) (k : Nat), k < 16 → (s.countStale k).bestSrc k = none → ∃ t, exec (.intClaim k) s = .next t ∧
      s.regsOutside t [B.INT] ∧
    t.reply.word = 0 ∧ (∀ n, n < 512 → t.reg (intSrcAddr n) = s.reg (intSrcAddr n)) ∧ t.lmem = s.lmem) ∧
  (∀ (s : State) (k n : Nat), k < 16 → n < 512 → (s.countStale k).bestSrc k = some n → (s.tgt k).stack.length < 8 →
    ∃ t, exec (.intClaim k) s = .next t ∧
      s.regsOutside t [B.INT] ∧
    t.reply.word = BitVec.ofNat 32 (2 ^ 31 + bits (s.reg (intSrcAddr n)).toNat 0 8 * 2 ^ 16 + n) ∧
    (t.tgt k).stack = (n, s.intGroup n) :: (s.tgt k).stack ∧ t.intState n = 2 ∧
    (∀ m, m < 512 → m ≠ n → t.reg (intSrcAddr m) = s.reg (intSrcAddr m)) ∧ t.lmem = s.lmem) ∧
  (∀ (s : State) (k n : Nat), k < 16 → n < 512 → s.openPage B.INT (0x20 + k) → ∃ t, exec (.intComplete k n) s = .next t ∧
    (if (s.tgt k).stack.any (·.1 == n) then
      t.intState n = (if (if intIsEdge n then s.intState n == 3 else decide (n ∈ s.ints.high)) then 1 else 0) ∧
      (t.tgt k).stack = (s.tgt k).stack.filter (·.1 ≠ n) ∧
      (∀ m, m < 512 → m ≠ n → t.reg (intSrcAddr m) = s.reg (intSrcAddr m)) ∧ t.lmem = s.lmem
    else s.unchanged t))

/-- A source that alone waits, and is deliverable to an MSI-X target with nothing in service whose moderation has run
out, sends one message of the vector VBASE plus its group; the target's message count goes up, its moderation starts
and nothing else leaves. With no source waiting and no pin low a pass sends nothing and counts nothing. INT_MOD_EXPIRE
ends a target's moderation. INT_TARGET_STATE writes the target's state, and WAKE of each target follows whether a
source of it is stranded. INT_SOURCE_CONFIG writes PRIO, TGT and EN of a source and leaves its state; of IS_000 it
writes TGT alone, and nothing while the page is locked. (spec/12 R345, spec/12 R346, spec/12 R347, spec/12 R349,
spec/12 R352, spec/12 R354) -/
def Obligations.InterruptTargets : Prop :=
  (∀ (s : State) (n k : Nat), n < 512 → k ≤ 13 → s.domOn .hst = true → s.intWaiting n = true → s.effTgt n = some k →
    (∀ m, m < 512 → m = n ∨ s.intWaiting m = false) → (∀ q, q < 16 → (s.tgt q).pinLow = false) →
    (s.tgt k).stack = [] → (s.tgt k).heldTill ≤ s.now → (s.tgt k).sentFor ≠ some n →
    bit (s.reg (vecCtl ((s.fld F.INT_TGT_CFG_VBASE (0x20 + k) + s.intGroup n) % 1024))).toNat 0 = false →
    ∃ t, exec .intArbitration s = .next t ∧
      s.regsOutside t [0x7F, B.INT] ∧ t.lmem = s.lmem ∧
      t.emitted = s.emitted ++ [.msix ((s.fld F.INT_TGT_CFG_VBASE (0x20 + k) + s.intGroup n) % 1024)] ∧
      t.fld F.INT_TGT_MSGCNT (0x20 + k) = min (s.fld F.INT_TGT_MSGCNT (0x20 + k) + 1) (2 ^ F.INT_TGT_MSGCNT.len - 1) ∧
      (t.tgt k).sentFor = some n ∧ (t.tgt k).heldTill = s.now + 1000 * s.fld F.INT_TGT_CFG_MOD (0x20 + k) ∧
      (∀ m, m < 512 → t.intState m = s.intState m)) ∧
  (∀ (s : State), (∀ m, m < 512 → s.intWaiting m = false) → (∀ q, q < 16 → (s.tgt q).pinLow = false) →
    ∃ t, exec .intArbitration s = .next t ∧
      s.regsOutside t [0x7F, B.INT] ∧ t.lmem = s.lmem ∧
      t.emitted = s.emitted ∧
      (∀ q, q < 16 → t.fld F.INT_TGT_MSGCNT (0x20 + q) = s.fld F.INT_TGT_MSGCNT (0x20 + q)) ∧
      (∀ q, q < 16 → t.flag F.INT_TGT_STATE_WAKE (0x20 + q) = false) ∧
      (∀ m, m < 512 → t.intState m = s.intState m)) ∧
  (∀ (s : State) (k : Nat), k < 16 → ∃ t, exec (.intModExpire k) s = .next t ∧
      t.tgt k = { s.tgt k with heldTill := min (s.tgt k).heldTill s.now } ∧ (∀ q, q ≠ k → t.tgt q = s.tgt q) ∧
      s.regsBut t [F.INT_TGT_INSVC_DEPTH.addr (0x20 + k)] ∧ t.emitted = s.emitted ∧ t.lmem = s.lmem) ∧
  (∀ (s : State) (k : Nat) (v : Word), k < 16 → s.openPage B.INT (0x20 + k) →
    ∃ t, exec (.intTargetState k v) s = .next t ∧
      t.lmem = s.lmem ∧
      t.fld F.INT_TGT_STATE_STATE (0x20 + k) = bits v.toNat 0 2 ∧
      (∀ q, q < 16 → q ≠ k → t.fld F.INT_TGT_STATE_STATE (0x20 + q) = s.fld F.INT_TGT_STATE_STATE (0x20 + q)) ∧
      (∀ q, q < 16 → t.flag F.INT_TGT_STATE_WAKE (0x20 + q) = t.stranded q) ∧
      s.regsBut t ((List.range 16).map fun q => F.INT_TGT_STATE_STATE.addr (0x20 + q)) ∧ t.ints = s.ints) ∧
  (∀ (s : State) (n : Nat) (v : Word), 1 ≤ n → n < 512 → s.openPage B.INT (n / 128) →
    ∃ t, exec (.intSourceConfig n v) s = .next t ∧ bits (t.reg (intSrcAddr n)).toNat 0 13 = bits v.toNat 0 13 ∧
      t.intState n = s.intState n ∧ s.regsBut t [intSrcAddr n] ∧ s.onlyRegs t) ∧
  (∀ (s : State) (v : Word), s.openPage B.INT 0 →
    ∃ t, exec (.intSourceConfig 0 v) s = .next t ∧
      bits (t.reg (intSrcAddr 0)).toNat 8 4
        = (if s.flag (H.PAGE_LOCK_LOCK B.INT) 0 = true then bits (s.reg (intSrcAddr 0)).toNat 8 4 else bits v.toNat 8 4) ∧
      bits (t.reg (intSrcAddr 0)).toNat 0 8 = bits (s.reg (intSrcAddr 0)).toNat 0 8 ∧
      bit (t.reg (intSrcAddr 0)).toNat 12 = bit (s.reg (intSrcAddr 0)).toNat 12 ∧ s.regsBut t [intSrcAddr 0] ∧ s.onlyRegs t)

/-- A write of SYS_MODE_REQ arrives over an open link outside LOCKDOWN, with no change running, outside BOOT, in no
cycle of a device change. WARMUP is taken from IDLE, DRAIN from PRINT, CALIBRATE from IDLE and READY, HIBERNATE from
IDLE with no program running, SAFEHOLD from every mode from CONFIG to CALIBRATE: a host change toward it begins. From
any other mode each of these but SAFEHOLD is refused as unreachable. IDLE from CONFIG begins with a bundle loaded and
is refused as NOBUNDLE without one; from SAFEHOLD it is refused while a SEVERE source is active. An unlisted target is
refused as BADTARGET. TARGET 0 cancels what is held. (spec/01 R25, spec/01 R26, spec/01 R27) -/
def Obligations.ModeRequests : Prop :=
  (∀ (s : State), s.openPage B.SYS 0 → s.hostPath = true → ∃ t, exec .modeReqCancel s = .next t ∧
    t.sys = { s.sys with pend := none, drainIdle := false } ∧ s.regsBut t [F.SYS_MODE_REQ.addr 0] ∧ t.lmem = s.lmem) ∧
  (∀ (s : State), s.requestable → ∃ t, exec .modeReqWarmup s = .next t ∧
    (if s.sys.mode = .idle then t.hostChange s .warmup else t.refused refUnreachable) ∧
    s.regsBut t [F.SYS_MODE_REQ.addr 0, evtAddr B.SYS 0] ∧ t.lmem = s.lmem) ∧
  (∀ (s : State), s.requestable → ∃ t, exec .modeReqDrain s = .next t ∧
    (if s.sys.mode = .print then t.hostChange s .drain else t.refused refUnreachable) ∧
    s.regsBut t [F.SYS_MODE_REQ.addr 0, evtAddr B.SYS 0] ∧ t.lmem = s.lmem) ∧
  (∀ (s : State), s.requestable → ∃ t, exec .modeReqCalibrate s = .next t ∧
    (if s.sys.mode = .idle ∨ s.sys.mode = .ready then t.hostChange s .calibrate ∧ t.sys.calFrom = s.sys.mode
      else t.refused refUnreachable) ∧
    s.regsBut t [F.SYS_MODE_REQ.addr 0, evtAddr B.SYS 0] ∧ t.lmem = s.lmem) ∧
  (∀ (s : State), s.requestable → ∃ t, exec .modeReqIdle s = .next t ∧
    (if s.sys.mode = .config then (if s.bundle.ok then t.hostChange s .idle else t.refused refNoBundle)
      else if s.sys.mode = .warmup ∨ s.sys.mode = .ready then t.hostChange s .idle
      else if s.sys.mode = .print then t.hostChange s .drain ∧ t.sys.drainIdle = true
      else if s.sys.mode = .drain then t.sys.drainIdle = true ∧ t.sys.trans = none
      else if s.sys.mode = .safehold then
        (if s.severeActive then t.refused refFaultActive else t.hostChange s .idle)
      else t.refused refUnreachable) ∧
    s.regsBut t [F.SYS_MODE_REQ.addr 0, evtAddr B.SYS 0] ∧ t.lmem = s.lmem) ∧
  (∀ (s : State), s.requestable → ∃ t, exec .modeReqHibernate s = .next t ∧
    (if s.sys.mode ≠ .idle then t.refused refUnreachable
      else if s.seqRuns then t.sys.pend = some .hibernate ∧ t.sys.trans = none
      else t.hostChange s .hibernate)) ∧
  (∀ (s : State), s.requestable → ∃ t, exec .modeReqSafehold s = .next t ∧
    (if s.sys.mode.running then t.hostChange s .safehold else t.refused refUnreachable)) ∧
  (∀ (s : State) (v : Nat), s.openPage B.SYS 0 → s.hostPath = true → (reqTarget v).isNone = true → v % 16 ≠ 0 →
    ∃ t, exec (.modeReqInvalid v) s = .next t ∧ t.refused refBadTarget ∧
    s.regsBut t [F.SYS_MODE_REQ.addr 0, evtAddr B.SYS 0] ∧ t.lmem = s.lmem)

/-- MODE_CHANGE_COMPLETE with a change running out of a mode other than BOOT, and every domain and program where the
target needs it, enters the target: the mode is the target and PREV the mode left. With the change not ready it
changes nothing. DOMAIN_SWITCH takes the next domain of the order of R269, once its place in time has come, to the
state that the mode needs, on any way but the one to HIBERNATE, and raises PWR.DOM. WARMUP_COMPLETE in WARMUP and
BOOT_EXIT in BOOT with nothing outstanding begin the device's own change to READY and to CONFIG. (spec/01 R25, spec/01
R26, spec/01 R27, spec/10 R269) -/
def Obligations.ModeChangesEnd : Prop :=
  (∀ (s : State) (x : Trans), s.sys.trans = some x → s.sys.mode ≠ .boot → ∃ t, exec .modeChangeComplete s = .next t ∧
    (if s.changeReady x.target then t.sys.mode = x.target ∧
      t.sys.prev = (if s.sys.mode = x.target then s.sys.prev else s.sys.mode) else s.unchanged t)) ∧
  (∀ (s : State) (d : Dom) (on : Bool), s.nextDomain = some (d, on) → s.domDue d on = true → s.domMode ≠ .hibernate →
    ∃ t, exec .domainSwitch s = .next t ∧ t.domOn d = on ∧ t.raised B.PWR 0x40 0 = true ∧ t.sys.mode = s.sys.mode) ∧
  (∀ (s : State), s.sys.mode = .warmup → s.sys.trans = none → ∃ t, exec .warmupComplete s = .next t ∧
      t.lmem = s.lmem ∧
    t.sys.trans = some (Machine.Trans.mk .ready false s.now causeDevice) ∧ t.sys.mode = .warmup ∧ t.regs = s.regs) ∧
  (∀ (s : State), s.sys.mode = .boot → s.sys.trans = none → s.zpend = 0 → s.aon.fillDone = true → s.bundle.loading = none →
    ∃ t, exec .bootExit s = .next t ∧
      t.lmem = s.lmem ∧
    t.sys.trans = some (Machine.Trans.mk .config false s.now causeDevice) ∧ t.sys.mode = .boot ∧ t.regs = s.regs)

/-- HIB_WAKE in HIBERNATE switches the feed domains on and begins to wake. Once a supervisor owns a bus MAIN_UP_START
starts the stored UP program of MAIN, or with none waits for the supplies. With no feed in time the wake is given up,
LAST reading 4; with no main supplies 10 ms after they are waited for F_281 is raised. The main supplies becoming
valid while they are waited for begin the change into BOOT; their loss in a mode that needs them ends in HIBERNATE,
noted for the next BOOT. VSTBY lost is OFF, with the keep store's words kept; VSTBY valid again starts press time at 0
and wakes, or is in HIBERNATE without main supplies. A chip reset whose wait is over (no receipt pending and no high-
voltage enable high, or 25 ms) begins the change into BOOT once every scope is OFF. (spec/01 R25, spec/10 R267,
spec/10 R276, spec/10 R288, spec/10 R290, spec/12 R334) -/
def Obligations.SuppliesAndReset : Prop :=
  (∀ (s : State), s.sys.mode = .hibernate → s.sys.waking = false → s.sys.trans = none → ∃ t, exec .hibWake s = .next t ∧
    t.sys.waking = true ∧ t.domOn .fsa = true ∧ t.domOn .fsb = true ∧ t.sys.mode = .hibernate ∧
    s.regsBut t [F.PWR_DOM_STAT.addr 0x40] ∧ t.lmem = s.lmem) ∧
  (∀ (s : State), s.sys.waking = true → s.sys.mainWait = none → s.seqRuns = false → s.fld F.FED_STAT_STATE 0 = fedOwner →
    s.entryUp 0 ≠ 0xFF → ∃ t, exec .mainUpStart s = .next t ∧
      t.lmem = s.lmem ∧
      t.seqRuns = true ∧ t.seqScope = 0 ∧ t.seqUp = true ∧
    t.seqStep = s.entryUp 0 ∧ t.scopeState 0 = scUp ∧ s.regsBut t [F.SEQ_STAT.addr 0, F.SEQ_SCOPE.addr 0]) ∧
  (∀ (s : State), s.sys.waking = true → s.sys.mainWait = none → s.seqRuns = false → ∃ t, exec .fedNofeed s = .next t ∧
      s.regsOutside t [B.FED, B.PWR, B.SYS] ∧ t.lmem = s.lmem ∧
    t.sys.waking = false ∧ t.domOn .fsa = false ∧ t.domOn .fsb = false ∧ t.fld F.PWR_MAIN_STAT_LAST 0x40 = 4) ∧
  (∀ (s : State) (w : Nat), s.sys.mainWait = some w → ∃ t, exec .mainokTimeout s = .next t ∧
    (if w + 10000000 ≤ s.now then s.regsOutside t [B.FED, B.PWR, B.SEQ, B.SYS] ∧ t.lmem = s.lmem ∧
      281 ∈ t.flt.pair ∧ t.sys.mainWait = none else s.unchanged t)) ∧
  (∀ (s : State) (x : Straps), s.balls.vstby = true → ∃ t, exec (.mainSuppliesValid x) s = .next t ∧
      s.regsOutside t [B.CAS, B.PWR] ∧ t.lmem = s.lmem ∧
    t.flag F.PWR_MAIN_STAT_ALL_OK 0x40 = true ∧ t.balls.mstrap = x.mstrap ∧
    (if s.sys.mainWait.isSome then t.sys.trans = some (Machine.Trans.mk .boot false s.now causeDevice) else t.sys = s.sys)) ∧
  (∀ (s : State) (low : Nat), low % 128 ≠ 0 → s.sys.mode ≠ .off → s.sys.mode ≠ .hibernate →
    ∃ t, exec (.mainSuppliesLost low) s = .next t ∧ t.sys.mode = .hibernate ∧ t.sys.prev = s.sys.mode ∧
    t.sys.trans = none ∧ t.aon.lossSeen = true ∧ t.keep.words = s.keep.words) ∧
  (∀ (s : State), s.balls.vstby = true → ∃ t, exec .vstbyLost s = .next t ∧
      (∀ a, blkOf a ≠ B.PWR → t.reg a = regReset a) ∧
    t.sys.mode = .off ∧ t.keep.words = s.keep.words ∧
    (s.cal.wrote = none → t.cal.bankA = s.cal.bankA ∧ t.cal.bankB = s.cal.bankB) ∧
    t.lmem = [] ∧ t.balls.vstby = false) ∧
  (∀ (s : State) (x : Straps) (mains : Bool), s.balls.vstby = false → s.sys.mainWait = none →
    ∃ t, exec (.vstbyValid mains x) s = .next t ∧
      s.regsOutside t [B.CAS, B.PWR, B.SYS] ∧ t.lmem = s.lmem ∧
      t.time = 0 ∧ t.balls.vstby = true ∧ t.domOn .aon = true ∧
    (if mains then t.sys.waking = true else t.sys.mode = .hibernate)) ∧
  (∀ (s : State) (x : Straps) (w : Nat), s.sys.crst = some w → (s.seq.after = .crst ∨ s.crstWaited w = true) →
    s.scopesOff = true → s.seqRuns = false →
    ∃ t, exec (.crstReset x) s = .next t ∧ t.sys.trans = some (Machine.Trans.mk .boot false s.now causeDevice) ∧
    t.sys.crst = none ∧ t.balls.mstrap = x.mstrap)

/-- A power-up request of an engine scope that is OFF, in a mode that admits it, with an UP program stored, none
running and none other asked on, starts that program at its entry. A power-down request of a scope that is ON is held
until its DN program starts. Requests for MAIN are refused with SCOPE, and requests in another mode with MODE.
SEQ_DN_START, none running, starts the DN program of the scope that is asked off. A checkpoint that succeeds with no
worn word flips the selector and raises ATT.CKPT. (spec/10 R288, spec/10 R291, spec/10 R294, spec/06 R163) -/
def Obligations.ScopeRequests : Prop :=
  (∀ (s : State) (sc : Nat), s.openPage B.SEQ 0 → sc < 4 → seqModeOk s.sys.mode = true → sc ≠ 0 → s.entryUp sc ≠ 0xFF →
    s.scopeState sc = scOff → s.seqRuns = false → (∀ k, k < 4 → k ≠ sc → s.scopePend k ≠ 1) →
    ∃ t, exec (.seqReqOn sc) s = .next t ∧ t.seqRuns = true ∧ t.seqScope = sc ∧ t.seqUp = true ∧
      t.seqStep = s.entryUp sc ∧ t.scopeState sc = scUp ∧ t.lmem = s.lmem ∧
      s.regsBut t [F.SEQ_REQ.addr 0, F.SEQ_STAT.addr 0, F.SEQ_SCOPE.addr 0]) ∧
  (∀ (s : State) (sc : Nat), s.openPage B.SEQ 0 → sc < 4 → seqModeOk s.sys.mode = true → sc ≠ 0 → s.entryDn sc ≠ 0xFF →
    s.scopeState sc = scOn → ∃ t, exec (.seqReqOff sc) s = .next t ∧ t.scopePend sc = 2 ∧ t.scopeState sc = scOn ∧
      t.seq = { s.seq with reqAt := s.now, heldOn := (if s.seq.onAt = some (sc, s.now) then
        s.seq.heldOn.filter (· ≠ sc) ++ [sc] else s.seq.heldOn) } ∧ s.regsBut t [F.SEQ_REQ.addr 0, F.SEQ_SCOPE.addr 0] ∧ t.lmem = s.lmem) ∧
  (∀ (s : State) (sc : Nat), s.openPage B.SEQ 0 → sc < 4 → ∃ t, exec (.seqReqOn sc) s = .next t ∧
    ((seqModeOk s.sys.mode = false ∨ sc = 0 ∨ s.entryUp sc = 0xFF) →
      t.fld F.SEQ_STAT_REFUSE 0 = (if seqModeOk s.sys.mode then 1 else 2) ∧ t.raised B.SEQ 0 2 = true ∧
      s.regsBut t [F.SEQ_REQ.addr 0, F.SEQ_STAT.addr 0, evtAddr B.SEQ 0] ∧ s.onlyRegs t)) ∧
  (∀ (s : State) (sc : Nat), s.openPage B.SEQ 0 → sc < 4 → ∃ t, exec (.seqReqOff sc) s = .next t ∧
    ((seqModeOk s.sys.mode = false ∨ sc = 0 ∨ s.entryDn sc = 0xFF) →
      t.fld F.SEQ_STAT_REFUSE 0 = (if seqModeOk s.sys.mode then 1 else 2) ∧ t.raised B.SEQ 0 2 = true ∧
      s.regsBut t [F.SEQ_REQ.addr 0, F.SEQ_STAT.addr 0, evtAddr B.SEQ 0] ∧ s.onlyRegs t)) ∧
  (∀ (s : State) (sc : Nat), s.seqRuns = false →
    s.seqOrder.find? (fun k => s.scopePend k == 2 && s.scopeState k == scOn) = some sc →
    ∃ t, exec .seqDnStart s = .next t ∧ t.seqRuns = true ∧ t.seqScope = sc ∧ t.seqUp = false ∧
      t.seqStep = s.entryDn sc ∧ t.scopeState sc = scDn ∧ t.seq.begun = true ∧ t.lmem = s.lmem) ∧
  (∀ (s : State) (k : Ckpt) (rest : List Ckpt), s.att.ckpts = k :: rest → s.keepWorn kwSel = false →
    (∀ i, i < 17 → s.keepWorn (kwCkpt (1 - s.ckptSel) i) = false) → ∃ t, exec (.ckptDone true) s = .next t ∧
      t.ckptSel = 1 - s.ckptSel ∧ t.att.ckpts = rest ∧ t.raised B.ATT 0 1 = true ∧ t.lmem = s.lmem)

/-- A command ring offers an entry that is well formed as it is read through ECC: its CRC good, its reserved bytes
zero, nothing of it poisoned; symbol errors that the read corrects shut nothing out. Each command takes the entry: the
ring's head moves on by one. STAGE with fields in range, into a context that is FREE or RETIRED and with no index held
elsewhere, leaves the context STAGED or ADMITTED with this entry as its description. RESTAGE of a STAGED context with
its fixed fields unchanged leaves it STAGED or ADMITTED. ABORT, in range, of a frame that is ADMITTED or EXPOSING
leaves it SPOILED with HOST_ABORT. RELEASE, in range, of a STAGED context leaves it FREE. A RELEASE of a context in
another state is rejected and changes no context. (spec/02 R29, spec/02 R32, spec/02 R33, spec/02 R34, spec/02 R49) -/
def Obligations.ApertureCommands : Prop :=
  (∀ (s : State) (r : Nat) (bs : List Byte) (errs : List CwErr), s.offers r 1 bs errs → fieldAt bs 2 2 < 160 →
    ((s.ctx (fieldAt bs 2 2)).st = .free ∨ (s.ctx (fieldAt bs 2 2)).st = .retired) →
    (s.entryRead r errs).inRange { Ctx.init with desc := bs } = true →
    (s.entryRead r errs).heldElsewhere (fieldAt bs 2 2) { Ctx.init with desc := bs } = false →
    ∃ t, exec (.stage errs) s = .next t ∧ t.ringHead r = (s.ringHead r + 1) % s.ringSize r ∧
      (t.ctx (fieldAt bs 2 2)).desc = bs ∧
      ((t.ctx (fieldAt bs 2 2)).st = .staged ∨ (t.ctx (fieldAt bs 2 2)).st = .admitted) ∧
      (∀ c, c ≠ fieldAt bs 2 2 → t.ctx c = s.ctx c)) ∧
  (∀ (s : State) (r : Nat) (bs : List Byte) (errs : List CwErr), s.offers r 2 bs errs → fieldAt bs 2 2 < 160 →
    (s.ctx (fieldAt bs 2 2)).st = .staged → restageKey bs = restageKey (s.ctx (fieldAt bs 2 2)).desc →
    (s.entryRead r errs).inRange { Ctx.init with desc := bs } = true →
    ∃ t, exec (.restage errs) s = .next t ∧ t.ringHead r = (s.ringHead r + 1) % s.ringSize r ∧
      takeAt (t.ctx (fieldAt bs 2 2)).desc 0x10 8 = takeAt bs 0x10 8 ∧
      ((t.ctx (fieldAt bs 2 2)).st = .staged ∨ (t.ctx (fieldAt bs 2 2)).st = .admitted) ∧
      (∀ c, c ≠ fieldAt bs 2 2 → t.ctx c = s.ctx c)) ∧
  (∀ (s : State) (r : Nat) (bs : List Byte) (errs : List CwErr), s.offers r 3 bs errs → fieldAt bs 2 2 < 160 →
    ((s.ctx (fieldAt bs 2 2)).st = .admitted ∨ (s.ctx (fieldAt bs 2 2)).st = .exposing) →
    (s.entryRead r errs).inRange { Ctx.init with desc := bs } = true →
    ∃ t, exec (.abort errs) s = .next t ∧ t.ringHead r = (s.ringHead r + 1) % s.ringSize r ∧
      (t.ctx (fieldAt bs 2 2)).st = .spoiled ∧ (t.ctx (fieldAt bs 2 2)).cause = cHostAbort ∧
      (∀ c, c ≠ fieldAt bs 2 2 → t.ctx c = s.ctx c)) ∧
  (∀ (s : State) (r : Nat) (bs : List Byte) (errs : List CwErr), s.offers r 4 bs errs → fieldAt bs 2 2 < 160 →
    (s.ctx (fieldAt bs 2 2)).st = .staged → (s.entryRead r errs).inRange { Ctx.init with desc := bs } = true →
    ∃ t, exec (.release errs) s = .next t ∧ t.ringHead r = (s.ringHead r + 1) % s.ringSize r ∧
      t.ctx (fieldAt bs 2 2) = { Ctx.init with reason := (s.ctx (fieldAt bs 2 2)).reason } ∧
      (∀ c, c ≠ fieldAt bs 2 2 → t.ctx c = s.ctx c)) ∧
  (∀ (s : State) (r : Nat) (bs : List Byte) (errs : List CwErr), s.offers r 4 bs errs → fieldAt bs 2 2 < 160 →
    (s.ctx (fieldAt bs 2 2)).st ≠ .staged →
    ∃ t, exec (.release errs) s = .next t ∧ t.ringHead r = (s.ringHead r + 1) % s.ringSize r ∧
      t.raised B.APR 0 evReject = true ∧ t.ctxs = s.ctxs)

/-- A posting at the front of the image ring served next, well formed as it is read through ECC, is taken: the ring's
head moves on by one. A POST of one block to an open record of the ring's station and plane, no context beyond STAGED
holding it, tests that block's header afresh, as the read of it finds it: STATUS of its entry becomes RESIDENT or
HDRERR, with POISON where the header reads poisoned. A POST that names an index not open, with COUNT 0, opens it into
the lowest free record and is counted in FST_BADPOST. A DROP of a record that no context holds frees it; of one that a
context holds it is counted and frees nothing. Two further indices: an index claimed at STAGE is opened by
INDEX_OPEN_DONE into the lowest free record, held by its context. (spec/03 R61, spec/03 R62, spec/03 R63, spec/03 R64,
spec/03 R65, spec/03 R69) -/
def Obligations.Postings : Prop :=
  (∀ (s s1 s2 : State) (r i j : Nat) (bs e : List Byte) (p : PlaneRec) (errs : List CwErr), s.posts r 1 bs errs →
    s.findRec (fieldAt bs 8 8) = some (i, p) → s.planeRec i = some p → p.bad = false → s.beyondStaged i = false →
    p.station = r / 2 → p.plane = r % 2 → fieldAt bs 0x14 4 = 1 → fieldAt bs 0x10 4 = j → j < p.nBlocks →
    s.entryRead r errs = s1 → s1.entryBytes p.addr j = e → s1.demand (entAddr e) 32 errs = s2 →
    ∃ t, exec (.post errs) s = .next t ∧
      s.regsOutside t [B.APR, B.ECC, B.FST] ∧
      t.ringHead r = (s.ringHead r + 1) % s.ringSize r ∧
      entStatus (t.entryBytes p.addr j)
        = (if headerOk (s2.lmemBytes (entAddr e) 32) p.bpp p.nTables (entComp e) = true then 1 else 4)
          + (if s2.poisoned (entAddr e) 32 = true then 2 else 0)) ∧
  (∀ (s : State) (r i : Nat) (bs : List Byte) (errs : List CwErr), s.posts r 1 bs errs →
    s.findRec (fieldAt bs 8 8) = none → s.freeSlot = some i → s.fst.claims = [] → fieldAt bs 0x14 4 = 0 →
    ∃ t, exec (.post errs) s = .next t ∧
      s.regsOutside t [B.APR, B.ECC, B.FST] ∧
      t.ringHead r = (s.ringHead r + 1) % s.ringSize r ∧
      t.planeRec i = some (((s.entryRead r errs).indexRead (fieldAt bs 8 8) errs).readIndex (fieldAt bs 8 8)) ∧
      t.raised B.FST 0 2 = true ∧ t.lmem = ((s.entryRead r errs).indexRead (fieldAt bs 8 8) errs).lmem) ∧
  (∀ (s : State) (r i : Nat) (bs : List Byte) (p : PlaneRec) (errs : List CwErr), s.posts r 2 bs errs →
    s.findRec (fieldAt bs 8 8) = some (i, p) →
    ∃ t, exec (.drop errs) s = .next t ∧
      s.regsOutside t [B.APR, B.ECC, B.FST] ∧
      t.ringHead r = (s.ringHead r + 1) % s.ringSize r ∧ t.lmem = (s.entryRead r errs).lmem ∧
      (if p.ctx.isNone = true then t.planeRec i = none else t.fst.recs = s.fst.recs ∧ t.raised B.FST 0 2 = true)) ∧
  (∀ (s : State) (i a c : Nat) (rest : List Claim) (errs : List CwErr), s.fst.claims = Claim.mk a c :: rest →
    s.freeSlot = some i →
    ∃ t, exec (.indexOpenDone errs) s = .next t ∧
      s.regsOutside t [B.ECC, B.FST] ∧
      t.lmem = (s.indexRead a errs).lmem ∧
      t.planeRec i = some { (s.indexRead a errs).readIndex a with ctx := some c } ∧
      t.fst.claims = s.fst.claims.filter (fun x => decide (x.addr ≠ a)))

/-- FRAME_FUSED moves the oldest EXPOSED frame whose fuse position the transport has passed to FUSED and changes no
other context. FRAME_DELIVERED moves the oldest such FUSED frame to DELIVERED (or on to RETIRED) and raises
APR.DELIVERED. POISON_MARK takes the next marked address off the list and changes no record that it does not meet;
with no record open it marks no block. POISON_HANDOVER revokes the ADMITTED frame of a poisoned block that has not
begun decode, which is STAGED again with the poison bit as its reason. EVENT_QUEUE_DRAIN writes the record that waits
in the queue for a ring with room, at the ring's tail. (spec/02 R29, spec/02 R52, spec/03 R68, spec/02 R40) -/
def Obligations.FramesAlongTheTransport : Prop :=
  (∀ (s : State) (c : Nat), s.passedBy .exposed ((s.reg (F.APR_FUSE_DIST.addr 0)).toNat) = some c →
    ∃ t, exec .frameFused s = .next t ∧ (t.ctx c).st = .fused ∧ (∀ d, d ≠ c → t.ctx d = s.ctx d) ∧ t.regs = s.regs ∧
      t.lmem = s.lmem ∧ t.emitted = s.emitted) ∧
  (∀ (s : State) (c : Nat), s.passedBy .fused ((s.reg (F.APR_DLV_DIST.addr 0)).toNat) = some c →
    s.ctxsWith (fun x => decide (x.st = .spoiled)) = [] →
    ∃ t, exec .frameDelivered s = .next t ∧
      s.regsOutside t [B.APR, B.FST, B.SYS] ∧
      t.raised B.APR 0 4 = true ∧
      (t.ctx c).st = (if (s.ctx c).passed = true then .retired else .delivered) ∧
      (∀ d, d ≠ c → t.ctx d = s.ctx d)) ∧
  (∀ (s : State) (a : Nat) (rest : List Nat), s.ecc.handed = a :: rest → s.fst.recs = [] →
    ∃ t, exec .poisonMark s = .next t ∧
      s.regsOutside t [B.FST] ∧
      t.ecc.handed = rest ∧ t.poison = s.poison ∧ t.lmem = s.lmem ∧
      t.fst.hits = s.fst.hits) ∧
  (∀ (s : State) (a : Nat) (rest : List Nat), s.ecc.handed = a :: rest →
    ∃ t, exec .poisonMark s = .next t ∧
      s.regsOutside t [B.FST] ∧ t.ecc.handed = rest ∧ t.ctxs = s.ctxs ∧
      (∀ i, (s.planeRec i).any (fun p => p.meets a 128) = false → t.planeRec i = s.planeRec i)) ∧
  (∀ (s : State) (c a : Nat), s.fst.hits = [Hit.mk (some c) a] → (s.ctx c).st = .admitted → (s.ctx c).begun = 0 →
    ∃ t, exec .poisonHandover s = .next t ∧
      s.regsOutside t [B.APR, B.FST, B.SYS] ∧
      t.fst.hits = [] ∧ (t.ctx c).st = .staged ∧ (t.ctx c).reason = 2 ^ 12 ∧
      t.raised B.APR 0 2 = true ∧ (∀ d, d ≠ c → t.ctx d = s.ctx d)) ∧
  (∀ (s : State) (r : Nat) (bs : List Byte), r < 32 → s.ringq.store = [] → s.ringq.queue = [(r, bs)] →
    s.ringWritable r = true → 0 < s.ringRoom r → s.ringInHost r = false → s.flag F.RING_CTRL_SHADOW_EN (ringInst r) = false →
    ∃ t, exec .eventQueueDrain s = .next t ∧
      s.regsOutside t [B.APR] ∧
      t.ringq.queue = [] ∧ t.ringq.store = [] ∧
      t.lmem = s.lmem.setList lmemDefault (s.ringAddr r (s.ringTail r)) bs ∧
      t.ringTail r = (s.ringTail r + 1) % s.ringSize r)

/-- A host write of RING_TAIL of rings 0 to 15 takes the new index where it lies inside the ring and passes no more
than the free entries; otherwise, and on rings 28 and 29 too, it is discarded and BADPTR raised; of a ring whose tail
the host does not own it changes nothing. So for RING_HEAD of a ring whose head the host owns. A write of RING_CTRL of
a ring with nothing reserved and nothing waiting, while the message rings hold nothing to send, sets EN, LOC (on rings
16 to 19 and 24 to 27) and SHADOW_EN. A 1 written to APR_STN_STOP clears the bit and the CUT of each station whose
array reads NORMAL, but of none that was stopped in this very cycle. (spec/02 R38, spec/02 R39, spec/02 R56, spec/04
R119) -/
def Obligations.RingPointers : Prop :=
  (∀ (s : State) (r v n : Nat), r ≤ 15 → s.openPage B.APR (ringInst r) → s.tailAdvance r v = some n →
    ∃ t, exec (.ringTailWrite r v) s = .next t ∧ t.ringTail r = (s.ringTail r + n) % s.ringSize r ∧
      s.regsBut t [F.RING_TAIL_INDEX.addr (ringInst r)] ∧ s.onlyRegs t) ∧
  (∀ (s : State) (r v : Nat), hostTail r = true → s.openPage B.APR (ringInst r) → s.tailAdvance r v = none →
    ∃ t, exec (.ringTailWrite r v) s = .next t ∧ t.raised B.APR (ringInst r) 1 = true ∧
      s.regsBut t [evtAddr B.APR (ringInst r)] ∧ s.onlyRegs t) ∧
  (∀ (s : State) (r v : Nat), r ≤ 31 → hostTail r = false → s.openPage B.APR (ringInst r) →
    ∃ t, exec (.ringTailWrite r v) s = .next t ∧ s.unchanged t) ∧
  (∀ (s : State) (r v n : Nat), r ≤ 31 → hostTail r = false → s.openPage B.APR (ringInst r) → s.headAdvance r v = some n →
    ∃ t, exec (.ringHeadWrite r v) s = .next t ∧
      s.regsOutside t [B.APR, B.FST, B.SYS] ∧
      t.ringHead r = (s.ringHead r + n) % s.ringSize r ∧
      (∀ q, q < 32 → q ≠ r → t.ringHead q = s.ringHead q) ∧ t.lmem = s.lmem) ∧
  (∀ (s : State) (r v : Nat), r ≤ 31 → hostTail r = false → s.openPage B.APR (ringInst r) → s.headAdvance r v = none →
    ∃ t, exec (.ringHeadWrite r v) s = .next t ∧ t.raised B.APR (ringInst r) 1 = true ∧
      s.regsBut t [evtAddr B.APR (ringInst r)] ∧ s.onlyRegs t) ∧
  (∀ (s : State) (r : Nat) (v : Word), r ≤ 31 → s.openPage B.APR (ringInst r) →
    s.fld F.RING_RSV_COUNT (ringInst r) = 0 → s.ringWaiting r = 0 → s.ringUsed 28 = 0 → s.ringUsed 29 = 0 →
    ∃ t, exec (.ringCtrlWrite r v) s = .next t ∧ t.ringEn r = bit v.toNat 0 ∧
      t.flag F.RING_CTRL_LOC (ringInst r)
        = (bit v.toNat 1 && (decide (16 ≤ r ∧ r ≤ 19) || decide (24 ≤ r ∧ r ≤ 27))) ∧
      t.flag F.RING_CTRL_SHADOW_EN (ringInst r) = bit v.toNat 2 ∧ s.regsBut t [F.RING_CTRL.addr (ringInst r)] ∧
      s.onlyRegs t) ∧
  (∀ (s : State) (v : Word), s.openPage B.APR 0 → s.domOn .img = true →
    ∃ t, exec (.aprStnStopClear v) s = .next t ∧
      (∀ n, n < 6 → bit (t.reg (F.APR_STN_STOP.addr 0)).toNat n = (bit (s.reg (F.APR_STN_STOP.addr 0)).toNat n &&
          !(bit v.toNat n && !bit (s.freshBits (F.APR_STN_STOP.addr 0)).toNat n && (s.stn n).fmt.arrState == 0)) ∧
        t.flag F.FMT_STAT_CUT n = (s.flag F.FMT_STAT_CUT n &&
          !(bit v.toNat n && !bit (s.freshBits (F.APR_STN_STOP.addr 0)).toNat n && (s.stn n).fmt.arrState == 0))) ∧
      s.regsBut t (F.APR_STN_STOP.addr 0 :: (List.range 6).map fun n => F.FMT_STAT_CUT.addr n) ∧
      t.ctxs = s.ctxs ∧ t.lmem = s.lmem)

/-- STATION_ROOT_FINAL of a frame that has passed its last line at a station closes that station's root. RECEIPT_WRITE
with a rooted frame first in line, in a mode that writes receipts and while no commit must come first, takes it off
the line, records it as written, counts it in ATT_CTR and raises ATT.RECEIPT. RECEIPT_TIMEOUT with a receipt waiting
raises F_341. DRBG_HEALTH_FAIL clears DRBG_OK, raises F_336 and retries while a receipt waits; SIGN_RETRY_TIMEOUT then
ends the retries, clears SIGN_OK and raises SEC.SIGN_FAIL. CKPT_DONE of a commit that could not be written raises
ATT.CKPT_ERR and F_337. (spec/06 R157, spec/06 R158, spec/06 R160, spec/06 R163, spec/06 R175) -/
def Obligations.ReceiptCommands : Prop :=
  (∀ (s : State) (c n : Nat), c < 160 → n < 6 → (s.ctx c).uses n = true → ((s.ctx c).at n).root = none →
    bit (s.ctx c).done n = true → ∃ t, exec (.stationRootFinal c n) s = .next t ∧
      ((t.ctx c).at n).root
        = some (stationRoot n (s.ctx c).width (s.ctx c).facets ((s.ctx c).at n).digs) ∧
      (t.ctx c).st = (s.ctx c).st ∧ (∀ d, d ≠ c → t.ctx d = s.ctx d)) ∧
  (∀ (s : State) (c : Nat) (rest : List Nat), s.att.queue = c :: rest → (s.ctx c).rooted = true → s.receiptMode = true →
    s.ctrWaits ((s.ctx c).counter.getD 0) = false → (s.ctx c).lostPend = none → (s.ctx c).counter.getD 0 < 2 ^ 64 →
    ∃ t, exec .receiptWrite s = .next t ∧ t.att.queue = rest ∧ t.raised B.ATT 0 0 = true ∧
      t.pair64 F.ATT_CTR_LO 0 = (s.ctx c).counter.getD 0 ∧ (t.ctx c).rcpt.isSome = true ∧ t.att.firstDone = true) ∧
  (∀ (s : State), s.att.queue ≠ [] → ∃ t, exec .receiptTimeout s = .next t ∧ 341 ∈ t.flt.pair ∧ s.onlyRegsAndFaults t ∧
      t.regs = s.regs) ∧
  (∀ (s : State), s.domOn .sec = true → ∃ t, exec .drbgHealthFail s = .next t ∧
      t.lmem = s.lmem ∧
      t.flag F.SEC_STAT_DRBG_OK 0 = false ∧ 336 ∈ t.flt.pair ∧ t.att.retrying = !s.att.queue.isEmpty ∧
      s.regsBut t [F.SEC_STAT_DRBG_OK.addr 0]) ∧
  (∀ (s : State), s.att.retrying = true → s.receiptMode = true →
    ∃ t, exec .signRetryTimeout s = .next t ∧ t.att.retrying = false ∧ t.flag F.SEC_STAT_SIGN_OK 0 = false ∧
      t.raised B.SEC 0 5 = true) ∧
  (∀ (s : State) (k : Ckpt) (rest : List Ckpt), s.att.ckpts = k :: rest →
    ∃ t, exec (.ckptDone false) s = .next t ∧ t.att.ckptFailed = true ∧ t.raised B.ATT 0 2 = true ∧ 337 ∈ t.flt.pair)

/-- MEM_TRAINED with a stored record that verifies and that FULLTRAIN does not set aside, or with no channel failing,
sets TRAINED, raises MEM.TRAINED and begins the fill, after which every byte reads zero and no codeword is poisoned;
with a failed channel, or invalid straps, TRAIN_ERR says so and F_304 is raised. LMEM_FILL_DONE ends the fill.
SCRUB_READ moves the position on by 128 bytes, or at the end of LMEM to 0 with one more pass, and for a codeword
without errors changes no byte. ECC_DEV_WINDOW, WIN minutes after the window began, empties the window counts and
keeps the totals. ECC_ERASE_WRITE with device codes of at most 19 stores the marks (rank 1's only with two ranks);
with V and a device above 19 it changes nothing. ECC_TBL_CLEAR empties the table. (spec/11 R298, spec/11 R305, spec/11
R306, spec/11 R308, spec/11 R312, spec/11 R323, spec/11 R324) -/
def Obligations.LmemBringUp : Prop :=
  (∀ (s : State) (ver : Bool) (delays : List Byte), s.flag F.MEM_STAT_TRAINED 0 = false → s.domOn .mem = true →
    s.flag F.MEM_CFG_VALID 0 = true →
    ∃ t, exec (.memTrained ver 0 delays true) s = .next t ∧
      s.regsOutside t [B.CAL, B.MEM] ∧
      t.flag F.MEM_STAT_TRAINED 0 = true ∧
      t.flag F.MEM_STAT_FILLING 0 = true ∧ t.raised B.MEM 0 0 = true ∧ t.lmem = [] ∧ t.poison = [] ∧
      t.fld F.MEM_STAT_TRAIN_ERR 0 = s.fld F.MEM_STAT_TRAIN_ERR 0 ∧ t.flt = s.flt) ∧
  (∀ (s : State) (f : Nat) (delays : List Byte) (ok : Bool), s.flag F.MEM_STAT_TRAINED 0 = false → s.domOn .mem = true →
    s.flag F.MEM_CFG_VALID 0 = true → bits f 0 (chanCount (s.fld F.MEM_CFG_CHANS 0)) ≠ 0 →
    ∃ t, exec (.memTrained false f delays ok) s = .next t ∧ t.flag F.MEM_STAT_TRAINED 0 = false ∧
      t.fld F.MEM_STAT_TRAIN_ERR 0 = bits f 0 (chanCount (s.fld F.MEM_CFG_CHANS 0)) ∧ t.raised B.MEM 0 2 = true ∧
      304 ∈ t.flt.pair ∧ s.onlyRegsAndFaults t) ∧
  (∀ (s : State) (ver : Bool) (f : Nat) (delays : List Byte) (ok : Bool), s.flag F.MEM_STAT_TRAINED 0 = false →
    s.domOn .mem = true → ∃ t, exec (.memTrained ver f delays ok) s = .next t ∧ s.regsOutside t [B.CAL, B.MEM] ∧
      (if s.flag F.MEM_CFG_VALID 0 = true ∧
          ((s.trainRecord.isSome && ver && !s.flag F.MEM_CTRL_FULLTRAIN 0) = true ∨
            bits f 0 (chanCount (s.fld F.MEM_CFG_CHANS 0)) = 0) then
        t.flag F.MEM_STAT_TRAINED 0 = true ∧ t.flag F.MEM_STAT_FILLING 0 = true ∧ t.raised B.MEM 0 0 = true ∧
        t.fld F.MEM_STAT_TRAIN 0 = (if (s.trainRecord.isSome && ver && !s.flag F.MEM_CTRL_FULLTRAIN 0) = true then 1 else 2) ∧
        t.lmem = [] ∧ t.poison = []
      else t.flag F.MEM_STAT_TRAINED 0 = false ∧ t.raised B.MEM 0 2 = true ∧ 304 ∈ t.flt.pair ∧ t.lmem = s.lmem ∧
        t.fld F.MEM_STAT_TRAIN_ERR 0
          = (if s.flag F.MEM_CFG_VALID 0 = true then bits f 0 (chanCount (s.fld F.MEM_CFG_CHANS 0)) else 0xF))) ∧
  (∀ (s : State), s.flag F.MEM_STAT_FILLING 0 = true → ∃ t, exec .lmemFillDone s = .next t ∧ t.aon.fillDone = true ∧
      t.flag F.MEM_STAT_FILLING 0 = false ∧ t.flag F.MEM_STAT_FILL_DONE 0 = true ∧ t.fld F.MEM_STAT_FILL_PCT 0 = 100 ∧
      t.raised B.MEM 0 1 = true ∧ t.lmem = s.lmem ∧ s.regsBut t [F.MEM_STAT_FILLING.addr 0, evtAddr B.MEM 0]) ∧
  (∀ (s : State) (errs : List CwErr) (lag : Bool), s.flag F.ECC_SCRUB_CFG_EN 0x10 = true → s.aon.fillDone = true → s.domOn .mem = true → 0 < s.lmemSize →
    s.lmemSize ≤ 2 ^ 40 → ∃ t, exec (.scrubRead errs lag) s = .next t ∧
      t.pair64 F.ECC_SCRUB_POS_LO 0x10 = (if s.pair64 F.ECC_SCRUB_POS_LO 0x10 + 128 < s.lmemSize
        then s.pair64 F.ECC_SCRUB_POS_LO 0x10 + 128 else 0) ∧ t.flag F.ECC_SCRUB_STAT_ACTIVE 0x10 = true ∧
      t.flag F.ECC_SCRUB_STAT_LAG 0x10 = lag ∧ s.regsOutside t [B.ECC] ∧
      (s.lmemSize ≤ s.pair64 F.ECC_SCRUB_POS_LO 0x10 + 128 → t.raised B.ECC 0x10 1 = true) ∧
      ((∀ e ∈ errs, e.addr ≠ s.pair64 F.ECC_SCRUB_POS_LO 0x10) → s.onlyRegs t)) ∧
  (∀ (s : State), ∃ t, exec .eccDevWindow s = .next t ∧ t.regs = s.regs ∧ t.lmem = s.lmem ∧
      t.ecc = (if s.ecc.windowAt + s.eccWindowNs ≤ s.now ∧ s.domOn .mem = true then
        { s.ecc with window := [], windowAt := s.now } else s.ecc)) ∧
  (∀ (s : State) (ch : Nat) (v : Word), ch < chanCount (s.fld F.MEM_CFG_CHANS 0) → s.openPage B.ECC ch →
    ∃ t, exec (.eccEraseWrite ch v) s = .next t ∧
      (if bit v.toNat 7 = true ∧ 19 < bits v.toNat 0 5 ∨ bit v.toNat 15 = true ∧ 19 < bits v.toNat 8 5 then s.unchanged t
      else t.fld F.ECC_ERASE_DEV_0 ch = bits v.toNat 0 5 ∧ t.flag F.ECC_ERASE_V_0 ch = bit v.toNat 7 ∧
        t.flag F.ECC_ERASE_V_1 ch
          = (if s.flag F.MEM_CFG_RANKS 0 = true then bit v.toNat 15 else s.flag F.ECC_ERASE_V_1 ch) ∧
        t.fld F.ECC_ERASE_DEV_1 ch
          = (if s.flag F.MEM_CFG_RANKS 0 = true then bits v.toNat 8 5 else s.fld F.ECC_ERASE_DEV_1 ch) ∧
        s.regsBut t [F.ECC_ERASE_DEV_0.addr ch] ∧ s.onlyRegs t)) ∧
  (∀ (s : State), s.openPage B.ECC 0x10 → ∃ t, exec .eccTblClear s = .next t ∧ t.ecc.table = [] ∧
      t.ecc.fullSaid = false ∧ t.reg (F.ECC_TBL_OVF.addr 0x10) = 0 ∧ t.ecc.total = s.ecc.total ∧
      s.regsBut t [F.ECC_TBL_OVF.addr 0x10] ∧ t.lmem = s.lmem)

/-- BAR2_WRITE to LMEM that is filled, inside its capacity, not guarded and owned by no frame, stores the bytes at the
BAR 2 base plus the offset and, where the codewords read for it show no error, changes no other byte and no register;
of a poisoned TLP it also leaves the codewords poisoned, reports to AER and raises F_309. While LMEM is not ready it
stores nothing and is counted with cause FILL. BAR2_READ returns the bytes as ECC reads them, with their poison mark,
or zeros while LMEM is not ready and in the region of an encrypted bundle. B2_BASE_WRITE stores its word, of the low
word the bits from 30 up. MEM_PARITY_ALERT with at most three retries that succeed counts them; a fourth failure
counts a failure, raises F_303 and MEM.PAR_FAIL, stops the DMA channels whose writes to LMEM were among the commands,
and counts the host writes among them as access errors. (spec/11 R299, spec/11 R304, spec/11 R311, spec/13 R357,
spec/13 R360) -/
def Obligations.HostToLmem : Prop :=
  (∀ (s : State) (off : Nat) (data : List Byte) (ep : Bool) (errs : List CwErr), s.hostPath = true → off < 2 ^ 32 →
    s.sys.mode ≠ .lockdown → s.lmemReady = true → data ≠ [] → s.b2Base + off + data.length ≤ s.lmemSize →
    s.guarded (s.b2Base + off) data.length = false → s.ownedRange (s.b2Base + off) data.length = false →
    ∃ t, exec (.bar2Write off data ep errs) s = .next t ∧ t.lmemBytes (s.b2Base + off) data.length = data ∧
      s.regsOutside t [B.ECC] ∧ t.emitted = s.emitted ++ (if ep = true then [.aer 0] else []) ∧
      (ep = true → t.poisoned (s.b2Base + off) data.length = true ∧ 309 ∈ t.flt.pair) ∧
      (cleanRead errs (s.b2Base + off) data.length →
        (∀ a, (a < s.b2Base + off ∨ s.b2Base + off + data.length ≤ a) → t.lmemByte a = s.lmemByte a) ∧ t.regs = s.regs ∧
        (ep = false → t.flt = s.flt))) ∧
  (∀ (s : State) (off : Nat) (data : List Byte) (ep : Bool) (errs : List CwErr), s.hostPath = true → off < 2 ^ 32 →
    s.sys.mode ≠ .lockdown → s.lmemReady = false →
    ∃ t, exec (.bar2Write off data ep errs) s = .next t ∧
      s.regsOutside t [B.APR, B.ECC, B.HST] ∧
      t.lmem = s.lmem ∧ t.raised B.HST 0 3 = true ∧
      bits (t.reg (F.HST_ACC_INFO.addr 0)).toNat 28 4 = 5 ∧ bits (t.reg (F.HST_ACC_INFO.addr 0)).toNat 26 2 = 1 ∧
      310 ∈ t.flt.pair) ∧
  (∀ (s d : State) (off len : Nat) (errs : List CwErr), s.hostPath = true → off < 2 ^ 32 → s.lmemReady = true →
    s.b2Base + off + len ≤ s.lmemSize →
    ((s.bundle.ok && s.bundle.enc) = false ∨ s.b2Base + off + len ≤ s.bundleBase) → s.demand (s.b2Base + off) len errs = d →
    ∃ t, exec (.bar2Read off len errs) s = .next t ∧ t.reply.bytes = d.lmemBytes (s.b2Base + off) len ∧
      t.reply.poisoned = (decide (len ≠ 0) && d.poisoned (s.b2Base + off) len) ∧ t.lmem = d.lmem ∧ t.regs = d.regs ∧
      t.emitted = s.emitted ++ (if t.reply.poisoned = true then [.aer 0] else [])) ∧
  (∀ (s : State) (off len : Nat) (errs : List CwErr), s.hostPath = true → off < 2 ^ 32 →
    (s.lmemReady = false ∨ ((s.bundle.ok && s.bundle.enc) = true ∧ s.bundleBase ≤ s.b2Base + off)) →
    ∃ t, exec (.bar2Read off len errs) s = .next t ∧ t.reply.bytes = List.replicate len 0 ∧
      (s.lmemReady = false → t.lmem = s.lmem ∧ t.regs = s.regs)) ∧
  (∀ (s : State) (hi : Bool) (v : Word), s.hostPath = true → s.sys.mode ≠ .lockdown →
    ∃ t, exec (.b2BaseWrite hi v) s = .next t ∧
      t.reg ((if hi = true then F.HST_B2_BASE_HI else F.HST_B2_BASE_LO).addr 0)
        = (if hi = true then v else BitVec.ofNat 32 (v.toNat / 2 ^ 30 * 2 ^ 30)) ∧
      s.regsBut t [(if hi = true then F.HST_B2_BASE_HI else F.HST_B2_BASE_LO).addr 0] ∧ s.onlyRegs t) ∧
  (∀ (s : State) (k : Nat) (chans offs : List Nat), s.domOn .mem = true → 1 ≤ k → k ≤ 3 →
    ∃ t, exec (.memParityAlert k false chans offs) s = .next t ∧
      t.fld F.MEM_PAR_CNT_RETRY 0
        = min (s.fld F.MEM_PAR_CNT_RETRY 0 + k) (2 ^ F.MEM_PAR_CNT_RETRY.len - 1) ∧
      s.regsBut t [F.MEM_PAR_CNT_RETRY.addr 0] ∧ s.onlyRegs t) ∧
  (∀ (s : State) (k : Nat) (failed : Bool) (chans offs : List Nat), s.domOn .mem = true →
    ∃ t, exec (.memParityAlert k failed chans offs) s = .next t ∧
      t.fld F.MEM_PAR_CNT_RETRY 0 = min (s.fld F.MEM_PAR_CNT_RETRY 0 + (if failed = true then 3 else max 1 (min 3 k)))
        (2 ^ F.MEM_PAR_CNT_RETRY.len - 1) ∧
      (failed = true → 303 ∈ t.flt.pair ∧ t.raised B.MEM 0 3 = true ∧
        t.fld F.MEM_PAR_CNT_FAIL 0 = min (s.fld F.MEM_PAR_CNT_FAIL 0 + 1) (2 ^ F.MEM_PAR_CNT_FAIL.len - 1) ∧
        (∀ c, c < 16 → (c ∈ chans ∧ s.dspace c = 0 ∧ (s.dma c).writing ≠ 0 → t.dmState c = 0)) ∧
        (offs ≠ [] → t.raised B.HST 0 3 = true)) ∧
      ((chans = [] ∧ offs = []) → t.lmem = s.lmem ∧ s.onlyRegsAndFaults t ∧
        s.regsBut t [F.MEM_PAR_CNT_RETRY.addr 0, evtAddr B.MEM 0]))

/-- START of an idle channel refuses a bad configuration with BADCFG and moves nothing; with a good, aligned one whose
LMEM is filled it loads REMAIN with the element count and enters WAIT when paced and RUN otherwise. A paced channel in
WAIT whose request is asserted enters RUN. Of the channels that want a burst the one whose turn it is issues it: out
of LMEM into unguarded, unowned LMEM it stores the source bytes at the destination, into host memory it writes them
there, and REMAIN falls by its elements; out of host memory it waits for the completion, whose bytes it then writes. A
good write answer sends the channel on to READBACK when REMAIN is 0 and else to its next burst or request; a bad one
stops it with LASTBEAT or DSTERR, and a refused read with SRCERR. A good read-back ends it in IDLE with DONE, a bad
one with READBACK. ABORT stops a channel with nothing outstanding with ABORTED. (spec/11 R315, spec/11 R316, spec/11
R317, spec/11 R318, spec/11 R320, spec/11 R321, spec/11 R325) -/
def Obligations.DmaChannels : Prop :=
  (∀ (s : State) (c : Nat), c < 16 → s.openPage B.DMA c → s.dmState c = 0 → s.pageEn B.DMA c = true → s.dmaBad c = true →
    ∃ t, exec (.dmaStart c) s = .next t ∧ t.flag F.DMA_STAT_ERR c = true ∧ t.fld F.DMA_STAT_ECODE c = 1 ∧
      t.dmState c = 0 ∧ s.regsBut t [F.DMA_STAT.addr c] ∧ s.onlyRegs t) ∧
  (∀ (s : State) (c : Nat), c < 16 → s.openPage B.DMA c → s.dmState c = 0 → s.pageEn B.DMA c = true →
    s.dmaBad c = false → (s.dmaAligned c = true ∨ s.flag F.DMA_CFG_ALIGN_FB c = true) →
    (s.lmemReady = true ∨ (s.sspace c ≠ 0 ∧ s.dspace c ≠ 0)) →
    ∃ t, exec (.dmaStart c) s = .next t ∧ t.pair64 F.DMA_REMAIN_LO c = s.dtotal c ∧
      t.dmState c = (if s.paced c = true then 1 else 2) ∧ t.flag F.DMA_STAT_ERR c = false ∧ (t.dma c).next = 0 ∧
      s.regsBut t [F.DMA_STAT.addr c, F.DMA_REMAIN_LO.addr c, F.DMA_REMAIN_LO.addr c + 4] ∧ t.lmem = s.lmem) ∧
  (∀ (s : State) (c : Nat), c < 16 → s.domOn .hst = true → s.dmState c = 1 →
    ((s.fld F.DMA_CFG_REQ c = 1 ∧ (s.encAsks c = true ∨ s.toPort c = false)) ∨
      (s.fld F.DMA_CFG_REQ c ≠ 1 ∧ s.balls.gio.getLsbD (s.fld F.DMA_CFG_PIN c) = true)) →
    ∃ t, exec (.dmaRequest c) s = .next t ∧ t.dmState c = 2 ∧ (t.dma c).asked = true ∧
      s.regsBut t [F.DMA_STAT.addr c] ∧ t.lmem = s.lmem ∧ t.emitted = s.emitted) ∧
  (∀ (s d : State) (c n a b : Nat) (w : Bool) (errs : List CwErr), c < 16 → s.domOn .hst = true → s.dmaReady c = true →
    s.dmaTurn c = true → s.sspace c = 0 → s.dspace c = 0 → s.lmemReady = true →
    s.nextBurst c = n → s.srcAddr c (s.dma c).next = a → s.dstAddr c (s.dma c).next = b →
    s.demand (s.dmaSpan c a (n * s.esize c)).1 (s.dmaSpan c a (n * s.esize c)).2 errs = d →
    a + n * s.esize c ≤ s.lmemSize → b + n * s.esize c ≤ s.lmemSize → s.guarded b (n * s.esize c) = false →
    s.ownedRange b (n * s.esize c) = false → n ≤ s.pair64 F.DMA_REMAIN_LO c →
    ∃ t, exec (.dmaBurst c w errs) s = .next t ∧ s.regsOutside t [B.DMA, B.ECC] ∧
      t.pair64 F.DMA_REMAIN_LO c = s.pair64 F.DMA_REMAIN_LO c - n ∧ (t.dma c).writing = n ∧
      (t.dma c).next = (s.dma c).next + n ∧ t.dmaLast = c ∧
      (cleanRead errs (s.dmaSpan c a (n * s.esize c)).1 (s.dmaSpan c a (n * s.esize c)).2 →
        cleanRead errs b (n * s.esize c) →
        t.lmemBytes b (n * s.esize c) = s.lmemBytes a (n * s.esize c) ∧
        (∀ x, (x < b ∨ b + n * s.esize c ≤ x) → t.lmemByte x = s.lmemByte x) ∧
        (d.poisoned (s.dmaSpan c a (n * s.esize c)).1 (s.dmaSpan c a (n * s.esize c)).2 = false →
          s.regsBut t [F.DMA_REMAIN_LO.addr c, F.DMA_REMAIN_LO.addr c + 4]))) ∧
  (∀ (s d : State) (c n a b : Nat) (w : Bool) (errs : List CwErr), c < 16 → s.domOn .hst = true → s.dmaReady c = true →
    s.dmaTurn c = true → s.sspace c = 0 → s.dspace c = 1 → s.flag F.HST_LINK_UP 0 = true → s.lmemReady = true →
    s.nextBurst c = n → s.srcAddr c (s.dma c).next = a → s.dstAddr c (s.dma c).next = b →
    s.demand (s.dmaSpan c a (n * s.esize c)).1 (s.dmaSpan c a (n * s.esize c)).2 errs = d →
    a + n * s.esize c ≤ s.lmemSize → n ≤ s.pair64 F.DMA_REMAIN_LO c →
    ∃ t, exec (.dmaBurst c w errs) s = .next t ∧ s.regsOutside t [B.DMA, B.ECC] ∧ t.lmem = d.lmem ∧
      t.hostMem = s.hostMem.setList (fun _ => 0) b (d.lmemBytes a (n * s.esize c)) ∧
      t.pair64 F.DMA_REMAIN_LO c = s.pair64 F.DMA_REMAIN_LO c - n ∧ (t.dma c).writing = n) ∧
  (∀ (s : State) (c : Nat) (w : Bool) (errs : List CwErr), c < 16 → s.domOn .hst = true → s.dmaReady c = true →
    s.dmaTurn c = true → s.sspace c = 1 → s.flag F.HST_LINK_UP 0 = true →
    ∃ t, exec (.dmaBurst c w errs) s = .next t ∧ t.regs = s.regs ∧ t.lmem = s.lmem ∧ (t.dma c).reading = s.nextBurst c ∧
      (t.dma c).withdrawn = (w && s.paced c) ∧ t.hostMem = s.hostMem) ∧
  (∀ (s : State) (c : Nat) (ok : Bool) (data : List Byte) (errs : List CwErr), c < 16 → s.domOn .hst = true →
    s.dmState c = 2 → (s.dma c).reading = 0 → (s.dma c).writing ≠ 0 →
    ∃ t, exec (.dmaResponse c ok data errs) s = .next t ∧ s.regsOutside t [B.DMA] ∧ (t.dma c).writing = 0 ∧
      (if ok = true then
        t.dmState c = (if s.pair64 F.DMA_REMAIN_LO c = 0 then 3 else if s.paced c = true then 1 else 2) ∧
        t.flag F.DMA_STAT_WITHDRAWN c = (s.flag F.DMA_STAT_WITHDRAWN c || (s.dma c).withdrawn) ∧ t.lmem = s.lmem
      else t.dmState c = 0 ∧ t.flag F.DMA_STAT_ERR c = true ∧ t.raised B.DMA c 1 = true ∧
        t.fld F.DMA_STAT_ECODE c = (if s.pair64 F.DMA_REMAIN_LO c = 0 then 6 else 5) ∧
        t.pair64 F.DMA_ERR_ADDR_LO c = s.dstAddr c ((s.dma c).next - (s.dma c).writing))) ∧
  (∀ (s : State) (c : Nat) (data : List Byte) (errs : List CwErr), c < 16 → s.domOn .hst = true → s.dmState c = 2 →
    (s.dma c).reading ≠ 0 →
    ∃ t, exec (.dmaResponse c false data errs) s = .next t ∧
      s.regsOutside t [B.APR, B.DMA, B.ECC, B.ENC, B.HST] ∧
      t.dmState c = 0 ∧ t.flag F.DMA_STAT_ERR c = true ∧
      t.fld F.DMA_STAT_ECODE c = 4 ∧ t.pair64 F.DMA_ERR_ADDR_LO c = s.srcAddr c (s.dma c).next ∧
      t.raised B.DMA c 1 = true ∧ t.lmem = s.lmem) ∧
  (∀ (s : State) (c n b : Nat) (data : List Byte) (errs : List CwErr), c < 16 → s.domOn .hst = true → s.dmState c = 2 →
    (s.dma c).reading = n → n ≠ 0 → s.dspace c = 0 → s.dstAddr c (s.dma c).next = b →
    b + n * s.esize c ≤ s.lmemSize → s.guarded b (n * s.esize c) = false → s.ownedRange b (n * s.esize c) = false →
    n ≤ s.pair64 F.DMA_REMAIN_LO c →
    ∃ t, exec (.dmaResponse c true data errs) s = .next t ∧ s.regsOutside t [B.DMA, B.ECC] ∧
      t.pair64 F.DMA_REMAIN_LO c = s.pair64 F.DMA_REMAIN_LO c - n ∧ (t.dma c).reading = 0 ∧ (t.dma c).writing = n ∧
      (cleanRead errs b (n * s.esize c) → t.lmemBytes b (n * s.esize c) = takeAt data 0 (n * s.esize c) ∧
        (∀ x, (x < b ∨ b + n * s.esize c ≤ x) → t.lmemByte x = s.lmemByte x))) ∧
  (∀ (s : State) (c : Nat) (ok : Bool) (errs : List CwErr), c < 16 → s.domOn .hst = true → s.dmState c = 3 →
    ∃ t, exec (.dmaReadbackDone c ok errs) s = .next t ∧ s.regsOutside t [B.DMA, B.ECC] ∧ t.dmState c = 0 ∧
      (if ok = true then t.flag F.DMA_STAT_DONE c = true ∧ t.raised B.DMA c 0 = true
      else t.flag F.DMA_STAT_ERR c = true ∧ t.fld F.DMA_STAT_ECODE c = 7 ∧ t.raised B.DMA c 1 = true) ∧
      (errs = [] → t.lmem = s.lmem ∧ s.regsBut t [F.DMA_STAT.addr c, evtAddr B.DMA c])) ∧
  (∀ (s : State) (c : Nat), c < 16 → s.openPage B.DMA c → s.domOn .hst = true → (s.dmState c = 1 ∨ s.dmState c = 2) →
    (s.dma c).reading = 0 → (s.dma c).writing = 0 →
    ∃ t, exec (.dmaAbort c) s = .next t ∧ t.dmState c = 0 ∧ t.flag F.DMA_STAT_ERR c = true ∧
      t.fld F.DMA_STAT_ECODE c = 9 ∧ t.raised B.DMA c 1 = true ∧
      s.regsBut t [F.DMA_STAT.addr c, evtAddr B.DMA c] ∧ t.lmem = s.lmem)

/-- DEC_BAND_DELIVERED takes the first band the decoder of a station is at work on and, for a frame still live there,
puts its 48 lines into the line store, from the line coordinate of the frame's origin plus 48 times the band on;
DEC_STAT.CTX then shows the context of the next band, or none when nothing is left. DEC_BAND_LATE takes the band off
undelivered, counts it in DEC_LATE, raises DEC.LATE and F_76 + n, and an ADMITTED or EXPOSING frame spoils with cause
FAULT. (spec/03 R82, spec/03 R83, spec/03 R87, spec/02 R50) -/
def Obligations.DecoderBands : Prop :=
  (∀ (s : State) (n ctx b : Nat) (rest : List (Nat × Nat)) (errs : List CwErr), n < 6 →
    (s.stn n).fmt.decoding = (ctx, b) :: rest →
    ∃ t, exec (.decBandDelivered n errs) s = .next t ∧ (t.stn n).fmt.decoding = rest ∧
      ((t.ctx ctx).live n = true → (((t.stn n).fmt.slots.filter fun x => x.frame == (t.ctx ctx).order &&
          decide ((s.ctx ctx).origin n + 48 * b ≤ x.line ∧ x.line < (s.ctx ctx).origin n + 48 * b + 48)).map
          fun x => (x.line, x.ctx))
        = (List.range 48).map fun y => ((s.ctx ctx).origin n + 48 * b + y, ctx)) ∧
      t.fld F.DEC_STAT_CTX n = (match rest.head? with | none => 0xFF | some x => x.1 % 256)) ∧
  (∀ (s : State) (n ctx b : Nat) (rest : List (Nat × Nat)), n < 6 → (s.stn n).fmt.decoding = (ctx, b) :: rest →
    ((s.ctx ctx).st = .admitted ∨ (s.ctx ctx).st = .exposing) →
    ∃ t, exec (.decBandLate n) s = .next t ∧ (t.stn n).fmt.decoding = rest ∧
      (t.stn n).fmt.slots = (s.stn n).fmt.slots ∧ t.raised B.DEC n 2 = true ∧ 76 + n ∈ t.flt.pair ∧
      t.fld F.DEC_LATE_CNT n = min (s.fld F.DEC_LATE_CNT n + 1) (2 ^ F.DEC_LATE_CNT.len - 1) ∧
      (t.ctx ctx).st = .spoiled ∧ (t.ctx ctx).cause = 9 ∧ (t.ctx ctx).causeSrc = 76 + n)

/-- ENC_START on an enabled, idle encoder with a good configuration makes it BUSY with an empty port at band 0; with a
bad configuration it sets ERR to BADCFG, and while BUSY to BUSY, and raises ENC.ERR. ENC_SAVE while BUSY asks for a
save at the next band boundary; idle, once a job has run, it stores the state record at ENC_SAVE. ENC_RESTORE of a
record that lies in filled LMEM, reads without poison and has a good CRC loads the registers it holds; of any other it
sets BADSTATE; while BUSY it is refused. ENC_ABORT stops the job and discards what the port holds. ENC_BAND_DONE codes
one band out of the port, counts it, and after the last ends the job with DONE. ENC_LOUPE_JOB runs the job of a
waiting buffer. (spec/03 R88, spec/03 R90, spec/03 R91, spec/03 R92, spec/03 R95) -/
def Obligations.EncoderJobs : Prop :=
  (∀ (s : State), s.openPage B.ENC 0 → s.pageEn B.ENC 0 = true → s.encBusy = false → s.encBad = false →
    ∃ t, exec .encStart s = .next t ∧
      s.regsOutside t [B.ENC] ∧
      t.encBusy = true ∧ t.fld F.ENC_STAT_ERR 0 = 0 ∧ t.fld F.ENC_STAT_BAND 0 = 0 ∧
      t.flag F.ENC_STAT_DONE 0 = false ∧ t.enc.port = [] ∧ t.lmem = s.lmem) ∧
  (∀ (s : State), s.openPage B.ENC 0 → s.pageEn B.ENC 0 = true → (s.encBusy = true ∨ s.encBad = true) →
    ∃ t, exec .encStart s = .next t ∧ t.fld F.ENC_STAT_ERR 0 = (if s.encBusy = true then 2 else 1) ∧
      t.raised B.ENC 0 1 = true ∧ t.encBusy = s.encBusy ∧ s.onlyRegs t ∧
      s.regsBut t [F.ENC_STAT_ERR.addr 0, evtAddr B.ENC 0]) ∧
  (∀ (s : State), s.openPage B.ENC 0 → s.pageEn B.ENC 0 = true → s.encBusy = true →
    ∃ t, exec .encSave s = .next t ∧ t.enc = { s.enc with saveReq := true } ∧
      t.lmem = s.lmem ∧ t.regs = s.regs) ∧
  (∀ (s : State), s.openPage B.ENC 0 → s.pageEn B.ENC 0 = true → s.encBusy = false → s.enc.ran = true →
    s.lmemReady = true → s.pair64 F.ENC_SAVE_LO 0 + 24704 ≤ s.lmemSize →
    ∃ t, exec .encSave s = .next t ∧ t.lmem = s.lmem.setList lmemDefault (s.pair64 F.ENC_SAVE_LO 0) s.encRecord ∧
      t.raised B.ENC 0 3 = true ∧ s.regsBut t [evtAddr B.ENC 0]) ∧
  (∀ (s d : State) (a : Nat) (errs : List CwErr), s.openPage B.ENC 0 → s.pageEn B.ENC 0 = true → s.encBusy = false →
    s.pair64 F.ENC_SAVE_LO 0 = a → s.demand a 24704 errs = d →
    ∃ t, exec (.encRestore errs) s = .next t ∧ t.lmem = d.lmem ∧ s.regsOutside t [B.ECC, B.ENC] ∧
      (if s.lmemReady = true ∧ a + 24704 ≤ s.lmemSize ∧ d.poisoned a 24704 = false ∧
          fieldAt (d.lmemBytes a 24704) 24700 4 = (crc32c ((d.lmemBytes a 24704).take 24700)).toNat then
        t.reg (F.ENC_CFG.addr 0) = BitVec.ofNat 32 (fieldAt (d.lmemBytes a 24704) 24576 4) ∧ t.enc.ran = true ∧
        t.fld F.ENC_STAT_ERR 0 = 0
      else t.fld F.ENC_STAT_ERR 0 = 3 ∧ t.raised B.ENC 0 1 = true ∧ t.enc = s.enc)) ∧
  (∀ (s : State) (errs : List CwErr), s.openPage B.ENC 0 → s.pageEn B.ENC 0 = true → s.encBusy = true →
    ∃ t, exec (.encRestore errs) s = .next t ∧ t.fld F.ENC_STAT_ERR 0 = 2 ∧ t.raised B.ENC 0 1 = true ∧
      s.onlyRegs t ∧ s.regsBut t [F.ENC_STAT_ERR.addr 0, evtAddr B.ENC 0]) ∧
  (∀ (s : State), s.openPage B.ENC 0 → s.encBusy = true → ∃ t, exec .encAbort s = .next t ∧ t.encBusy = false ∧
      t.fld F.ENC_STAT_ERR 0 = 5 ∧ t.raised B.ENC 0 1 = true ∧ t.enc.port = [] ∧
      t.lmem = s.lmem ∧ s.regsBut t [F.ENC_STAT_ERR.addr 0, evtAddr B.ENC 0]) ∧
  (∀ (s : State), s.domOn .img = true → s.encBusy = true → s.pageEn B.ENC 0 = true → s.enc.loupe = none →
    s.enc.loupeReq = [] → s.enc.saveReq = false → s.encBandBytes ≠ 0 → s.encBandBytes ≤ s.enc.port.length →
    s.fld F.ENC_STAT_BAND 0 < s.fld F.ENC_BANDS_BANDS 0 →
    ∃ t, exec .encBandDone s = .next t ∧
      s.regsOutside t [B.ENC] ∧
      t.fld F.ENC_STAT_BAND 0 = s.fld F.ENC_STAT_BAND 0 + 1 ∧
      (if s.fld F.ENC_BANDS_BANDS 0 = s.fld F.ENC_STAT_BAND 0 + 1 then t.encBusy = false ∧
        t.flag F.ENC_STAT_DONE 0 = true ∧ t.raised B.ENC 0 0 = true ∧ t.enc.port = []
      else t.encBusy = true ∧ t.enc.port = s.enc.port.drop s.encBandBytes)) ∧
  (∀ (s : State) (b : Nat), s.domOn .img = true → s.pageEn B.ENC 0 = true → b ∈ s.enc.loupeReq → s.enc.loupe = none →
    s.encBusy = false → ∃ t, exec (.encLoupeJob b) s = .next t ∧
      s.regsOutside t [B.ENC] ∧
      t.enc.loupe = some b ∧
      t.enc.loupeReq = s.enc.loupeReq.filter (· ≠ b) ∧ t.flag F.ENC_STAT_LOUPE 0 = true)

/-- FACET_BOUNDARY at a powered station whose pixel clock is in force (without one its boundaries fall at its beam
detects) counts SEQ up by one, goes to the next polygon facet, and ends the cut and the back-channel errors of the
facet before. With no frame anywhere its base is 48 lines on where the previous facet wrote, and else the station's
line position; it writes nothing, and D is what the base is behind. FACET_PACKET_SEND with the link UP, once the
facet's beam detect has come and its packet is not yet sent, sends one packet with the facet's SEQ, j, DARKF, MASK and
CRC and as many data blocks as 6,144 for each emitter of the mask; else it sends nothing. KEEP_TIMER sends one KEEP
from TRAIN to UP, lit or dark as R142 says and with the SEQ of the latest FSTART, in TRAIN behind a TRAIN column, and
ends a dark request for loss of lock. A 1 to FMT_HOLD clears SPEED_HOLD only while D is at most 1 either way and it
was not set in this very cycle. (spec/04 R98, spec/04 R99, spec/04 R120, spec/04 R123, spec/05 R139, spec/05 R140,
spec/05 R141, spec/05 R142, spec/05 R146, spec/05 R420) -/
def Obligations.FacetBoundaries : Prop :=
  (∀ (s : State) (n : Nat), n < 6 → s.stnOn n = true → ∃ t, exec (.facetBoundary n) s = .next t ∧
      (if s.freqNow n = 0 then s.unchanged t
      else t.fld F.FAC_STAT_SEQ n = (s.fld F.FAC_STAT_SEQ n + 1) % 2 ^ 16 ∧
        t.fld F.FMT_STAT_PIDX n = (s.fld F.FAC_STAT_PIDX n + 1) % s.nFacets n ∧ (t.stn n).fmt.cutPix = none ∧
        (t.stn n).bln.bcErrs = 0 ∧ (t.stn n).bln.bdSeen = false ∧ (∀ m, m ≠ n → t.stn m = s.stn m))) ∧
  (∀ (s : State) (n : Nat), n < 6 → s.stnOn n = true → s.freqNow n ≠ 0 → s.ctxs = [] → (s.stn n).fmt.facetCtx = [] →
    (s.stn n).fmt.writes = [] → ∃ t, exec (.facetBoundary n) s = .next t ∧
      (t.stn n).fmt.base = (if (s.stn n).fmt.wrote = true then (s.stn n).fmt.base + 48 else s.linePos n) ∧
      (t.stn n).fmt.mask = 0 ∧ (t.stn n).fmt.wrote = false ∧ t.ctxs = [] ∧
      t.sfld F.FMT_DEBT_D n = clampI (-128) 127
        (s.linePos n - (if (s.stn n).fmt.wrote = true then (s.stn n).fmt.base + 48 else s.linePos n))) ∧
  (∀ (s : State) (n : Nat), n < 6 → s.stnOn n = true → s.pageEn B.BLN n = true → ∃ t, exec (.facetPacketSend n) s = .next t ∧
      (if s.fld F.BLN_STAT_LSTATE n = 3 ∧ (s.stn n).bln.bdSeen = true ∧
          (s.stn n).bln.sent.head?.map (·.1) ≠ some (s.fld F.FAC_STAT_SEQ n) then
        t.lastBlocks.length = 6144 * ((List.range 48).filter fun e => bit (s.stn n).fmt.mask e).length ∧
        t.emitted = s.emitted ++ [.facet n (s.fld F.FAC_STAT_SEQ n)
          (leBytes 2 (s.fld F.FAC_STAT_SEQ n)
            ++ leBytes 1 (s.fld F.FMT_STAT_PIDX n + if (s.stn n).fmt.mask = 0 then 16 else 0) ++ leBytes 2 0xC000 ++ leBytes 1 0)
          (s.stn n).fmt.mask t.lastBlocks
          (facetCrc (s.fld F.FAC_STAT_SEQ n) (s.fld F.FMT_STAT_PIDX n) (s.stn n).fmt.mask t.lastBlocks) (s.stn n).fac.line] ∧
        (t.stn n).bln.sent = ((s.fld F.FAC_STAT_SEQ n, (s.stn n).fmt.facetCtx) :: (s.stn n).bln.sent).take 16 ∧
        s.regsBut t [F.COR_CLIP_CNT.addr n, evtAddr B.COR n] ∧ t.ctxs = s.ctxs ∧ t.lmem = s.lmem
      else s.unchanged t)) ∧
  (∀ (s : State) (n : Nat), n < 6 → s.stnOn n = true → 1 ≤ s.fld F.BLN_STAT_LSTATE n → s.fld F.BLN_STAT_LSTATE n ≤ 3 →
    (s.stn n).bln.retrainHeld = false → (s.stn n).bln.sent ≠ [] → ∃ t, exec (.keepTimer n) s = .next t ∧
      t.emitted = s.emitted
        ++ (if s.fld F.BLN_STAT_LSTATE n = 1 then [.control n 0xA7 (0 :: List.replicate 5 0xC3)] else [])
        ++ [.control n 0xA1 (leBytes 1 (if (s.endDark n 0x200).mayLight n = true then 0x5A else 0xA5)
          ++ leBytes 2 ((s.stn n).bln.sent.headD (0, [])).1 ++ leBytes 3 0)] ∧
      t.flag F.BLN_STAT_DARK n = !(s.endDark n 0x200).mayLight n ∧ 0x200 ∉ (t.stn n).bln.dark ∧
      s.regsBut t [F.BLN_STAT_DARK.addr n] ∧ t.ctxs = s.ctxs ∧ t.lmem = s.lmem) ∧
  (∀ (s : State) (n : Nat), n < 6 → s.stnOn n = true → (s.stn n).bln.retrainHeld = false →
    ∃ t, exec (.keepTimer n) s = .next t ∧ t.flag F.BLN_STAT_DARK n = !(s.endDark n 0x200).mayLight n ∧
      0x200 ∉ (t.stn n).bln.dark ∧ t.emitted.length = s.emitted.length
        + (if s.fld F.BLN_STAT_LSTATE n = 1 then 2 else if s.fld F.BLN_STAT_LSTATE n = 2 ∨ s.fld F.BLN_STAT_LSTATE n = 3 then 1 else 0) ∧
      s.regsBut t [F.BLN_STAT_DARK.addr n] ∧ t.ctxs = s.ctxs ∧ t.lmem = s.lmem) ∧
  (∀ (s : State) (n : Nat) (v : Word), n < 6 → s.openPage B.FMT n → ∃ t, exec (.speedHoldClear n v) s = .next t ∧
      (if bit v.toNat 0 = true ∧ bit (s.freshBits (F.FMT_HOLD.addr n)).toNat 0 = false ∧
          -1 ≤ s.sfld F.FMT_DEBT_D n ∧ s.sfld F.FMT_DEBT_D n ≤ 1 then
        t.flag F.FMT_HOLD_SPEED_HOLD n = false ∧ t.flag F.FMT_STAT_SPEED_HOLD n = false ∧ t.ctxs = s.ctxs ∧
        t.lmem = s.lmem ∧ s.regsOutside t [B.FMT, B.PGN]
      else s.unchanged t))

/-- COR_LOAD with no load running, of a bank that no frame relies on and a set that the bundle holds for the station,
makes the station BUSY: the bank is unverified and labelled with the set. While a load runs it sets ERR to BUSY; of a
set the bundle does not hold it sets ERR to NOSET and raises COR.LOAD_ERR. COR_LOAD_DONE reads the image through ECC
and verifies the bank when the image reads without poison and its SHA-384 is the section's digest, raising COR.LOADED;
otherwise it leaves the bank unverified with ERR POISON or DIGEST and COR.LOAD_ERR. (spec/04 R110, spec/04 R111,
spec/04 R114, spec/04 R124) -/
def Obligations.CorrectionLoads : Prop :=
  (∀ (s : State) (n b : Nat), n < 6 → s.openPage B.COR n → s.pageEn B.COR n = true → (s.stn n).cor.loading = none →
    s.fld F.COR_LOAD_CFG_BANK n = b → (s.activeBank n ≠ b ∨ s.bankVer n b = false) →
    (s.bankVer n b = false ∨ s.holdsSet n (1 - b) (s.bankSet n b) = true ∨
      s.ctxsWith (fun x => (x.st = .admitted || x.st = .exposing) && x.uses n && x.corSet == s.bankSet n b) = []) →
    (s.corSection n (s.fld F.COR_LOAD_CFG_SET n)).isSome = true →
    ∃ t, exec (.corLoad n) s = .next t ∧ t.flag F.COR_STAT_BUSY n = true ∧
      (t.stn n).cor.loading = some (b, s.fld F.COR_LOAD_CFG_SET n) ∧
      t.bankVer n b = false ∧
      t.bankSet n b = s.fld F.COR_LOAD_CFG_SET n ∧
      s.regsBut t [F.COR_STAT_BUSY.addr n, F.COR_CTRL_LOAD.addr n] ∧ t.ctxs = s.ctxs ∧ t.lmem = s.lmem) ∧
  (∀ (s : State) (n : Nat), n < 6 → s.openPage B.COR n → s.pageEn B.COR n = true →
    (s.stn n).cor.loading.isSome = true → ∃ t, exec (.corLoad n) s = .next t ∧ t.fld F.COR_STAT_ERR n = 5 ∧
      s.onlyRegs t ∧ s.regsBut t [F.COR_STAT_ERR.addr n]) ∧
  (∀ (s : State) (n : Nat), n < 6 → s.openPage B.COR n → s.pageEn B.COR n = true → (s.stn n).cor.loading = none →
    s.bankVer n (s.fld F.COR_LOAD_CFG_BANK n) = false → s.corSection n (s.fld F.COR_LOAD_CFG_SET n) = none →
    ∃ t, exec (.corLoad n) s = .next t ∧ t.fld F.COR_STAT_ERR n = 1 ∧ t.raised B.COR n 1 = true ∧ s.onlyRegs t ∧
      s.regsBut t [F.COR_STAT_ERR.addr n, evtAddr B.COR n, F.COR_CTRL_LOAD.addr n]) ∧
  (∀ (s d : State) (n b set a : Nat) (x : Section) (errs : List CwErr), n < 6 → b < 2 → set < 2 ^ 8 →
    (s.stn n).cor.loading = some (b, set) → s.corSection n set = some x → s.bundleBase + x.offset = a →
    s.demand a 196608 errs = d →
    ∃ t, exec (.corLoadDone n errs) s = .next t ∧
      s.regsOutside t [B.COR, B.ECC] ∧
      (t.stn n).cor.loading = none ∧ t.flag F.COR_STAT_BUSY n = false ∧
      t.bankSet n b = set ∧ t.lmem = d.lmem ∧
      (if d.poisoned a 196608 = true then t.bankVer n b = false ∧ t.fld F.COR_STAT_ERR n = 4 ∧ t.raised B.COR n 1 = true
      else if sha384 (d.lmemBytes a 196608) = x.digest then
        t.bankVer n b = true ∧ t.fld F.COR_STAT_ERR n = 0 ∧ t.raised B.COR n 0 = true
      else t.bankVer n b = false ∧ t.fld F.COR_STAT_ERR n = 2 ∧ t.raised B.COR n 1 = true))

/-- Of the edges of a pulse at least 2.0 ns long FAC takes the one that FAC_CFG.EDGE selects, and no other changes
anything. The first edge after none gives only its time. A later edge while BD_OK is clear stores the time since the
last one as the period, takes it among the last sixteen, and counts the polygon facet up. An edge before the window
while BD_OK is set is a stray: it is counted in PERR, raises FAC.PERIOD_ERR and moves nothing else. A window that
closes without an edge clears BD_OK, ID_OK and LOCKED, forgets the periods and raises FAC.BD_LOSS and FAC.ID_LOST.
(spec/05 R125, spec/05 R126, spec/05 R127, spec/05 R128, spec/05 R129) -/
def Obligations.BeamDetect : Prop :=
  (∀ (s : State) (n frac w : Nat) (rising : Bool), n < 6 → s.domOn (.bln n) = true → s.pageEn B.FAC n = true →
    s.flag F.FAC_CFG_EDGE n ≠ rising → 64 ≤ w → s.flag F.FAC_STAT_BD_OK n = false → (s.stn n).fac.ts = 0 →
    ∃ t, exec (.bdEdge n frac rising w) s = .next t ∧ (t.stn n).fac.ts = 32 * s.now + frac % 128 ∧
      t.pair64 F.FAC_BD_TS_LO n = (32 * s.now + frac % 128) / 32 % 2 ^ 64 ∧
      t.fld F.FAC_BD_FRAC_FRAC n = frac % 32 ∧ t.fld F.FAC_PERIOD n = s.fld F.FAC_PERIOD n ∧
      t.fld F.FAC_STAT_PIDX n = (s.fld F.FAC_STAT_PIDX n + 1) % s.nFacets n) ∧
  (∀ (s : State) (n frac w : Nat) (rising : Bool), n < 6 → s.domOn (.bln n) = true → s.pageEn B.FAC n = true →
    s.flag F.FAC_CFG_EDGE n ≠ rising → 64 ≤ w → s.flag F.FAC_STAT_BD_OK n = false → (s.stn n).fac.ts ≠ 0 →
    ∃ t, exec (.bdEdge n frac rising w) s = .next t ∧ (t.stn n).fac.ts = 32 * s.now + frac % 128 ∧
      t.fld F.FAC_PERIOD n = (32 * s.now + frac % 128 - (s.stn n).fac.ts) % 2 ^ 32 ∧
      (t.stn n).fac.periods = ((32 * s.now + frac % 128 - (s.stn n).fac.ts, s.fld F.FAC_STAT_PIDX n)
        :: (s.stn n).fac.periods).take 16 ∧
      t.fld F.FAC_STAT_PIDX n = (s.fld F.FAC_STAT_PIDX n + 1) % s.nFacets n) ∧
  (∀ (s : State) (n frac w : Nat) (rising : Bool), n < 6 → s.domOn (.bln n) = true → s.pageEn B.FAC n = true →
    s.flag F.FAC_CFG_EDGE n ≠ rising → 64 ≤ w → s.flag F.FAC_STAT_BD_OK n = true →
    32 * s.now + frac % 128 + s.winBefore n < (s.stn n).fac.ts + s.expPeriod n →
    ∃ t, exec (.bdEdge n frac rising w) s = .next t ∧ t.raised B.FAC n 5 = true ∧
      t.fld F.FAC_PERR_CNT n = min (s.fld F.FAC_PERR_CNT n + 1) (2 ^ F.FAC_PERR_CNT.len - 1) ∧ s.onlyRegs t ∧
      s.regsBut t [F.FAC_PERR_CNT.addr n, evtAddr B.FAC n]) ∧
  (∀ (s : State) (n frac w : Nat) (rising : Bool), (s.flag F.FAC_CFG_EDGE n = rising ∨ w < 64) →
    ∃ t, exec (.bdEdge n frac rising w) s = .next t ∧ s.unchanged t) ∧
  (∀ (s : State) (n : Nat), n < 6 → s.domOn (.bln n) = true → s.flag F.FAC_STAT_BD_OK n = true →
    ∃ t, exec (.bdWindowClose n) s = .next t ∧ t.flag F.FAC_STAT_BD_OK n = false ∧
      t.flag F.FAC_STAT_ID_OK n = false ∧ t.flag F.FAC_STAT_LOCKED n = false ∧ (t.stn n).fac.periods = [] ∧
      t.raised B.FAC n 0 = true ∧ t.raised B.FAC n 1 = true ∧ (∀ m, m ≠ n → t.stn m = s.stn m))

/-- SYN_LOCK with a frequency in force sets SYN_LOCK, and DLL_LOCK on a locked synthesizer sets DLL_LOCK. SYN_UNLOCK
clears both and LOCKED; DLL_UNLOCK clears DLL_LOCK and LOCKED and raises CLK.DLL_LOSS. CLASS_CHANGE_START at a locked
station, at a facet of no frame with a frame of another class next, gates the clock, clears LOCKED and both clock
locks, enters RETUNE and targets the frame's class. RELOCK_DEADLINE in RETUNE without lock raises FAC.RELOCK_FAIL, and
revokes the next frame where it is ADMITTED and its decode has begun nowhere: it is STAGED with the relock bit.
(spec/05 R128, spec/05 R130, spec/05 R133, spec/05 R134, spec/02 R52) -/
def Obligations.PixelClock : Prop :=
  (∀ (s : State) (n : Nat), n < 6 → s.domOn (.bln n) = true → s.pixFreq n (s.fld F.CLK_STAT_CLASS n) ≠ 0 →
    ∃ t, exec (.synLock n) s = .next t ∧ t.flag F.CLK_STAT_SYN_LOCK n = true ∧
      t.flag F.CLK_STAT_DLL_LOCK n = s.flag F.CLK_STAT_DLL_LOCK n ∧ t.lmem = s.lmem ∧ t.ctxs = s.ctxs ∧
      s.regsBut t [F.CLK_STAT_SYN_LOCK.addr n, F.FAC_STAT_LOCKED.addr n, evtAddr B.FAC n]) ∧
  (∀ (s : State) (n : Nat), n < 6 → s.domOn (.bln n) = true → ∃ t, exec (.synUnlock n) s = .next t ∧
      t.flag F.CLK_STAT_SYN_LOCK n = false ∧ t.flag F.CLK_STAT_DLL_LOCK n = false ∧
      t.flag F.FAC_STAT_LOCKED n = false ∧ (∀ m, m ≠ n → t.stn m = s.stn m)) ∧
  (∀ (s : State) (n : Nat), n < 6 → s.domOn (.bln n) = true → s.flag F.CLK_STAT_SYN_LOCK n = true →
    ∃ t, exec (.dllLock n) s = .next t ∧ t.flag F.CLK_STAT_DLL_LOCK n = true ∧
      t.flag F.CLK_STAT_SYN_LOCK n = true ∧ t.lmem = s.lmem ∧ t.ctxs = s.ctxs ∧
      s.regsBut t [F.CLK_STAT_DLL_LOCK.addr n, F.FAC_STAT_LOCKED.addr n, evtAddr B.FAC n]) ∧
  (∀ (s : State) (n : Nat), n < 6 → s.domOn (.bln n) = true → s.flag F.CLK_STAT_DLL_LOCK n = true →
    ∃ t, exec (.dllUnlock n) s = .next t ∧ t.flag F.CLK_STAT_DLL_LOCK n = false ∧
      t.flag F.FAC_STAT_LOCKED n = false ∧ t.raised B.CLK n 1 = true ∧ (∀ m, m ≠ n → t.stn m = s.stn m)) ∧
  (∀ (s : State) (n c : Nat), n < 6 → s.stnOn n = true → s.nextFrame n = some c → s.locked n = true →
    (s.stn n).fmt.owners = [] → (s.ctx c).cls ≠ s.stnClass n → (s.ctx c).cls < 16 →
    ∃ t, exec (.classChangeStart n) s = .next t ∧ t.flag F.FAC_STAT_RETUNE n = true ∧
      t.flag F.FAC_STAT_LOCKED n = false ∧ t.flag F.CLK_STAT_GATED n = true ∧ t.stnClass n = (s.ctx c).cls ∧
      t.fld F.CLK_STAT_CLASS n = (s.ctx c).cls ∧ t.flag F.CLK_STAT_SYN_LOCK n = false ∧
      t.flag F.CLK_STAT_DLL_LOCK n = false ∧ t.ctxs = s.ctxs ∧ t.lmem = s.lmem ∧
      s.regsBut t [F.FAC_STAT_LOCKED.addr n, F.CLK_STAT_GATED.addr n, F.CLK_GATE_CNT.addr n, evtAddr B.CLK n]) ∧
  (∀ (s : State) (n c : Nat), n < 6 → s.stnOn n = true → s.nextFrame n = some c → s.flag F.FAC_STAT_RETUNE n = true →
    s.locked n = false → (s.ctx c).st = .admitted → (s.ctx c).begun = 0 →
    ∃ t, exec (.relockDeadline n) s = .next t ∧
      s.regsOutside t [B.APR, B.FAC, B.SYS] ∧
      t.raised B.FAC n 4 = true ∧ (t.stn n).fac.relockFail = true ∧
      (t.ctx c).st = .staged ∧ (t.ctx c).reason = 2 ^ 11 ∧ t.raised B.APR 0 2 = true)

/-- BLN_ENABLE of a disabled link sets EN and enters TRAIN with a KEEP; of an enabled one it changes nothing.
BLN_RETRAIN does so at once when no ADMITTED or EXPOSING frame uses the station, and is held otherwise.
BLN_AUTO_RETRAIN does so from FAULT with AUTO at a facet of no frame, ten milliseconds after the last one. TRAIN_DONE
locks all lanes, enters IDREAD and asks for the whole identity memory; TRAIN_TIMEOUT enters FAULT with TRAIN.
BLN_IDREAD in IDREAD or UP asks again. IDREAD_DONE with a good memory makes the link UP with ID_VALID, with a bad one
it raises BLN.ID_ERR and stays in IDREAD until IDREAD or RETRAIN is written; IDREAD_TIMEOUT too. ID_ACK clears ID_CHG.
BLN_DISABLE takes the link DOWN. (spec/05 R142, spec/05 R144, spec/05 R146, spec/05 R149, spec/05 R154) -/
def Obligations.LinkCommands : Prop :=
  (∀ (s : State) (n : Nat), n < 6 → s.openPage B.BLN n → ∃ t, exec (.blnEnable n) s = .next t ∧
      (if s.flag F.BLN_CTRL_EN n = true then s.unchanged t
      else t.flag F.BLN_CTRL_EN n = true ∧ t.link n = 1 ∧ t.flag F.BLN_STAT_ID_VALID n = false ∧
        t.fld F.BLN_STAT_LANE_LOCK n = 0 ∧ (∀ m, m ≠ n → t.stn m = s.stn m) ∧ t.ctxs = s.ctxs)) ∧
  (∀ (s : State) (n : Nat), n < 6 → s.openPage B.BLN n → s.flag F.BLN_CTRL_EN n = true →
    ∃ t, exec (.blnRetrain n) s = .next t ∧
      s.regsOutside t [B.BLN] ∧ t.lmem = s.lmem ∧
      (if s.stnUsed n = true then (t.stn n).bln.retrainHeld = true ∧ t.flag F.BLN_CTRL_RETRAIN n = true ∧ t.link n = s.link n
      else t.link n = 1 ∧ (t.stn n).bln.retrainHeld = false) ∧ t.ctxs = s.ctxs) ∧
  (∀ (s : State) (n : Nat), n < 6 → s.stnOn n = true → s.flag F.BLN_CTRL_AUTO n = true → s.flag F.BLN_CTRL_EN n = true →
    s.link n = 4 → (s.stn n).fmt.owners = [] →
    ((s.stn n).bln.autoAt.all fun w => decide (w + 10000000 ≤ s.now)) = true →
    ∃ t, exec (.blnAutoRetrain n) s = .next t ∧
      s.regsOutside t [B.BLN] ∧ t.lmem = s.lmem ∧
      t.link n = 1 ∧ (t.stn n).bln.autoAt = some s.now ∧
      64 + n ∉ t.flt.pair ∧ t.ctxs = s.ctxs) ∧
  (∀ (s : State) (n : Nat), n < 6 → s.domOn (.bln n) = true → s.link n = 1 →
    ∃ t, exec (.trainDone n) s = .next t ∧
      s.regsOutside t [B.BLN] ∧ t.lmem = s.lmem ∧
      t.link n = 2 ∧ t.fld F.BLN_STAT_LANE_LOCK n = 0x3F ∧
      (t.stn n).bln.idMem = [] ∧
      t.emitted = s.emitted ++ [.control n 0xA8 (leBytes 2 0 ++ leBytes 2 0x315 ++ leBytes 2 0)] ∧ t.ctxs = s.ctxs) ∧
  (∀ (s : State) (n : Nat), n < 6 → s.domOn (.bln n) = true → s.link n = 1 →
    ∃ t, exec (.trainTimeout n) s = .next t ∧ t.link n = 4 ∧ t.fld F.BLN_STAT_FCAUSE n = 4 ∧ 64 + n ∈ t.flt.pair ∧
      t.raised B.BLN n 1 = true) ∧
  (∀ (s : State) (n : Nat), n < 6 → s.openPage B.BLN n → (s.link n = 2 ∨ s.link n = 3) →
    ∃ t, exec (.blnIdread n) s = .next t ∧
      s.regsOutside t [B.BLN] ∧ t.lmem = s.lmem ∧
      t.link n = 2 ∧ t.flag F.BLN_STAT_ID_VALID n = false ∧
      t.emitted = s.emitted ++ [.control n 0xA8 (leBytes 2 0 ++ leBytes 2 0x315 ++ leBytes 2 0)] ∧ t.ctxs = s.ctxs) ∧
  (∀ (s : State) (n : Nat), n < 6 → s.domOn (.bln n) = true → s.link n = 2 →
    ∃ t, exec (.idreadDone n) s = .next t ∧ t.ctxs = s.ctxs ∧
      (if (s.stn n).bln.idFailed = true then s.unchanged t
      else if idOk (s.stn n).bln.idMem = true then t.link n = 3 ∧ t.flag F.BLN_STAT_ID_VALID n = true ∧
        t.raised B.BLN n 0 = true ∧ (t.stn n).bln.unitSeen = some (takeAt (s.stn n).bln.idMem 8 16)
      else t.link n = 2 ∧ t.raised B.BLN n 3 = true ∧ (t.stn n).bln.idFailed = true ∧ s.regsBut t [evtAddr B.BLN n])) ∧
  (∀ (s : State) (n : Nat), n < 6 → s.domOn (.bln n) = true → s.link n = 2 →
    ∃ t, exec (.idreadTimeout n) s = .next t ∧
      (if (s.stn n).bln.idFailed = true then s.unchanged t
      else t.link n = 2 ∧ t.raised B.BLN n 3 = true ∧ (t.stn n).bln.idFailed = true ∧ t.ctxs = s.ctxs ∧
        s.regsBut t [evtAddr B.BLN n])) ∧
  (∀ (s : State) (n : Nat), n < 6 → s.openPage B.BLN n → ∃ t, exec (.idAck n) s = .next t ∧
      t.flag F.BLN_STAT_ID_CHG n = false ∧ s.onlyRegs t ∧ s.regsBut t [F.BLN_STAT_ID_CHG.addr n, F.BLN_CTRL_ID_ACK.addr n]) ∧
  (∀ (s : State) (n : Nat), n < 6 → s.openPage B.BLN n → s.flag F.BLN_CTRL_EN n = true →
    ∃ t, exec (.blnDisable n) s = .next t ∧ t.flag F.BLN_CTRL_EN n = false ∧ t.link n = 0 ∧
      t.fld F.BLN_STAT_FCAUSE n = 0 ∧ t.flag F.BLN_STAT_DARK n = true ∧ 64 + n ∉ t.flt.pair)

/-- At a link that hears its back channel: BC_TEMP stores a temperature, valid while the link is UP; BC_APC stores an
emitter's power reading; BC_IDDATA in IDREAD stores four bytes of identity memory at their address; BC_IDLE changes
nothing; BC_STATUS, no more than a facet behind the last FSTART, stores its flags, SEQ and lane lock, and while UP a
watchdog flag takes the link to FAULT with WDOG; BC_BAD_BLOCK is counted, and a CRC failure beyond BC_ERR_MAX in one
facet period takes it to FAULT with BCERR; BCLOSS outside TRAIN takes it to FAULT with BCLOSS. A link in FAULT raises
F_64 + n and BLN.FAULT. (spec/05 R147, spec/05 R148, spec/05 R150, spec/05 R154) -/
def Obligations.LinkBackChannel : Prop :=
  (∀ (s : State) (n i : Nat) (v : BitVec 16), s.hears n = true → i < 4 → ∃ t, exec (.bcTemp n i v) s = .next t ∧
      t.reg ((F.BLN_TEMP.at i).addr n) = BitVec.ofNat 32 ((if s.link n = 3 then 2 ^ 31 else 0) + v.toNat) ∧ s.onlyRegs t ∧
      s.regsBut t [(F.BLN_TEMP.at i).addr n]) ∧
  (∀ (s : State) (n e ps power : Nat), s.hears n = true → e < 48 → ∃ t, exec (.bcApc n e ps power) s = .next t ∧
      (t.stn n).bln.apc.get (fun _ => 0) e = BitVec.ofNat 32 ((if s.link n = 3 then 2 ^ 31 else 0) + ps % 8 * 2 ^ 16 + power % 65536) ∧
      (∀ d, d ≠ e → (t.stn n).bln.apc.get (fun _ => (0 : Word)) d = (s.stn n).bln.apc.get (fun _ => 0) d) ∧
      (∀ m, m ≠ n → t.stn m = s.stn m) ∧ t.regs = s.regs ∧ t.lmem = s.lmem) ∧
  (∀ (s : State) (n a : Nat) (w : Word), s.hears n = true → s.link n = 2 → a + 4 ≤ 0xC54 →
    ∃ t, exec (.bcIddata n a w) s = .next t ∧ fieldAt (t.stn n).bln.idMem a 4 = w.toNat ∧ t.regs = s.regs ∧
      (∀ m, m ≠ n → t.stn m = s.stn m) ∧ t.lmem = s.lmem) ∧
  (∀ (s : State) (n : Nat), ∃ t, exec (.bcIdle n) s = .next t ∧ s.unchanged t) ∧
  (∀ (s : State) (n flags seq lanes : Nat), s.hears n = true →
    ((s.stn n).bln.sent.head?.any fun k => decide (1 < (k.1 + 65536 - seq % 65536) % 65536)) = false → s.link n = 3 →
    bit flags 1 = true → ∃ t, exec (.bcStatus n flags seq lanes) s = .next t ∧
      t.fld F.BLN_DRV_STAT_SEQ n = seq % 2 ^ 16 ∧ t.fld F.BLN_STAT_LANE_LOCK n = lanes % 2 ^ 6 ∧ t.link n = 4 ∧
      t.fld F.BLN_STAT_FCAUSE n = 2 ∧ 64 + n ∈ t.flt.pair ∧ t.raised B.BLN n 1 = true) ∧
  (∀ (s : State) (n flags seq lanes : Nat), s.hears n = true →
    ((s.stn n).bln.sent.head?.any fun k => decide (1 < (k.1 + 65536 - seq % 65536) % 65536)) = false → s.link n ≠ 3 →
    bit flags 3 = false → bit flags 4 = false → ∃ t, exec (.bcStatus n flags seq lanes) s = .next t ∧
      t.fld F.BLN_DRV_STAT_SEQ n = seq % 2 ^ 16 ∧ t.fld F.BLN_STAT_LANE_LOCK n = lanes % 2 ^ 6 ∧ s.onlyRegs t ∧
      s.regsBut t [F.BLN_DRV_STAT_SEQ.addr n, F.BLN_STAT_LANE_LOCK.addr n]) ∧
  (∀ (s : State) (n : Nat) (crc : Bool), s.hears n = true → ∃ t, exec (.bcBadBlock n crc) s = .next t ∧
      t.fld F.BLN_BCERR_CNT n = min (s.fld F.BLN_BCERR_CNT n + 1) (2 ^ F.BLN_BCERR_CNT.len - 1) ∧
      (if crc = true ∧ s.fld F.BLN_CFG_BC_ERR_MAX n < (s.stn n).bln.bcErrs + 1 then t.link n = 4 ∧
        t.fld F.BLN_STAT_FCAUSE n = 5 ∧ 64 + n ∈ t.flt.pair
      else t.link n = s.link n ∧ t.flt = s.flt ∧ s.regsBut t [F.BLN_BCERR_CNT.addr n])) ∧
  (∀ (s : State) (n : Nat), s.hears n = true → s.link n ≠ 1 → ∃ t, exec (.bcloss n) s = .next t ∧ t.link n = 4 ∧
      t.fld F.BLN_STAT_FCAUSE n = 1 ∧ 64 + n ∈ t.flt.pair ∧ t.raised B.BLN n 1 = true)

/-- A write of the word a source names (KPS_DATA in the user region, SEC and SEQ in their own regions): to a worn word
it is discarded with F_376 and KPS.WORN; the stored value, with no write to the word queued, changes nothing;
otherwise, with room in the queue, it is queued at its end; with a full queue it is held back until the front write is
out, and the queue is full again. A write of KPS_DATA to another region is denied: KPS.DENIED is raised and the keep
store is left alone. The front write of the queue, where it programs (its word is not worn, its value new): verified,
it gives its word the new value; not verified, it raises F_379 and leaves the old value where the word's other slot is
good. Either way every other word keeps its value and the word's wear counter goes up by one. A front write to a worn
word, or of the value stored, leaves every word alone. (spec/14 R384, spec/14 R385, spec/14 R386, spec/14 R398) -/
def Obligations.KeepStoreWrites : Prop :=
  (∀ (s : State) (src : KeepSrc) (v : Word) (w : Nat), s.keepTarget src = some w →
    ∃ t, exec (.keepWrite src v) s = .next t ∧ t.lmem = s.lmem ∧
      (if s.keepWorn w = true then t.keep = s.keep ∧ 376 ∈ t.flt.pair ∧ t.raised B.KPS 0 1 = true ∧
          s.regsBut t [evtAddr B.KPS 0]
      else if v = s.keepWord w ∧ w ∉ s.keep.bad ∧ s.keep.queue.all (·.word ≠ w) then t.keep = s.keep ∧ t.regs = s.regs
      else if s.keep.queue.length < 16 then
        t.keep = { s.keep with queue := s.keep.queue ++ [KeepWrite.mk w v] } ∧
          t.flag F.KPS_STAT_BUSY 0 = true ∧ t.fld F.KPS_STAT_QUEUE 0 = s.keep.queue.length + 1 ∧
          s.regsBut t [F.KPS_STAT.addr 0]
      else t.keep.queue = s.keep.queue.tail ++ [KeepWrite.mk w v] ∧
        s.regsBut t [F.KPS_STAT.addr 0, F.KPS_LAST.addr 0, evtAddr B.KPS 0])) ∧
  (∀ (s : State) (v : Word), s.openPage B.KPS 0 → 0x800 ≤ s.fld F.KPS_SEL_WORD 0 →
    ∃ t, exec (.keepWrite .kps v) s = .next t ∧
      t.raised B.KPS 0 3 = true ∧ s.regsBut t [evtAddr B.KPS 0] ∧ s.onlyRegs t) ∧
  (∀ (s : State) (q : KeepWrite) (rest : List KeepWrite) (verified oldGood : Bool), s.keep.queue = q :: rest →
    ∃ t, exec (.keepWriteApplied verified oldGood) s = .next t ∧ t.keep.queue = rest ∧ t.lmem = s.lmem ∧
      (∀ w, w ≠ q.word → t.keepWord w = s.keepWord w) ∧
      s.regsBut t [F.KPS_STAT.addr 0, F.KPS_LAST.addr 0, evtAddr B.KPS 0] ∧
      (if s.keepWorn q.word = true ∨ (q.value = s.keep.words.get keepDefault q.word ∧ q.word ∉ s.keep.bad) then
        t.keep = { s.keep with queue := rest }
      else
        t.keep.wear.get (fun _ => 0) q.word = s.keep.wear.get (fun _ => 0) q.word + 1 ∧
        (if verified = true then t.keepWord q.word = q.value
        else 379 ∈ t.flt.pair ∧ t.raised B.KPS 0 2 = true ∧
          t.keepWord q.word = if oldGood = true then s.keepWord q.word else 0)))

/-- A scan shows each rail's value in its page. The log timer of a changed rail, 600 s after its last commit, commits
that rail; LOG_COMMIT commits every changed one; LOG_CLEAR in CONFIG clears every count, and in another mode does
nothing. A write of PWR_BLN_EN sets the station bits in CONFIG and in IDLE, and is discarded in every other mode.
(spec/10 R271, spec/10 R283, spec/10 R292, spec/10 R293) -/
def Obligations.RailLogsAndStations : Prop :=
  (∀ (s : State) (vals : List Nat), s.sys.mode ≠ .hibernate → s.sys.mode ≠ .off → ∃ t, exec (.svScan vals) s = .next t ∧
    (∀ r, r < min vals.length 48 → t.fld F.PWR_RAIL_STAT_VALUE r = min (vals.getD r 0) 65535) ∧
    s.regsOutside t [B.PWR, B.SEQ] ∧ t.lmem = s.lmem ∧ t.keep = s.keep) ∧
  (∀ (s : State) (r : Nat), r < 48 → (s.rail r).changed = true → (s.rail r).commitAt + 600 * 10 ^ 9 ≤ s.now → ∃ t, exec (.railLogTimer r) s = .next t ∧
    (t.rail r).changed = false ∧ (t.rail r).commitAt = s.now ∧ (∀ q, q ≠ r → t.rail q = s.rail q) ∧
    s.regsOutside t [B.KPS] ∧ t.lmem = s.lmem) ∧
  (∀ (s : State), s.openPage B.PWR 0x40 → ∃ t, exec .logCommit s = .next t ∧
    (∀ r, r < 48 → (t.rail r).changed = false) ∧ s.regsOutside t [B.KPS] ∧ t.lmem = s.lmem) ∧
  (∀ (s : State), s.openPage B.PWR 0x40 → ∃ t, exec .logClear s = .next t ∧
    (if s.sys.mode = .config then
      (∀ r, r < 48 → t.reg (F.PWR_RAIL_LOG.addr r) = 0 ∧ (t.rail r).changed = false) ∧ s.regsOutside t [B.PWR, B.KPS]
    else s.unchanged t)) ∧
  (∀ (s : State) (v : Word), s.openPage B.PWR 0x40 → ∃ t, exec (.pwrBlnEnWrite v) s = .next t ∧
    t.fld F.PWR_BLN_EN_STN 0x40 = (if s.sys.mode = .config ∨ s.sys.mode = .idle then bits v.toNat 0 6
      else s.fld F.PWR_BLN_EN_STN 0x40) ∧ s.regsBut t [F.PWR_BLN_EN.addr 0x40] ∧ s.onlyRegs t)

/-- With a program running, begun and waiting for nothing, an ENABLE step drives its rail's EN as the word says and
the next step follows; a timed WAIT waits; a barrier with SYNC_EN releases SEQSYNC and waits, but passes at once with
SYNC_EN = 0, in an abort and after a barrier of this program that timed out; a JUMP whose condition holds goes to its
target, another to the next step. A timed wait goes on once its COUNT × UNIT has passed. A CHECK that holds goes on,
another waits. A CHECK that has waited for its timeout raises SEQ.ALT and goes to ALT; an ALT of 0xFF in an UP program
raises F_281. A barrier that passes goes on and owes the repull of SEQSYNC, which comes 2 µs later. A barrier that has
waited for COUNT × UNIT times out with F_282: a DN program goes on, its later barriers passing at once; an UP program
takes ALT, and with an ALT of 0xFF raises F_281. (spec/10 R285, spec/10 R286, spec/10 R289, spec/10 R294) -/
def Obligations.SequencerSteps : Prop :=
  (∀ (s : State) (w : Nat), s.readyStep = some w → bits w 28 4 = 1 → bit w 26 = false → bits w 0 6 < 48 →
    ∃ t, exec .seqEnable s = .next t ∧ t.flag F.PWR_RAIL_STAT_EN (bits w 0 6) = bit w 27 ∧
      t.seqStep = (s.seqStep + 1) % 256 ∧ t.seq.wait = .ready ∧
      s.regsBut t [F.PWR_RAIL_STAT.addr (bits w 0 6), F.SEQ_STAT.addr 0] ∧ t.lmem = s.lmem) ∧
  (∀ (s : State) (w : Nat), s.readyStep = some w → bits w 28 4 = 2 → ∃ t, exec .seqWait s = .next t ∧
      t.lmem = s.lmem ∧
    (if bit w 27 = false then t.seq = { s.seq with wait := .timer, waitAt := s.now } ∧ t.regs = s.regs
    else if s.syncEn = false ∨ s.seqAbort = true ∨ s.seq.barTimeout = true then
      t.seqStep = (s.seqStep + 1) % 256 ∧ t.seq.wait = .ready
    else t.seq = { s.seq with wait := .barrier, repull := false, waitAt := s.now } ∧ t.syncHeld = false ∧
      t.seqStep = s.seqStep) ∧
    s.regsBut t [F.SEQ_STAT.addr 0]) ∧
  (∀ (s : State), s.seqRuns = true → s.seq.wait = .timer →
    s.waited (waitNs (s.stepWord s.seqStep)) = true → ∃ t, exec .seqWaitExpire s = .next t ∧
      t.lmem = s.lmem ∧
    t.seqStep = (s.seqStep + 1) % 256 ∧ t.seq = { s.seq with wait := .ready } ∧ s.regsBut t [F.SEQ_STAT.addr 0]) ∧
  (∀ (s : State) (gio : Bool), s.readyStep = some (s.stepWord s.seqStep) → bits (s.stepWord s.seqStep) 28 4 = 3 →
    ∃ t, exec (.seqCheck gio) s = .next t ∧
      t.lmem = s.lmem ∧
    (if s.checkHolds (s.stepWord s.seqStep) gio then t.seqStep = (s.seqStep + 1) % 256 ∧ t.seq.wait = .ready
    else t.seq = { s.seq with wait := .check, waitAt := s.now } ∧ t.regs = s.regs) ∧ s.regsBut t [F.SEQ_STAT.addr 0]) ∧
  (∀ (s : State), s.seqRuns = true → s.seq.wait = .check → s.waited (checkNs (s.stepWord s.seqStep)) = true →
    ∃ t, exec .seqCheckTimeout s = .next t ∧
      s.regsOutside t [B.FED, B.PWR, B.SEQ, B.SYS] ∧ t.lmem = s.lmem ∧ t.raised B.SEQ 0 1 = true ∧
      (if s.seqUp = true ∧ bits (s.stepWord s.seqStep) 8 8 = 0xFF then 281 ∈ t.flt.pair
      else t.seqStep = bits (s.stepWord s.seqStep) 8 8 ∧ t.seq.wait = .ready)) ∧
  (∀ (s : State) (w : Nat) (gio : Bool), s.readyStep = some w → bits w 28 4 = 4 → bits w 24 4 ≠ 0xF →
    ∃ t, exec (.seqJump gio) s = .next t ∧
      t.seqStep = (if s.jumpHolds w gio then bits w 8 8 else (s.seqStep + 1) % 256) ∧
      s.regsBut t [F.SEQ_STAT.addr 0] ∧ t.lmem = s.lmem) ∧
  (∀ (s : State), s.seqRuns = true → s.seq.wait = .barrier → ∃ t, exec .seqBarrierPass s = .next t ∧
      s.regsOutside t [B.SEQ] ∧ t.lmem = s.lmem ∧
    t.seqStep = (s.seqStep + 1) % 256 ∧ t.seq.wait = .ready ∧ t.seq.repull = true ∧ t.seq.passAt = s.now ∧ t.raised B.SEQ 0 4 = true) ∧
  (∀ (s : State), s.seq.repull = true → s.seq.passAt + 2000 ≤ s.now → ∃ t, exec .seqsyncRepull s = .next t ∧
      t.lmem = s.lmem ∧ t.flag F.SEQ_STAT_SYNC_LINE 0 = false ∧ t.seq = { s.seq with repull := false } ∧
    s.regsBut t [F.SEQ_STAT.addr 0]) ∧
  (∀ (s : State), s.seqRuns = true → s.seq.wait = .barrier → s.waited (waitNs (s.stepWord s.seqStep)) = true →
    ∃ t, exec .seqBarrierTimeout s = .next t ∧
      s.regsOutside t [B.FED, B.PWR, B.SEQ, B.SYS] ∧ t.lmem = s.lmem ∧ 282 ∈ t.flt.pair ∧ t.raised B.SEQ 0 3 = true ∧
      (if s.seqUp = true ∧ bits (s.stepWord s.seqStep) 16 8 = 0xFF then 281 ∈ t.flt.pair
      else if s.seqUp = true then t.seqStep = bits (s.stepWord s.seqStep) 16 8 ∧ t.seq.wait = .ready
      else t.seqStep = (s.seqStep + 1) % 256 ∧ t.seq.wait = .ready ∧ t.seq.barTimeout = true))

/-- The owner's renew timer, 50 µs after its last message, sends RENEW with the next LSEQ. A RENEW that arrives at a
STANDBY supervisor is answered by an ACK of the same LSEQ. An ACK of the owner's LSEQ keeps the link good. A HANDOFF
makes a STANDBY supervisor the owner, pumping and holding the token. A CLAIM takes the token from an owner that has
sent none itself: FAULT with CLAIMED. A switch seen off sends the HANDOFF that is owed; one not seen off in time is
SHORT, raises F_275 and keeps the token. A STANDBY that sees XGS low claims. No message for 200 µs clears LINK_OK,
raises FED.LINK and, with the other side silent too, F_274. At start-up the preferred supervisor claims when its VIN
is valid and XGS is low. (spec/10 R274, spec/10 R275, spec/10 R276, spec/10 R278) -/
def Obligations.FeedMessages : Prop :=
  (∀ (s : State) (n : Nat), n < 2 → (s.fed n).token = true → s.fld F.FED_STAT_STATE n = fedOwner →
    (s.fed n).sentAt + 50000 ≤ s.now → ∃ t, exec (.fedRenewTimer n) s = .next t ∧
      s.regsOutside t [B.FED] ∧ t.lmem = s.lmem ∧
      t.fld F.FED_STAT_LSEQ n = (s.fld F.FED_STAT_LSEQ n + 1) % 2 ^ 16 ∧ (t.fed n).sentAt = s.now ∧
      t.emitted = s.emitted ++ [.fedMsg n (fedWord 1 (s.fld F.FED_STAT_LSEQ n + 1) (s.vinOk n))]) ∧
  (∀ (s : State) (n : Nat) (w : Word), n < 2 → s.pageOn B.FED n = true → fedGood w 1 = true → s.fld F.FED_STAT_STATE n = fedStandby →
    ∃ t, exec (.fedRxRenew n w) s = .next t ∧
      s.regsOutside t [B.FED] ∧ t.lmem = s.lmem ∧
      t.fld F.FED_STAT_LSEQ n = bits w.toNat 12 16 ∧
      t.flag F.FED_STAT_LINK_OK n = true ∧ t.fld F.FED_STAT_STATE n = fedStandby ∧
      t.emitted = s.emitted ++ [.fedMsg n (fedWord 2 (bits w.toNat 12 16) (s.vinOk n))]) ∧
  (∀ (s : State) (n : Nat) (w : Word), n < 2 → s.pageOn B.FED n = true → fedGood w 2 = true → bits w.toNat 12 16 = s.fld F.FED_STAT_LSEQ n →
    s.fld F.FED_STAT_STATE n = fedOwner → ∃ t, exec (.fedRxAck n w) s = .next t ∧
      s.regsOutside t [B.FED] ∧ t.lmem = s.lmem ∧
      t.flag F.FED_STAT_LINK_OK n = true ∧ (t.fed n).otherVinOk = bit w.toNat 11 ∧
      t.fld F.FED_STAT_STATE n = fedOwner ∧ t.emitted = s.emitted) ∧
  (∀ (s : State) (n gap : Nat) (w : Word), n < 2 → s.pageOn B.FED n = true → fedGood w 3 = true → s.fld F.FED_STAT_STATE n = fedStandby →
    ∃ t, exec (.fedRxHandoff n w gap) s = .next t ∧
      s.regsOutside t [B.FED] ∧ t.lmem = s.lmem ∧
      t.fld F.FED_STAT_STATE n = fedOwner ∧
      t.flag F.FED_STAT_PUMP n = true ∧ (t.fed n).token = true ∧ t.fld F.FED_GAP_GAP n = min gap 65535) ∧
  (∀ (s : State) (n : Nat) (w : Word), n < 2 → s.pageOn B.FED n = true → fedGood w 4 = true → s.fld F.FED_STAT_STATE n = fedOwner →
    (s.fed n).claimAt = none → ∃ t, exec (.fedRxClaim n w) s = .next t ∧
      s.regsOutside t [B.FED] ∧ t.lmem = s.lmem ∧
      t.fld F.FED_STAT_STATE n = fedFault ∧
      t.fld F.FED_STAT_CAUSE n = 7 ∧ t.flag F.FED_STAT_PUMP n = false ∧ (t.fed n).token = false) ∧
  (∀ (s : State) (n st : Nat), n < 2 → (s.fed n).giving = some st → ∃ t, exec (.fedSwitchOff n) s = .next t ∧
      s.regsOutside t [B.FED] ∧ t.lmem = s.lmem ∧
      t.flag F.FED_STAT_GS n = false ∧ (t.fed n).token = false ∧ (t.fed n).giving = none ∧
      t.emitted = s.emitted ++ [.fedMsg n (fedWord 3 (s.fld F.FED_STAT_LSEQ n) (s.vinOk n))]) ∧
  (∀ (s : State) (n st : Nat), n < 2 → (s.fed n).giving = some st → ∃ t, exec (.fedOffTimeout n) s = .next t ∧
      s.regsOutside t [B.FED] ∧ t.lmem = s.lmem ∧
      t.fld F.FED_STAT_STATE n = fedFault ∧ t.fld F.FED_STAT_CAUSE n = 6 ∧ (t.fed n).token = (s.fed n).token ∧
      275 ∈ t.flt.pair ∧ t.emitted = s.emitted) ∧
  (∀ (s : State) (n gap : Nat), n < 2 → s.fld F.FED_STAT_STATE n = fedStandby →
    ∃ t, exec (.fedXgsLoss n gap) s = .next t ∧
      s.regsOutside t [B.FED] ∧ t.lmem = s.lmem ∧
      t.fld F.FED_STAT_STATE n = fedOwner ∧ (t.fed n).token = true ∧
      276 + (1 - n) ∈ t.flt.pair ∧
      t.emitted = s.emitted ++ [.fedMsg n (fedWord 4 (s.fld F.FED_STAT_LSEQ n) (s.vinOk n))]) ∧
  (∀ (s : State) (n vin gap : Nat) (xgs : Bool), n < 2 → s.pageOn B.FED n = true →
    s.fld F.FED_STAT_STATE n = fedOwner → (s.fed n).heardAt + 200000 ≤ s.now → ∃ t, exec (.fedLeaseExpire n xgs vin gap) s = .next t ∧
      s.regsOutside t [B.FED] ∧ t.lmem = s.lmem ∧
      t.flag F.FED_STAT_LINK_OK n = false ∧ t.raised B.FED n 3 = true ∧
      (s.flag F.FED_STAT_LINK_OK (1 - n) = false → 274 ∈ t.flt.pair) ∧ t.fld F.FED_STAT_STATE n = fedOwner) ∧
  (∀ (s : State) (n vin0 vin1 : Nat),
    n = (if bit (s.keepWord (kwFeed 1 0)).toNat 0 = true ∧ bit (s.keepWord (kwFeed 0 0)).toNat 0 = false then 1 else 0) →
    s.pageOn B.FED n = true → s.fld F.FED_STAT_STATE n = fedOff → s.flag F.FED_STAT_XGS n = false →
    (s.fed n).heardAt + 20000 ≤ s.now → bits (s.keepWord (kwFeed n 1)).toNat 0 16 ≤ (if n = 0 then vin0 else vin1) →
    (if n = 0 then vin0 else vin1) ≤ bits (s.keepWord (kwFeed n 1)).toNat 16 16 →
    ∃ t, exec (.fedStartup vin0 vin1) s = .next t ∧
      s.regsOutside t [B.FED] ∧ t.lmem = s.lmem ∧
      t.fld F.FED_STAT_STATE n = fedOwner ∧ (t.fed n).token = true)

/-- A condition of R273 at the owner (VIN_LOW to REVERSE) whose test the measured values meet, takes it to FAULT with
its cause, stops the pump, owes a HANDOFF and raises F_272 + n. FED_CTRL.HANDOVER at an owner whose standby is ready
stops the pump and owes the HANDOFF to STANDBY; while the standby is not in STANDBY it only raises the refusal event.
CLR of a cause other than SHORT with VIN seen good again, and REPAIR of VIN_LOW, VIN_HIGH and REVERSE with VIN in
range, take FAULT to SYNC with the cause cleared. A supervisor lost is in OFF with pump and gate off. (spec/10 R273,
spec/10 R274, spec/10 R278, spec/10 R280, spec/10 R295) -/
def Obligations.FeedFaults : Prop :=
  (∀ (s : State) (n cond vin vbus : Nat) (shunt : Int), n < 2 → 1 ≤ cond → cond ≤ 5 → s.pageOn B.FED n = true →
    s.fld F.FED_STAT_STATE n = fedOwner → (s.fedMeasured n vin vbus shunt).fedTest n cond = true →
    ∃ t, exec (.fedCondition n cond vin vbus shunt) s = .next t ∧
      s.regsOutside t [B.FED] ∧ t.lmem = s.lmem ∧
      t.fld F.FED_STAT_STATE n = fedFault ∧ t.fld F.FED_STAT_CAUSE n = cond ∧ t.flag F.FED_STAT_PUMP n = false ∧
      (t.fed n).giving = some fedFault ∧ 272 + n ∈ t.flt.pair ∧ t.fld F.FED_MEAS_VIN n = vin % 2 ^ 16) ∧
  (∀ (s : State) (n : Nat), n < 2 → s.openPage B.FED n → s.fld F.FED_STAT_STATE n = fedOwner →
    ∃ t, exec (.fedHandover n) s = .next t ∧
      t.lmem = s.lmem ∧
      (if s.fld F.FED_STAT_STATE (1 - n) = fedStandby ∧ (s.fed n).otherVinOk = true ∧ s.flag F.FED_STAT_LINK_OK n = true then
        t.flag F.FED_STAT_PUMP n = false ∧ (t.fed n).giving = some fedStandby ∧ s.regsBut t [F.FED_STAT.addr n]
      else t.raised B.FED n 5 = true ∧ t.feds = s.feds ∧ s.regsBut t [evtAddr B.FED n])) ∧
  (∀ (s : State) (n : Nat), n < 2 → s.openPage B.FED n → s.fld F.FED_STAT_STATE n = fedFault →
    (s.fed n).repaired = true → s.fld F.FED_STAT_CAUSE n ≠ 6 → ∃ t, exec (.fedClr n) s = .next t ∧
      s.regsOutside t [B.FED] ∧ t.lmem = s.lmem ∧
      t.fld F.FED_STAT_STATE n = fedSync ∧ t.fld F.FED_STAT_CAUSE n = 0 ∧ 272 + n ∉ t.flt.pair) ∧
  (∀ (s : State) (n vin : Nat), n < 2 → s.pageOn B.FED n = true → s.fld F.FED_STAT_STATE n = fedFault →
    (s.fld F.FED_STAT_CAUSE n = 1 ∨ s.fld F.FED_STAT_CAUSE n = 2 ∨ s.fld F.FED_STAT_CAUSE n = 5) →
    bits (s.keepWord (kwFeed n 1)).toNat 0 16 ≤ vin → vin ≤ bits (s.keepWord (kwFeed n 1)).toNat 16 16 →
    ∃ t, exec (.fedRepair n vin) s = .next t ∧
      s.regsOutside t [B.FED] ∧ t.lmem = s.lmem ∧
      t.fld F.FED_STAT_STATE n = fedSync ∧ t.fld F.FED_STAT_CAUSE n = 0 ∧ 272 + n ∉ t.flt.pair) ∧
  (∀ (s : State) (n : Nat), n < 2 → s.pageOn B.FED n = true → ∃ t, exec (.fedSupervisorLost n) s = .next t ∧
      s.regsOutside t [B.FED] ∧ t.lmem = s.lmem ∧
      t.fld F.FED_STAT_STATE n = fedOff ∧ t.flag F.FED_STAT_PUMP n = false ∧ t.flag F.FED_STAT_GS n = false ∧
      t.flag F.FED_STAT_XGS (1 - n) = false ∧ (t.fed n).token = false)

/-- A command that SEC takes (nothing zeroizing, none running, lifecycle, key and mode permitting, random source
sound): PROVISION with a valid owner point runs on, and with another is refused with BADKEY; COMMISSION, RETURN,
REPROVISION and, outside BLANK, OPEN are judged by their token, a nonce being live and fewer than eight failures in a
row: it is spent, a good token runs the command, a bad one is counted, and the eighth raises F_339. OPEN in BLANK runs
on without a token. SEC_NONCE makes a nonce live, SEC_BADOP is refused with BADOP, NONCE_EXPIRE ends the nonce.
(spec/06 R166, spec/06 R167, spec/06 R171, spec/06 R174, spec/06 R175, spec/06 R176) -/
def Obligations.SecurityCommands : Prop :=
  (∀ (s : State) (tap : Bool), s.secTakes .provision tap → ∃ t, exec (.secProvision tap) s = .next t ∧
      (if ptValid (beNat ((s.regBytes F.SEC_OWNER 24).take 48)) (beNat ((s.regBytes F.SEC_OWNER 24).drop 48)) = true then
        t.secRuns .provision tap ∧ s.regsBut t [F.SEC_CMD_STAT_BUSY.addr 0]
      else t.secFails 6 ∧ s.onlyRegs t) ∧ t.lmem = s.lmem) ∧
  (∀ (s : State) (tap : Bool), s.secTakes .commission tap → s.sec.nonce = true → s.fld F.SEC_CMD_STAT_FAILS 0 < 8 →
    ∃ t, exec (.secCommission tap) s = .next t ∧
      s.regsOutside t [B.DBG, B.HST, B.KPS, B.SEC] ∧
      s.tokenJudged t .commission tap ∧ t.lmem = s.lmem) ∧
  (∀ (s : State) (tap : Bool), s.secTakes .ret tap → s.sec.nonce = true → s.fld F.SEC_CMD_STAT_FAILS 0 < 8 →
    ∃ t, exec (.secReturn tap) s = .next t ∧
      s.regsOutside t [B.DBG, B.HST, B.KPS, B.SEC] ∧
      s.tokenJudged t .ret tap ∧ t.lmem = s.lmem) ∧
  (∀ (s : State) (tap : Bool), s.secTakes .reprovision tap → s.sec.nonce = true → s.fld F.SEC_CMD_STAT_FAILS 0 < 8 →
    ∃ t, exec (.secReprovision tap) s = .next t ∧
      s.regsOutside t [B.DBG, B.HST, B.KPS, B.SEC] ∧
      s.tokenJudged t .reprovision tap ∧ t.lmem = s.lmem) ∧
  (∀ (s : State) (tap : Bool), s.secTakes .opn tap → s.lc ≠ 0 → s.sec.nonce = true → s.fld F.SEC_CMD_STAT_FAILS 0 < 8 →
    ∃ t, exec (.secOpen tap) s = .next t ∧
      s.regsOutside t [B.DBG, B.HST, B.KPS, B.SEC] ∧
      s.tokenJudged t .opn tap ∧ t.lmem = s.lmem) ∧
  (∀ (s : State) (tap : Bool), s.secTakes .opn tap → s.lc = 0 → ∃ t, exec (.secOpen tap) s = .next t ∧
      s.regsOutside t [B.DBG, B.HST, B.KPS, B.SEC] ∧
      t.secRuns .opn tap ∧ t.lmem = s.lmem) ∧
  (∀ (s : State) (tap : Bool), s.domOn .sec = true → (tap = true ∨ s.openPage B.SEC 0) → s.zpend = 0 → s.sec.cmd = none →
    ∃ t, exec (.secNonce tap) s = .next t ∧
      s.regsOutside t [B.DBG, B.SEC] ∧
      t.sec.nonce = true ∧ t.fld F.SEC_CMD_STAT_ERR 0 = 0 ∧
      t.raised B.SEC 0 0 = true ∧ t.keep = s.keep ∧ t.lmem = s.lmem) ∧
  (∀ (s : State) (tap : Bool), s.domOn .sec = true → (tap = true ∨ s.openPage B.SEC 0) → s.zpend = 0 → s.sec.cmd = none →
    ∃ t, exec (.secBadop tap) s = .next t ∧ t.fld F.SEC_CMD_STAT_ERR 0 = 1 ∧ t.raised B.SEC 0 1 = true ∧ s.onlyRegs t ∧
      s.regsBut t [F.SEC_CMD_STAT_ERR.addr 0, evtAddr B.SEC 0]) ∧
  (∀ (s : State), ∃ t, exec .nonceExpire s = .next t ∧ t.sec = { s.sec with nonce := false } ∧ t.regs = s.regs ∧
      t.keep = s.keep ∧ t.lmem = s.lmem)

/-- With no keep word worn: SEC_CMD_DONE of PROVISION leaves PROVISIONED, KEY VALID and EPOCH one up; of COMMISSION
leaves FIELD; of OPEN with nothing zeroizing opens the Eyepiece, shows how it was opened and raises F_338; of RETURN
with a zeroization pending leaves RETURNED and no VALID key; each ends the command and raises SEC.DONE. Every command
ends with DONE where its keep-store sequence ended well; where the keep store failed it ends with KEEP and no word
changes. CKPT_DONE writes the record that the selector does not point to, with the receipt, CEIL and CLEAN of the
commit, and then points to it; the record before stays as it was. Where that commit failed the keep store is left
alone, CKPT_ERR and F_337 are raised and SIGN_OK clears. (spec/06 R162, spec/06 R163, spec/06 R166, spec/06 R171,
spec/06 R178) -/
def Obligations.SecurityCompletions : Prop :=
  (∀ (s : State) (tap : Bool), s.sec.cmd = some (.provision, tap) → s.keep.wear = [] →
    ∃ t, exec (.secCmdDone true) s = .next t ∧ t.sec.cmd = none ∧ t.lc = 1 ∧ t.secKey = 1 ∧
      t.epoch = (s.epoch + 1) % 65536 ∧ t.att.genNext = true ∧ t.raised B.SEC 0 0 = true ∧
      t.flag F.SEC_CMD_STAT_BUSY 0 = false ∧ t.lmem = s.lmem) ∧
  (∀ (s : State) (tap : Bool), s.sec.cmd = some (.commission, tap) → s.keep.wear = [] →
    ∃ t, exec (.secCmdDone true) s = .next t ∧ t.sec.cmd = none ∧ t.lc = 2 ∧ t.secKey = s.secKey ∧
      t.epoch = s.epoch ∧ t.raised B.SEC 0 0 = true ∧ t.lmem = s.lmem) ∧
  (∀ (s : State) (tap : Bool), s.sec.cmd = some (.opn, tap) → s.zpend = 0 →
    ∃ t, exec (.secCmdDone true) s = .next t ∧ t.sec.cmd = none ∧ t.dbgOpen = true ∧
      t.fld F.DBG_STAT_VIA 0 = (if tap = true then 2 else 1) ∧ 338 ∈ t.flt.pair ∧ t.raised B.DBG 0 0 = true ∧
      t.raised B.SEC 0 0 = true ∧ t.keep = s.keep ∧ t.lmem = s.lmem) ∧
  (∀ (s : State) (tap : Bool), s.sec.cmd = some (.ret, tap) → s.zpend = 2 → s.keep.wear = [] →
    ∃ t, exec (.secCmdDone true) s = .next t ∧ t.sec.cmd = none ∧ t.lc = 3 ∧ t.secKey ≠ 1 ∧ t.zpend = 0 ∧
      t.keepBytes (kwIdk 0) 12 = List.replicate 48 0 ∧ t.att.genNext = true ∧ t.raised B.SEC 0 4 = true ∧ t.lmem = s.lmem) ∧
  (∀ (s : State) (op : SecOp) (tap ok : Bool), s.sec.cmd = some (op, tap) →
    ∃ t, exec (.secCmdDone ok) s = .next t ∧ t.sec.cmd = none ∧ t.flag F.SEC_CMD_STAT_BUSY 0 = false ∧ t.lmem = s.lmem ∧
      s.regsOutside t [B.ATT, B.DBG, B.KPS, B.SEC] ∧
      (if ok = true then t.fld F.SEC_CMD_STAT_ERR 0 = 0 ∧ t.raised B.SEC 0 0 = true else t.secFails 8 ∧ t.keep = s.keep)) ∧
  (∀ (s : State) (k : Ckpt) (rest : List Ckpt) (ok : Bool), s.att.ckpts = k :: rest → s.keep.wear = [] →
    (k.head.getD (s.ckptCtr, s.ckptHead)).1 < 2 ^ 64 → k.ceil.getD s.ckptCeil < 2 ^ 64 →
    ∃ t, exec (.ckptDone ok) s = .next t ∧ t.att.ckpts = rest ∧ t.flag F.ATT_STAT_CKPT_BUSY 0 = !rest.isEmpty ∧
      t.lmem = s.lmem ∧ s.regsOutside t [B.ATT, B.KPS, B.SEC] ∧
      (if ok = true then t.ckptSel = 1 - s.ckptSel ∧
        t.ckptCtr = (k.head.getD (s.ckptCtr, s.ckptHead)).1 ∧ t.ckptCeil = k.ceil.getD s.ckptCeil ∧
        t.ckptClean = k.clean ∧ t.raised B.ATT 0 1 = true ∧
        (∀ i, i < 17 → t.keepWord (kwCkpt s.ckptSel i) = s.keepWord (kwCkpt s.ckptSel i))
      else t.keep = s.keep ∧ 337 ∈ t.flt.pair ∧ t.raised B.ATT 0 2 = true ∧ t.flag F.SEC_STAT_SIGN_OK 0 = false))

/-- While the TAP is powered: TAP_RESET loads IDCODE (as IEEE 1149.1 has it: assumption 24) and BYPASS loads BYPASS;
IDCODE answers 0x16480A5B; SAMPLE/PRELOAD loads and answers some word. The EXTEST instructions, in CONFIG and IDLE
with the lifecycle BLANK or RETURNED or the Eyepiece open, are loaded, with the safety cells inactive outside BLANK;
elsewhere BYPASS is loaded. SCAN is loaded with the Eyepiece open, BYPASS otherwise. Each changes the TAP, and where
it answers the reply, alone. SECACC reads SEC_STAT as the page shows it, reads 0 and writes nothing outside the SEC
and DBG pages, leaves LMEM and the keep store alone in any read, and while the Eyepiece is open writes DBG_WIN_CTRL. A
debug window that is on reads the stored word and stores what is written, going on by 4 with INC; a window that is not
answers 0 and discards. (spec/06 R172, spec/06 R174, spec/06 R178, spec/15 R411) -/
def Obligations.TapInstructions : Prop :=
  (∀ (s : State), s.tapOn = true → ∃ t, exec .tapReset s = .next t ∧
      t.regs = s.regs ∧ t.lmem = s.lmem ∧
    t = s.finish { s with sec := { s.sec with tap := { ir := 1, safe := false } } }) ∧
  (∀ (s : State), s.tapOn = true → ∃ t, exec .tapBypass s = .next t ∧
      t.regs = s.regs ∧ t.lmem = s.lmem ∧
    t = s.finish { s with sec := { s.sec with tap := { ir := 0xFF, safe := false } } }) ∧
  (∀ (s : State), s.tapOn = true → ∃ t, exec .idcode s = .next t ∧ t.reply.word = 0x16480A5B ∧
    t.sec = { s.sec with tap := { ir := 1, safe := false } } ∧ t.regs = s.regs ∧ t.keep = s.keep ∧ t.lmem = s.lmem) ∧
  (∀ (s : State), s.tapOn = true → ∃ t, exec .samplePreload s = .next t ∧
    t.sec = { s.sec with tap := { ir := 2, safe := false } } ∧ t.regs = s.regs ∧ t.keep = s.keep ∧ t.lmem = s.lmem) ∧
  (∀ (s : State), s.tapOn = true → ∃ t, exec .extest s = .next t ∧
      t.regs = s.regs ∧ t.lmem = s.lmem ∧
    t = s.finish { s with sec := { s.sec with tap :=
      if s.extestOk = true then { ir := 0, safe := decide (s.lc ≠ 0) } else { ir := 0xFF, safe := false } } }) ∧
  (∀ (s : State), s.tapOn = true → ∃ t, exec .extestPulse s = .next t ∧
      t.regs = s.regs ∧ t.lmem = s.lmem ∧
    t = s.finish { s with sec := { s.sec with tap :=
      if s.extestOk = true then { ir := 4, safe := decide (s.lc ≠ 0) } else { ir := 0xFF, safe := false } } }) ∧
  (∀ (s : State), s.tapOn = true → ∃ t, exec .extestTrain s = .next t ∧
      t.regs = s.regs ∧ t.lmem = s.lmem ∧
    t = s.finish { s with sec := { s.sec with tap :=
      if s.extestOk = true then { ir := 5, safe := decide (s.lc ≠ 0) } else { ir := 0xFF, safe := false } } }) ∧
  (∀ (s : State), s.tapOn = true → ∃ t, exec .scan s = .next t ∧ t.sec.tap.ir = (if s.dbgOpen = true then 0x20 else 0xFF) ∧
    t.regs = s.regs ∧ t.keep = s.keep ∧ t.lmem = s.lmem) ∧
  (∀ (s : State) (v : Word), s.tapOn = true → s.domOn .sec = true →
    ∃ t, exec (.secacc false (F.SEC_STAT.addr 0) v) s = .next t ∧ t.reply.word = BitVec.ofNat 32 s.secStat ∧
      t.sec.tap.ir = 0x10 ∧ t.regs = s.regs ∧ t.lmem = s.lmem) ∧
  (∀ (s : State) (write : Bool) (a : Nat) (v : Word), s.tapOn = true → a < 2 ^ 27 →
    ∃ t, exec (.secacc write a v) s = .next t ∧
      (write = false → t.sec.tap.ir = 0x10 ∧ t.lmem = s.lmem ∧ t.keep = s.keep) ∧
      ((blkOf a ≠ B.SEC ∧ blkOf a ≠ B.DBG) ∨ instOf a ≠ 0 →
        t.sec.tap.ir = 0x10 ∧ t.regs = s.regs ∧ t.lmem = s.lmem ∧ (write = false → t.reply.word = 0))) ∧
  (∀ (s : State) (v : Word), s.tapOn = true → s.openPage B.DBG 0 → s.dbgOpen = true → s.flag (H.PAGE_LOCK_LOCK B.DBG) 0 = false →
    ∃ t, exec (.secacc true (F.DBG_WIN_CTRL.addr 0) v) s = .next t ∧ t.flag F.DBG_WIN_CTRL_EN 0 = bit v.toNat 0 ∧
      t.flag F.DBG_WIN_CTRL_INC 0 = bit v.toNat 1 ∧ s.regsBut t [F.DBG_WIN_CTRL.addr 0] ∧ t.lmem = s.lmem) ∧
  (∀ (s : State), s.winOn = true → ∃ t, exec .dbgWinRead s = .next t ∧
    ((s.sec.win.get (fun _ => none) s.winAddr).isSome = true →
      t.reply.word = (s.sec.win.get (fun _ => none) s.winAddr).getD 0) ∧ t.sec.win = s.sec.win ∧
    t.winAddr = (if s.flag F.DBG_WIN_CTRL_INC 0 = true then (s.winAddr + 4) % 2 ^ 64 else s.winAddr) ∧
    s.regsBut t [F.DBG_WIN_ADDR_LO.addr 0, F.DBG_WIN_ADDR_HI.addr 0] ∧ t.lmem = s.lmem) ∧
  (∀ (s : State), s.winOn = false → ∃ t, exec .dbgWinRead s = .next t ∧
      t.lmem = s.lmem ∧
      t.reply.word = 0 ∧ t.regs = s.regs ∧ t.sec = s.sec) ∧
  (∀ (s : State) (v : Word) (tap : Bool), s.winOn = true →
    (if tap = true then s.sys.mode ≠ .lockdown else s.openPage B.DBG 0) →
    ∃ t, exec (.dbgWinWrite v tap) s = .next t ∧ t.sec.win.get (fun _ => none) s.winAddr = some v ∧
    t.winAddr = (if s.flag F.DBG_WIN_CTRL_INC 0 = true then (s.winAddr + 4) % 2 ^ 64 else s.winAddr) ∧
    s.regsBut t [F.DBG_WIN_ADDR_LO.addr 0, F.DBG_WIN_ADDR_HI.addr 0] ∧ t.lmem = s.lmem)

/-- BUNDLE_PUSH in CONFIG without a bundle and with no load running starts one from SEC_BUNDLE_ADDR; in another mode
or with a bundle it is refused with STATE. BUNDLE_LOAD_DONE of a pushed image that reads without errors and is nowhere
poisoned: with a header that is not laid out as R168 says, or an image that the checks of R169 reject, the load ends
with the error of the first failing check, SEC.BUNDLE_ERR, and nothing applied; an image that passes and holds no REGS
section ends the load with the bundle held, its digest and sections kept. The load of BOOT keeps the sampling delay it
found; where flash does not answer, no delay reads the signature or LMEM is not there, it ends with FLASH, else as the
image is judged; each error raises F_340. (spec/06 R168, spec/06 R169, spec/06 R170, spec/06 R175, spec/06 R176) -/
def Obligations.BundleLoads : Prop :=
  (∀ (s : State), s.openPage B.SEC 0 → s.domOn .sec = true → s.sys.mode = .config → s.bundle.ok = false →
    s.bundle.loading = none → ∃ t, exec .bundlePush s = .next t ∧
      t.bundle = { s.bundle with loading := some (some (s.pair64 F.SEC_BUNDLE_ADDR_LO 0)) } ∧
      t.flag F.SEC_BUNDLE_STAT_BUSY 0 = true ∧ t.fld F.SEC_BUNDLE_STAT_ERR 0 = 0 ∧ t.fld F.SEC_BUNDLE_STAT_SRC 0 = 2 ∧
      s.regsBut t [F.SEC_BUNDLE_CTRL.addr 0, F.SEC_BUNDLE_STAT.addr 0] ∧ t.lmem = s.lmem) ∧
  (∀ (s : State), s.openPage B.SEC 0 → s.domOn .sec = true → (s.sys.mode ≠ .config ∨ s.bundle.ok = true) →
    ∃ t, exec .bundlePush s = .next t ∧ t.fld F.SEC_BUNDLE_STAT_ERR 0 = 8 ∧ t.raised B.SEC 0 3 = true ∧
      s.regsBut t [F.SEC_BUNDLE_STAT.addr 0, evtAddr B.SEC 0] ∧ s.onlyRegs t) ∧
  (∀ (s : State) (a : Nat) (sfdp : BitVec 16) (flash : Option (List Byte)) (errs : List CwErr), s.domOn .sec = true →
    s.bundle.loading = some (some a) → cleanRead errs a 0x140 → s.poisoned a 0x140 = false →
    headerLayout (s.lmemBytes a 0x140) = false →
    ∃ t, exec (.bundleLoadDone flash errs sfdp) s = .next t ∧ t.bundle = { s.bundle with loading := none } ∧
      t.fld F.SEC_BUNDLE_STAT_ERR 0 = 1 ∧ t.raised B.SEC 0 3 = true ∧ t.flag F.SEC_BUNDLE_STAT_BUSY 0 = false ∧
      s.regsOutside t [B.SEC] ∧ t.keep = s.keep ∧ t.lmem = s.lmem) ∧
  (∀ (s : State) (a : Nat) (sfdp : BitVec 16) (flash : Option (List Byte)) (errs : List CwErr) (img : List Byte),
    s.domOn .sec = true → s.bundle.loading = some (some a) →
    cleanRead errs a 0x140 → s.poisoned a 0x140 = false → headerLayout (s.lmemBytes a 0x140) = true →
    img = s.lmemBytes a (bhTotal (s.lmemBytes a 0x140)) →
    cleanRead errs a (bhTotal (s.lmemBytes a 0x140)) →
    s.poisoned a (bhTotal (s.lmemBytes a 0x140)) = false →
    ∃ t, exec (.bundleLoadDone flash errs sfdp) s = .next t ∧
      (if (s.loadError img).isSome = true then
        t.bundle = { s.bundle with loading := none } ∧ t.fld F.SEC_BUNDLE_STAT_ERR 0 = (s.loadError img).getD 0 ∧
        t.raised B.SEC 0 3 = true ∧ t.flag F.SEC_BUNDLE_STAT_BUSY 0 = false ∧ s.regsOutside t [B.SEC] ∧ t.keep = s.keep ∧
        t.lmem = s.lmem
      else (sectionTable (s.loadImage img)).all (fun x => x.typ ≠ 1) = true → t.bundle.ok = true ∧ t.bundle.loading = none ∧
        t.bundle.digest = bundleDigest (s.loadImage img) ∧ t.bundle.sections = sectionTable (s.loadImage img))) ∧
  (∀ (s : State) (sfdp : BitVec 16) (flash : Option (List Byte)) (errs : List CwErr) (img : List Byte),
    s.domOn .sec = true → s.bundle.loading = some none →
    img = (s.flashRead sfdp flash).getD [] →
    ∃ t, exec (.bundleLoadDone flash errs sfdp) s = .next t ∧
      (if s.flashRead sfdp flash = none ∨ (s.loadError img).isSome = true then
        t.bundle = { s.bundle with loading := none, delay := flashDelay sfdp } ∧
        t.fld F.SEC_BUNDLE_STAT_ERR 0 = (if s.flashRead sfdp flash = none then 7 else (s.loadError img).getD 0) ∧
        t.raised B.SEC 0 3 = true ∧ 340 ∈ t.flt.pair ∧ s.regsOutside t [B.SEC] ∧ t.keep = s.keep ∧ t.lmem = s.lmem
      else (sectionTable (s.loadImage img)).all (fun x => x.typ ≠ 1) = true → t.bundle.ok = true ∧ t.bundle.loading = none ∧
        t.bundle.delay = flashDelay sfdp ∧ t.bundle.sections = sectionTable (s.loadImage img)))

/-- A write of MOT_CTRL to a powered, enabled channel: RUN, in a mode that moves, of a channel that is OFF with a good
setting starts it: six-step in CATCH, or in RUN for a polygon with beam detect; an encoder channel in ALIGN until it
has aligned once; a resolver channel in RUN. With a bad setting RUN raises CFG_ERR and the channel stays OFF. STOP
before RUN ends in OFF and from RUN in STOPPING. RELEASE ends in OFF from every state, FAULT included, whose cause is
then dropped, its source with it where no other channel shows it. BRAKE, in a mode that moves, brakes from every state
but FAULT. (spec/07 R179, spec/07 R180, spec/07 R181, spec/07 R186, spec/07 R188, spec/07 R193) -/
def Obligations.MotorCommands : Prop :=
  (∀ (s : State) (m : Nat), m < 24 → s.openPage B.MOT m → s.domOn .ctl = true → s.pageEn B.MOT m = true → s.sys.mode.moves = true →
    s.moState m = moOff → s.motBad m = false → ∃ t, exec (.motRun m) s = .next t ∧
      t.moState m = (if s.moMode m = 0 then
          (if s.flag F.MOT_CFG_POLY m = true ∧ s.flag F.FAC_STAT_BD_OK (s.fld F.MOT_BIND_PSTN m) = true then moRun else moCatch)
        else if s.moMode m = 1 then (if (s.mot m).aligned = true then moRun else moAlign) else moRun) ∧
      t.fld F.MOT_CTRL_CMD m = 1 ∧ t.fld F.MOT_STAT_FCAUSE m = 0 ∧ (t.mot m).lpos = 0 ∧
      s.regsBut t [F.MOT_CTRL.addr m, F.MOT_STAT.addr m, F.MOT_LPOS_LO.addr m, F.MOT_LPOS_HI.addr m, F.MOT_ANGLE.addr m,
        evtAddr B.MOT m] ∧
      t.lmem = s.lmem) ∧
  (∀ (s : State) (m : Nat), m < 24 → s.openPage B.MOT m → s.domOn .ctl = true → s.pageEn B.MOT m = true → s.sys.mode.moves = true →
    s.moState m = moOff → s.motBad m = true → ∃ t, exec (.motRun m) s = .next t ∧ t.moState m = moOff ∧
      t.raised B.MOT m 7 = true ∧ s.regsBut t [F.MOT_CTRL.addr m, evtAddr B.MOT m] ∧ s.onlyRegs t) ∧
  (∀ (s : State) (m : Nat), m < 24 → s.openPage B.MOT m → s.domOn .ctl = true → s.pageEn B.MOT m = true →
    (s.moState m = moCatch ∨ s.moState m = moBrake ∨ s.moState m = moAlign ∨ s.moState m = moOpen ∨ s.moState m = moCoast) →
    ∃ t, exec (.motStop m) s = .next t ∧ t.moState m = moOff ∧ t.fld F.MOT_CTRL_CMD m = 0 ∧
      s.regsBut t [F.MOT_CTRL.addr m, F.MOT_STAT.addr m] ∧ t.lmem = s.lmem) ∧
  (∀ (s : State) (m : Nat), m < 24 → s.openPage B.MOT m → s.domOn .ctl = true → s.pageEn B.MOT m = true → s.moState m = moRun →
    ∃ t, exec (.motStop m) s = .next t ∧ t.moState m = moStopping ∧ t.fld F.MOT_CTRL_CMD m = 0) ∧
  (∀ (s : State) (m : Nat), m < 24 → s.openPage B.MOT m → s.domOn .ctl = true → s.pageEn B.MOT m = true → s.moState m ≠ moRun →
    ∃ t, exec (.motRelease m) s = .next t ∧ t.moState m = moOff ∧ t.fld F.MOT_CTRL_CMD m = 2 ∧
      t.fld F.MOT_STAT_FCAUSE m = (if s.moState m = moFault ∨ s.moState m = moOff then 0 else s.fld F.MOT_STAT_FCAUSE m) ∧
      (s.moState m = moFault → s.fld F.MOT_STAT_FCAUSE m ≠ 0 →
        (List.range 24).all (fun k => k == m || s.fld F.MOT_STAT_FCAUSE k != s.fld F.MOT_STAT_FCAUSE m) = true →
        109 + s.fld F.MOT_STAT_FCAUSE m ∉ t.flt.pair) ∧
      s.regsBut t [F.MOT_CTRL.addr m, F.MOT_STAT.addr m] ∧ t.lmem = s.lmem) ∧
  (∀ (s : State) (m : Nat), m < 24 → s.openPage B.MOT m → s.domOn .ctl = true → s.pageEn B.MOT m = true → s.sys.mode.moves = true →
    s.moState m ≠ moRun → s.moState m ≠ moFault → (s.moState m = moOff → s.motBad m = false) →
    ∃ t, exec (.motBrake m) s = .next t ∧ t.moState m = moBrake ∧ t.fld F.MOT_CTRL_CMD m = 3 ∧
      s.regsBut t [F.MOT_CTRL.addr m, F.MOT_STAT.addr m] ∧ t.lmem = s.lmem)

/-- A catch measured at CATCH_MIN or above enters RUN, fast backward rotation stays in CATCH, anything else brakes. A
catch that times out still goes to ALIGN, one still turning fails with F_112. Below 2 % of RATED a catch's brake goes
to ALIGN, a failed stop to FAULT and another stop brakes. The end of ALIGN, after ALIGN_T, goes to OPEN, or on encoder
and resolver channels to RUN; of a stop's brake to OFF with STOPPED. The first crossing is remembered; with six
intervals known a further one gives LOCKQ, and twelve good ones leave OPEN for RUN. No lock in open loop a second
after its ramp, and a brake that lasts 10 s, stop with F_114. A lost rotor (a crossing that is late at its predicted
time, or LOCKQ low) coasts; a coast of COAST_T stops with F_113, or ends as the stop it came from would. The fault
input and an encoder error put the channel in FAULT with F_110 and F_111. (spec/07 R180, spec/07 R184, spec/07 R187,
spec/07 R188, spec/07 R189, spec/07 R190, spec/07 R193) -/
def Obligations.MotorEvents : Prop :=
  (∀ (s : State) (m : Nat) (v d : Int), m < 24 → s.domOn .ctl = true → s.moState m = moCatch →
    ∃ t, exec (.motCatchDecide m v d) s = .next t ∧
      t.moState m = (if s.catchMin m ≤ v then moRun else if v < -s.brakeMax m then moCatch else moBrake) ∧
      t.flag F.MOT_STAT_REV m = decide (v < 0) ∧ t.raised B.MOT m 1 = true ∧
      t.reg (F.MOT_SPEED.addr m) = BitVec.ofNat 32 (unsign v 32) ∧
      s.regsBut t [F.MOT_STAT.addr m, F.MOT_SPEED.addr m, F.MOT_ANGLE.addr m, evtAddr B.MOT m,
        F.CTL_EU_U.addr (s.fld F.MOT_BIND_SLOT m)] ∧
      t.lmem = s.lmem) ∧
  (∀ (s : State) (m : Nat) (still : Bool), m < 24 → s.domOn .ctl = true → s.moState m = moCatch →
    ∃ t, exec (.motCatchTimeout m still) s = .next t ∧
      (if still = true then t.moState m = moAlign ∧ t.flt = s.flt
       else t.moState m = moOff ∧ t.fld F.MOT_STAT_FCAUSE m = 3 ∧ 112 ∈ t.flt.pair) ∧
      t.flag F.MOT_STAT_REV m = !still ∧ t.raised B.MOT m 1 = true ∧
      s.regsBut t [F.MOT_STAT.addr m, evtAddr B.MOT m] ∧ t.lmem = s.lmem) ∧
  (∀ (s : State) (m : Nat), m < 24 → s.domOn .ctl = true →
    ((s.moState m = moBrake ∧ (s.mot m).braking = .catch) ∨ s.moState m = moStopping) →
    ∃ t, exec (.motLowSpeed m) s = .next t ∧
      t.moState m = (if s.moState m = moBrake then moAlign else if (s.mot m).failed = true then moFault else moBrake) ∧
      s.regsBut t [F.MOT_STAT.addr m] ∧ t.lmem = s.lmem) ∧
  (∀ (s : State) (m : Nat), m < 24 → s.domOn .ctl = true →
    s.ranFor m (s.alignTime m) = true → (s.moState m = moAlign ∨ (s.moState m = moBrake ∧ (s.mot m).braking = .stop)) →
    ∃ t, exec (.motAlignDone m) s = .next t ∧
      t.moState m = (if s.moState m = moBrake then moOff else if s.moMode m = 0 then moOpen else moRun) ∧
      (s.moState m = moBrake → t.raised B.MOT m 4 = true) ∧
      s.regsBut t [F.MOT_STAT.addr m, F.MOT_ANGLE.addr m, evtAddr B.MOT m] ∧ t.lmem = s.lmem) ∧
  (∀ (s : State) (m half : Nat) (order : Bool), m < 24 → s.domOn .ctl = true → s.moMode m = 0 →
    (s.moState m = moOpen ∨ s.moState m = moRun ∨ s.moState m = moCoast ∨ s.moState m = moStopping) →
    (s.mot m).last = none → ∃ t, exec (.motBemfCrossing m half order) s = .next t ∧
      (t.mot m).last = some (s.now - half) ∧ s.regsBut t [F.MOT_ANGLE.addr m] ∧ t.lmem = s.lmem) ∧
  (∀ (s : State) (m half t0 : Nat) (order : Bool), m < 24 → s.domOn .ctl = true → s.moMode m = 0 → s.moState m = moOpen →
    (s.mot m).last = some t0 → (s.mot m).gaps.length = 6 →
    ∃ t, exec (.motBemfCrossing m half order) s = .next t ∧
      t.fld F.MOT_STAT_LOCKQ m
        = lockQuality (((6 * ((s.now - half - t0 : Nat) : Int) - ((s.mot m).gaps.sum : Int)).natAbs :: (s.mot m).errs).take 6)
            ((s.now - half - t0) :: (s.mot m).gaps.take 5) ∧
      (t.moState m = moOpen ∨ t.moState m = moRun) ∧
      (t.moState m = moRun → s.fld F.MOT_OBS_LOCK_ON m ≤ t.fld F.MOT_STAT_LOCKQ m ∧ 11 ≤ (s.mot m).good) ∧
      s.regsBut t [F.MOT_ANGLE.addr m, F.MOT_STAT.addr m, F.MOT_SPEED.addr m, evtAddr B.MOT m] ∧ t.lmem = s.lmem) ∧
  (∀ (s : State) (m : Nat), m < 24 → s.domOn .ctl = true →
    ((s.moState m = moOpen ∧ (s.olRamp m).any (fun r => s.ranFor m (r + 10 ^ 9)) = true) ∨
      (s.moState m = moBrake ∧ (s.mot m).braking = .catch ∧ s.ranFor m (10 ^ 10) = true)) →
    ∃ t, exec (.motOlTimeout m) s = .next t ∧ t.moState m = moStopping ∧ t.fld F.MOT_STAT_FCAUSE m = 5 ∧ 114 ∈ t.flt.pair ∧
      (t.mot m).failed = true ∧ s.regsBut t [F.MOT_STAT.addr m] ∧ t.lmem = s.lmem) ∧
  (∀ (s : State) (m : Nat), m < 24 → s.domOn .ctl = true → s.moMode m = 0 → s.moState m = moStopping →
    ((s.mot m).gaps.length ≠ 6 ∨ s.crossingLate m s.now = true ∨ 3 ≤ (s.mot m).low) → ∃ t, exec (.motObserverLoss m) s = .next t ∧ t.moState m = moCoast ∧ t.raised B.MOT m 2 = true ∧
      (t.mot m).released = true ∧ s.regsBut t [F.MOT_STAT.addr m, F.MOT_EVCNT.addr m, evtAddr B.MOT m] ∧ t.lmem = s.lmem) ∧
  (∀ (s : State) (m : Nat), m < 24 → s.domOn .ctl = true → s.moMode m = 0 → s.moState m = moRun →
    ((s.mot m).gaps.length ≠ 6 ∨ s.crossingLate m s.now = true ∨ 3 ≤ (s.mot m).low) → ∃ t, exec (.motObserverLoss m) s = .next t ∧ t.moState m = moCoast ∧ t.raised B.MOT m 2 = true) ∧
  (∀ (s : State) (m : Nat), m < 24 → s.domOn .ctl = true → s.moState m = moCoast →
    s.ranFor m (s.coastTime m) = true → ∃ t, exec (.motCoastTimeout m) s = .next t ∧
      t.moState m = (if (s.mot m).released = true then (if (s.mot m).failed = true then moFault else moOff) else moStopping) ∧
      ((s.mot m).released = false → t.fld F.MOT_STAT_FCAUSE m = 4 ∧ 113 ∈ t.flt.pair) ∧
      s.regsBut t [F.MOT_STAT.addr m] ∧ t.lmem = s.lmem) ∧
  (∀ (s : State) (m : Nat), m < 24 → s.domOn .ctl = true → s.moState m ≠ moRun → s.moState m ≠ moFault →
    ∃ t, exec (.motFltInput m) s = .next t ∧ t.moState m = moFault ∧ t.fld F.MOT_STAT_FCAUSE m = 1 ∧ 110 ∈ t.flt.pair ∧
      s.regsBut t [F.MOT_STAT.addr m] ∧ t.lmem = s.lmem) ∧
  (∀ (s : State) (m : Nat), m < 24 → s.domOn .ctl = true → s.moMode m ≠ 0 → s.moState m ≠ moOff → s.moState m ≠ moRun →
    s.moState m ≠ moFault → ∃ t, exec (.motEncError m) s = .next t ∧ t.moState m = moFault ∧
      t.fld F.MOT_STAT_FCAUSE m = 2 ∧ 111 ∈ t.flt.pair ∧ t.raised B.MOT m 6 = true ∧
      s.regsBut t [F.MOT_STAT.addr m, evtAddr B.MOT m] ∧ t.lmem = s.lmem)

/-- OFF ends in OFF from every state but FAULT, HOMED lost. ENABLE of an OFF channel, in a mode that moves, follows
its generator. HOME of a channel whose switch is assigned enters HOMING: it searches, or where the switch is active
already backs off. A reserved command changes nothing. CLR leaves FAULT once no switch that caused it is active. A
switch whose pin has stood at a level for DEB is shown in STP_STAT.SW: on a channel in OFF or FAULT, or where it goes
inactive, that is all; the search's expected trip begins the stop; a limit that trips ahead of the motion halts the
channel in FAULT with F_141. A chattering switch raises F_140 and CHATTER, and halts the channel in FAULT. Standing
still for TPD is shown once. A coil fault turns the bridges off, in FAULT with F_142. (spec/07 R179, spec/07 R180,
spec/07 R204, spec/07 R205, spec/07 R207, spec/07 R208, spec/07 R209, spec/07 R211) -/
def Obligations.StepperChannels : Prop :=
  (∀ (s : State) (m : Nat), m < 16 → s.openPage B.STP m → s.domOn .ctl = true → s.pageEn B.STP m = true → s.stState m ≠ stFault →
    ∃ t, exec (.stpOff m) s = .next t ∧ t.stState m = stOff ∧ t.fld F.STP_CTRL_CMD m = 0 ∧
      t.flag F.STP_STAT_HOMED m = false ∧ (s.stState m = stOff → s.regsBut t [F.STP_CTRL.addr m, F.STP_STAT.addr m])) ∧
  (∀ (s : State) (m : Nat), m < 16 → s.openPage B.STP m → s.domOn .ctl = true → s.pageEn B.STP m = true → s.sys.mode.moves = true →
    ∃ t, exec (.stpEnable m) s = .next t ∧ t.fld F.STP_CTRL_CMD m = 1 ∧
      t.stState m = (if s.stState m = stOff then (if (s.pgn (s.stPg m)).vel = 0 then stIdle else stMoving) else s.stState m) ∧
      s.regsBut t [F.STP_CTRL.addr m, F.STP_STAT.addr m] ∧ s.onlyRegs t) ∧
  (∀ (s : State) (m : Nat), m < 16 → s.openPage B.STP m → s.domOn .ctl = true → s.pageEn B.STP m = true → s.sys.mode.moves = true →
    s.swEn m (s.homeSw m) = true → s.stState m < stHoming → s.swActive m (s.homeSw m) = false →
    ∃ t, exec (.stpHome m) s = .next t ∧ t.stState m = stHoming ∧ t.fld F.STP_STAT_HSTEP m = 1 ∧
      t.fld F.STP_CTRL_CMD m = 2 ∧ (t.pgn (s.stPg m)).drive = some (s.homeDir m * s.pgVmax (s.stPg m)) ∧
      s.regsBut t [F.STP_CTRL.addr m, F.STP_STAT.addr m, F.PGN_STAT.addr (s.stPg m)] ∧ t.lmem = s.lmem) ∧
  (∀ (s : State) (m : Nat), m < 16 → s.openPage B.STP m → s.domOn .ctl = true → s.pageEn B.STP m = true → s.sys.mode.moves = true →
    s.swEn m (s.homeSw m) = true → s.stState m < stHoming → s.swActive m (s.homeSw m) = true →
    ∃ t, exec (.stpHome m) s = .next t ∧ t.stState m = stHoming ∧ t.fld F.STP_CTRL_CMD m = 2 ∧
      (if (s.pgn (s.stPg m)).vel = 0 then t.fld F.STP_STAT_HSTEP m = 3 ∧ (t.pgn (s.stPg m)).drive = none ∧
        (t.pgn (s.stPg m)).target = s.pgPos (s.stPg m) - s.homeDir m * 256 * s.fld F.STP_HOME_BACKOFF m
      else t.fld F.STP_STAT_HSTEP m = 2 ∧ (t.pgn (s.stPg m)).drive = some 0) ∧
      s.regsBut t [F.STP_CTRL.addr m, F.STP_STAT.addr m, F.PGN_STAT.addr (s.stPg m), F.PGN_VEL.addr (s.stPg m),
        F.PGN_ACC.addr (s.stPg m)] ∧ t.lmem = s.lmem) ∧
  (∀ (s : State) (m : Nat), m < 16 → s.openPage B.STP m → ∃ t, exec (.stpCmdDiscard m) s = .next t ∧ s.unchanged t) ∧
  (∀ (s : State) (m : Nat), m < 16 → s.openPage B.STP m → s.domOn .ctl = true → s.stState m = stFault →
    ((s.stp m).faultSw.all fun w => !s.swActive m w) = true →
    ∃ t, exec (.stpClr m) s = .next t ∧ t.stState m = stOff ∧ t.fld F.STP_STAT_FCAUSE m = 0 ∧
      s.regsBut t [F.STP_STAT.addr m] ∧ t.lmem = s.lmem) ∧
  (∀ (s : State) (m : Nat), m < 16 → s.openPage B.STP m → s.domOn .ctl = true →
    ((s.stp m).faultSw.any fun w => s.swActive m w) = true →
    ∃ t, exec (.stpClr m) s = .next t ∧ s.unchanged t) ∧
  (∀ (s : State) (m w : Nat) (level : Bool) (edge : Nat) (edges : List Nat), m < 16 → s.domOn .ctl = true →
    s.swEn m w = true →
    s.chatters m (edge :: edges) = false → (edge :: edges).all (s.swDeb m ≤ ·) = true →
    (s.stState m = stOff ∨ s.stState m = stFault ∨ (level == s.swPol m w) = false) →
    ∃ t, exec (.stpSwitchChange m w level edge edges) s = .next t ∧ t.swActive m w = (level == s.swPol m w) ∧
      t.stState m = s.stState m ∧ (∀ x, x < 3 → x ≠ w → t.swActive m x = s.swActive m x) ∧
      s.regsBut t [F.STP_STAT.addr m] ∧ t.pgns = s.pgns ∧ t.lmem = s.lmem) ∧
  (∀ (s : State) (m w : Nat) (level : Bool) (edge : Nat) (edges : List Nat), m < 16 → s.domOn .ctl = true →
    s.swEn m w = true →
    s.chatters m (edge :: edges) = false → (edge :: edges).all (s.swDeb m ≤ ·) = true →
    level = s.swPol m w → s.swActive m w = false →
    w = s.homeSw m → s.stState m = stHoming → s.fld F.STP_STAT_HSTEP m = 1 →
    ∃ t, exec (.stpSwitchChange m w level edge edges) s = .next t ∧ t.swActive m w = true ∧ t.fld F.STP_STAT_HSTEP m = 2 ∧
      t.stState m = stHoming ∧ (t.pgn (s.stPg m)).drive = some 0 ∧ t.raised B.STP m 2 = true ∧
      s.regsBut t [F.STP_STAT.addr m, evtAddr B.STP m, F.PGN_STAT.addr (s.stPg m)] ∧ t.lmem = s.lmem) ∧
  (∀ (s : State) (m w : Nat) (level : Bool) (edge : Nat) (edges : List Nat), m < 16 → s.domOn .ctl = true →
    s.swEn m w = true →
    s.chatters m (edge :: edges) = false → (edge :: edges).all (s.swDeb m ≤ ·) = true →
    level = s.swPol m w → s.swActive m w = false →
    (s.stState m = stIdle ∨ s.stState m = stMoving) →
    ((w = 0 ∧ (s.pgn (s.stPg m)).vel < 0) ∨ (w = 1 ∧ 0 < (s.pgn (s.stPg m)).vel)) →
    ∃ t, exec (.stpSwitchChange m w level edge edges) s = .next t ∧ t.stState m = stFault ∧
      t.fld F.STP_STAT_FCAUSE m = 1 ∧ 141 ∈ t.flt.pair ∧ t.raised B.STP m 3 = true) ∧
  (∀ (s : State) (m w : Nat) (level : Bool) (edge : Nat) (edges : List Nat), m < 16 → s.domOn .ctl = true →
    s.swEn m w = true →
    s.chatters m (edge :: edges) = true →
    ∃ t, exec (.stpSwitchChange m w level edge edges) s = .next t ∧ 140 ∈ t.flt.pair ∧ t.raised B.STP m 4 = true ∧
      (if s.stState m = stFault ∨ (s.stState m = stOff ∧ s.sys.mode.moves = false) then t.stState m = s.stState m ∧
        s.regsBut t [evtAddr B.STP m] ∧ t.lmem = s.lmem
      else t.stState m = stFault ∧ t.fld F.STP_STAT_FCAUSE m = 2)) ∧
  (∀ (s : State) (m : Nat), m < 16 → s.domOn .ctl = true → s.fld F.STP_CUR_TPD m ≠ 0 → s.stState m = stIdle →
    (s.pgn (s.stPg m)).vel = 0 → s.flag F.STP_STAT_STILL m = false →
    ∃ t, exec (.stpStandstill m) s = .next t ∧ t.flag F.STP_STAT_STILL m = true ∧ t.raised B.STP m 6 = true ∧
      s.regsBut t [F.STP_STAT.addr m, evtAddr B.STP m] ∧ t.pgns = s.pgns ∧ t.lmem = s.lmem) ∧
  (∀ (s : State) (m : Nat), m < 16 → s.domOn .ctl = true →
    (s.stState m = stIdle ∨ s.stState m = stMoving ∨ s.stState m = stHoming) →
    ∃ t, exec (.stpCoilFault m) s = .next t ∧ t.stState m = stFault ∧ t.fld F.STP_STAT_FCAUSE m = 3 ∧ 142 ∈ t.flt.pair)

/-- GO in position mode, in a mode that moves, takes the target, clamped to the virtual limits, at once from IDLE and
else into the queue; with the queue full it raises CMD_ERR; in velocity mode it releases a halted generator. STOP
clears the queue and decelerates. PRESET at rest sets the position, and while moving raises CMD_ERR. PGN_VTGT takes
the velocity, LIMITED being raised against the motion. A position move that the limits let end ends exactly at its
target, with DONE, and a queued one starts; homing's back-off goes on to the creep. A stop that the limits let end
ends at rest, without DONE; in IDLE the steppers that moved with it release. Capture latches the integer position at
the edge, of the generator or of the transport as WHAT says, and raises CAPTURE. (spec/07 R197, spec/07 R198, spec/07
R199, spec/07 R200, spec/07 R202, spec/07 R206, spec/07 R212) -/
def Obligations.Generators : Prop :=
  (∀ (s : State) (g : Nat), g < 32 → s.openPage B.PGN g → s.domOn .ctl = true → s.pageEn B.PGN g = true → s.sys.mode.moves = true →
    s.pgVelMode g = false → ∃ t, exec (.pgnGo g) s = .next t ∧
      (if s.pgState g = pgIdle then
        t.pgState g = pgRamp ∧ (t.pgn g).target = s.clampTarget g (signed (s.pair64 F.PGN_TGT_LO g) 64)
      else if s.flag F.PGN_STAT_QUEUED g = true then t.raised B.PGN g 2 = true ∧ t.pgns = s.pgns
      else t.flag F.PGN_STAT_QUEUED g = true ∧
        (t.pgn g).queued = s.clampTarget g (signed (s.pair64 F.PGN_TGT_LO g) 64)) ∧
      s.regsBut t [F.PGN_STAT.addr g, evtAddr B.PGN g] ∧ t.lmem = s.lmem) ∧
  (∀ (s : State) (g : Nat), g < 32 → s.openPage B.PGN g → s.domOn .ctl = true → s.pageEn B.PGN g = true → s.sys.mode.moves = true →
    s.pgVelMode g = true → ∃ t, exec (.pgnGo g) s = .next t ∧ t.pgn g = { s.pgn g with held := false } ∧ t.regs = s.regs ∧
      t.lmem = s.lmem) ∧
  (∀ (s : State) (g : Nat), g < 32 → s.openPage B.PGN g → s.domOn .ctl = true →
    ∃ t, exec (.pgnStop g) s = .next t ∧ t.pgState g = (if s.pgState g = pgIdle then pgIdle else pgStopping) ∧
      t.flag F.PGN_STAT_QUEUED g = false ∧ (t.pgn g).held = true ∧
      (s.isTransport g = false ∨ s.flight = [] → s.regsBut t [F.PGN_STAT.addr g] ∧ t.lmem = s.lmem)) ∧
  (∀ (s : State) (g : Nat), g < 32 → s.openPage B.PGN g → s.domOn .ctl = true → s.pgState g = pgIdle →
    (s.isTransport g = false ∨ s.flight = []) → ∃ t, exec (.pgnPreset g) s = .next t ∧
      t.pair64 F.PGN_POS_LO g = unsign (signed (s.pair64 F.PGN_TGT_LO g) 64 * 65536) 64 ∧ (t.pgn g).rem = 0 ∧
      s.regsBut t [F.PGN_POS_LO.addr g, F.PGN_POS_HI.addr g] ∧ t.lmem = s.lmem) ∧
  (∀ (s : State) (g : Nat), g < 32 → s.openPage B.PGN g → s.domOn .ctl = true →
    (s.pgState g ≠ pgIdle ∨ (s.isTransport g = true ∧ s.flight ≠ [])) → ∃ t, exec (.pgnPreset g) s = .next t ∧
      t.raised B.PGN g 2 = true ∧ s.regsBut t [evtAddr B.PGN g] ∧ s.onlyRegs t) ∧
  (∀ (s : State) (g : Nat) (v : Word), g < 32 → s.openPage B.PGN g → s.domOn .ctl = true →
    ∃ t, exec (.pgnVtgtWrite g v) s = .next t ∧ t.reg (F.PGN_VTGT.addr g) = v ∧
      (s.pgVelMode g = true → signed v.toNat 32 * (s.pgn g).vel < 0 → t.raised B.PGN g 1 = true) ∧
      s.regsBut t [F.PGN_VTGT.addr g, evtAddr B.PGN g] ∧ t.lmem = s.lmem) ∧
  (∀ (s : State) (g : Nat), g < 32 → s.domOn .ctl = true → s.pgSeeks g = true → s.pgState g ≠ pgIdle →
    s.pgState g ≠ pgStopping → s.pgCanLand g = true → s.homers g = [] →
    ∃ t, exec (.pgnMoveDone g) s = .next t ∧ t.pair64 F.PGN_POS_LO g = unsign ((s.pgn g).target * 65536) 64 ∧
      t.raised B.PGN g 0 = true ∧ t.flag F.PGN_STAT_OVERSHOOT g = false ∧ t.reg (F.PGN_VEL.addr g) = 0 ∧
      t.pgState g = (if s.flag F.PGN_STAT_QUEUED g = true then pgRamp else pgIdle) ∧
      (s.flag F.PGN_STAT_QUEUED g = true → (t.pgn g).target = (s.pgn g).queued) ∧
      t.flag F.PGN_STAT_QUEUED g = false ∧
      (s.isTransport g = false → s.regsOutside t [B.PGN, B.STP] ∧ t.lmem = s.lmem)) ∧
  (∀ (s : State) (g m : Nat), g < 32 → s.domOn .ctl = true → s.pgSeeks g = true → s.pgState g ≠ pgIdle →
    s.pgState g ≠ pgStopping → s.pgCanLand g = true → s.homers g = [m] → s.fld F.STP_STAT_HSTEP m = 3 →
    ∃ t, exec (.pgnMoveDone g) s = .next t ∧ t.pair64 F.PGN_POS_LO g = unsign ((s.pgn g).target * 65536) 64 ∧
      t.fld F.STP_STAT_HSTEP m = 4 ∧ t.stState m = stHoming ∧ t.pgState g = pgRamp ∧
      (t.pgn g).drive = some (s.homeDir m * 16 * s.fld F.STP_HOME_CREEP m) ∧
      s.regsOutside t [B.PGN, B.STP] ∧ t.lmem = s.lmem) ∧
  (∀ (s : State) (g : Nat), g < 32 → s.domOn .ctl = true → (s.pgState g = pgStopping ∨ (s.pgn g).drive = some 0) →
    s.pgCanRest g = true → s.flag F.PGN_STAT_QUEUED g = false → s.homers g = [] →
    ∃ t, exec (.pgnStopped g) s = .next t ∧ t.pgState g = pgIdle ∧
      t.pair64 F.PGN_POS_LO g = s.pair64 F.PGN_POS_LO g ∧ t.reg (F.PGN_VEL.addr g) = 0 ∧ t.reg (F.PGN_ACC.addr g) = 0 ∧
      (s.sys.mode = .idle → (s.pgn g).vel ≠ 0 → (s.steppersOf g).all (fun m => t.stState m == stOff) = true) ∧
      (s.isTransport g = false → s.regsOutside t [B.PGN, B.STP] ∧ t.lmem = s.lmem)) ∧
  (∀ (s : State) (g ago : Nat) (rising : Bool), g < 32 → s.domOn .ctl = true → s.flag F.PGN_CAP_CFG_EN g = true →
    (2 ≤ s.fld F.PGN_CAP_CFG_EDGE g ∨ s.fld F.PGN_CAP_CFG_EDGE g = (if rising = true then 0 else 1)) →
    ∃ t, exec (.pgnCapture g rising ago) s = .next t ∧ t.raised B.PGN g 3 = true ∧
      t.pair64 F.PGN_CAP_LO g = unsign ((if s.flag F.PGN_CAP_CFG_WHAT g = true then (s.posAt (-(ago : Int))).getD 0
        else s.pgPosAgo g ago) / 65536) 64 ∧
      s.regsBut t [F.PGN_CAP_LO.addr g, F.PGN_CAP_HI.addr g, evtAddr B.PGN g] ∧ s.onlyRegs t)

/-- CTL_BANK_WRITE to the active bank changes no coefficient and raises CTL.ACTWR. To the other bank it takes the
value while the page is not locked, and is discarded while it is; either way every word of the active bank, and the
bank itself, stay as they are, so no law sees the value before a swap. (spec/08 R222) -/
def Obligations.ActiveBankWrites : Prop :=
  (∀ (s : State) (n i : Nat) (b : Bool) (v : Word), n < 96 → i < 48 → s.openPage B.CTL n → s.domOn .ctl = true →
    s.ctlBank n = b → ∃ t, exec (.ctlBankWrite n b i v) s = .next t ∧ t.raised B.CTL n 5 = true ∧
      s.regsBut t [evtAddr B.CTL n] ∧ s.onlyRegs t) ∧
  (∀ (s : State) (n i : Nat) (b : Bool) (v : Word), n < 96 → i < 48 → s.openPage B.CTL n → s.domOn .ctl = true →
    s.ctlBank n = !b → ∃ t, exec (.ctlBankWrite n b i v) s = .next t ∧
      t.bankWord n b i = (if s.flag (H.PAGE_LOCK_LOCK B.CTL) n = true then s.bankWord n b i
        else if i = 6 then v.toNat else v.toNat % 65536) ∧
      t.ctlBank n = s.ctlBank n ∧ (∀ j, j < 48 → t.bankWord n (!b) j = s.bankWord n (!b) j) ∧
      s.regsBut t [((if b = true then F.CTL_B else F.CTL_A).at i).addr n] ∧ s.onlyRegs t)

/-- A sample, due, of an enabled PID slot in a mode that computes, on time, with a swap pending for 100 ns or more and
the other bank usable: the other bank becomes active, PEND clears, CTL.SWAPPED is raised, SAT keeps its value, and U
is the PID output of the sample before, clamped to the new bank's limits, whatever the inputs, the old and the new
coefficients and the slot's history. (spec/08 R216, spec/08 R221, spec/08 R223) -/
def Obligations.BumplessSwap : Prop :=
  ∀ (s : State) (n lat : Nat) (aR aY aF : Int), n < 96 → s.domOn .ctl = true → s.sampleDue n = true →
    lat ≤ s.fld F.CTL_PERIOD_VALUE n → s.fld F.CTL_CFG_FORM n = 1 →
    s.flag F.CTL_STAT_PEND n = true → (s.ctl n).swapAt + 100 ≤ s.now → s.bankUsable n (!s.ctlBank n) = true →
    ∃ t, exec (.ctlSample n aR aY aF lat) s = .next t ∧
      s.regsOutside t [B.CTL, B.HVO, B.MOT] ∧ t.lmem = s.lmem ∧
      t.slotU n = clampI (s.uMin n (!s.ctlBank n)) (s.uMax n (!s.ctlBank n)) (s.ctl n).uPid ∧
      t.ctlBank n = !s.ctlBank n ∧ t.flag F.CTL_STAT_PEND n = false ∧ t.raised B.CTL n 0 = true ∧
      t.flag F.CTL_STAT_SAT n = s.flag F.CTL_STAT_SAT n

/-- A sample that is due, on time, with no swap pending takes R, Y and F, publishes the law's U and E, and keeps the
law's state and SAT; a late one keeps U, counts, raises LATE at the slot and the engine and F_152; one that is not due
(a slot disabled, a mode that does not compute, no sample instant here) changes nothing. EN = 1 of a disabled slot,
outside LOCKDOWN: a bad setting is refused with code 3, an exceeded MAC budget with 1, conversion budget with 2;
otherwise the slot runs from a cleared state with U = 0. EN = 0 publishes 0 at once. SWAP of a running slot sets PEND,
with the time; while it is set it does nothing; of a slot that does not run it swaps at once, or is refused where the
other bank is not usable. (spec/08 R213, spec/08 R216, spec/08 R217, spec/08 R218, spec/08 R220, spec/08 R223, spec/08
R224) -/
def Obligations.LoopSlots : Prop :=
  (∀ (s : State) (n lat : Nat) (aR aY aF r y f : Int) (c : Ctl) (o : LawOut), n < 96 → s.domOn .ctl = true →
    s.sampleDue n = true → lat ≤ s.fld F.CTL_PERIOD_VALUE n → s.flag F.CTL_STAT_PEND n = false →
    s.slotIn n F.CTL_IN_R aR = r → s.slotIn n F.CTL_IN_Y aY = y → s.slotIn n F.CTL_IN_F aF = f →
    c = { s.ctl n with sampAt := some (s.sampleInstant n) } →
    o = s.law n (s.ctlBank n) c (sat16 (r - y)) y f (s.consumerSat n) false (s.flag F.CTL_STAT_SAT n) →
    ∃ t, exec (.ctlSample n aR aY aF lat) s = .next t ∧
      t.slotU n = o.u ∧ t.ctl n = o.c ∧ t.flag F.CTL_STAT_SAT n = o.sat ∧
      t.sfld F.CTL_RY_R n = r ∧ t.sfld F.CTL_RY_Y n = y ∧ t.sfld F.CTL_EU_E n = sat16 (r - y) ∧
      s.regsOutside t [B.MOT, B.CTL, B.HVO] ∧ t.lmem = s.lmem) ∧
  (∀ (s : State) (n lat : Nat) (aR aY aF : Int), n < 96 → s.domOn .ctl = true → s.sampleDue n = true →
    s.fld F.CTL_PERIOD_VALUE n < lat →
    ∃ t, exec (.ctlSample n aR aY aF lat) s = .next t ∧ t.slotU n = s.slotU n ∧
      t.ctl n = { s.ctl n with sampAt := some (s.sampleInstant n) } ∧
      t.raised B.CTL n 3 = true ∧ t.raised B.CTL 0x60 0 = true ∧ 152 ∈ t.flt.pair ∧
      s.regsBut t [F.CTL_LAT.addr n, evtAddr B.CTL n, evtAddr B.CTL 0x60] ∧ t.lmem = s.lmem) ∧
  (∀ (s : State) (n lat : Nat) (aR aY aF : Int), n < 96 → s.sampleDue n = false →
    ∃ t, exec (.ctlSample n aR aY aF lat) s = .next t ∧ s.unchanged t) ∧
  (∀ (s : State) (n : Nat), n < 96 → s.openPage B.CTL n → s.domOn .ctl = true → s.pageEn B.CTL n = true →
    s.flag F.CTL_CTRL_EN n = false → s.ctlBad n = true →
    ∃ t, exec (.ctlEnable n) s = .next t ∧ t.fld F.CTL_STAT_REFUSE n = 3 ∧ t.raised B.CTL n 4 = true ∧
      s.regsBut t [F.CTL_STAT.addr n, evtAddr B.CTL n] ∧ s.onlyRegs t) ∧
  (∀ (s : State) (n : Nat), n < 96 → s.openPage B.CTL n → s.domOn .ctl = true → s.pageEn B.CTL n = true →
    s.flag F.CTL_CTRL_EN n = false → s.ctlBad n = false →
    ∃ t, exec (.ctlEnable n) s = .next t ∧
      (if 800000000 * (s.macRate (s.slotsOn ++ [n])).2 < (s.macRate (s.slotsOn ++ [n])).1 then
        t.fld F.CTL_STAT_REFUSE n = 1 ∧ t.flag F.CTL_CTRL_EN n = false ∧ t.raised B.CTL n 4 = true
      else if 48000000 * (s.convRate (s.slotsOn ++ [n])).2 < (s.convRate (s.slotsOn ++ [n])).1 then
        t.fld F.CTL_STAT_REFUSE n = 2 ∧ t.flag F.CTL_CTRL_EN n = false ∧ t.raised B.CTL n 4 = true
      else t.flag F.CTL_CTRL_EN n = true ∧ t.flag F.CTL_STAT_RUN n = true ∧ t.ctl n = Ctl.init ∧ t.slotU n = 0 ∧
        t.fld F.CTL_STAT_REFUSE n = 0) ∧
      s.regsOutside t [B.MOT, B.CTL, B.HVO] ∧ t.lmem = s.lmem) ∧
  (∀ (s : State) (n : Nat), n < 96 → s.openPage B.CTL n → s.domOn .ctl = true → s.flag F.CTL_CTRL_EN n = true →
    ∃ t, exec (.ctlDisable n) s = .next t ∧ t.flag F.CTL_CTRL_EN n = false ∧ t.flag F.CTL_STAT_RUN n = false ∧
      t.slotU n = 0 ∧ s.regsOutside t [B.MOT, B.CTL, B.HVO] ∧ t.lmem = s.lmem) ∧
  (∀ (s : State) (n : Nat), n < 96 → s.openPage B.CTL n → s.domOn .ctl = true → s.flag F.CTL_STAT_PEND n = false →
    s.flag F.CTL_STAT_RUN n = true → ∃ t, exec (.ctlSwap n) s = .next t ∧ t.flag F.CTL_STAT_PEND n = true ∧
      t.ctl n = { s.ctl n with swapAt := s.now } ∧ s.regsBut t [F.CTL_STAT.addr n] ∧ t.lmem = s.lmem) ∧
  (∀ (s : State) (n : Nat), n < 96 → s.openPage B.CTL n → s.flag F.CTL_STAT_PEND n = true →
    ∃ t, exec (.ctlSwap n) s = .next t ∧ s.unchanged t) ∧
  (∀ (s : State) (n : Nat), n < 96 → s.openPage B.CTL n → s.domOn .ctl = true → s.flag F.CTL_STAT_PEND n = false →
    s.flag F.CTL_STAT_RUN n = false → ∃ t, exec (.ctlSwap n) s = .next t ∧
      (if s.bankUsable n (!s.ctlBank n) = true then t.ctlBank n = !s.ctlBank n ∧ t.raised B.CTL n 0 = true
       else t.ctlBank n = s.ctlBank n ∧ t.fld F.CTL_STAT_REFUSE n = 3 ∧ t.raised B.CTL n 4 = true) ∧
      s.regsBut t [F.CTL_STAT.addr n, evtAddr B.CTL n] ∧ s.onlyRegs t)

/-- EN = 1 of an OFF output, in a mode that moves: with a good setting it runs, its demand the slot's U clamped to 0
and DMAX, and HVO.RUN is raised; with a bad one it stays OFF with CFG_ERR. EN = 0 of a running output ramps it down
from its demand, of one that waits for its stage starts the ramp at once, and of one in FAULT clears the fault to OFF.
A measurement (the mean of the conversions, or the demodulated amplitude) is published; the fourth period in a row
above ILIM, or a step of I beyond ARC, puts the output in FAULT with demand 0, the cause, its event and F_150 or
F_151. The end of the ramp, after TDN, is OFF with HVO.RAMPED. HVO_SYNC sets the phase of every output selected to 0
and of no other. (spec/08 R226, spec/08 R227, spec/08 R228, spec/08 R229, spec/08 R230, spec/08 R231, spec/08 R238) -/
def Obligations.HighVoltage : Prop :=
  (∀ (s : State) (o : Nat), o < 32 → s.openPage B.HVO o → s.domOn .ctl = true → s.pageEn B.HVO o = true → s.sys.mode.moves = true →
    s.hvState o = hvOff → s.hvBad o = false → ∃ t, exec (.hvoEnable o) s = .next t ∧ t.hvState o = hvRun ∧
      t.flag F.HVO_CTRL_EN o = true ∧ t.fld F.HVO_STAT_FCAUSE o = 0 ∧ t.raised B.HVO o 0 = true ∧
      t.fld F.HVO_DEMAND_DEMAND o = (clampI 0 (s.hvMax o)
        (if s.fld F.HVO_CFG_SLOT o < 96 then s.slotU (s.fld F.HVO_CFG_SLOT o) else 0)).toNat ∧
      s.regsOutside t [B.HVO] ∧ t.lmem = s.lmem) ∧
  (∀ (s : State) (o : Nat), o < 32 → s.openPage B.HVO o → s.domOn .ctl = true → s.pageEn B.HVO o = true → s.sys.mode.moves = true →
    s.hvState o = hvOff → s.hvBad o = true → ∃ t, exec (.hvoEnable o) s = .next t ∧ t.hvState o = hvOff ∧
      t.fld F.HVO_STAT_FCAUSE o = 3 ∧ t.raised B.HVO o 4 = true ∧
      s.regsBut t [F.HVO_CTRL.addr o, F.HVO_STAT.addr o, evtAddr B.HVO o] ∧ s.onlyRegs t) ∧
  (∀ (s : State) (o : Nat), o < 32 → s.openPage B.HVO o → s.domOn .ctl = true → s.hvState o = hvRun →
    ∃ t, exec (.hvoDisable o) s = .next t ∧ t.hvState o = hvRampdn ∧ t.flag F.HVO_CTRL_EN o = false ∧
      (t.hvo o).rampFrom = s.fld F.HVO_DEMAND_DEMAND o ∧ (t.hvo o).rampAt = some s.now ∧ (t.hvo o).staged = false) ∧
  (∀ (s : State) (o : Nat), o < 32 → s.openPage B.HVO o → s.domOn .ctl = true → s.hvState o = hvFault →
    ∃ t, exec (.hvoDisable o) s = .next t ∧ t.hvState o = hvOff ∧ t.flag F.HVO_CTRL_EN o = false ∧
      t.fld F.HVO_STAT_FCAUSE o = 0 ∧
      s.regsBut t [F.HVO_CTRL.addr o, F.HVO_STAT.addr o, F.HVO_GSTAT.addr 0x20] ∧ s.onlyRegsAndFaults t) ∧
  (∀ (s : State) (o : Nat), o < 32 → s.openPage B.HVO o → s.domOn .ctl = true → s.hvState o = hvRampdn →
    (s.hvo o).rampAt = none → ∃ t, exec (.hvoDisable o) s = .next t ∧ t.hvState o = hvRampdn ∧
      t.flag F.HVO_CTRL_EN o = false ∧ t.hvo o = { s.hvo o with rampAt := some s.now, staged := false } ∧
      s.regsBut t [F.HVO_CTRL.addr o] ∧ t.lmem = s.lmem) ∧
  (∀ (s : State) (o : Nat) (vs is : List Int), o < 32 → s.domOn .ctl = true → (s.hvState o = hvRun ∨ s.hvState o = hvRampdn) →
    s.measures o vs is = true → 3 ≤ (s.hvo o).ocRun → s.sfld F.HVO_LIM_ILIM o < s.measured o is →
    ∃ t, exec (.hvoMeasure o vs is) s = .next t ∧ t.hvState o = hvFault ∧ t.fld F.HVO_STAT_FCAUSE o = 1 ∧
      t.raised B.HVO o 1 = true ∧ 150 ∈ t.flt.pair ∧ t.fld F.HVO_DEMAND_DEMAND o = 0) ∧
  (∀ (s : State) (o : Nat) (vs is : List Int) (i j : Int), o < 32 → s.domOn .ctl = true →
    (s.hvState o = hvRun ∨ s.hvState o = hvRampdn) → s.measures o vs is = true → (s.hvo o).lastI = some j →
    i = s.measured o is → i ≤ s.sfld F.HVO_LIM_ILIM o → s.sfld F.HVO_LIM_ARC o < (if i < j then j - i else i - j) →
    ∃ t, exec (.hvoMeasure o vs is) s = .next t ∧ t.hvState o = hvFault ∧ t.fld F.HVO_STAT_FCAUSE o = 2 ∧
      t.raised B.HVO o 2 = true ∧ 151 ∈ t.flt.pair ∧ t.fld F.HVO_DEMAND_DEMAND o = 0) ∧
  (∀ (s : State) (o : Nat) (vs is : List Int) (i : Int), o < 32 → s.domOn .ctl = true →
    (s.hvState o = hvRun ∨ s.hvState o = hvRampdn) → s.measures o vs is = true →
    i = s.measured o is → i ≤ s.sfld F.HVO_LIM_ILIM o →
    (s.hvo o).lastI.all (fun j => decide ((if i < j then j - i else i - j) ≤ s.sfld F.HVO_LIM_ARC o)) = true →
    ∃ t, exec (.hvoMeasure o vs is) s = .next t ∧ t.sfld F.HVO_MEAS_V o = s.measured o vs ∧ t.sfld F.HVO_MEAS_I o = i ∧
      t.hvo o = { s.hvo o with ocRun := 0, lastI := some i } ∧ s.regsBut t [F.HVO_MEAS.addr o] ∧ t.lmem = s.lmem) ∧
  (∀ (s : State) (o : Nat), o < 32 → s.domOn .ctl = true → s.hvAtZero o = true →
    ∃ t, exec (.hvoRamped o) s = .next t ∧ t.hvState o = hvOff ∧ t.fld F.HVO_DEMAND_DEMAND o = 0 ∧
      t.raised B.HVO o 3 = true ∧ s.regsBut t [F.HVO_STAT.addr o, F.HVO_DEMAND.addr o, F.HVO_GSTAT.addr 0x20, evtAddr B.HVO o] ∧
      t.lmem = s.lmem) ∧
  (∀ (s : State) (v : Word), s.openPage B.HVO 0x20 → s.domOn .ctl = true → ∃ t, exec (.hvoSync v) s = .next t ∧
      (∀ o, o < 32 → bit v.toNat o = true → t.hvPhase o = 0) ∧ (∀ o, o < 32 → bit v.toNat o = false → t.hvo o = s.hvo o) ∧
      t.regs = s.regs ∧ t.lmem = s.lmem)

/-- ARM of an enabled buffer that is IDLE or DONE, no record held, empties and arms it. TRIG of an armed buffer
triggers it. A tick, due, of an armed or triggered buffer that does not trigger by level records the word its nodes
show, keeping the last 65,536; one above the level of TSRC = 1 triggers. STOP while recording, and the end of
recording, send what was recorded to ENC; STOP with nothing recorded is IDLE. The end of a dump writes the record to
ring 24 + b, DONE following, or holds it, STALLED raised, where the ring cannot take it; a held record is written
later. An edge of a GIO pin takes its level and triggers the armed buffers that wait for the pin. (spec/08 R232,
spec/08 R233, spec/08 R234, spec/08 R240) -/
def Obligations.LoupeBuffers : Prop :=
  (∀ (s : State) (b : Nat), b < 4 → s.openPage B.LUP b → s.domOn .ctl = true → s.pageEn B.LUP b = true →
    (s.luState b = luIdle ∨ s.luState b = luDone) → (s.lup b).held = none → ∃ t, exec (.lupArm b) s = .next t ∧
      t.luState b = luArmed ∧ t.lup b = Lup.init ∧ t.fld F.LUP_STAT_COUNT b = 0 ∧ s.regsBut t [F.LUP_STAT.addr b] ∧
      t.lmem = s.lmem) ∧
  (∀ (s : State) (b : Nat), b < 4 → s.openPage B.LUP b → s.domOn .ctl = true → s.luState b = luArmed →
    ∃ t, exec (.lupTrig b) s = .next t ∧ t.luState b = luTriggered ∧ t.raised B.LUP b 0 = true ∧
      (t.lup b).trigNow = true ∧ (t.lup b).words = (s.lup b).words ∧ s.regsOutside t [B.LUP, B.CAS] ∧ t.lmem = s.lmem) ∧
  (∀ (s : State) (b late : Nat), b < 4 → s.domOn .ctl = true → (s.lupDue b late).isSome = true →
    ((s.luState b = luArmed ∧ (s.tsrc b = 0 ∨ 5 ≤ s.tsrc b)) ∨ (s.luState b = luTriggered ∧ s.lupFull b = false)) →
    ∃ t, exec (.lupTick b late) s = .next t ∧ (t.lup b).words = (s.lupWord b :: (s.lup b).words).take 65536 ∧
      (t.lup b).total = (s.lup b).total + 1 ∧ (t.lup b).tickAt = s.lupDue b late ∧
      (t.lup b).trigAt = (if (s.lup b).trigNow = true then some (s.lup b).total else (s.lup b).trigAt) ∧
      t.luState b = s.luState b ∧
      s.regsBut t [F.LUP_STAT.addr b, F.LUP_TTIME_LO.addr b, F.LUP_TTIME_HI.addr b] ∧ t.lmem = s.lmem) ∧
  (∀ (s : State) (b late : Nat), b < 4 → s.domOn .ctl = true → (s.lupDue b late).isSome = true → s.luState b = luArmed →
    s.tsrc b = 1 → (s.reg (F.LUP_LEVEL.addr b)).toInt < (s.lupWord b).toInt → ∃ t, exec (.lupTick b late) s = .next t ∧
      s.regsOutside t [B.LUP, B.CAS] ∧
      t.luState b = luTriggered ∧
      (t.lup b).words = (s.lupWord b :: (s.lup b).words).take 65536 ∧ t.raised B.LUP b 0 = true ∧ t.lmem = s.lmem) ∧
  (∀ (s : State) (b : Nat), b < 4 → s.openPage B.LUP b → s.domOn .ctl = true →
    (s.luState b = luArmed ∨ s.luState b = luTriggered) → ∃ t, exec (.lupStop b) s = .next t ∧
      (if (s.lup b).words = [] then t.luState b = luIdle ∧ t.enc = s.enc
       else t.luState b = luDumping ∧ t.lup b = { s.lup b with stopped := true } ∧
        t.enc.loupeReq = s.enc.loupeReq ++ [b]) ∧ s.regsBut t [F.LUP_STAT.addr b] ∧ t.lmem = s.lmem) ∧
  (∀ (s : State) (b : Nat), b < 4 → s.domOn .ctl = true → s.luState b = luTriggered → s.lupFull b = true →
    (s.lup b).words ≠ [] → ∃ t, exec (.lupRecordEnd b) s = .next t ∧ t.luState b = luDumping ∧
      t.lup b = { s.lup b with stopped := false } ∧ t.enc.loupeReq = s.enc.loupeReq ++ [b] ∧
      s.regsBut t [F.LUP_STAT.addr b] ∧ t.lmem = s.lmem) ∧
  (∀ (s : State) (b : Nat), b < 4 → s.domOn .ctl = true → s.enc.loupe = some b → s.luState b = luDumping →
    s.ringEn (24 + b) = false → ∃ t, exec (.lupDumpDone b) s = .next t ∧ t.enc.loupe = none ∧ (t.lup b).held.isSome = true ∧
      t.luState b = luDumping ∧ t.raised B.LUP b 2 = true ∧
      s.regsBut t [F.ENC_STAT_LOUPE.addr 0, evtAddr B.LUP b] ∧ t.lmem = s.lmem) ∧
  (∀ (s : State) (b : Nat), b < 4 → s.domOn .ctl = true → s.enc.loupe = some b → s.luState b = luDumping →
    s.ringEn (24 + b) = true → s.ringWaiting (24 + b) = 0 → 0 < s.ringRoom (24 + b) → s.ringWritable (24 + b) = true →
    s.flag F.LUP_CFG_REARM b = false → ∃ t, exec (.lupDumpDone b) s = .next t ∧
      s.regsOutside t [B.APR, B.ENC, B.LUP] ∧
      t.enc.loupe = none ∧ t.luState b = luDone ∧
      t.raised B.LUP b 1 = true ∧ t.ringTail (24 + b) = (s.ringTail (24 + b) + 1) % s.ringSize (24 + b)) ∧
  (∀ (s : State) (b : Nat) (rec : List Byte), b < 4 → s.domOn .ctl = true → (s.lup b).held = some rec →
    s.ringEn (24 + b) = true → s.ringWaiting (24 + b) = 0 → 0 < s.ringRoom (24 + b) → s.ringWritable (24 + b) = true →
    s.flag F.LUP_CFG_REARM b = false → ∃ t, exec (.lupRecordWrite b) s = .next t ∧
      s.regsOutside t [B.APR, B.LUP] ∧
      (t.lup b).held = none ∧
      t.luState b = luDone ∧ t.raised B.LUP b 1 = true ∧
      t.ringTail (24 + b) = (s.ringTail (24 + b) + 1) % s.ringSize (24 + b)) ∧
  (∀ (s : State) (pin : Nat) (level : Bool), pin < 128 → ∃ t, exec (.lupGioEdge pin level) s = .next t ∧
      s.regsOutside t [B.LUP, B.CAS] ∧
      t.balls.gio.getLsbD pin = level ∧
      (∀ b, b < 4 → s.domOn .ctl = true → s.tsrc b = 6 → s.fld F.LUP_TRIG_ARG b = pin → s.luState b = luArmed →
        t.luState b = luTriggered) ∧ t.lmem = s.lmem)

/-- With a voltage scale of 0 a crossing changes nothing. In SEARCH a crossing that is not valid starts the count
again, one that is valid and not the eighth adds to it, and the eighth locks the loop, with LOCKED raised; P_avail is
0 meanwhile. In LOCKED a valid crossing becomes the last, one out of the window is passed over, and one in the window
that is not valid counts as missing; in COAST the first one is held as the start of a return, and in the window counts
the half-cycle. A missing crossing, once its window (in COAST the prediction) has passed, takes LOCKED to COAST, and
COAST, after COAST half-cycles, to LOST; in SEARCH it starts the count again. A window's end shows U10, I10 and P as
their scales allow, and P_avail as R247 has it; every 10 s f10 is taken. (spec/09 R242, spec/09 R243, spec/09 R245,
spec/09 R246, spec/09 R247) -/
def Obligations.MainsLoop : Prop :=
  (∀ (s : State) (pos : Bool) (ago u i1 : Nat), s.domOn .ana = true → s.fld F.MNS_SCALE_VFS 0 = 0 →
    ∃ t, exec (.mainsCrossing pos ago u i1) s = .next t ∧ s.unchanged t) ∧
  (∀ (s : State) (pos : Bool) (ago u i1 : Nat), s.domOn .ana = true → s.fld F.MNS_SCALE_VFS 0 ≠ 0 → s.mnState = mnSearch →
    s.crossingValid (s.now - ago) pos = false → ∃ t, exec (.mainsCrossing pos ago u i1) s = .next t ∧
      t.mnState = mnSearch ∧ t.mns.valid = 0 ∧ t.mns.last = some (s.now - ago, pos) ∧ t.mns.badAt = some s.now ∧
      t.reg (F.MNS_PAVAIL.addr 0) = 0 ∧ t.fld F.MNS_URMS_UHALF 0 = min 0xFFFF u ∧ s.regsOutside t [B.MNS] ∧ t.lmem = s.lmem) ∧
  (∀ (s : State) (pos : Bool) (ago u i1 : Nat), s.domOn .ana = true → s.fld F.MNS_SCALE_VFS 0 ≠ 0 → s.mnState = mnSearch →
    s.crossingValid (s.now - ago) pos = true → s.mns.valid < 7 → ∃ t, exec (.mainsCrossing pos ago u i1) s = .next t ∧
      t.mnState = mnSearch ∧ t.mns.valid = s.mns.valid + 1 ∧ t.reg (F.MNS_PAVAIL.addr 0) = 0 ∧
      s.regsOutside t [B.MNS] ∧ t.lmem = s.lmem) ∧
  (∀ (s : State) (pos : Bool) (ago u i1 : Nat), s.domOn .ana = true → s.fld F.MNS_SCALE_VFS 0 ≠ 0 → s.mnState = mnSearch →
    s.crossingValid (s.now - ago) pos = true → s.mns.valid = 7 → ∃ t, exec (.mainsCrossing pos ago u i1) s = .next t ∧
      t.mnState = mnLocked ∧ t.mns.last = some (s.now - ago, pos) ∧ t.raised B.MNS 0 6 = true ∧
      (pos = false → s.regsOutside t [B.MNS]) ∧ t.lmem = s.lmem) ∧
  (∀ (s : State) (pos : Bool) (ago u i1 : Nat), s.domOn .ana = true → s.fld F.MNS_SCALE_VFS 0 ≠ 0 → s.mnState = mnLocked →
    (s.crossingValid (s.now - ago) pos = true ∨ s.inWindow (s.now - ago) = false) →
    ∃ t, exec (.mainsCrossing pos ago u i1) s = .next t ∧ t.mnState = mnLocked ∧
      t.mns.last = (if s.crossingValid (s.now - ago) pos = true then some (s.now - ago, pos) else s.mns.last) ∧
      t.fld F.MNS_URMS_UHALF 0 = min 0xFFFF u ∧ (pos = false → s.regsOutside t [B.MNS]) ∧ t.lmem = s.lmem) ∧
  (∀ (s : State) (pos : Bool) (ago u i1 : Nat), s.domOn .ana = true → s.fld F.MNS_SCALE_VFS 0 ≠ 0 → s.mnState = mnLocked →
    s.crossingValid (s.now - ago) pos = false → s.inWindow (s.now - ago) = true → 1 < s.coastMax →
    ∃ t, exec (.mainsCrossing pos ago u i1) s = .next t ∧ t.mnState = mnCoast ∧ t.mns.coast = 1 ∧
      t.mns.last = some s.predicted ∧ t.raised B.MNS 0 3 = true ∧ s.regsOutside t [B.MNS, B.HTR] ∧ t.lmem = s.lmem) ∧
  (∀ (s : State) (pos : Bool) (ago u i1 : Nat), s.domOn .ana = true → s.fld F.MNS_SCALE_VFS 0 ≠ 0 → s.mnState = mnCoast →
    s.mns.cand = none → (s.inWindow (s.now - ago) = false ∨ s.mns.coast + 1 < s.coastMax) →
    ∃ t, exec (.mainsCrossing pos ago u i1) s = .next t ∧ t.mnState = mnCoast ∧
      t.mns.cand = some (s.now - ago, pos) ∧
      t.mns.coast = (if s.inWindow (s.now - ago) = true then s.mns.coast + 1 else s.mns.coast) ∧
      s.regsOutside t [B.MNS, B.HTR] ∧ t.lmem = s.lmem) ∧
  (∀ (s : State) (u : Nat), s.domOn .ana = true → s.fld F.MNS_SCALE_VFS 0 ≠ 0 → s.mnState = mnLocked →
    s.missingFrom ≤ s.now → 1 < s.coastMax →
    ∃ t, exec (.mainsCrossingMissing u) s = .next t ∧ t.mnState = mnCoast ∧ t.mns.coast = 1 ∧
      t.mns.last = some s.predicted ∧ t.raised B.MNS 0 3 = true ∧ s.regsOutside t [B.MNS, B.HTR] ∧ t.lmem = s.lmem) ∧
  (∀ (s : State) (u : Nat), s.domOn .ana = true → s.fld F.MNS_SCALE_VFS 0 ≠ 0 → s.mnState = mnCoast →
    s.missingFrom ≤ s.now → s.coastMax ≤ s.mns.coast + 1 →
    ∃ t, exec (.mainsCrossingMissing u) s = .next t ∧ t.mnState = mnLost ∧
      t.raised B.MNS 0 4 = true ∧ t.reg (F.MNS_PAVAIL.addr 0) = 0) ∧
  (∀ (s : State) (u : Nat), s.domOn .ana = true → s.fld F.MNS_SCALE_VFS 0 ≠ 0 → s.mnState = mnSearch →
    ∃ t, exec (.mainsCrossingMissing u) s = .next t ∧ t.mnState = mnSearch ∧ t.mns.valid = 0 ∧
      t.reg (F.MNS_PAVAIL.addr 0) = 0 ∧ s.regsOutside t [B.MNS] ∧ t.lmem = s.lmem) ∧
  (∀ (s : State) (u10 i10 : Nat) (p : Int), s.domOn .ana = true → ∃ t, exec (.mnsWindowEnd u10 i10 p) s = .next t ∧
      t.fld F.MNS_URMS_U10 0 = (if s.fld F.MNS_SCALE_VFS 0 = 0 then s.fld F.MNS_URMS_U10 0 else min 0xFFFF u10) ∧
      t.fld F.MNS_IRMS_I10 0 = (if s.fld F.MNS_SCALE_IFS 0 = 0 then s.fld F.MNS_IRMS_I10 0 else min 0xFFFF i10) ∧
      t.reg (F.MNS_POWER.addr 0) = (if s.fld F.MNS_SCALE_VFS 0 = 0 ∨ s.fld F.MNS_SCALE_IFS 0 = 0 then
        s.reg (F.MNS_POWER.addr 0) else BitVec.ofInt 32 p) ∧
      t.reg (F.MNS_PAVAIL.addr 0)
        = BitVec.ofNat 32 (max 1 (s.fld F.MNS_AVAIL_NPH 0) * t.uMinAvail * s.fld F.MNS_AVAIL_ILIM 0 / 100) ∧
      s.regsOutside t [B.MNS, B.HTR] ∧ t.lmem = s.lmem) ∧
  (∀ (s : State) (f : Nat), s.domOn .ana = true → s.fld F.MNS_SCALE_VFS 0 ≠ 0 → ∃ t, exec (.mnsF10Update f) s = .next t ∧
      t.fld F.MNS_FREQ_F10 0 = min 0xFFFF f ∧ t.fld F.MNS_FREQ_FCYC 0 = s.fld F.MNS_FREQ_FCYC 0 ∧
      s.regsBut t [F.MNS_FREQ.addr 0] ∧ s.onlyRegs t)

/-- EN = 1 of an OFF heater, in a mode that moves: with a good setting it runs from a cleared history and HTR.RUN is
raised, with a bad one it stays OFF with CFG_ERR. EN = 0 clears a fault to OFF, takes a heater with no supply and
nothing firing to OFF at once, and leaves one that the supply fires to the next positive-going crossing. THR_ENFORCE
with the request and a trigger standing for the grace time enforces the ceiling and raises its event; THR_END with
every trigger clear, in ENFORCED for HOLD, lifts it. (spec/09 R252, spec/09 R253, spec/09 R259, spec/09 R262, spec/09
R263) -/
def Obligations.HeatersAndThrottle : Prop :=
  (∀ (s : State) (h : Nat), h < 8 → s.openPage B.HTR h → s.domOn .ana = true → s.pageEn B.HTR h = true → s.sys.mode.moves = true →
    s.htState h = htOff → s.htBad h = false → ∃ t, exec (.htrEnable h) s = .next t ∧ t.htState h = htRun ∧
      t.flag F.HTR_CTRL_EN h = true ∧ t.fld F.HTR_STAT_FCAUSE h = 0 ∧ t.htr h = Htr.init ∧ t.raised B.HTR h 0 = true ∧
      s.regsBut t [F.HTR_CTRL.addr h, F.HTR_STAT.addr h, evtAddr B.HTR h] ∧ t.lmem = s.lmem) ∧
  (∀ (s : State) (h : Nat), h < 8 → s.openPage B.HTR h → s.domOn .ana = true → s.pageEn B.HTR h = true → s.sys.mode.moves = true →
    s.htState h = htOff → s.htBad h = true → ∃ t, exec (.htrEnable h) s = .next t ∧ t.htState h = htOff ∧
      t.fld F.HTR_STAT_FCAUSE h = 3 ∧ t.raised B.HTR h 4 = true ∧
      s.regsBut t [F.HTR_CTRL.addr h, F.HTR_STAT.addr h, evtAddr B.HTR h] ∧ s.onlyRegs t) ∧
  (∀ (s : State) (h : Nat), h < 8 → s.openPage B.HTR h → s.domOn .ana = true → s.htState h = htFault →
    ∃ t, exec (.htrDisable h) s = .next t ∧ t.htState h = htOff ∧ t.fld F.HTR_STAT_FCAUSE h = 0 ∧
      t.flag F.HTR_CTRL_EN h = false ∧ s.regsBut t [F.HTR_CTRL.addr h, F.HTR_STAT.addr h] ∧ s.onlyRegsAndFaults t) ∧
  (∀ (s : State) (h : Nat), h < 8 → s.openPage B.HTR h → s.domOn .ana = true →
    (s.htState h = htRun ∨ s.htState h = htSuppress) →
    ∃ t, exec (.htrDisable h) s = .next t ∧ t.htState h = (if s.htIdle h = true then htOff else s.htState h) ∧
      t.flag F.HTR_CTRL_EN h = false ∧ s.regsOutside t [B.HTR] ∧ t.lmem = s.lmem) ∧
  (∀ (s : State), s.domOn .ana = true → s.fld F.HTR_THR_STAT_STATE 8 = 1 → s.thrCause ≠ 0 →
    s.sched.thrAt + s.grace ≤ s.now → ∃ t, exec .thrEnforce s = .next t ∧ t.fld F.HTR_THR_STAT_STATE 8 = 2 ∧ t.fld F.HTR_THR_STAT_CAUSE 8 = s.thrCause ∧
      t.raised B.HTR 8 1 = true ∧ s.regsBut t [F.HTR_THR_STAT.addr 8, evtAddr B.HTR 8] ∧ t.htrs = s.htrs ∧ t.lmem = s.lmem) ∧
  (∀ (s : State), s.domOn .ana = true → (s.fld F.HTR_THR_STAT_STATE 8 = 1 ∨ (s.fld F.HTR_THR_STAT_STATE 8 = 2 ∧ s.heldClear = true)) → s.thrCause = 0 →
    ∃ t, exec .thrEnd s = .next t ∧ t.fld F.HTR_THR_STAT_STATE 8 = 0 ∧ t.fld F.HTR_THR_STAT_CAUSE 8 = 0 ∧
      t.raised B.HTR 8 2 = true ∧ s.regsBut t [F.HTR_THR_STAT.addr 8, evtAddr B.HTR 8] ∧ t.htrs = s.htrs ∧ t.lmem = s.lmem)

/-- A diode channel's sound measurement (IDEAL and result in their ranges, no rate limit set) is shown as R256
computes it, VALID, its level moved as R257 says, ABSOLUTE raising F_(168 + n). A measurement out of range is a sensor
fault: VALID clears, the level is LIMIT with cause 3, and F_(192 + n) is raised. An array with one selected, valid
source shows its value, moves its level, and hands it to FMT. A source silent for 10 ms goes stale and leaves the
array not VALID and at LIMIT or above, with SRC_LOST at the moment it does. (spec/09 R256, spec/09 R257, spec/09 R258,
spec/09 R264) -/
def Obligations.Temperatures : Prop :=
  (∀ (s : State) (n raw : Nat) (v : Int), n < 24 → s.domOn .ana = true → s.fld F.TMP_CFG_TYPE n = 1 →
    20000000 ≤ raw → raw ≤ 90000000 → 9000 ≤ s.fld F.TMP_SENS_IDEAL n → s.fld F.TMP_SENS_IDEAL n ≤ 11000 →
    diodeTemp raw (s.fld F.TMP_SENS_IDEAL n) (signed (s.fld F.TMP_SENS_OFS n) 16) = v → -32768 ≤ v → v ≤ 32767 →
    s.fld F.TMP_RATE_RATE n = 0 → ∃ t, exec (.tmpSensorUpdate n raw) s = .next t ∧
      t.sfld F.TMP_VALUE_TEMP n = v ∧ t.flag F.TMP_STAT_VALID n = true ∧ t.tmState n = s.nextLevel n (s.tmState n) v ∧
      (if s.nextLevel n (s.tmState n) v = 3 then 168 + n ∈ t.flt.pair else 168 + n ∉ t.flt.pair) ∧ 192 + n ∉ t.flt.pair ∧
      s.regsOutside t [B.TMP, B.HTR] ∧ t.lmem = s.lmem) ∧
  (∀ (s : State) (n raw : Nat), n < 24 → s.domOn .ana = true →
    (if s.fld F.TMP_CFG_TYPE n = 1 then raw < 20000000 ∨ 90000000 < raw
      else s.fld F.TMP_CFG_TYPE n = 2 ∧ (raw < 10000 ∨ 10000000000 < raw)) →
    ∃ t, exec (.tmpSensorUpdate n raw) s = .next t ∧ t.flag F.TMP_STAT_VALID n = false ∧ t.tmState n = 2 ∧
      t.fld F.TMP_STAT_CAUSE n = 3 ∧ 192 + n ∈ t.flt.pair ∧ ((s.tmp n).failing = false → t.raised B.TMP n 4 = true) ∧
      s.regsOutside t [B.TMP, B.HTR] ∧ t.lmem = s.lmem) ∧
  (∀ (s : State) (n i : Nat) (v : Int), n < 6 → i < 5 → s.domOn .ana = true → (List.range 5).filter (s.srcOn n) = [i] →
    s.srcValue n i = (true, v) → s.nextLevel (arrPage n) (s.tmState (arrPage n)) v < 3 → -32768 ≤ v → v ≤ 32767 →
    ∃ t, exec (.tmpArrayUpdate n i) s = .next t ∧ t.sfld F.TMP_VALUE_TEMP (arrPage n) = v ∧
      t.flag F.TMP_STAT_VALID (arrPage n) = true ∧
      t.tmState (arrPage n) = s.nextLevel (arrPage n) (s.tmState (arrPage n)) v ∧
      (t.stn n).fmt.arrState = s.nextLevel (arrPage n) (s.tmState (arrPage n)) v ∧ 216 + n ∉ t.flt.pair ∧
      s.regsBut t [F.TMP_VALUE.addr (arrPage n), F.TMP_STAT.addr (arrPage n), evtAddr B.TMP (arrPage n)] ∧ t.lmem = s.lmem) ∧
  (∀ (s : State) (n i : Nat), n < 6 → i < 5 → s.domOn .ana = true → s.srcOn n i = true → s.srcSilent n i = true →
    (s.tmState (arrPage n)) < 3 → (List.range 5).filter (s.srcOn n) = [i] →
    ∃ t, exec (.tmpSourceStale n i) s = .next t ∧ t.flag F.TMP_STAT_VALID (arrPage n) = false ∧ t.tmState (arrPage n) = 2 ∧
      t.fld F.TMP_STAT_CAUSE (arrPage n) = 3 ∧ (t.stn n).fmt.arrState = 2 ∧
      (bit (s.tmp (arrPage n)).stale i = false → t.raised B.TMP (arrPage n) 6 = true) ∧ t.lmem = s.lmem)

/-- A source of class NOTE, MINOR or MAJOR with no reaction, no tag and no escalation that presents a fault: it reads
asserted and latched, and without an open record one is written at the head of the log with its class, its node and
the press time, from MINOR up with an edge of its class's interrupt and at MAJOR with one of IS_000; with one open,
that record counts one more and takes the time. So for a pair whose wires stay equal, whose record and WIRE bit say
so, with an edge of IS_007. No mode, and no register outside FLT, INT, LUP and CAS, changes. A source that reads clear
is no longer asserted. An escalation window that has run out clears ESCD. (spec/12 R328, spec/12 R331, spec/12 R332,
spec/12 R333, spec/12 R336, spec/12 R337) -/
def Obligations.FaultReports : Prop :=
  (∀ (s : State) (n c : Nat), n < 384 → s.domOn .ctl = true → s.presents n false = true → srcOneShot n = false →
    (s.reg ((F.FLT_CFG.at (n % 64)).addr (n / 64))).toNat = c → c ≤ 2 → s.escN n < 2 →
    s.openRec n (if s.casEnabled = true then s.nodeId else 0) c = none →
    ∃ t, exec (.faultReport n) s = .next t ∧ t.srcLive n = true ∧ t.bitOf F.FLT_LATCH (n / 64) (n % 64) = true ∧
      t.logRec (s.fld F.FLT_LOG_HEAD_NEXT 0x10) = { FltRec.none with
        source := n, cls := c, node := if s.casEnabled = true then s.nodeId else 0, count := 1, tFirst := s.now, tLast := s.now } ∧
      t.fld F.FLT_LOG_HEAD_NEXT 0x10 = (s.fld F.FLT_LOG_HEAD_NEXT 0x10 + 1) % 256 ∧
      (1 ≤ c → t.intState (1 + c) = edgeMerge (s.intState (1 + c))) ∧
      (2 ≤ c → t.intState 0 = edgeMerge (s.intState 0)) ∧
      t.sys = s.sys ∧ s.regsOutside t [B.FLT, B.INT, B.LUP, B.CAS] ∧ t.lmem = s.lmem) ∧
  (∀ (s : State) (n c i : Nat), n < 384 → s.domOn .ctl = true → s.presents n false = true → srcOneShot n = false →
    (s.reg ((F.FLT_CFG.at (n % 64)).addr (n / 64))).toNat = c → c ≤ 2 → s.escN n < 2 →
    s.openRec n (if s.casEnabled = true then s.nodeId else 0) c = some i →
    ∃ t, exec (.faultReport n) s = .next t ∧ t.srcLive n = true ∧
      t.logRec i = { s.logRec i with count := min 0xFFFF ((s.logRec i).count + 1), tLast := s.now } ∧
      t.fld F.FLT_LOG_HEAD_NEXT 0x10 = s.fld F.FLT_LOG_HEAD_NEXT 0x10 ∧
      t.sys = s.sys ∧ s.regsOutside t [B.FLT, B.LUP, B.CAS] ∧ t.lmem = s.lmem) ∧
  (∀ (s : State) (n c : Nat), n < 384 → s.domOn .ctl = true → s.presents n true = true → n ≠ 353 →
    (s.reg ((F.FLT_CFG.at (n % 64)).addr (n / 64))).toNat = c → c ≤ 2 → s.escN n < 2 →
    s.openRec n (if s.casEnabled = true then s.nodeId else 0) c = none →
    ∃ t, exec (.faultWire n) s = .next t ∧ t.srcLive n = true ∧ n ∈ t.flt.wireNow ∧
      t.bitOf F.FLT_WIRE (n / 64) (n % 64) = true ∧ t.intState 7 = edgeMerge (s.intState 7) ∧
      t.logRec (s.fld F.FLT_LOG_HEAD_NEXT 0x10) = { FltRec.none with
        source := n, cls := c, wire := true, node := if s.casEnabled = true then s.nodeId else 0, count := 1,
        tFirst := s.now, tLast := s.now } ∧
      t.sys = s.sys ∧ s.regsOutside t [B.FLT, B.INT, B.LUP, B.CAS] ∧ t.lmem = s.lmem) ∧
  (∀ (s : State) (n : Nat), n < 384 → s.domOn .ctl = true → s.clears n = true → ∃ t, exec (.faultClear n) s = .next t ∧
      t.srcLive n = false ∧ n ∉ t.flt.pair ∧ n ∉ t.flt.wireNow ∧ t.sys = s.sys ∧
      s.regsBut t [(F.FLT_LIVE.at (n % 64 / 32)).addr (n / 64)] ∧ t.lmem = s.lmem) ∧
  (∀ (s : State) (n : Nat), n < 384 → s.domOn .ctl = true →
    ((s.flt.counts.filter fun e => !(e.1 == n && decide (e.2 + s.escWin n ≤ s.now))).filter fun e => e.1 == n).length
      < s.escN n → ∃ t, exec (.escWindowExpire n) s = .next t ∧ t.bitOf F.FLT_ESCD (n / 64) (n % 64) = false ∧
      s.regsBut t [(F.FLT_ESCD.at (n % 64 / 32)).addr (n / 64)] ∧ t.lmem = s.lmem)

/-- A report of a source of class GRAVE with no further reaction and no tag, with no record of it open, in any mode
but OFF, in HIBERNATE as it changes to another mode, and with LOCKDOWN neither entered nor begun: FLT_GRAVE holds the
source and the press time, the retained LOCKDOWN flag is set, a device change toward LOCKDOWN with the source as its
cause is the change that runs, and no request waits, whatever ran or waited before. (spec/12 R327, spec/12 R331,
spec/12 R335, spec/01 R26) -/
def Obligations.GraveLocksDown : Prop :=
  ∀ (s : State) (n : Nat), n < 384 → n ≠ 353 → s.domOn .ctl = true → s.presents n false = true →
    (s.reg ((F.FLT_CFG.at (n % 64)).addr (n / 64))).toNat = 4 → s.escN n < 2 → s.openRec n (if s.casEnabled = true then s.nodeId else 0) 4 = none →
    s.sys.mode ≠ .off → (s.sys.mode = .hibernate → s.sys.trans.isSome = true) → s.domMode ≠ .lockdown →
    ∃ t, exec (.faultReport n) s = .next t ∧ t.reg (F.FLT_GRAVE.addr 0x10) = BitVec.ofNat 32 (2 ^ 31 + n) ∧
      t.pair64 F.FLT_GRAVE_TIME_LO 0x10 = s.now ∧ t.aon.lockdown = true ∧ t.sys.mode = s.sys.mode ∧
      t.sys.trans = some (Machine.Trans.mk .lockdown false s.now n) ∧ t.sys.pend = none ∧ t.sys.crst = none

/-- FAULT_N low, while this device does not drive it, raises F_016, and otherwise drops it. Once 1 µs has passed since
FAULT_N was last driven, the drivers whose source and latch are clear let go. Latch bits clear by writing 1. A write
of an unlocked FLT_XIN_k holds its defined bits; one that changes an enabled input starts its filter, during which the
input reads clear; a filter whose time has passed ends, and with nothing asserted it changes no register. The close of
a storm window, once its end has come, with a root and one partner, both logged, marks the root, raises the urgent
interrupt and the storm interrupt, and writes one storm record with the partner's count and node. (spec/12 R329,
spec/12 R333, spec/12 R338, spec/12 R341, spec/12 R342) -/
def Obligations.FaultLines : Prop :=
  (∀ (s : State) (low : Bool), s.domOn .ctl = true → ∃ t, exec (.faultNInput low) s = .next t ∧
      (if low = true ∧ s.fnDrive = false then 16 ∈ t.flt.pair else 16 ∉ t.flt.pair) ∧
      t.flag F.FLT_GSTAT_FN_LINE 0x10 = (low || s.fnDrive) ∧ s.regsBut t [F.FLT_GSTAT_FN_LINE.addr 0x10] ∧
      s.onlyRegsAndFaults t) ∧
  (∀ (s : State), s.flt.fnAt + 1000 ≤ s.now → ∃ t, exec .faultNMinHold s = .next t ∧ t.flt.fnHeld = true ∧
      t.flt.drivers = (s.flt.drivers.filter fun n => s.srcLive n || s.bitOf F.FLT_LATCH (n / 64) (n % 64)) ∧
      t.regs = s.regs ∧ t.lmem = s.lmem) ∧
  (∀ (s : State) (page j : Nat) (v : Word), page ≤ 5 → j ≤ 1 → s.openPage B.FLT page → s.domOn .ctl = true →
    ∃ t, exec (.fltLatchClear page j v) s = .next t ∧
      t.reg ((F.FLT_LATCH.at j).addr page) = s.reg ((F.FLT_LATCH.at j).addr page) &&& ~~~ v ∧
      s.regsBut t [(F.FLT_LATCH.at j).addr page] ∧ t.lmem = s.lmem) ∧
  (∀ (s : State) (k : Nat) (v : Word), k < 16 → s.openPage B.FLT 0x10 → s.domOn .ctl = true →
    s.flag (H.PAGE_LOCK_LOCK B.FLT) 0x10 = false → ∃ t, exec (.xinCfgWrite k v) s = .next t ∧
      t.reg ((F.FLT_XIN.at k).addr 0x10) = v &&& 0xFF017F7F ∧
      (bit v.toNat 16 = true → v &&& 0xFF017F7F ≠ s.reg ((F.FLT_XIN.at k).addr 0x10) → t.xinReads k = 0) ∧
      (bit v.toNat 16 = false → t.xinReads k = 0) ∧
      s.regsBut t [(F.FLT_XIN.at k).addr 0x10] ∧ t.lmem = s.lmem) ∧
  (∀ (s : State) (k : Nat), k < 16 → k ∈ s.flt.xinFilt → s.xinSettled k 0 = true → s.srcLive (32 + k) = false →
    { s with flt := { s.flt with xinFilt := s.flt.xinFilt.filter (· ≠ k) } }.xinReads k ≠ 1 →
    ∃ t, exec (.xinFilterExpire k) s = .next t ∧ k ∉ t.flt.xinFilt ∧ t.regs = s.regs ∧ t.lmem = s.lmem) ∧
  (∀ (s : State) (tag o i j : Nat) (a b : FltRec), s.flt.storms.find? (fun w => w.tag == tag && decide (s.stormEnd w ≤ s.now))
      = some { tag := tag, opened := o, recs := [a, b] } → s.casEnabled = true → a.node ≠ s.nodeId → a.storm = false →
    b.storm = false → a.same b = false → b.same a = false → b.before a = false →
    (s.flt.log.find? fun e => e.2.same a) = some (i, a) → (s.flt.log.find? fun e => e.2.same b) = some (j, b) →
    s.logRec i = a → s.fld F.FLT_LOG_HEAD_NEXT 0x10 ≠ i → ∃ t, exec (.stormWindowClose tag) s = .next t ∧
      t.logRec i = { a with root := true } ∧ t.intState 0 = edgeMerge (s.intState 0) ∧
      t.intState 6 = edgeMerge (s.intState 6) ∧
      t.logRec (s.fld F.FLT_LOG_HEAD_NEXT 0x10) = { a with
        storm := true, root := false, count := b.count, nodes := 0 ||| BitVec.twoPow 64 b.node,
        tLast := max a.tLast b.tLast } ∧
      (t.flt.storms.any fun w => w.tag == tag) = false ∧ s.regsOutside t [B.FLT, B.INT] ∧ t.lmem = s.lmem)

/-- The three fields of an offset are its bits 26 to 20, 19 to 12 and 11 to 0: the offset made of a block, an instance
and a register offset decodes to them, and every offset below 2^27 is made of the fields that it decodes to. (spec/00
R8) -/
def Obligations.AddressDecode : Prop :=
  (∀ a : Nat, blkOf a = bits a 20 7 ∧ instOf a = bits a 12 8 ∧ offOf a = bits a 0 12) ∧
  (∀ blk inst off : Nat, blk < 128 → inst < 256 → off < 4096 →
    blkOf (regAddr blk inst off) = blk ∧ instOf (regAddr blk inst off) = inst ∧ offOf (regAddr blk inst off) = off) ∧
  (∀ a : Nat, a < 2 ^ 27 → regAddr (blkOf a) (instOf a) (offOf a) = a)

/-- BLK_RST of a page (none of a ring that holds records, and none of PWR; FMT_STAT, which keeps a thermal cut and
tightened caps, apart): BLK_RST and BUSY read 1, and every register of the page that the reset does not keep reads its
reset value, PAGE_CTRL and PAGE_STATUS apart; of an audit or event ring with reservations it is discarded with BADPTR.
Its end clears BLK_RST and BUSY. PAGE_LOCK sets LOCK. EN = 1 and EN = 0 set EN on a page where EN acts; EN = 0
releases a motor channel that does not run. On other pages both change nothing. A write of PAGE_GROUP sets the page's
groups. (spec/00 R14, spec/00 R15, spec/02 R56, spec/00 R417, spec/02 R421) -/
def Obligations.PageControls : Prop :=
  (∀ (s : State) (blk inst off : Nat), s.openPage blk inst → s.flag (H.PAGE_LOCK_LOCK blk) inst = false → blk < 128 → inst < 256 →
    blk ≠ B.PWR → (blk = B.FMT → off ≠ F.FMT_STAT.off) → s.ringHeld blk inst = false → off < 4096 → off ≠ 0x008 → off ≠ 0x00C → s.rstKeeps blk inst off = false →
    ∃ t, exec (.blkRst blk inst false) s = .next t ∧ t.reg (regAddr blk inst off) = regReset (regAddr blk inst off) ∧
      t.flag (H.PAGE_CTRL_BLK_RST blk) inst = true ∧ t.flag (H.PAGE_STATUS_BUSY blk) inst = true) ∧
  (∀ (s : State) (inst : Nat) (en : Bool), s.openPage B.APR inst → s.ringHeld B.APR inst = true →
    ∃ t, exec (.blkRst B.APR inst en) s = .next t ∧ t.raised B.APR inst 1 = true ∧ s.regsBut t [evtAddr B.APR inst] ∧
      s.onlyRegs t) ∧
  (∀ (s : State) (blk inst : Nat), blk < 128 → inst < 256 → pageExists blk inst = true → s.pageOn blk inst = true →
    s.flag (H.PAGE_CTRL_BLK_RST blk) inst = true → ∃ t, exec (.blockResetDone blk inst) s = .next t ∧
      t.flag (H.PAGE_CTRL_BLK_RST blk) inst = false ∧ t.flag (H.PAGE_STATUS_BUSY blk) inst = false ∧
      t.flag (H.PAGE_CTRL_EN blk) inst = s.flag (H.PAGE_CTRL_EN blk) inst ∧
      s.regsBut t [regAddr blk inst 0x008, regAddr blk inst 0x00C] ∧ s.onlyRegs t) ∧
  (∀ (s : State) (blk inst : Nat), s.openPage blk inst → ∃ t, exec (.pageLock blk inst) s = .next t ∧
      t.flag (H.PAGE_LOCK_LOCK blk) inst = true ∧ s.regsBut t [regAddr blk inst 0x020] ∧ s.onlyRegs t) ∧
  (∀ (s : State) (blk inst : Nat), s.openPage blk inst → enActs blk inst = true →
    ∃ t, exec (.pageEnable blk inst) s = .next t ∧ t.pageEn blk inst = true ∧ s.regsBut t [regAddr blk inst 0x008] ∧
      t.lmem = s.lmem) ∧
  (∀ (s : State) (blk inst : Nat), s.openPage blk inst → enActs blk inst = false →
    ∃ t, exec (.pageEnable blk inst) s = .next t ∧ s.unchanged t) ∧
  (∀ (s : State) (blk inst : Nat), s.openPage blk inst → (enActs blk inst = false ∨ s.pageEn blk inst = false) →
    ∃ t, exec (.pageDisable blk inst) s = .next t ∧ s.unchanged t) ∧
  (∀ (s : State) (m : Nat), m < 24 → s.openPage B.MOT m → s.pageEn B.MOT m = true → s.moState m ≠ moRun →
    ∃ t, exec (.pageDisable B.MOT m) s = .next t ∧ t.pageEn B.MOT m = false ∧ t.moState m = moOff ∧
      t.fld F.MOT_CTRL_CMD m = s.fld F.MOT_CTRL_CMD m ∧
      s.regsBut t [regAddr B.MOT m 0x008, F.MOT_STAT.addr m] ∧ t.lmem = s.lmem) ∧
  (∀ (s : State) (blk inst : Nat) (v : Word), s.openPage blk inst → s.hostPath = true → s.fld F.PRS_STAT_OUT 0 ≠ 255 →
    ∃ t, exec (.pageGroupWrite blk inst v) s = .next t ∧ t.reg (regAddr blk inst 0x024) = v &&& 0xFFFF ∧
      s.regsBut t [regAddr blk inst 0x024] ∧ s.onlyRegs t)

/-- The access completes: a next state. Whatever register of the page it names, a host read of any size returns 0 and
changes nothing else, and a host write is discarded and counted as a host access error: HST_ACC_CNT goes on by one,
the record names cause 3 and the offset, HST.ACC_ERR is raised, and no other register changes. The domain of a page is
R418's. (spec/01 R18) -/
def Obligations.OffDomainAccesses : Prop :=
  (∀ (s : State) (blk inst off : Nat) (sz : Size), blk < 128 → inst < 0xE0 → off < 4096 → pageExists blk inst = true →
    s.domOn (domOf blk inst) = false → s.hostPath = true → s.nodeId = 0 →
    (sz = .double → off % 8 = 0) → ∃ t, exec (.bar4Read (regAddr blk inst off) sz) s = .next t ∧
      t.reply = s.sizedReply sz 0 0 ∧ t.regs = s.regs ∧ t.lmem = s.lmem) ∧
  (∀ (s : State) (blk inst off : Nat) (v : Word), blk < 128 → inst < 0xE0 → off < 4096 → off % 4 = 0 → pageExists blk inst = true →
    s.domOn (domOf blk inst) = false → s.hostPath = true → s.fld F.PRS_STAT_OUT 0 ≠ 255 → s.sys.mode ≠ .lockdown →
    ∃ t, exec (.hostRegWrite (regAddr blk inst off) 15 false v none) s = .next t ∧
      t.fld F.HST_ACC_CNT 0 = min (s.fld F.HST_ACC_CNT 0 + 1) 0xFFFFFFFF ∧ t.fld F.HST_ACC_INFO_CAUSE 0 = 3 ∧
      t.fld F.HST_ACC_INFO_VIA 0 = 0 ∧ t.flag F.HST_ACC_INFO_WRITE 0 = true ∧
      t.pair64 F.HST_ACC_ADDR_LO 0 = regAddr blk inst off ∧ t.raised B.HST 0 3 = true ∧
      s.regsBut t [F.HST_ACC_CNT.addr 0, F.HST_ACC_INFO.addr 0, F.HST_ACC_ADDR_LO.addr 0, F.HST_ACC_ADDR_HI.addr 0,
        evtAddr B.HST 0] ∧ s.onlyRegsAndFaults t)

/-- The low word of a counter lies at the lower offset, and its high word 4 above. A read of the low word returns it
(a 64-bit read both words, a shorter one the bytes addressed) and latches the high word as it stands then, for that
counter and that path; the latch of every other counter or path stays. A read of the high word by itself returns what
that path latched, and leaves every latch. Before any read of the low word every latch holds 0, so that the high word
reads 0. (spec/00 R7) -/
def Obligations.CounterLatches : Prop :=
  (∀ (s : State) (path : Path) (blk inst off : Nat) (sz : Size), blk < 128 → inst < 0xE0 → off < 4092 → off % 4 = 0 →
    isCounter blk inst off = true → pageExists blk inst = true → s.pageOn blk inst = true → s.pathOpen path = true →
    ∃ t, exec (.counterLowRead path (regAddr blk inst off) sz) s = .next t ∧
      t.reply = s.sizedReply sz (s.showPage blk inst off) (s.showPage blk inst (off + 4)) ∧
      t.latches.get (fun _ => 0) (pathNum path * 2 ^ 27 + regAddr blk inst off) = s.showPage blk inst (off + 4) ∧
      (∀ k, k ≠ pathNum path * 2 ^ 27 + regAddr blk inst off → t.latches.get (fun _ => 0) k = s.latches.get (fun _ => 0) k) ∧
      t.regs = s.regs ∧ t.lmem = s.lmem) ∧
  (∀ (s : State) (path : Path) (blk inst off : Nat) (sz : Size), blk < 128 → inst < 0xE0 → off < 4092 → off % 4 = 0 →
    isCounter blk inst off = true → pageExists blk inst = true → s.pageOn blk inst = true → s.pathOpen path = true →
    sz ≠ .double → ∃ t, exec (.counterHighRead path (regAddr blk inst (off + 4)) sz) s = .next t ∧
      t.reply = s.sizedReply sz (s.latches.get (fun _ => 0) (pathNum path * 2 ^ 27 + regAddr blk inst off)) 0 ∧
      t.latches = s.latches ∧ t.regs = s.regs ∧ t.lmem = s.lmem) ∧
  (∀ k : Nat, State.reset.latches.get (fun _ => 0) k = 0)

/-- A host write of a temperature page's thresholds sets each register that it covers whole unless the page is locked,
the lower first. A partial write is discarded as cause 1, one in LOCKDOWN as 8, one of an absent instance as 2; a
poisoned one is discarded, reported through AER with F_309. A Prism write of EVT_EN reaches every member and no other
page; a Prism read of a temperature page returns the register of the lowest member, and 0 without one. EVT_FORCE sets
events of the page. A BAR 4 write to a node that cannot be reached is cause 7, one in LOCKDOWN 8, and one that can be
sent leaves as a WR. The oldest remote read that times out completes with 0, is counted, and raises F_327. (spec/00
R6, spec/00 R9, spec/00 R10, spec/00 R14, spec/00 R15, spec/01 R24, spec/13 R360, spec/13 R361, spec/13 R364, spec/13
R374) -/
def Obligations.HostAccesses : Prop :=
  (∀ (s : State) (n : Nat) (be : BitVec 4) (ep : Bool) (v : Word) (hi : Option (BitVec 4 × Word)), n < 24 →
    s.openPage B.TMP n → s.hostPath = true → s.fld F.PRS_STAT_OUT 0 ≠ 255 →
    ∃ t, exec (.hostRegWrite (F.TMP_TH_A.addr n) be ep v hi) s = .next t ∧
      t.reg (F.TMP_TH_A.addr n) = (if ep = true ∨ be ≠ 15 ∨ s.flag (H.PAGE_LOCK_LOCK B.TMP) n = true then
        s.reg (F.TMP_TH_A.addr n) else v) ∧
      t.reg (F.TMP_TH_B.addr n) = (if ep = true ∨ (hi.map (·.1)).getD 0 ≠ 15 ∨ s.flag (H.PAGE_LOCK_LOCK B.TMP) n = true then
        s.reg (F.TMP_TH_B.addr n) else (hi.map (·.2)).getD 0) ∧
      (ep = false → be ≠ 15 → 310 ∈ t.flt.pair) ∧ (ep = true → 309 ∈ t.flt.pair) ∧
      s.regsBut t [F.TMP_TH_A.addr n, F.TMP_TH_B.addr n, F.HST_ACC_CNT.addr 0, F.HST_ACC_INFO.addr 0,
        F.HST_ACC_ADDR_LO.addr 0, F.HST_ACC_ADDR_HI.addr 0, evtAddr B.HST 0] ∧ t.lmem = s.lmem) ∧
  (∀ (s : State) (a : Nat) (be : BitVec 4) (v : Word), s.hostPath = true → s.fld F.PRS_STAT_OUT 0 ≠ 255 → a < 2 ^ 27 →
    (be ≠ 15 ∨ s.sys.mode = .lockdown ∨ (blkOf a ≠ 0x7F ∧ pageExists (blkOf a) (instOf a) = false ∧ instOf a < 0xE0)) →
    ∃ t, exec (.hostRegWrite a be false v none) s = .next t ∧
      t.fld F.HST_ACC_INFO_CAUSE 0 = (if be ≠ 15 then 1 else if s.sys.mode = .lockdown then 8 else 2) ∧
      t.raised B.HST 0 3 = true ∧ 310 ∈ t.flt.pair ∧
      s.regsBut t [F.HST_ACC_CNT.addr 0, F.HST_ACC_INFO.addr 0, F.HST_ACC_ADDR_LO.addr 0, F.HST_ACC_ADDR_HI.addr 0,
        evtAddr B.HST 0] ∧ s.onlyRegsAndFaults t) ∧
  (∀ (s : State) (a : Nat) (be : BitVec 4) (v : Word) (hi : Option (BitVec 4 × Word)), s.hostPath = true →
    s.fld F.PRS_STAT_OUT 0 ≠ 255 → ∃ t, exec (.hostRegWrite a be true v hi) s = .next t ∧ 309 ∈ t.flt.pair ∧ t.emitted = s.emitted ++ [.aer 0] ∧
      t.regs = s.regs ∧ t.lmem = s.lmem) ∧
  (∀ (s : State) (blk inst : Nat) (v : Word), blk < 128 → isPrism inst = true → inst < 256 → blockExists blk = true →
    s.hostPath = true → s.fld F.PRS_STAT_OUT 0 ≠ 255 → s.sys.mode ≠ .lockdown → s.ringSelected inst = false →
    (s.members blk inst).all (fun i => s.pageOn blk i) = true →
    ∃ t, exec (.prismWrite blk inst 0x014 v) s = .next t ∧
      (∀ i, i ∈ s.members blk inst → t.reg (regAddr blk i 0x014) = evtBits blk i v) ∧
      s.regsBut t ((s.members blk inst).map fun i => regAddr blk i 0x014) ∧ s.onlyRegs t) ∧
  (∀ (s : State) (path : Path) (inst off i : Nat) (rest : List Nat) (sz : Size), isPrism inst = true → inst < 256 → s.pathOpen path = true →
    s.members B.TMP inst = i :: rest → s.pageOn B.TMP i = true → off < 4096 → off % 4 = 0 →
    (sz = .double → off % 8 = 0) → ∃ t, exec (.prismRead path B.TMP inst off sz) s = .next t ∧
      t.reply = s.sizedReply sz (s.showPage B.TMP i off) (s.showPage B.TMP i (off + 4)) ∧ t.regs = s.regs ∧
      t.lmem = s.lmem) ∧
  (∀ (s : State) (path : Path) (blk inst off : Nat) (sz : Size), blk < 127 → isPrism inst = true → inst < 256 → off < 4096 →
    s.pathOpen path = true → s.members blk inst = [] → (sz = .double → off % 8 = 0) →
    ∃ t, exec (.prismRead path blk inst off sz) s = .next t ∧ t.reply = s.sizedReply sz 0 0 ∧ t.regs = s.regs ∧ t.lmem = s.lmem) ∧
  (∀ (s : State) (blk inst : Nat) (v : Word), s.openPage blk inst → s.hostPath = true → s.fld F.PRS_STAT_OUT 0 ≠ 255 →
    ∃ t, exec (.evtForceWrite blk inst v) s = .next t ∧
      t.reg (evtAddr blk inst) = s.reg (evtAddr blk inst) ||| evtBits blk inst v ∧ s.regsBut t [evtAddr blk inst] ∧
      s.onlyRegs t) ∧
  (∀ (s : State) (off : Nat) (be : BitVec 4) (v : Word) (hi : Option (BitVec 4 × Word)), off < 2 ^ 33 →
    (hi ≠ none → off % 8 = 0) → s.hostPath = true → s.fld F.PRS_STAT_OUT 0 ≠ 255 →
    bar4Node off ≠ s.nodeId → (be ≠ 15 ∨ s.sys.mode = .lockdown ∨ s.nodeReach (bar4Node off) = false) →
    ∃ t, exec (.bar4Write off be false v hi) s = .next t ∧
      (hi = none → t.fld F.HST_ACC_INFO_CAUSE 0 = (if be ≠ 15 then 1 else if s.sys.mode = .lockdown then 8 else 7)) ∧ t.fld F.HST_ACC_INFO_VIA 0 = 2 ∧
      t.fld F.HST_ACC_INFO_NODE 0 = bar4Node off ∧ t.raised B.HST 0 3 = true ∧ s.regsOutside t [B.HST] ∧ t.lmem = s.lmem ∧
      (hi = none → s.onlyRegsAndFaults t)) ∧
  (∀ (s : State) (off : Nat) (be : BitVec 4) (v : Word) (hi : Option (BitVec 4 × Word)), off < 2 ^ 33 → s.hostPath = true →
    s.fld F.PRS_STAT_OUT 0 ≠ 255 → ∃ t, exec (.bar4Write off be true v hi) s = .next t ∧ 309 ∈ t.flt.pair ∧
      t.emitted = s.emitted ++ [.aer 0] ∧ t.regs = s.regs ∧ t.lmem = s.lmem) ∧
  (∀ (s : State) (off : Nat) (v : Word), off < 2 ^ 33 → s.hostPath = true → s.fld F.PRS_STAT_OUT 0 ≠ 255 →
    s.sys.mode ≠ .lockdown → bar4Node off ≠ s.nodeId → s.nodeReach (bar4Node off) = true → s.clearTo (bar4Node off) →
    ∃ t, exec (.bar4Write off 15 false v none) s = .next t ∧
      s.sends t 0x01 (bar4Node off) 0 (leBytes 4 (off % 2 ^ 27 / 4 * 4) ++ leBytes 4 v.toNat) = true ∧ t.regs = s.regs ∧
      t.lmem = s.lmem) ∧
  (∀ (s : State) (r : RemoteRead) (rest : List RemoteRead), s.cas.reads = r :: rest → r.at_ + 50000 ≤ s.now →
    ∃ t, exec .remoteReadTimeout s = .next t ∧ t.cas.reads = rest.filter (· ≠ r) ∧ t.reply.word = 0 ∧ 327 ∈ t.flt.pair ∧
      t.raised B.CAS 0 6 = true ∧ t.fld F.CAS_RD_TO_CNT 0 = min (s.fld F.CAS_RD_TO_CNT 0 + 1) 0xFFFFFFFF ∧
      s.regsOutside t [B.HST, B.CAS] ∧ t.lmem = s.lmem)

/-- LINK_UP with the link down shows its width and speed, raises HST.UP, and F_311 below eight lanes of 5. LINK_DOWN,
HOT_RESET, FLR and PERST (with HST_CFG.PERST = 0) return HST's registers from 0x044 on, but for its two counters, and
the MSI-X structures to reset, stop every DMA channel, raise F_306 and the event; LINK_DOWN raises F_305 outside D3;
FLR keeps the link up. D3hot and the return to D0 set and clear D3, Bus Master Enable and MSI-X Enable are shown as
set, and the Function Mask is kept. A completion timeout raises F_308 and stops the channel whose read of the host it
was with SRCERR at the element's address; an internal error F_307, each with its AER report; a correctable error is
counted. (spec/12 R349, spec/13 R355, spec/13 R359, spec/13 R360, spec/13 R362, spec/13 R381) -/
def Obligations.LinkEvents : Prop :=
  (∀ (s : State) (w v : Nat), s.domOn .hst = true → s.flag F.HST_LINK_UP 0 = false → (w = 1 ∨ w = 2 ∨ w = 4 ∨ w = 8) → 1 ≤ v →
    v ≤ 5 → ∃ t, exec (.linkUp w v) s = .next t ∧
      s.regsOutside t [B.APR, B.HST, B.INT] ∧
      t.flag F.HST_LINK_UP 0 = true ∧ t.fld F.HST_LINK_WIDTH 0 = w ∧
      t.fld F.HST_LINK_SPEED 0 = v ∧ t.raised B.HST 0 0 = true ∧ t.sys = s.sys) ∧
  (∀ (s : State) (off : Nat), s.linkOn = true → 0x044 ≤ off → off < 4096 → off ≠ 0x050 → off ≠ 0x060 →
    ∃ t, exec .linkDown s = .next t ∧
      s.regsOutside t [0x7F, B.DMA, B.HST, B.INT] ∧ t.lmem = s.lmem ∧
      t.linkOn = false ∧ t.reg (regAddr B.HST 0 off) = regReset (regAddr B.HST 0 off) ∧
      (∀ c, c < 16 → t.dmState c = dmIdle) ∧ 306 ∈ t.flt.pair ∧ (s.flag F.HST_LINK_D3 0 = false → 305 ∈ t.flt.pair) ∧
      t.raised B.HST 0 1 = true ∧ t.sys = s.sys) ∧
  (∀ (s : State) (off : Nat), s.linkOn = true → 0x044 ≤ off → off < 4096 → off ≠ 0x050 → off ≠ 0x060 →
    ∃ t, exec .hotReset s = .next t ∧
      s.regsOutside t [0x7F, B.DMA, B.HST, B.INT] ∧ t.lmem = s.lmem ∧
      t.linkOn = false ∧ t.reg (regAddr B.HST 0 off) = regReset (regAddr B.HST 0 off) ∧
      (∀ c, c < 16 → t.dmState c = dmIdle) ∧ 306 ∈ t.flt.pair ∧ t.raised B.HST 0 2 = true ∧ t.sys = s.sys) ∧
  (∀ (s : State) (off : Nat), s.linkOn = true → 0x044 ≤ off → off < 4096 → off ≠ 0x050 → off ≠ 0x060 →
    ∃ t, exec .flr s = .next t ∧
      s.regsOutside t [0x7F, B.DMA, B.HST, B.INT] ∧ t.lmem = s.lmem ∧
      t.linkOn = true ∧ t.fld F.HST_LINK_WIDTH 0 = s.fld F.HST_LINK_WIDTH 0 ∧
      t.flag F.HST_LINK_BME 0 = false ∧ t.reg (regAddr B.HST 0 off) = regReset (regAddr B.HST 0 off) ∧
      (∀ c, c < 16 → t.dmState c = dmIdle) ∧ 306 ∈ t.flt.pair ∧ t.raised B.HST 0 2 = true ∧ t.sys = s.sys) ∧
  (∀ (s : State) (off : Nat), s.domOn .hst = true → s.flag F.HST_CFG_PERST 0 = false → 0x044 ≤ off → off < 4096 → off ≠ 0x050 →
    off ≠ 0x060 → ∃ t, exec .perst s = .next t ∧ t.linkOn = false ∧
      t.reg (regAddr B.HST 0 off) = regReset (regAddr B.HST 0 off) ∧ (∀ c, c < 16 → t.dmState c = dmIdle) ∧
      306 ∈ t.flt.pair ∧ t.raised B.HST 0 2 = true ∧ t.sys = s.sys) ∧
  (∀ (s : State), s.domOn .hst = true → s.flag F.HST_CFG_PERST 0 = true → s.inBoot = false → s.domMode ≠ .lockdown →
    s.sys.mode ≠ .lockdown → s.sys.mode ≠ .off → s.sys.mode ≠ .hibernate →
    ∃ t, exec .perst s = .next t ∧ t.sys.crst = some (s.sys.crst.getD s.now) ∧ 306 ∈ t.flt.pair) ∧
  (∀ (s : State), s.linkOn = true → ∃ t, exec .d3hotEntry s = .next t ∧ t.flag F.HST_LINK_D3 0 = true ∧ t.hostPath = false ∧
      s.regsBut t [F.HST_LINK.addr 0] ∧ s.onlyRegs t) ∧
  (∀ (s : State), s.linkOn = true → ∃ t, exec .d0Return s = .next t ∧
      s.regsOutside t [B.APR, B.HST] ∧
      t.flag F.HST_LINK_D3 0 = false ∧ t.hostPath = true ∧
      t.sys = s.sys) ∧
  (∀ (s : State), s.linkOn = true → ∃ t, exec .bmeSet s = .next t ∧
      s.regsOutside t [B.APR, B.HST, B.INT] ∧
      t.flag F.HST_LINK_BME 0 = true ∧ t.sys = s.sys) ∧
  (∀ (s : State), s.linkOn = true → ∃ t, exec .bmeClear s = .next t ∧ t.flag F.HST_LINK_BME 0 = false ∧
      s.regsOutside t [B.HST, B.INT] ∧ t.lmem = s.lmem) ∧
  (∀ (s : State) (on mask : Bool), s.linkOn = true → ∃ t, exec (.msixEnableChange on mask) s = .next t ∧
      t.flag F.HST_LINK_MSIX_EN 0 = on ∧ t.ints.fnMask = mask ∧
      (∀ n, n < 1024 → on = true → mask = false → bit (t.reg (vecPend n)).toNat (n % 32) = true → bit (t.reg (vecCtl n)).toNat 0 = true) ∧
      s.regsOutside t [B.HST, B.INT, 0x7F] ∧ t.lmem = s.lmem) ∧
  (∀ (s : State) (c : Option Nat), s.linkOn = true → (∀ k, c = some k → (s.dma k).reading = 0 ∨ s.sspace k ≠ 1) →
    ∃ t, exec (.pcieCplTimeout c) s = .next t ∧ 308 ∈ t.flt.pair ∧
      t.emitted = s.emitted ++ [.aer 1] ∧ t.regs = s.regs ∧ t.lmem = s.lmem) ∧
  (∀ (s : State) (k : Nat), s.linkOn = true → k < 16 → s.sspace k = 1 → (s.dma k).reading ≠ 0 →
    s.dmState k ≠ dmStopping → s.toPort k = false → ∃ t, exec (.pcieCplTimeout (some k)) s = .next t ∧ 308 ∈ t.flt.pair ∧
      t.dmState k = dmIdle ∧ t.flag F.DMA_STAT_ERR k = true ∧ t.fld F.DMA_STAT_ECODE k = eSrcerr ∧
      t.pair64 F.DMA_ERR_ADDR_LO k = s.srcAddr k (s.dma k).next % 2 ^ 64 ∧
      s.regsOutside t [B.DMA] ∧ t.lmem = s.lmem) ∧
  (∀ (s : State), s.domOn .hst = true → ∃ t, exec .pcieInternalError s = .next t ∧ 307 ∈ t.flt.pair ∧
      t.emitted = s.emitted ++ [.aer 2] ∧ t.regs = s.regs ∧ t.lmem = s.lmem) ∧
  (∀ (s : State), s.domOn .hst = true → ∃ t, exec .pcieCorrectableError s = .next t ∧
      t.fld F.HST_AER_CNT 0 = min (s.fld F.HST_AER_CNT 0 + 1) 0xFFFFFFFF ∧ s.regsBut t [F.HST_AER_CNT.addr 0] ∧ s.onlyRegs t)

/-- A WR delivered to this node sets the threshold of an unlocked temperature page, and is acknowledged with LACK; in
LOCKDOWN it is discarded as cause 8, and where CAS_CFG.REMOTE_WR = 0 or the block is SEC, DBG or KPS as cause 9, with
VIA 3 and the source as NODE. A RD is answered RDR with the register's value under its TAG. An RDR completes the read
that waits under its tag, with the bytes of its value that the read asked for, or with 0 and cause 7 where its bit 31
marks an access not made. A PWR of another node is applied once and counted in PRS_RX_CNT; a further copy changes no
register. The last copy of an own PWR that returns takes the write off PRS_STAT.OUT, and PRS.DONE follows at 0.
(spec/13 R361, spec/13 R366, spec/13 R367, spec/13 R368, spec/13 R370, spec/13 R371, spec/13 R374, spec/13 R383) -/
def Obligations.CascadeAccesses : Prop :=
  (∀ (s : State) (x : RxPacket) (n : Nat), s.heard x → n < 24 → pktOff x = F.TMP_TH_A.addr n → s.openPage B.TMP n →
    s.flag F.CAS_CFG_REMOTE_WR 0 = true → ∃ t, exec (.casRxWr x) s = .next t ∧
      t.reg (F.TMP_TH_A.addr n) =
        (if s.flag (H.PAGE_LOCK_LOCK B.TMP) n = true then s.reg (F.TMP_TH_A.addr n) else pktVal x) ∧
      s.sends t 0x14 0xFE x.hseq [] = true ∧ (t.cas.port x.portB).hseqRx = ((s.cas.port x.portB).hseqRx + 1) % 256 ∧
      s.regsBut t [F.TMP_TH_A.addr n] ∧ t.lmem = s.lmem) ∧
  (∀ (s : State) (x : RxPacket), s.heard x →
    (s.sys.mode = .lockdown ∨ s.flag F.CAS_CFG_REMOTE_WR 0 = false ∨ blkOf (pktOff x) = B.SEC ∨ blkOf (pktOff x) = B.DBG ∨
      blkOf (pktOff x) = B.KPS) →
    ∃ t, exec (.casRxWr x) s = .next t ∧
      t.fld F.HST_ACC_INFO_CAUSE 0 = (if s.sys.mode = .lockdown then 8 else 9) ∧ t.fld F.HST_ACC_INFO_VIA 0 = 3 ∧
      t.fld F.HST_ACC_INFO_NODE 0 = x.src % 64 ∧ t.raised B.HST 0 3 = true ∧ 310 ∈ t.flt.pair ∧
      s.regsBut t [F.HST_ACC_CNT.addr 0, F.HST_ACC_INFO.addr 0, F.HST_ACC_ADDR_LO.addr 0, F.HST_ACC_ADDR_HI.addr 0,
        evtAddr B.HST 0] ∧ t.lmem = s.lmem) ∧
  (∀ (s : State) (x : RxPacket) (n : Nat), s.heard x → x.dst = s.nodeId → n < 24 → pktOff x = F.TMP_TH_A.addr n →
    s.pageOn B.TMP n = true → s.clearTo x.src →
    ∃ t, exec (.casRxRd x) s = .next t ∧
      s.sends t 0x03 x.src x.tag (leBytes 4 (pktOff x) ++ leBytes 4 (s.reg (F.TMP_TH_A.addr n)).toNat) = true ∧
      t.regs = s.regs ∧ t.lmem = s.lmem) ∧
  (∀ (s : State) (x : RxPacket) (r : RemoteRead) (rest : List RemoteRead), s.heard x → s.cas.reads = r :: rest →
    r.tag = x.tag → r.node = x.src → ∃ t, exec (.casRxRdr x) s = .next t ∧ t.cas.reads = rest.filter (· ≠ r) ∧
      (if bit (fieldAt x.data 0 4) 31 = true then
        t.reply.word = 0 ∧ t.fld F.HST_ACC_INFO_CAUSE 0 = 7 ∧ t.fld F.HST_ACC_INFO_NODE 0 = r.node % 64 ∧
          t.raised B.HST 0 3 = true ∧ s.regsOutside t [B.HST]
       else t.reply = s.sizedReply (.part r.be) (pktVal x) 0 ∧ t.regs = s.regs) ∧ t.lmem = s.lmem) ∧
  (∀ (s : State) (x : RxPacket) (n : Nat), s.heard x → n < 24 → pktOff x = F.TMP_TH_A.addr n → s.openPage B.TMP n →
    s.flag F.CAS_CFG_REMOTE_WR 0 = true → s.flag (H.PAGE_LOCK_LOCK B.TMP) n = false →
    ∃ t, exec (.casRxPwr x) s = .next t ∧
      (if (0x04, x.src, fieldAt x.data 8 4) ∈ s.cas.seen then t.regs = s.regs
       else t.reg (F.TMP_TH_A.addr n) = pktVal x ∧
        t.fld F.PRS_RX_CNT 0 = min (s.fld F.PRS_RX_CNT 0 + 1) 0xFFFFFFFF ∧
        (0x04, x.src, fieldAt x.data 8 4) ∈ t.cas.seen ∧ s.regsBut t [F.TMP_TH_A.addr n, F.PRS_RX_CNT.addr 0]) ∧
      t.lmem = s.lmem) ∧
  (∀ (s : State) (x : RxPacket) (k : Nat), s.canHear x.portB = true → x.hseq = (s.cas.port x.portB).hseqRx →
    x.reflected = false → x.src = s.nodeId → s.casState < casBypass → s.cas.ringOut = [(fieldAt x.data 8 4, k)] →
    1 ≤ s.fld F.PRS_STAT_OUT 0 → ∃ t, exec (.casRxPwr x) s = .next t ∧
      (if 2 ≤ k then t.cas.ringOut = [(fieldAt x.data 8 4, k - 1)] ∧ t.regs = s.regs
       else t.cas.ringOut = [] ∧ t.fld F.PRS_STAT_OUT 0 = s.fld F.PRS_STAT_OUT 0 - 1 ∧
        t.raised B.PRS 0 0 = (s.raised B.PRS 0 0 || decide (s.fld F.PRS_STAT_OUT 0 = 1)) ∧
        s.regsBut t [F.PRS_STAT.addr 0, evtAddr B.PRS 0]) ∧ t.lmem = s.lmem)

/-- A MSG seen for the first time is written at the tail of ring 30 + TAG where the ring takes it; where the ring is
disabled a directed one is answered NACK (the model's choice: the spec names a full ring and queue). A NACK received
is counted and raises CAS.NACK and F_328. A tagged FLT enters the storm window of its tag. An EVT is written to ring
31 as an EVENT of its source. A TRIG seen for the first time triggers an armed buffer of TSRC 8. An LACK takes the
packets up to the one named off the port's list; an LNAK those before it, and the others are sent again and counted,
with F_329 as they pass 1,000 in one second. IDLE changes nothing; a packet that fails its check is answered LNAK with
the HSEQ awaited, and so is one ahead of it. (spec/02 R39, spec/08 R240, spec/12 R338, spec/13 R370, spec/13 R371,
spec/13 R375, spec/13 R376, spec/13 R379, spec/13 R382) -/
def Obligations.CascadeMessages : Prop :=
  (∀ (s : State) (x : RxPacket), s.heard x → x.tag ≤ 1 →
    (0x06 + 256 * x.tag, x.src, fieldAt x.data 4 4) ∉ s.cas.seen → s.ringEn (30 + x.tag) = true →
    s.ringWaiting (30 + x.tag) = 0 → 0 < s.ringRoom (30 + x.tag) → s.lmemReady = true →
    s.flag F.RING_CTRL_SHADOW_EN (ringInst (30 + x.tag)) = false →
    ∃ t, exec (.casRxMsg x) s = .next t ∧
      t.lmem = s.lmem.setList lmemDefault (s.ringAddr (30 + x.tag) (s.ringTail (30 + x.tag))) (takeAt x.data 0 32) ∧
      t.ringTail (30 + x.tag) = (s.ringTail (30 + x.tag) + 1) % s.ringSize (30 + x.tag) ∧
      s.regsBut t [F.RING_TAIL.addr (ringInst (30 + x.tag))]) ∧
  (∀ (s : State) (x : RxPacket), s.heard x → x.dst = s.nodeId → x.tag ≤ 1 →
    (0x06 + 256 * x.tag, x.src, fieldAt x.data 4 4) ∉ s.cas.seen → s.ringEn (30 + x.tag) = false → s.clearTo x.src →
    ∃ t, exec (.casRxMsg x) s = .next t ∧
      s.regsOutside t [B.APR, B.CAS] ∧
      s.sends t 0x07 x.src 0 (takeAt x.data 0 8) = true ∧
      t.ringTail (30 + x.tag) = s.ringTail (30 + x.tag) ∧ t.lmem = s.lmem) ∧
  (∀ (s : State) (x : RxPacket), s.heard x → ∃ t, exec (.casRxNack x) s = .next t ∧
      t.fld F.CAS_NACK_CNT 0 = min (s.fld F.CAS_NACK_CNT 0 + 1) 0xFFFFFFFF ∧ t.raised B.CAS 0 5 = true ∧
      328 ∈ t.flt.pair ∧ s.regsOutside t [B.CAS] ∧ t.lmem = s.lmem) ∧
  (∀ (s : State) (x : RxPacket), s.heard x → s.domOn .ctl = true → (FltRec.ofBytes x.data).tag ≠ 0 →
    bit (FltRec.ofBytes x.data).react 4 = false →
    (s.flt.storms.any fun w => w.tag == (FltRec.ofBytes x.data).tag) = false →
    ∃ t, exec (.casRxFlt x) s = .next t ∧ t.flt.storms = s.flt.storms ++
        [Storm.mk (FltRec.ofBytes x.data).tag (FltRec.ofBytes x.data).tFirst [FltRec.ofBytes x.data]] ∧
      t.regs = s.regs ∧ t.lmem = s.lmem) ∧
  (∀ (s : State) (x : RxPacket), s.heard x → s.ringEn 31 = true → s.ringWaiting 31 = 0 → 0 < s.ringRoom 31 →
    s.lmemReady = true → s.flag F.RING_CTRL_SHADOW_EN (ringInst 31) = false →
    ∃ t, exec (.casRxEvt x) s = .next t ∧
      t.lmem = s.lmem.setList lmemDefault (s.ringAddr 31 (s.ringTail 31))
        (leBytes 1 2 ++ leBytes 1 x.src ++ leBytes 6 0 ++ takeAt x.data 0 24) ∧
      t.ringTail 31 = (s.ringTail 31 + 1) % s.ringSize 31 ∧ s.regsBut t [F.RING_TAIL.addr (ringInst 31)]) ∧
  (∀ (s : State) (x : RxPacket) (b : Nat), s.heard x → (0x0A, x.src, fieldAt x.data 8 4) ∉ s.cas.seen → b < 4 →
    s.domOn .ctl = true → s.tsrc b = 8 → s.luState b = luArmed → ∃ t, exec (.casRxTrig x) s = .next t ∧
      s.regsOutside t [B.CAS, B.LUP] ∧
      t.luState b = luTriggered ∧ t.raised B.LUP b 0 = true ∧ t.lmem = s.lmem) ∧
  (∀ (s : State) (b : Bool) (h : Nat), s.canHear b = true → (s.cas.port b).queue = [] →
    ∃ t, exec (.casRxLack b h) s = .next t ∧
      (t.cas.port b).unacked = (s.cas.port b).unacked.filter (fun x => !ackedBy (h % 256) x.hseq) ∧
      t.cas.port (!b) = s.cas.port (!b) ∧ t.regs = s.regs ∧ t.lmem = s.lmem ∧ t.emitted = s.emitted) ∧
  (∀ (s : State) (b : Bool) (h : Nat) (again : List Packet), s.canHear b = true → (s.cas.port b).queue = [] →
    (s.cas.port b).unacked.filter (fun x => !ackedBy ((h + 255) % 256) x.hseq) = again →
    ∃ t, exec (.casRxLnak b h) s = .next t ∧ (t.cas.port b).unacked = again ∧
      t.emitted = s.emitted ++ again.map (Emit.packet b) ∧
      t.fld (if b then F.CAS_LINK_CNT_B else F.CAS_LINK_CNT_A) 0 =
        min (s.fld (if b then F.CAS_LINK_CNT_B else F.CAS_LINK_CNT_A) 0 + again.length) 0xFFFF ∧
      (s.resentLast b ≤ 1000 → 1000 < s.resentLast b + again.length → 329 ∈ t.flt.pair) ∧
      s.regsBut t [F.CAS_LINK_CNT.addr 0] ∧ t.lmem = s.lmem) ∧
  (∀ (s : State) (b : Bool), ∃ t, exec (.casRxIdle b) s = .next t ∧ s.unchanged t) ∧
  (∀ (s : State) (b : Bool), s.canHear b = true → ∃ t, exec (.casRxBadPacket b) s = .next t ∧
      s.sends t 0x15 0xFE (s.cas.port b).hseqRx [] = true ∧ t.cas = s.cas ∧ t.regs = s.regs ∧ t.lmem = s.lmem) ∧
  (∀ (s : State) (x : RxPacket), s.canHear x.portB = true → x.hseq = ((s.cas.port x.portB).hseqRx + 1) % 256 →
    (s.cas.port x.portB).hseqRx < 256 → ∃ t, exec (.casRxWr x) s = .next t ∧
      s.sends t 0x15 0xFE (s.cas.port x.portB).hseqRx [] = true ∧ t.cas = s.cas ∧ t.regs = s.regs ∧ t.lmem = s.lmem)

/-- A LEASE from a lower node sets HEAD_ID and HEAD_OK; a head that hears one from a higher node keeps its role, from
a lower one yields it and raises F_326. The head's timer, 50 µs after the last, sends LEASE; an expired lease clears
HEAD_OK with CAS.HEAD_LOST and F_323. A DISC enters its node in CAS_MAP; one with this node's ID and a lower nonce
puts it in DUP with F_325. A DISC timer, 1 ms after the last, ends DISC in UP, drops a node that misses its fourth
interval, and sends DISC. TSREQ is answered with t2 and t3. TSRSP sets CAS_TB to θ, corrected by half of the port's
CAS_ASYM (to the nearest, the model's choice), steps the time of a joining node with no frame in flight, otherwise
slews; above 50 ns TB_LOCK clears with F_324. The first port up starts discovery; a port down folds the ring, and its
last packets leave by the other port, reflected. BYPASS and REJOIN set their states. (spec/13 R368, spec/13 R369,
spec/13 R370, spec/13 R371, spec/13 R373, spec/13 R377, spec/13 R379, spec/13 R380, spec/13 R382) -/
def Obligations.CascadeRoles : Prop :=
  (∀ (s : State) (x : RxPacket) (k : Nat), s.heard x → k < 64 → fieldAt x.data 4 1 = k → k ≠ s.nodeId →
    ∃ t, exec (.casRxLease x) s = .next t ∧
      (if s.flag F.CAS_STAT_IS_HEAD 0 = true ∧ s.nodeId < k then
        t.flag F.CAS_STAT_IS_HEAD 0 = true ∧ t.fld F.CAS_STAT_HEAD_ID 0 = s.fld F.CAS_STAT_HEAD_ID 0 ∧ t.regs = s.regs
       else t.fld F.CAS_STAT_HEAD_ID 0 = k ∧ t.flag F.CAS_STAT_HEAD_OK 0 = true ∧ t.cas.leaseAt = s.now ∧
        t.flag F.CAS_STAT_IS_HEAD 0 = false ∧ (s.flag F.CAS_STAT_IS_HEAD 0 = true → 326 ∈ t.flt.pair) ∧
        s.regsBut t [F.CAS_STAT.addr 0, F.CAS_TB.addr 0]) ∧ t.lmem = s.lmem) ∧
  (∀ (s : State) (b : Bool), s.casActive = true → s.flag F.CAS_STAT_IS_HEAD 0 = true → s.cas.leaseSent + 50000 ≤ s.now → s.portUp b = true →
    (s.cas.port b).queue = [] → (s.cas.port b).unacked.length < 32 → ∃ t, exec .casLeaseTimer s = .next t ∧
      s.sends t 0x10 0xFF 0 (leBytes 4 ((s.cas.lseq + 1) % 2 ^ 32) ++ leBytes 1 s.nodeId ++ leBytes 3 0) = true ∧
      t.cas.lseq = (s.cas.lseq + 1) % 2 ^ 32 ∧ t.cas.leaseSent = s.now ∧ t.regs = s.regs ∧ t.lmem = s.lmem) ∧
  (∀ (s : State), s.casActive = true → s.flag F.CAS_STAT_HEAD_OK 0 = true → s.flag F.CAS_STAT_IS_HEAD 0 = false →
    s.cas.leaseAt + 200000 ≤ s.now → ∃ t, exec .headLeaseExpire s = .next t ∧ t.flag F.CAS_STAT_HEAD_OK 0 = false ∧ t.raised B.CAS 0 2 = true ∧
      323 ∈ t.flt.pair ∧ t.actsHead = true ∧ s.regsBut t [F.CAS_STAT.addr 0, evtAddr B.CAS 0] ∧ t.lmem = s.lmem) ∧
  (∀ (s : State) (x : RxPacket), s.heard x → x.src < 64 → ∃ t, exec (.casRxDisc x) s = .next t ∧
      t.casPresent x.src = true ∧ (∀ k, k < 64 → k ≠ x.src → t.casPresent k = s.casPresent k) ∧
      t.cas.missing.get (fun _ => 0) x.src = 0 ∧ s.regsOutside t [B.CAS] ∧ t.lmem = s.lmem) ∧
  (∀ (s : State) (x : RxPacket), s.canHear x.portB = true → x.hseq = (s.cas.port x.portB).hseqRx → x.reflected = false →
    x.src = s.nodeId → s.casState < casBypass → fieldAt x.data 4 4 < s.cas.nonce →
    ∃ t, exec (.casRxDisc x) s = .next t ∧ t.casState = casDup ∧ 325 ∈ t.flt.pair ∧ s.regsBut t [F.CAS_STAT.addr 0] ∧
      t.lmem = s.lmem) ∧
  (∀ (s : State) (b : Bool), s.casActive = true → s.casState = casDisc → s.cas.discAt + 1000000 ≤ s.now → s.portUp b = true →
    (s.cas.port b).queue = [] → (s.cas.port b).unacked.length < 32 → ∃ t, exec .casDiscTimer s = .next t ∧
      t.casState = casUp ∧ t.raised B.CAS 0 0 = true ∧
      s.sends t 0x13 0xFF 0 (leBytes 1 s.nodeId ++ leBytes 1 (s.fld F.CAS_CFG_HEAD 0) ++ leBytes 1 casUp ++ leBytes 1 0
        ++ leBytes 4 s.cas.nonce) = true ∧ s.regsOutside t [B.CAS] ∧ t.lmem = s.lmem) ∧
  (∀ (s : State) (k : Nat), s.casActive = true → s.casState = casUp → s.cas.discAt + 1000000 ≤ s.now → k < 64 → k ≠ s.nodeId → s.casPresent k = true →
    ∃ t, exec .casDiscTimer s = .next t ∧
      t.casPresent k = decide (s.cas.missing.get (fun _ => 0) k < 3) ∧ s.regsOutside t [B.CAS] ∧ t.lmem = s.lmem) ∧
  (∀ (s : State) (frac : Nat), s.casActive = true → s.flag F.CAS_STAT_TB_MASTER 0 = false →
    s.cas.tbAt + 10000 ≤ s.now → s.portUp s.cas.parentB = true → ∃ t, exec (.casTbTimer frac) s = .next t ∧ t.cas.tsT1 = s.laneTime frac ∧
      s.sends t 0x11 0xFE 0 [] = true ∧ t.regs = s.regs ∧ t.lmem = s.lmem) ∧
  (∀ (s : State) (b : Bool) (frac gap : Nat), s.canHear b = true → s.casState < casBypass →
    ∃ t, exec (.casRxTsreq b frac gap) s = .next t ∧
      s.sends t 0x12 0xFE 0 (leBytes 8 (s.laneTime frac) ++ leBytes 8 (s.laneTime frac + gap)) = true ∧
      t.cas = s.cas ∧ t.regs = s.regs ∧ t.lmem = s.lmem) ∧
  (∀ (s : State) (b : Bool) (frac : Nat) (d : List Byte) (th : Int), s.canHear b = true → s.casState < casBypass →
    s.flag F.CAS_STAT_TB_MASTER 0 = false → b = s.cas.parentB →
    (1000 * (((fieldAt d 0 8 : Int) - s.cas.tsT1) + ((fieldAt d 8 8 : Int) - s.laneTime frac)) +
      32 * s.sfld (if b then F.CAS_ASYM_B_PS else F.CAS_ASYM_A_PS) 0 + 1000) / 2000 = th → th.natAbs < 2 ^ 31 →
    ∃ t, exec (.casRxTsrsp b frac d) s = .next t ∧ t.sfld F.CAS_TB 0 = th ∧ t.cas.joining = false ∧
      (if s.cas.joining = true ∧ s.flight = [] then
        t.time = BitVec.ofInt 64 ((s.now : Int) + (th + 16) / 32) ∧ t.cas.slew = 0
       else t.time = s.time ∧ t.cas.slew = th * 2048) ∧
      (1600 < th.natAbs → t.flag F.CAS_STAT_TB_LOCK 0 = false ∧
        (s.flag F.CAS_STAT_TB_LOCK 0 = true → 324 ∈ t.flt.pair ∧ t.raised B.CAS 0 4 = true)) ∧
      (th.natAbs ≤ 64 → 15 ≤ s.cas.tbGood → t.flag F.CAS_STAT_TB_LOCK 0 = true) ∧ s.regsOutside t [B.CAS] ∧
      t.lmem = s.lmem) ∧
  (∀ (s : State) (b : Bool), s.casEnabled = true → s.domOn .cas = true → s.portUp b = false →
    s.ringUsed 28 = 0 → s.ringUsed 29 = 0 → ∃ t, exec (.casPortUp b) s = .next t ∧
      s.regsOutside t [B.APR, B.CAS] ∧
      t.portUp b = true ∧
      t.portUp (!b) = s.portUp (!b) ∧
      t.casState = (if s.casState = casTrain then casDisc else s.casState) ∧
      (s.casState = casTrain → s.nodeId < 64 → t.casPresent s.nodeId = true) ∧ t.lmem = s.lmem) ∧
  (∀ (s : State) (b : Bool) (p : Packet), s.casEnabled = true → s.domOn .cas = true → s.portUp b = true →
    s.portUp (!b) = true → (s.cas.port b).unacked = [p] → (s.cas.port b).queue = [] → p.reflected = false →
    p.src ≠ s.nodeId → (s.cas.port (!b)).queue = [] → (s.cas.port (!b)).unacked.length < 32 →
    ∃ t, exec (.casPortDown b) s = .next t ∧ t.portUp b = false ∧ t.flag F.CAS_STAT_FOLD 0 = true ∧
      (if b then 321 else 320) ∈ t.flt.pair ∧ (t.cas.port b).unacked = [] ∧
      (t.cas.port (!b)).unacked = (s.cas.port (!b)).unacked ++
        [{ p with reflected := true, hops := 0, hseq := (s.cas.port (!b)).hseqTx }] ∧
      t.casState = s.casState ∧ s.regsOutside t [B.CAS] ∧ t.lmem = s.lmem) ∧
  (∀ (s : State), s.openPage B.CAS 0 → s.casEnabled = true → ∃ t, exec .casBypass s = .next t ∧
      t.casState = casBypass ∧ s.regsBut t [F.CAS_STAT.addr 0] ∧ s.onlyRegs t) ∧
  (∀ (s : State), s.openPage B.CAS 0 → s.casEnabled = true → (s.casState = casBypass ∨ s.casState = casDup) →
    s.ringUsed 28 = 0 → s.ringUsed 29 = 0 → ∃ t, exec .casRejoin s = .next t ∧
      t.casState = (if s.anyPort = true then casDisc else casTrain) ∧ s.regsOutside t [B.CAS] ∧ t.lmem = s.lmem)

/-- An ADC pair, and likewise a pair of PXSTART, DESKEW and ZC, whose values lie in their ranges and agree within
tolerance puts its means, rounded down (the model's choice), in force, and records at least PASS; no other register
changes while a job of the kind is left. With STORE = 1 the record is appended; a failing store raises CAL.STORE_ERR
and F_371, and the values are in force all the same. A pair of any kind with a value outside its range records LIMIT
with F_369. A pair of any kind that disagrees, or has lost its condition, is repeated while pairs are left, and then
records DISAGREE with F_368; the value in force stays. When the last job of the last kind ends, BUSY and KIND clear
and CAL.DONE is raised. CAL_CTRL.CLEAR empties both banks in CONFIG, and does nothing in another mode. (spec/14 R387,
spec/14 R388, spec/14 R390, spec/14 R391, spec/14 R393, spec/14 R396, spec/14 R397) -/
def Obligations.CalibrationRuns : Prop :=
  (∀ (s : State) (i p : Nat) (other : CalJob) (oa ga ob gb : Int) (ok : Bool), s.domOn .ctl = true →
    s.cal.jobs = [CalJob.mk 0 i p, other] → other.inst ≠ i → -64 ≤ oa → oa ≤ 63 → -64 ≤ ob → ob ≤ 63 → -128 ≤ ga → ga ≤ 127 →
    -128 ≤ gb → gb ≤ 127 → (oa - ob).natAbs ≤ s.adcTol.1 → (ga - gb).natAbs ≤ s.adcTol.2 → s.calStore = false →
    ∃ t, exec (.calRunDone 0 i [oa, ga] [ob, gb] false ok) s = .next t ∧ t.cal.jobs = [other] ∧
      t.cal.trims = s.cal.trims.filter (·.1 ≠ 4 * 256 + i) ++
        [(4 * 256 + i, leBytes 2 (unsign ((oa + ob) / 2) 16) ++ leBytes 2 (unsign ((ga + gb) / 2) 16))] ∧
      bits (t.reg (F.CAL_RESULT.addr 0)).toNat 0 4 = max 1 (bits (s.reg (F.CAL_RESULT.addr 0)).toNat 0 4) ∧
      s.regsBut t [F.CAL_RESULT.addr 0] ∧ t.cal.bankA = s.cal.bankA ∧ t.cal.bankB = s.cal.bankB ∧ t.lmem = s.lmem) ∧
  (∀ (s : State) (i p : Nat) (other : CalJob) (x y : Int) (ok : Bool), s.domOn .ctl = true →
    s.cal.jobs = [CalJob.mk 0 i p, other] → other.inst ≠ i → -64 ≤ x → x ≤ 63 → -128 ≤ y → y ≤ 127 → s.calStore = true →
    s.cal.storeErr = false → s.cal.activeB = false → s.cal.bankA.epoch.isSome = true → s.cal.bankA.used + 0x28 ≤ 0x8000 →
    ∃ t, exec (.calRunDone 0 i [x, y] [x, y] false ok) s = .next t ∧ t.cal.jobs = [other] ∧
      (4 * 256 + i, leBytes 2 (unsign x 16) ++ leBytes 2 (unsign y 16)) ∈ t.cal.trims ∧
      (if ok = true then
        t.cal.bankA.recs.map (fun r => (r.typ, r.inst, r.data, r.time, r.torn)) =
          s.cal.bankA.recs.map (fun r => (r.typ, r.inst, r.data, r.time, r.torn)) ++
            [(4, i, leBytes 2 (unsign x 16) ++ leBytes 2 (unsign y 16), s.now, false)] ∧
          s.regsBut t [F.CAL_RESULT.addr 0, F.CAL_STORE_STAT.addr 0]
       else t.cal.bankA = s.cal.bankA ∧ t.cal.storeErr = true ∧ t.raised B.CAL 0 3 = true ∧ 371 ∈ t.flt.pair ∧
        s.regsBut t [F.CAL_RESULT.addr 0, evtAddr B.CAL 0]) ∧ t.cal.bankB = s.cal.bankB ∧ t.lmem = s.lmem) ∧
  (∀ (s : State) (k i p : Nat) (other : CalJob) (a b : List Int) (ok : Bool), s.domOn .ctl = true → k ≤ 4 →
    s.cal.jobs = [CalJob.mk k i p, other] → other.inst ≠ i → a.length = s.calCount k i → b.length = s.calCount k i →
    (s.calValues k i a b).2.2 = false →
    ∃ t, exec (.calRunDone k i a b false ok) s = .next t ∧ t.cal = { s.cal with jobs := [other] } ∧
      bits (t.reg (F.CAL_RESULT.addr 0)).toNat (4 * k) 4 = max 4 (bits (s.reg (F.CAL_RESULT.addr 0)).toNat (4 * k) 4) ∧
      369 ∈ t.flt.pair ∧ t.raised B.CAL 0 2 = true ∧ s.regsBut t [F.CAL_RESULT.addr 0, evtAddr B.CAL 0] ∧
      t.lmem = s.lmem) ∧
  (∀ (s : State) (k i p : Nat) (other : CalJob) (a b : List Int) (lost ok : Bool), s.domOn .ctl = true → k ≤ 4 →
    s.cal.jobs = [CalJob.mk k i p, other] → other.inst ≠ i → a.length = s.calCount k i → b.length = s.calCount k i →
    (lost = true ∨ (s.calValues k i a b).2.2 = true ∧ s.calAgrees k (s.calValues k i a b) = false) →
    ∃ t, exec (.calRunDone k i a b lost ok) s = .next t ∧
      (if p + 1 < max 1 (s.fld F.CAL_CFG_RETRY 0) then
        t.cal = { s.cal with jobs := [CalJob.mk k i (p + 1), other] } ∧ t.regs = s.regs ∧ t.flt = s.flt
       else t.cal = { s.cal with jobs := [other] } ∧
        bits (t.reg (F.CAL_RESULT.addr 0)).toNat (4 * k) 4 = max 3 (bits (s.reg (F.CAL_RESULT.addr 0)).toNat (4 * k) 4) ∧
        368 ∈ t.flt.pair ∧ t.raised B.CAL 0 1 = true ∧ s.regsBut t [F.CAL_RESULT.addr 0, evtAddr B.CAL 0]) ∧
      t.lmem = s.lmem) ∧
  (∀ (s : State) (k i p : Nat) (other : CalJob) (a b : List Int) (ok : Bool), s.domOn .ctl = true → k ≤ 3 →
    s.cal.jobs = [CalJob.mk k i p, other] → other.inst ≠ i → a.length = s.calCount k i → b.length = s.calCount k i →
    (s.calValues k i a b).2.2 = true → s.calAgrees k (s.calValues k i a b) = true → s.calStore = false →
    ∃ t, exec (.calRunDone k i a b false ok) s = .next t ∧ t.cal.jobs = [other] ∧
      t.cal.trims = s.cal.trims.filter (·.1 ≠ calType k * 256 + i) ++ [(calType k * 256 + i,
        calData k (((s.calValues k i a b).1.zip (s.calValues k i a b).2.1).map fun x => (x.1 + x.2) / 2))] ∧
      bits (t.reg (F.CAL_RESULT.addr 0)).toNat (4 * k) 4 = max 1 (bits (s.reg (F.CAL_RESULT.addr 0)).toNat (4 * k) 4) ∧
      s.regsBut t [F.CAL_RESULT.addr 0] ∧ t.cal.bankA = s.cal.bankA ∧ t.cal.bankB = s.cal.bankB ∧ t.lmem = s.lmem) ∧
  (∀ (s : State) (i : Nat) (oa ga ob gb : Int), (s.calValues 0 i [oa, ga] [ob, gb]).2.2 =
    decide (-64 ≤ oa ∧ oa ≤ 63 ∧ -64 ≤ ob ∧ ob ≤ 63 ∧ -128 ≤ ga ∧ ga ≤ 127 ∧ -128 ≤ gb ∧ gb ≤ 127)) ∧
  (∀ (s : State) (i p : Nat) (x : Int) (ok : Bool), s.domOn .ctl = true → s.cal.jobs = [CalJob.mk 3 i p] → -31 ≤ x → x ≤ 31 →
    s.calStore = false → bit (s.reg (F.CAL_REQ.addr 0)).toNat 4 = false →
    ∃ t, exec (.calRunDone 3 i [x] [x] false ok) s = .next t ∧
      s.regsOutside t [B.BLN, B.CAL, B.FAC, B.SYS] ∧ t.lmem = s.lmem ∧
      t.cal.jobs = [] ∧ t.flag F.CAL_STAT_BUSY 0 = false ∧
      t.fld F.CAL_STAT_KIND 0 = 0 ∧ t.raised B.CAL 0 0 = true ∧
      bits (t.reg (F.CAL_RESULT.addr 0)).toNat 12 4 = max 1 (bits (s.reg (F.CAL_RESULT.addr 0)).toNat 12 4) ∧
      (5 * 256 + i, leBytes 1 (unsign x 8) ++ [0, 0, 0]) ∈ t.cal.trims ∧
      (s.sys.trans = none → t.sys.trans.map (fun r => r.target) = some s.sys.calFrom)) ∧
  (∀ (s : State), s.openPage B.CAL 0 → ∃ t, exec .calClear s = .next t ∧
      (if s.sys.mode = .config then
        t.cal = { s.cal with bankA := CalBank.mk (some 0) [], bankB := CalBank.mk none [], wrote := none } ∧
          t.flag F.CAL_STORE_STAT_BANK 0 = false ∧ t.fld F.CAL_STORE_STAT_FREE 0 = 4095 ∧
          s.regsBut t [F.CAL_STORE_STAT.addr 0]
       else s.unchanged t) ∧ t.lmem = s.lmem)

/-- For every command and state, a step with that command at the front of the queue is exec of it on the state with
the queue's rest. The queue, and a clock edge per step of an empty queue, are the model's choices (assumptions 10 and
11); what an edge does is R20 and R21: with no slew owed, press time gains 4 ns outside OFF and HIBERNATE, and in
HIBERNATE the measured period of ACLK, and nothing at all happens without VSTBY. (spec/01 R20, spec/01 R21) -/
def Obligations.QueueFront : Prop :=
  (∀ (s : State) (c : Instr) (rest : List Instr), s.pending = c :: rest → step s = exec c { s with pending := rest }) ∧
  (∀ (s : State), s.pending = [] → s.balls.vstby = true → s.sys.mode ≠ .off → s.sys.mode ≠ .hibernate → s.cas.slew = 0 → s.timeFrac < 65536 →
    ∃ t, step s = .next t ∧ t.time = s.time + 4 ∧ t.timeFrac = s.timeFrac) ∧
  (∀ (s : State), s.pending = [] → s.balls.vstby = true → s.sys.mode = .hibernate → s.sys.waking = false → s.sys.trans = none →
    ∃ t, step s = .next t ∧ t.time = s.time + BitVec.ofNat 64 ((s.timeFrac + Config.aclkPeriod s.freeCtr) / 65536) ∧
      t.regs = s.regs ∧ t.lmem = s.lmem) ∧
  (∀ (s : State), s.pending = [] → s.balls.vstby = false → step s = .next s)

/-- WAKE_N is low exactly while an enabled interrupt waits that R349 and R350 let wake a sleeping host. The rules hold
in every state a run reaches; here: from every state in which the ball stands as the rest of the state drives it, each
step, whatever command is at the front of the queue and whatever its operands, answers a next state (never a fault or
a refusal), and the ball stands so again. (spec/12 R349, spec/12 R350) -/
def Obligations.StepKeepsWake : Prop :=
  ∀ s : State, s.Wired → ∃ t, step s = .next t ∧ t.Wired

/-- The queue is empty, no command has been answered, LMEM lists nothing (so that every byte reads 0, as the fill of
BOOT writes it), and no register stands off its reset value: CAL_LIM_0 to CAL_LIM_7, CAL_CFG, CAS_CFG, FMT_LVLW_1 and
FMT_PSTEP_0 read as their tables give them. BOOT is being entered. The memories have their canonical form, and WAKE_N
stands as the rest of the state drives it. (spec/01 R25, spec/01 R27, spec/04 R123, spec/11 R306, spec/13 R382,
spec/14 R397) -/
def Obligations.ResetState : Prop :=
  State.reset.pending = [] ∧ State.reset.emitted = [] ∧ State.reset.sys.mode = .boot ∧
    State.reset.sys.trans.map (fun r => r.target) = some .boot ∧ (∀ a, State.reset.lmemByte a = 0) ∧
    (∀ a, State.reset.reg a = regReset a) ∧
    (List.range 8).map (fun i => State.reset.reg ((F.CAL_LIM.at i).addr 0)) =
      [0x00401002, 0x00000801, 0x00080201, 0x04000001, 0x04000202, 0, 0, 0] ∧
    State.reset.reg (F.CAL_CFG.addr 0) = 0x00010100 ∧ State.reset.reg (F.CAS_CFG.addr 0) = 2 ∧
    (∀ n, n < 6 → State.reset.reg ((F.FMT_LVLW.at 1).addr n) = 0x0E0C0A08 ∧
      State.reset.reg ((F.FMT_PSTEP.at 0).addr n) = 0x03400300) ∧
    State.reset.memWf ∧ State.reset.regsWf ∧ State.reset.Wired
end

