-- ==== Sys2Proof/Laws/Sparse.lean ====
section
/-! SUPPORT. What one write to a sparse map does, and that it keeps the canonical form. -/

namespace Sys2Proof.Machine

variable {α : Type}

theorem Sparse.find_insert_same (a : Nat) (v : α) (m : Sparse α) (h : ∀ e ∈ m, e.1 ≠ a) :
    Sparse.find (Sparse.insert a v m) a = some v := by
  induction m with
  | nil => simp [Sparse.insert, Sparse.find]
  | cons e m ih =>
    obtain ⟨k, w⟩ := e
    have hk : k ≠ a := h (k, w) (by simp)
    simp only [Sparse.insert]
    split
    · simp [Sparse.find]
    · simp [Sparse.find, Ne.symm hk, ih (fun e he => h e (by simp [he]))]

theorem Sparse.find_insert_ne (a b : Nat) (v : α) (m : Sparse α) (h : b ≠ a) :
    Sparse.find (Sparse.insert a v m) b = Sparse.find m b := by
  induction m with
  | nil => simp [Sparse.insert, Sparse.find, h]
  | cons e m ih =>
    obtain ⟨k, w⟩ := e
    simp only [Sparse.insert]
    split <;> simp [Sparse.find, h, ih]

theorem Sparse.find_erase_same (a : Nat) (m : Sparse α) : Sparse.find (m.erase a) a = none := by
  induction m with
  | nil => rfl
  | cons e m ih =>
    obtain ⟨k, w⟩ := e
    by_cases hk : k = a
    · simpa [Sparse.erase, hk] using ih
    · simpa [Sparse.erase, hk, Sparse.find, Ne.symm hk] using ih

theorem Sparse.find_erase_ne (a b : Nat) (m : Sparse α) (h : b ≠ a) :
    Sparse.find (m.erase a) b = Sparse.find m b := by
  induction m with
  | nil => rfl
  | cons e m ih =>
    obtain ⟨k, w⟩ := e
    by_cases hk : k = a
    · subst hk; simpa [Sparse.erase, Sparse.find, h] using ih
    · by_cases hb : b = k
      · subst hb; simp [Sparse.erase, hk, Sparse.find]
      · simpa [Sparse.erase, hk, Sparse.find, hb] using ih

theorem Sparse.erase_keys (a : Nat) (m : Sparse α) : ∀ e ∈ m.erase a, e.1 ≠ a := by
  intro e he
  simpa [Sparse.erase] using (List.mem_filter.mp he).2

/-- A read after a write to the same key gives the value written. -/
@[simp] theorem Sparse.get_set_same [DecidableEq α] (d : Nat → α) (m : Sparse α) (a : Nat) (v : α) :
    Sparse.get d (m.set d a v) a = v := by
  by_cases hv : v = d a
  · subst hv; simp [Sparse.set, Sparse.get, Sparse.find_erase_same]
  · simp only [Sparse.set, Sparse.get, if_neg hv, Sparse.find_insert_same _ _ _ (Sparse.erase_keys a m)]

/-- A write leaves every other key alone. -/
theorem Sparse.get_set_ne [DecidableEq α] (d : Nat → α) (m : Sparse α) (a b : Nat) (v : α) (h : b ≠ a) :
    Sparse.get d (m.set d a v) b = Sparse.get d m b := by
  by_cases hv : v = d a
  · simp only [Sparse.set, Sparse.get, if_pos hv, Sparse.find_erase_ne _ _ _ h]
  · simp only [Sparse.set, Sparse.get, if_neg hv, Sparse.find_insert_ne _ _ _ _ h, Sparse.find_erase_ne _ _ _ h]

theorem Sparse.mem_insert (a : Nat) (v : α) (m : Sparse α) (e : Nat × α) :
    e ∈ Sparse.insert a v m ↔ e = (a, v) ∨ e ∈ m := by
  induction m with
  | nil => simp [Sparse.insert]
  | cons x m ih =>
    simp only [Sparse.insert]
    split
    · simp
    · simp only [List.mem_cons, ih]
      constructor <;> rintro (h | h | h) <;> simp [h]

theorem Sparse.insert_sorted (a : Nat) (v : α) (m : Sparse α) (h : m.Pairwise (fun x y => x.1 < y.1))
    (hn : ∀ e ∈ m, e.1 ≠ a) : (Sparse.insert a v m).Pairwise (fun x y => x.1 < y.1) := by
  induction m with
  | nil => simp [Sparse.insert]
  | cons x m ih =>
    rw [List.pairwise_cons] at h
    simp only [Sparse.insert]
    split
    · rename_i hlt
      refine List.pairwise_cons.mpr ⟨?_, List.pairwise_cons.mpr h⟩
      intro y hy
      rcases List.mem_cons.mp hy with rfl | hy
      · exact hlt
      · exact Nat.lt_trans hlt (h.1 y hy)
    · rename_i hge
      refine List.pairwise_cons.mpr ⟨?_, ih h.2 (fun e he => hn e (by simp [he]))⟩
      intro y hy
      rcases (Sparse.mem_insert a v m y).mp hy with rfl | hy
      · have := hn x (by simp)
        simp only; omega
      · exact h.1 y hy

/-- Every write keeps the canonical form. -/
theorem Sparse.wf_set [DecidableEq α] (d : Nat → α) (m : Sparse α) (a : Nat) (v : α) (h : Sparse.wf d m) :
    Sparse.wf d (m.set d a v) := by
  have he : Sparse.wf d (m.erase a) :=
    ⟨h.1.filter _, fun e hm => h.2 e (List.mem_of_mem_filter hm)⟩
  unfold Sparse.set
  split
  · exact he
  · rename_i hv
    refine ⟨Sparse.insert_sorted a v _ he.1 (Sparse.erase_keys a m), ?_⟩
    intro e hm
    rcases (Sparse.mem_insert a v _ e).mp hm with rfl | hm
    · exact hv
    · exact he.2 e hm

/-- A run of writes keeps the canonical form. -/
theorem Sparse.wf_setList [DecidableEq α] (d : Nat → α) (vs : List α) (m : Sparse α) (a : Nat)
    (h : Sparse.wf d m) : Sparse.wf d (m.setList d a vs) := by
  induction vs generalizing m a with
  | nil => exact h
  | cons v vs ih => exact ih _ _ (Sparse.wf_set d m a v h)

/-- Leaving entries out keeps the canonical form. -/
theorem Sparse.wf_filter (d : Nat → α) (m : Sparse α) (p : Nat × α → Bool) (h : Sparse.wf d m) :
    Sparse.wf d (m.filter p) :=
  ⟨h.1.filter _, fun e hm => h.2 e (List.mem_of_mem_filter hm)⟩

end Sys2Proof.Machine
end

