-- ==== Sys2Proof/Laws/State.lean ====
section
/-! SUPPORT. What each of the small updates leaves alone: one lemma per field of State and update. -/

namespace Sys2Proof.Machine

variable (s t : State) (a i v n : Nat) (w : Word) (f : Field) (x : Int) (b : Bool) (e : Emit)

@[simp] theorem State.setReg_pending : (s.setReg a w).pending = s.pending := rfl
@[simp] theorem State.setReg_time : (s.setReg a w).time = s.time := rfl
@[simp] theorem State.setReg_timeFrac : (s.setReg a w).timeFrac = s.timeFrac := rfl
@[simp] theorem State.setReg_freeCtr : (s.setReg a w).freeCtr = s.freeCtr := rfl
@[simp] theorem State.setReg_latches : (s.setReg a w).latches = s.latches := rfl
@[simp] theorem State.setReg_fresh : (s.setReg a w).fresh = s.fresh := rfl
@[simp] theorem State.setReg_lmem : (s.setReg a w).lmem = s.lmem := rfl
@[simp] theorem State.setReg_poison : (s.setReg a w).poison = s.poison := rfl
@[simp] theorem State.setReg_hostMem : (s.setReg a w).hostMem = s.hostMem := rfl
@[simp] theorem State.setReg_reply : (s.setReg a w).reply = s.reply := rfl
@[simp] theorem State.setReg_emitted : (s.setReg a w).emitted = s.emitted := rfl
@[simp] theorem State.setReg_sys : (s.setReg a w).sys = s.sys := rfl
@[simp] theorem State.setReg_balls : (s.setReg a w).balls = s.balls := rfl
@[simp] theorem State.setReg_aon : (s.setReg a w).aon = s.aon := rfl
@[simp] theorem State.setReg_rails : (s.setReg a w).rails = s.rails := rfl
@[simp] theorem State.setReg_seq : (s.setReg a w).seq = s.seq := rfl
@[simp] theorem State.setReg_feds : (s.setReg a w).feds = s.feds := rfl
@[simp] theorem State.setReg_keep : (s.setReg a w).keep = s.keep := rfl
@[simp] theorem State.setReg_cal : (s.setReg a w).cal = s.cal := rfl
@[simp] theorem State.setReg_flt : (s.setReg a w).flt = s.flt := rfl
@[simp] theorem State.setReg_ints : (s.setReg a w).ints = s.ints := rfl
@[simp] theorem State.setReg_cas : (s.setReg a w).cas = s.cas := rfl
@[simp] theorem State.setReg_att : (s.setReg a w).att = s.att := rfl
@[simp] theorem State.setReg_sec : (s.setReg a w).sec = s.sec := rfl
@[simp] theorem State.setReg_ecc : (s.setReg a w).ecc = s.ecc := rfl
@[simp] theorem State.setReg_dmas : (s.setReg a w).dmas = s.dmas := rfl
@[simp] theorem State.setReg_dmaLast : (s.setReg a w).dmaLast = s.dmaLast := rfl
@[simp] theorem State.setReg_enc : (s.setReg a w).enc = s.enc := rfl
@[simp] theorem State.setReg_ringq : (s.setReg a w).ringq = s.ringq := rfl
@[simp] theorem State.setReg_fst : (s.setReg a w).fst = s.fst := rfl
@[simp] theorem State.setReg_ctxs : (s.setReg a w).ctxs = s.ctxs := rfl
@[simp] theorem State.setReg_apr : (s.setReg a w).apr = s.apr := rfl
@[simp] theorem State.setReg_bundle : (s.setReg a w).bundle = s.bundle := rfl
@[simp] theorem State.setReg_stns : (s.setReg a w).stns = s.stns := rfl
@[simp] theorem State.setReg_mots : (s.setReg a w).mots = s.mots := rfl
@[simp] theorem State.setReg_pgns : (s.setReg a w).pgns = s.pgns := rfl
@[simp] theorem State.setReg_stps : (s.setReg a w).stps = s.stps := rfl
@[simp] theorem State.setReg_ctls : (s.setReg a w).ctls = s.ctls := rfl
@[simp] theorem State.setReg_hvos : (s.setReg a w).hvos = s.hvos := rfl
@[simp] theorem State.setReg_lups : (s.setReg a w).lups = s.lups := rfl
@[simp] theorem State.setReg_htrs : (s.setReg a w).htrs = s.htrs := rfl
@[simp] theorem State.setReg_sched : (s.setReg a w).sched = s.sched := rfl
@[simp] theorem State.setReg_mns : (s.setReg a w).mns = s.mns := rfl
@[simp] theorem State.setReg_tmps : (s.setReg a w).tmps = s.tmps := rfl

@[simp] theorem State.setFld_pending : (s.setFld f i v).pending = s.pending := State.setReg_pending ..
@[simp] theorem State.setFld_time : (s.setFld f i v).time = s.time := State.setReg_time ..
@[simp] theorem State.setFld_timeFrac : (s.setFld f i v).timeFrac = s.timeFrac := State.setReg_timeFrac ..
@[simp] theorem State.setFld_freeCtr : (s.setFld f i v).freeCtr = s.freeCtr := State.setReg_freeCtr ..
@[simp] theorem State.setFld_latches : (s.setFld f i v).latches = s.latches := State.setReg_latches ..
@[simp] theorem State.setFld_fresh : (s.setFld f i v).fresh = s.fresh := State.setReg_fresh ..
@[simp] theorem State.setFld_lmem : (s.setFld f i v).lmem = s.lmem := State.setReg_lmem ..
@[simp] theorem State.setFld_poison : (s.setFld f i v).poison = s.poison := State.setReg_poison ..
@[simp] theorem State.setFld_hostMem : (s.setFld f i v).hostMem = s.hostMem := State.setReg_hostMem ..
@[simp] theorem State.setFld_reply : (s.setFld f i v).reply = s.reply := State.setReg_reply ..
@[simp] theorem State.setFld_emitted : (s.setFld f i v).emitted = s.emitted := State.setReg_emitted ..
@[simp] theorem State.setFld_sys : (s.setFld f i v).sys = s.sys := State.setReg_sys ..
@[simp] theorem State.setFld_balls : (s.setFld f i v).balls = s.balls := State.setReg_balls ..
@[simp] theorem State.setFld_aon : (s.setFld f i v).aon = s.aon := State.setReg_aon ..
@[simp] theorem State.setFld_rails : (s.setFld f i v).rails = s.rails := State.setReg_rails ..
@[simp] theorem State.setFld_seq : (s.setFld f i v).seq = s.seq := State.setReg_seq ..
@[simp] theorem State.setFld_feds : (s.setFld f i v).feds = s.feds := State.setReg_feds ..
@[simp] theorem State.setFld_keep : (s.setFld f i v).keep = s.keep := State.setReg_keep ..
@[simp] theorem State.setFld_cal : (s.setFld f i v).cal = s.cal := State.setReg_cal ..
@[simp] theorem State.setFld_flt : (s.setFld f i v).flt = s.flt := State.setReg_flt ..
@[simp] theorem State.setFld_ints : (s.setFld f i v).ints = s.ints := State.setReg_ints ..
@[simp] theorem State.setFld_cas : (s.setFld f i v).cas = s.cas := State.setReg_cas ..
@[simp] theorem State.setFld_att : (s.setFld f i v).att = s.att := State.setReg_att ..
@[simp] theorem State.setFld_sec : (s.setFld f i v).sec = s.sec := State.setReg_sec ..
@[simp] theorem State.setFld_ecc : (s.setFld f i v).ecc = s.ecc := State.setReg_ecc ..
@[simp] theorem State.setFld_dmas : (s.setFld f i v).dmas = s.dmas := State.setReg_dmas ..
@[simp] theorem State.setFld_dmaLast : (s.setFld f i v).dmaLast = s.dmaLast := State.setReg_dmaLast ..
@[simp] theorem State.setFld_enc : (s.setFld f i v).enc = s.enc := State.setReg_enc ..
@[simp] theorem State.setFld_ringq : (s.setFld f i v).ringq = s.ringq := State.setReg_ringq ..
@[simp] theorem State.setFld_fst : (s.setFld f i v).fst = s.fst := State.setReg_fst ..
@[simp] theorem State.setFld_ctxs : (s.setFld f i v).ctxs = s.ctxs := State.setReg_ctxs ..
@[simp] theorem State.setFld_apr : (s.setFld f i v).apr = s.apr := State.setReg_apr ..
@[simp] theorem State.setFld_bundle : (s.setFld f i v).bundle = s.bundle := State.setReg_bundle ..
@[simp] theorem State.setFld_stns : (s.setFld f i v).stns = s.stns := State.setReg_stns ..
@[simp] theorem State.setFld_mots : (s.setFld f i v).mots = s.mots := State.setReg_mots ..
@[simp] theorem State.setFld_pgns : (s.setFld f i v).pgns = s.pgns := State.setReg_pgns ..
@[simp] theorem State.setFld_stps : (s.setFld f i v).stps = s.stps := State.setReg_stps ..
@[simp] theorem State.setFld_ctls : (s.setFld f i v).ctls = s.ctls := State.setReg_ctls ..
@[simp] theorem State.setFld_hvos : (s.setFld f i v).hvos = s.hvos := State.setReg_hvos ..
@[simp] theorem State.setFld_lups : (s.setFld f i v).lups = s.lups := State.setReg_lups ..
@[simp] theorem State.setFld_htrs : (s.setFld f i v).htrs = s.htrs := State.setReg_htrs ..
@[simp] theorem State.setFld_sched : (s.setFld f i v).sched = s.sched := State.setReg_sched ..
@[simp] theorem State.setFld_mns : (s.setFld f i v).mns = s.mns := State.setReg_mns ..
@[simp] theorem State.setFld_tmps : (s.setFld f i v).tmps = s.tmps := State.setReg_tmps ..

@[simp] theorem State.setFlag_pending : (s.setFlag f i b).pending = s.pending := State.setFld_pending ..
@[simp] theorem State.setFlag_time : (s.setFlag f i b).time = s.time := State.setFld_time ..
@[simp] theorem State.setFlag_timeFrac : (s.setFlag f i b).timeFrac = s.timeFrac := State.setFld_timeFrac ..
@[simp] theorem State.setFlag_freeCtr : (s.setFlag f i b).freeCtr = s.freeCtr := State.setFld_freeCtr ..
@[simp] theorem State.setFlag_latches : (s.setFlag f i b).latches = s.latches := State.setFld_latches ..
@[simp] theorem State.setFlag_fresh : (s.setFlag f i b).fresh = s.fresh := State.setFld_fresh ..
@[simp] theorem State.setFlag_lmem : (s.setFlag f i b).lmem = s.lmem := State.setFld_lmem ..
@[simp] theorem State.setFlag_poison : (s.setFlag f i b).poison = s.poison := State.setFld_poison ..
@[simp] theorem State.setFlag_hostMem : (s.setFlag f i b).hostMem = s.hostMem := State.setFld_hostMem ..
@[simp] theorem State.setFlag_reply : (s.setFlag f i b).reply = s.reply := State.setFld_reply ..
@[simp] theorem State.setFlag_emitted : (s.setFlag f i b).emitted = s.emitted := State.setFld_emitted ..
@[simp] theorem State.setFlag_sys : (s.setFlag f i b).sys = s.sys := State.setFld_sys ..
@[simp] theorem State.setFlag_balls : (s.setFlag f i b).balls = s.balls := State.setFld_balls ..
@[simp] theorem State.setFlag_aon : (s.setFlag f i b).aon = s.aon := State.setFld_aon ..
@[simp] theorem State.setFlag_rails : (s.setFlag f i b).rails = s.rails := State.setFld_rails ..
@[simp] theorem State.setFlag_seq : (s.setFlag f i b).seq = s.seq := State.setFld_seq ..
@[simp] theorem State.setFlag_feds : (s.setFlag f i b).feds = s.feds := State.setFld_feds ..
@[simp] theorem State.setFlag_keep : (s.setFlag f i b).keep = s.keep := State.setFld_keep ..
@[simp] theorem State.setFlag_cal : (s.setFlag f i b).cal = s.cal := State.setFld_cal ..
@[simp] theorem State.setFlag_flt : (s.setFlag f i b).flt = s.flt := State.setFld_flt ..
@[simp] theorem State.setFlag_ints : (s.setFlag f i b).ints = s.ints := State.setFld_ints ..
@[simp] theorem State.setFlag_cas : (s.setFlag f i b).cas = s.cas := State.setFld_cas ..
@[simp] theorem State.setFlag_att : (s.setFlag f i b).att = s.att := State.setFld_att ..
@[simp] theorem State.setFlag_sec : (s.setFlag f i b).sec = s.sec := State.setFld_sec ..
@[simp] theorem State.setFlag_ecc : (s.setFlag f i b).ecc = s.ecc := State.setFld_ecc ..
@[simp] theorem State.setFlag_dmas : (s.setFlag f i b).dmas = s.dmas := State.setFld_dmas ..
@[simp] theorem State.setFlag_dmaLast : (s.setFlag f i b).dmaLast = s.dmaLast := State.setFld_dmaLast ..
@[simp] theorem State.setFlag_enc : (s.setFlag f i b).enc = s.enc := State.setFld_enc ..
@[simp] theorem State.setFlag_ringq : (s.setFlag f i b).ringq = s.ringq := State.setFld_ringq ..
@[simp] theorem State.setFlag_fst : (s.setFlag f i b).fst = s.fst := State.setFld_fst ..
@[simp] theorem State.setFlag_ctxs : (s.setFlag f i b).ctxs = s.ctxs := State.setFld_ctxs ..
@[simp] theorem State.setFlag_apr : (s.setFlag f i b).apr = s.apr := State.setFld_apr ..
@[simp] theorem State.setFlag_bundle : (s.setFlag f i b).bundle = s.bundle := State.setFld_bundle ..
@[simp] theorem State.setFlag_stns : (s.setFlag f i b).stns = s.stns := State.setFld_stns ..
@[simp] theorem State.setFlag_mots : (s.setFlag f i b).mots = s.mots := State.setFld_mots ..
@[simp] theorem State.setFlag_pgns : (s.setFlag f i b).pgns = s.pgns := State.setFld_pgns ..
@[simp] theorem State.setFlag_stps : (s.setFlag f i b).stps = s.stps := State.setFld_stps ..
@[simp] theorem State.setFlag_ctls : (s.setFlag f i b).ctls = s.ctls := State.setFld_ctls ..
@[simp] theorem State.setFlag_hvos : (s.setFlag f i b).hvos = s.hvos := State.setFld_hvos ..
@[simp] theorem State.setFlag_lups : (s.setFlag f i b).lups = s.lups := State.setFld_lups ..
@[simp] theorem State.setFlag_htrs : (s.setFlag f i b).htrs = s.htrs := State.setFld_htrs ..
@[simp] theorem State.setFlag_sched : (s.setFlag f i b).sched = s.sched := State.setFld_sched ..
@[simp] theorem State.setFlag_mns : (s.setFlag f i b).mns = s.mns := State.setFld_mns ..
@[simp] theorem State.setFlag_tmps : (s.setFlag f i b).tmps = s.tmps := State.setFld_tmps ..

@[simp] theorem State.setSFld_pending : (s.setSFld f i x).pending = s.pending := State.setFld_pending ..
@[simp] theorem State.setSFld_time : (s.setSFld f i x).time = s.time := State.setFld_time ..
@[simp] theorem State.setSFld_timeFrac : (s.setSFld f i x).timeFrac = s.timeFrac := State.setFld_timeFrac ..
@[simp] theorem State.setSFld_freeCtr : (s.setSFld f i x).freeCtr = s.freeCtr := State.setFld_freeCtr ..
@[simp] theorem State.setSFld_latches : (s.setSFld f i x).latches = s.latches := State.setFld_latches ..
@[simp] theorem State.setSFld_fresh : (s.setSFld f i x).fresh = s.fresh := State.setFld_fresh ..
@[simp] theorem State.setSFld_lmem : (s.setSFld f i x).lmem = s.lmem := State.setFld_lmem ..
@[simp] theorem State.setSFld_poison : (s.setSFld f i x).poison = s.poison := State.setFld_poison ..
@[simp] theorem State.setSFld_hostMem : (s.setSFld f i x).hostMem = s.hostMem := State.setFld_hostMem ..
@[simp] theorem State.setSFld_reply : (s.setSFld f i x).reply = s.reply := State.setFld_reply ..
@[simp] theorem State.setSFld_emitted : (s.setSFld f i x).emitted = s.emitted := State.setFld_emitted ..
@[simp] theorem State.setSFld_sys : (s.setSFld f i x).sys = s.sys := State.setFld_sys ..
@[simp] theorem State.setSFld_balls : (s.setSFld f i x).balls = s.balls := State.setFld_balls ..
@[simp] theorem State.setSFld_aon : (s.setSFld f i x).aon = s.aon := State.setFld_aon ..
@[simp] theorem State.setSFld_rails : (s.setSFld f i x).rails = s.rails := State.setFld_rails ..
@[simp] theorem State.setSFld_seq : (s.setSFld f i x).seq = s.seq := State.setFld_seq ..
@[simp] theorem State.setSFld_feds : (s.setSFld f i x).feds = s.feds := State.setFld_feds ..
@[simp] theorem State.setSFld_keep : (s.setSFld f i x).keep = s.keep := State.setFld_keep ..
@[simp] theorem State.setSFld_cal : (s.setSFld f i x).cal = s.cal := State.setFld_cal ..
@[simp] theorem State.setSFld_flt : (s.setSFld f i x).flt = s.flt := State.setFld_flt ..
@[simp] theorem State.setSFld_ints : (s.setSFld f i x).ints = s.ints := State.setFld_ints ..
@[simp] theorem State.setSFld_cas : (s.setSFld f i x).cas = s.cas := State.setFld_cas ..
@[simp] theorem State.setSFld_att : (s.setSFld f i x).att = s.att := State.setFld_att ..
@[simp] theorem State.setSFld_sec : (s.setSFld f i x).sec = s.sec := State.setFld_sec ..
@[simp] theorem State.setSFld_ecc : (s.setSFld f i x).ecc = s.ecc := State.setFld_ecc ..
@[simp] theorem State.setSFld_dmas : (s.setSFld f i x).dmas = s.dmas := State.setFld_dmas ..
@[simp] theorem State.setSFld_dmaLast : (s.setSFld f i x).dmaLast = s.dmaLast := State.setFld_dmaLast ..
@[simp] theorem State.setSFld_enc : (s.setSFld f i x).enc = s.enc := State.setFld_enc ..
@[simp] theorem State.setSFld_ringq : (s.setSFld f i x).ringq = s.ringq := State.setFld_ringq ..
@[simp] theorem State.setSFld_fst : (s.setSFld f i x).fst = s.fst := State.setFld_fst ..
@[simp] theorem State.setSFld_ctxs : (s.setSFld f i x).ctxs = s.ctxs := State.setFld_ctxs ..
@[simp] theorem State.setSFld_apr : (s.setSFld f i x).apr = s.apr := State.setFld_apr ..
@[simp] theorem State.setSFld_bundle : (s.setSFld f i x).bundle = s.bundle := State.setFld_bundle ..
@[simp] theorem State.setSFld_stns : (s.setSFld f i x).stns = s.stns := State.setFld_stns ..
@[simp] theorem State.setSFld_mots : (s.setSFld f i x).mots = s.mots := State.setFld_mots ..
@[simp] theorem State.setSFld_pgns : (s.setSFld f i x).pgns = s.pgns := State.setFld_pgns ..
@[simp] theorem State.setSFld_stps : (s.setSFld f i x).stps = s.stps := State.setFld_stps ..
@[simp] theorem State.setSFld_ctls : (s.setSFld f i x).ctls = s.ctls := State.setFld_ctls ..
@[simp] theorem State.setSFld_hvos : (s.setSFld f i x).hvos = s.hvos := State.setFld_hvos ..
@[simp] theorem State.setSFld_lups : (s.setSFld f i x).lups = s.lups := State.setFld_lups ..
@[simp] theorem State.setSFld_htrs : (s.setSFld f i x).htrs = s.htrs := State.setFld_htrs ..
@[simp] theorem State.setSFld_sched : (s.setSFld f i x).sched = s.sched := State.setFld_sched ..
@[simp] theorem State.setSFld_mns : (s.setSFld f i x).mns = s.mns := State.setFld_mns ..
@[simp] theorem State.setSFld_tmps : (s.setSFld f i x).tmps = s.tmps := State.setFld_tmps ..

@[simp] theorem State.setPair64_pending : (s.setPair64 f i v).pending = s.pending := (State.setReg_pending ..).trans (State.setReg_pending ..)
@[simp] theorem State.setPair64_time : (s.setPair64 f i v).time = s.time := (State.setReg_time ..).trans (State.setReg_time ..)
@[simp] theorem State.setPair64_timeFrac : (s.setPair64 f i v).timeFrac = s.timeFrac := (State.setReg_timeFrac ..).trans (State.setReg_timeFrac ..)
@[simp] theorem State.setPair64_freeCtr : (s.setPair64 f i v).freeCtr = s.freeCtr := (State.setReg_freeCtr ..).trans (State.setReg_freeCtr ..)
@[simp] theorem State.setPair64_latches : (s.setPair64 f i v).latches = s.latches := (State.setReg_latches ..).trans (State.setReg_latches ..)
@[simp] theorem State.setPair64_fresh : (s.setPair64 f i v).fresh = s.fresh := (State.setReg_fresh ..).trans (State.setReg_fresh ..)
@[simp] theorem State.setPair64_lmem : (s.setPair64 f i v).lmem = s.lmem := (State.setReg_lmem ..).trans (State.setReg_lmem ..)
@[simp] theorem State.setPair64_poison : (s.setPair64 f i v).poison = s.poison := (State.setReg_poison ..).trans (State.setReg_poison ..)
@[simp] theorem State.setPair64_hostMem : (s.setPair64 f i v).hostMem = s.hostMem := (State.setReg_hostMem ..).trans (State.setReg_hostMem ..)
@[simp] theorem State.setPair64_reply : (s.setPair64 f i v).reply = s.reply := (State.setReg_reply ..).trans (State.setReg_reply ..)
@[simp] theorem State.setPair64_emitted : (s.setPair64 f i v).emitted = s.emitted := (State.setReg_emitted ..).trans (State.setReg_emitted ..)
@[simp] theorem State.setPair64_sys : (s.setPair64 f i v).sys = s.sys := (State.setReg_sys ..).trans (State.setReg_sys ..)
@[simp] theorem State.setPair64_balls : (s.setPair64 f i v).balls = s.balls := (State.setReg_balls ..).trans (State.setReg_balls ..)
@[simp] theorem State.setPair64_aon : (s.setPair64 f i v).aon = s.aon := (State.setReg_aon ..).trans (State.setReg_aon ..)
@[simp] theorem State.setPair64_rails : (s.setPair64 f i v).rails = s.rails := (State.setReg_rails ..).trans (State.setReg_rails ..)
@[simp] theorem State.setPair64_seq : (s.setPair64 f i v).seq = s.seq := (State.setReg_seq ..).trans (State.setReg_seq ..)
@[simp] theorem State.setPair64_feds : (s.setPair64 f i v).feds = s.feds := (State.setReg_feds ..).trans (State.setReg_feds ..)
@[simp] theorem State.setPair64_keep : (s.setPair64 f i v).keep = s.keep := (State.setReg_keep ..).trans (State.setReg_keep ..)
@[simp] theorem State.setPair64_cal : (s.setPair64 f i v).cal = s.cal := (State.setReg_cal ..).trans (State.setReg_cal ..)
@[simp] theorem State.setPair64_flt : (s.setPair64 f i v).flt = s.flt := (State.setReg_flt ..).trans (State.setReg_flt ..)
@[simp] theorem State.setPair64_ints : (s.setPair64 f i v).ints = s.ints := (State.setReg_ints ..).trans (State.setReg_ints ..)
@[simp] theorem State.setPair64_cas : (s.setPair64 f i v).cas = s.cas := (State.setReg_cas ..).trans (State.setReg_cas ..)
@[simp] theorem State.setPair64_att : (s.setPair64 f i v).att = s.att := (State.setReg_att ..).trans (State.setReg_att ..)
@[simp] theorem State.setPair64_sec : (s.setPair64 f i v).sec = s.sec := (State.setReg_sec ..).trans (State.setReg_sec ..)
@[simp] theorem State.setPair64_ecc : (s.setPair64 f i v).ecc = s.ecc := (State.setReg_ecc ..).trans (State.setReg_ecc ..)
@[simp] theorem State.setPair64_dmas : (s.setPair64 f i v).dmas = s.dmas := (State.setReg_dmas ..).trans (State.setReg_dmas ..)
@[simp] theorem State.setPair64_dmaLast : (s.setPair64 f i v).dmaLast = s.dmaLast := (State.setReg_dmaLast ..).trans (State.setReg_dmaLast ..)
@[simp] theorem State.setPair64_enc : (s.setPair64 f i v).enc = s.enc := (State.setReg_enc ..).trans (State.setReg_enc ..)
@[simp] theorem State.setPair64_ringq : (s.setPair64 f i v).ringq = s.ringq := (State.setReg_ringq ..).trans (State.setReg_ringq ..)
@[simp] theorem State.setPair64_fst : (s.setPair64 f i v).fst = s.fst := (State.setReg_fst ..).trans (State.setReg_fst ..)
@[simp] theorem State.setPair64_ctxs : (s.setPair64 f i v).ctxs = s.ctxs := (State.setReg_ctxs ..).trans (State.setReg_ctxs ..)
@[simp] theorem State.setPair64_apr : (s.setPair64 f i v).apr = s.apr := (State.setReg_apr ..).trans (State.setReg_apr ..)
@[simp] theorem State.setPair64_bundle : (s.setPair64 f i v).bundle = s.bundle := (State.setReg_bundle ..).trans (State.setReg_bundle ..)
@[simp] theorem State.setPair64_stns : (s.setPair64 f i v).stns = s.stns := (State.setReg_stns ..).trans (State.setReg_stns ..)
@[simp] theorem State.setPair64_mots : (s.setPair64 f i v).mots = s.mots := (State.setReg_mots ..).trans (State.setReg_mots ..)
@[simp] theorem State.setPair64_pgns : (s.setPair64 f i v).pgns = s.pgns := (State.setReg_pgns ..).trans (State.setReg_pgns ..)
@[simp] theorem State.setPair64_stps : (s.setPair64 f i v).stps = s.stps := (State.setReg_stps ..).trans (State.setReg_stps ..)
@[simp] theorem State.setPair64_ctls : (s.setPair64 f i v).ctls = s.ctls := (State.setReg_ctls ..).trans (State.setReg_ctls ..)
@[simp] theorem State.setPair64_hvos : (s.setPair64 f i v).hvos = s.hvos := (State.setReg_hvos ..).trans (State.setReg_hvos ..)
@[simp] theorem State.setPair64_lups : (s.setPair64 f i v).lups = s.lups := (State.setReg_lups ..).trans (State.setReg_lups ..)
@[simp] theorem State.setPair64_htrs : (s.setPair64 f i v).htrs = s.htrs := (State.setReg_htrs ..).trans (State.setReg_htrs ..)
@[simp] theorem State.setPair64_sched : (s.setPair64 f i v).sched = s.sched := (State.setReg_sched ..).trans (State.setReg_sched ..)
@[simp] theorem State.setPair64_mns : (s.setPair64 f i v).mns = s.mns := (State.setReg_mns ..).trans (State.setReg_mns ..)
@[simp] theorem State.setPair64_tmps : (s.setPair64 f i v).tmps = s.tmps := (State.setReg_tmps ..).trans (State.setReg_tmps ..)

@[simp] theorem State.hwSet_pending : (s.hwSet a w).pending = s.pending := rfl
@[simp] theorem State.hwSet_time : (s.hwSet a w).time = s.time := rfl
@[simp] theorem State.hwSet_timeFrac : (s.hwSet a w).timeFrac = s.timeFrac := rfl
@[simp] theorem State.hwSet_freeCtr : (s.hwSet a w).freeCtr = s.freeCtr := rfl
@[simp] theorem State.hwSet_latches : (s.hwSet a w).latches = s.latches := rfl
@[simp] theorem State.hwSet_lmem : (s.hwSet a w).lmem = s.lmem := rfl
@[simp] theorem State.hwSet_poison : (s.hwSet a w).poison = s.poison := rfl
@[simp] theorem State.hwSet_hostMem : (s.hwSet a w).hostMem = s.hostMem := rfl
@[simp] theorem State.hwSet_reply : (s.hwSet a w).reply = s.reply := rfl
@[simp] theorem State.hwSet_emitted : (s.hwSet a w).emitted = s.emitted := rfl
@[simp] theorem State.hwSet_sys : (s.hwSet a w).sys = s.sys := rfl
@[simp] theorem State.hwSet_balls : (s.hwSet a w).balls = s.balls := rfl
@[simp] theorem State.hwSet_aon : (s.hwSet a w).aon = s.aon := rfl
@[simp] theorem State.hwSet_rails : (s.hwSet a w).rails = s.rails := rfl
@[simp] theorem State.hwSet_seq : (s.hwSet a w).seq = s.seq := rfl
@[simp] theorem State.hwSet_feds : (s.hwSet a w).feds = s.feds := rfl
@[simp] theorem State.hwSet_keep : (s.hwSet a w).keep = s.keep := rfl
@[simp] theorem State.hwSet_cal : (s.hwSet a w).cal = s.cal := rfl
@[simp] theorem State.hwSet_flt : (s.hwSet a w).flt = s.flt := rfl
@[simp] theorem State.hwSet_ints : (s.hwSet a w).ints = s.ints := rfl
@[simp] theorem State.hwSet_cas : (s.hwSet a w).cas = s.cas := rfl
@[simp] theorem State.hwSet_att : (s.hwSet a w).att = s.att := rfl
@[simp] theorem State.hwSet_sec : (s.hwSet a w).sec = s.sec := rfl
@[simp] theorem State.hwSet_ecc : (s.hwSet a w).ecc = s.ecc := rfl
@[simp] theorem State.hwSet_dmas : (s.hwSet a w).dmas = s.dmas := rfl
@[simp] theorem State.hwSet_dmaLast : (s.hwSet a w).dmaLast = s.dmaLast := rfl
@[simp] theorem State.hwSet_enc : (s.hwSet a w).enc = s.enc := rfl
@[simp] theorem State.hwSet_ringq : (s.hwSet a w).ringq = s.ringq := rfl
@[simp] theorem State.hwSet_fst : (s.hwSet a w).fst = s.fst := rfl
@[simp] theorem State.hwSet_ctxs : (s.hwSet a w).ctxs = s.ctxs := rfl
@[simp] theorem State.hwSet_apr : (s.hwSet a w).apr = s.apr := rfl
@[simp] theorem State.hwSet_bundle : (s.hwSet a w).bundle = s.bundle := rfl
@[simp] theorem State.hwSet_stns : (s.hwSet a w).stns = s.stns := rfl
@[simp] theorem State.hwSet_mots : (s.hwSet a w).mots = s.mots := rfl
@[simp] theorem State.hwSet_pgns : (s.hwSet a w).pgns = s.pgns := rfl
@[simp] theorem State.hwSet_stps : (s.hwSet a w).stps = s.stps := rfl
@[simp] theorem State.hwSet_ctls : (s.hwSet a w).ctls = s.ctls := rfl
@[simp] theorem State.hwSet_hvos : (s.hwSet a w).hvos = s.hvos := rfl
@[simp] theorem State.hwSet_lups : (s.hwSet a w).lups = s.lups := rfl
@[simp] theorem State.hwSet_htrs : (s.hwSet a w).htrs = s.htrs := rfl
@[simp] theorem State.hwSet_sched : (s.hwSet a w).sched = s.sched := rfl
@[simp] theorem State.hwSet_mns : (s.hwSet a w).mns = s.mns := rfl
@[simp] theorem State.hwSet_tmps : (s.hwSet a w).tmps = s.tmps := rfl

@[simp] theorem State.event_pending : (s.event a i n).pending = s.pending := State.hwSet_pending ..
@[simp] theorem State.event_time : (s.event a i n).time = s.time := State.hwSet_time ..
@[simp] theorem State.event_timeFrac : (s.event a i n).timeFrac = s.timeFrac := State.hwSet_timeFrac ..
@[simp] theorem State.event_freeCtr : (s.event a i n).freeCtr = s.freeCtr := State.hwSet_freeCtr ..
@[simp] theorem State.event_latches : (s.event a i n).latches = s.latches := State.hwSet_latches ..
@[simp] theorem State.event_lmem : (s.event a i n).lmem = s.lmem := State.hwSet_lmem ..
@[simp] theorem State.event_poison : (s.event a i n).poison = s.poison := State.hwSet_poison ..
@[simp] theorem State.event_hostMem : (s.event a i n).hostMem = s.hostMem := State.hwSet_hostMem ..
@[simp] theorem State.event_reply : (s.event a i n).reply = s.reply := State.hwSet_reply ..
@[simp] theorem State.event_emitted : (s.event a i n).emitted = s.emitted := State.hwSet_emitted ..
@[simp] theorem State.event_sys : (s.event a i n).sys = s.sys := State.hwSet_sys ..
@[simp] theorem State.event_balls : (s.event a i n).balls = s.balls := State.hwSet_balls ..
@[simp] theorem State.event_aon : (s.event a i n).aon = s.aon := State.hwSet_aon ..
@[simp] theorem State.event_rails : (s.event a i n).rails = s.rails := State.hwSet_rails ..
@[simp] theorem State.event_seq : (s.event a i n).seq = s.seq := State.hwSet_seq ..
@[simp] theorem State.event_feds : (s.event a i n).feds = s.feds := State.hwSet_feds ..
@[simp] theorem State.event_keep : (s.event a i n).keep = s.keep := State.hwSet_keep ..
@[simp] theorem State.event_cal : (s.event a i n).cal = s.cal := State.hwSet_cal ..
@[simp] theorem State.event_flt : (s.event a i n).flt = s.flt := State.hwSet_flt ..
@[simp] theorem State.event_ints : (s.event a i n).ints = s.ints := State.hwSet_ints ..
@[simp] theorem State.event_cas : (s.event a i n).cas = s.cas := State.hwSet_cas ..
@[simp] theorem State.event_att : (s.event a i n).att = s.att := State.hwSet_att ..
@[simp] theorem State.event_sec : (s.event a i n).sec = s.sec := State.hwSet_sec ..
@[simp] theorem State.event_ecc : (s.event a i n).ecc = s.ecc := State.hwSet_ecc ..
@[simp] theorem State.event_dmas : (s.event a i n).dmas = s.dmas := State.hwSet_dmas ..
@[simp] theorem State.event_dmaLast : (s.event a i n).dmaLast = s.dmaLast := State.hwSet_dmaLast ..
@[simp] theorem State.event_enc : (s.event a i n).enc = s.enc := State.hwSet_enc ..
@[simp] theorem State.event_ringq : (s.event a i n).ringq = s.ringq := State.hwSet_ringq ..
@[simp] theorem State.event_fst : (s.event a i n).fst = s.fst := State.hwSet_fst ..
@[simp] theorem State.event_ctxs : (s.event a i n).ctxs = s.ctxs := State.hwSet_ctxs ..
@[simp] theorem State.event_apr : (s.event a i n).apr = s.apr := State.hwSet_apr ..
@[simp] theorem State.event_bundle : (s.event a i n).bundle = s.bundle := State.hwSet_bundle ..
@[simp] theorem State.event_stns : (s.event a i n).stns = s.stns := State.hwSet_stns ..
@[simp] theorem State.event_mots : (s.event a i n).mots = s.mots := State.hwSet_mots ..
@[simp] theorem State.event_pgns : (s.event a i n).pgns = s.pgns := State.hwSet_pgns ..
@[simp] theorem State.event_stps : (s.event a i n).stps = s.stps := State.hwSet_stps ..
@[simp] theorem State.event_ctls : (s.event a i n).ctls = s.ctls := State.hwSet_ctls ..
@[simp] theorem State.event_hvos : (s.event a i n).hvos = s.hvos := State.hwSet_hvos ..
@[simp] theorem State.event_lups : (s.event a i n).lups = s.lups := State.hwSet_lups ..
@[simp] theorem State.event_htrs : (s.event a i n).htrs = s.htrs := State.hwSet_htrs ..
@[simp] theorem State.event_sched : (s.event a i n).sched = s.sched := State.hwSet_sched ..
@[simp] theorem State.event_mns : (s.event a i n).mns = s.mns := State.hwSet_mns ..
@[simp] theorem State.event_tmps : (s.event a i n).tmps = s.tmps := State.hwSet_tmps ..

@[simp] theorem State.setBitOf_pending : (s.setBitOf f i n b).pending = s.pending := State.setReg_pending ..
@[simp] theorem State.setBitOf_time : (s.setBitOf f i n b).time = s.time := State.setReg_time ..
@[simp] theorem State.setBitOf_timeFrac : (s.setBitOf f i n b).timeFrac = s.timeFrac := State.setReg_timeFrac ..
@[simp] theorem State.setBitOf_freeCtr : (s.setBitOf f i n b).freeCtr = s.freeCtr := State.setReg_freeCtr ..
@[simp] theorem State.setBitOf_latches : (s.setBitOf f i n b).latches = s.latches := State.setReg_latches ..
@[simp] theorem State.setBitOf_fresh : (s.setBitOf f i n b).fresh = s.fresh := State.setReg_fresh ..
@[simp] theorem State.setBitOf_lmem : (s.setBitOf f i n b).lmem = s.lmem := State.setReg_lmem ..
@[simp] theorem State.setBitOf_poison : (s.setBitOf f i n b).poison = s.poison := State.setReg_poison ..
@[simp] theorem State.setBitOf_hostMem : (s.setBitOf f i n b).hostMem = s.hostMem := State.setReg_hostMem ..
@[simp] theorem State.setBitOf_reply : (s.setBitOf f i n b).reply = s.reply := State.setReg_reply ..
@[simp] theorem State.setBitOf_emitted : (s.setBitOf f i n b).emitted = s.emitted := State.setReg_emitted ..
@[simp] theorem State.setBitOf_sys : (s.setBitOf f i n b).sys = s.sys := State.setReg_sys ..
@[simp] theorem State.setBitOf_balls : (s.setBitOf f i n b).balls = s.balls := State.setReg_balls ..
@[simp] theorem State.setBitOf_aon : (s.setBitOf f i n b).aon = s.aon := State.setReg_aon ..
@[simp] theorem State.setBitOf_rails : (s.setBitOf f i n b).rails = s.rails := State.setReg_rails ..
@[simp] theorem State.setBitOf_seq : (s.setBitOf f i n b).seq = s.seq := State.setReg_seq ..
@[simp] theorem State.setBitOf_feds : (s.setBitOf f i n b).feds = s.feds := State.setReg_feds ..
@[simp] theorem State.setBitOf_keep : (s.setBitOf f i n b).keep = s.keep := State.setReg_keep ..
@[simp] theorem State.setBitOf_cal : (s.setBitOf f i n b).cal = s.cal := State.setReg_cal ..
@[simp] theorem State.setBitOf_flt : (s.setBitOf f i n b).flt = s.flt := State.setReg_flt ..
@[simp] theorem State.setBitOf_ints : (s.setBitOf f i n b).ints = s.ints := State.setReg_ints ..
@[simp] theorem State.setBitOf_cas : (s.setBitOf f i n b).cas = s.cas := State.setReg_cas ..
@[simp] theorem State.setBitOf_att : (s.setBitOf f i n b).att = s.att := State.setReg_att ..
@[simp] theorem State.setBitOf_sec : (s.setBitOf f i n b).sec = s.sec := State.setReg_sec ..
@[simp] theorem State.setBitOf_ecc : (s.setBitOf f i n b).ecc = s.ecc := State.setReg_ecc ..
@[simp] theorem State.setBitOf_dmas : (s.setBitOf f i n b).dmas = s.dmas := State.setReg_dmas ..
@[simp] theorem State.setBitOf_dmaLast : (s.setBitOf f i n b).dmaLast = s.dmaLast := State.setReg_dmaLast ..
@[simp] theorem State.setBitOf_enc : (s.setBitOf f i n b).enc = s.enc := State.setReg_enc ..
@[simp] theorem State.setBitOf_ringq : (s.setBitOf f i n b).ringq = s.ringq := State.setReg_ringq ..
@[simp] theorem State.setBitOf_fst : (s.setBitOf f i n b).fst = s.fst := State.setReg_fst ..
@[simp] theorem State.setBitOf_ctxs : (s.setBitOf f i n b).ctxs = s.ctxs := State.setReg_ctxs ..
@[simp] theorem State.setBitOf_apr : (s.setBitOf f i n b).apr = s.apr := State.setReg_apr ..
@[simp] theorem State.setBitOf_bundle : (s.setBitOf f i n b).bundle = s.bundle := State.setReg_bundle ..
@[simp] theorem State.setBitOf_stns : (s.setBitOf f i n b).stns = s.stns := State.setReg_stns ..
@[simp] theorem State.setBitOf_mots : (s.setBitOf f i n b).mots = s.mots := State.setReg_mots ..
@[simp] theorem State.setBitOf_pgns : (s.setBitOf f i n b).pgns = s.pgns := State.setReg_pgns ..
@[simp] theorem State.setBitOf_stps : (s.setBitOf f i n b).stps = s.stps := State.setReg_stps ..
@[simp] theorem State.setBitOf_ctls : (s.setBitOf f i n b).ctls = s.ctls := State.setReg_ctls ..
@[simp] theorem State.setBitOf_hvos : (s.setBitOf f i n b).hvos = s.hvos := State.setReg_hvos ..
@[simp] theorem State.setBitOf_lups : (s.setBitOf f i n b).lups = s.lups := State.setReg_lups ..
@[simp] theorem State.setBitOf_htrs : (s.setBitOf f i n b).htrs = s.htrs := State.setReg_htrs ..
@[simp] theorem State.setBitOf_sched : (s.setBitOf f i n b).sched = s.sched := State.setReg_sched ..
@[simp] theorem State.setBitOf_mns : (s.setBitOf f i n b).mns = s.mns := State.setReg_mns ..
@[simp] theorem State.setBitOf_tmps : (s.setBitOf f i n b).tmps = s.tmps := State.setReg_tmps ..

@[simp] theorem State.setIntState_pending : (s.setIntState a i).pending = s.pending := State.setReg_pending ..
@[simp] theorem State.setIntState_time : (s.setIntState a i).time = s.time := State.setReg_time ..
@[simp] theorem State.setIntState_timeFrac : (s.setIntState a i).timeFrac = s.timeFrac := State.setReg_timeFrac ..
@[simp] theorem State.setIntState_freeCtr : (s.setIntState a i).freeCtr = s.freeCtr := State.setReg_freeCtr ..
@[simp] theorem State.setIntState_latches : (s.setIntState a i).latches = s.latches := State.setReg_latches ..
@[simp] theorem State.setIntState_fresh : (s.setIntState a i).fresh = s.fresh := State.setReg_fresh ..
@[simp] theorem State.setIntState_lmem : (s.setIntState a i).lmem = s.lmem := State.setReg_lmem ..
@[simp] theorem State.setIntState_poison : (s.setIntState a i).poison = s.poison := State.setReg_poison ..
@[simp] theorem State.setIntState_hostMem : (s.setIntState a i).hostMem = s.hostMem := State.setReg_hostMem ..
@[simp] theorem State.setIntState_reply : (s.setIntState a i).reply = s.reply := State.setReg_reply ..
@[simp] theorem State.setIntState_emitted : (s.setIntState a i).emitted = s.emitted := State.setReg_emitted ..
@[simp] theorem State.setIntState_sys : (s.setIntState a i).sys = s.sys := State.setReg_sys ..
@[simp] theorem State.setIntState_balls : (s.setIntState a i).balls = s.balls := State.setReg_balls ..
@[simp] theorem State.setIntState_aon : (s.setIntState a i).aon = s.aon := State.setReg_aon ..
@[simp] theorem State.setIntState_rails : (s.setIntState a i).rails = s.rails := State.setReg_rails ..
@[simp] theorem State.setIntState_seq : (s.setIntState a i).seq = s.seq := State.setReg_seq ..
@[simp] theorem State.setIntState_feds : (s.setIntState a i).feds = s.feds := State.setReg_feds ..
@[simp] theorem State.setIntState_keep : (s.setIntState a i).keep = s.keep := State.setReg_keep ..
@[simp] theorem State.setIntState_cal : (s.setIntState a i).cal = s.cal := State.setReg_cal ..
@[simp] theorem State.setIntState_flt : (s.setIntState a i).flt = s.flt := State.setReg_flt ..
@[simp] theorem State.setIntState_ints : (s.setIntState a i).ints = s.ints := State.setReg_ints ..
@[simp] theorem State.setIntState_cas : (s.setIntState a i).cas = s.cas := State.setReg_cas ..
@[simp] theorem State.setIntState_att : (s.setIntState a i).att = s.att := State.setReg_att ..
@[simp] theorem State.setIntState_sec : (s.setIntState a i).sec = s.sec := State.setReg_sec ..
@[simp] theorem State.setIntState_ecc : (s.setIntState a i).ecc = s.ecc := State.setReg_ecc ..
@[simp] theorem State.setIntState_dmas : (s.setIntState a i).dmas = s.dmas := State.setReg_dmas ..
@[simp] theorem State.setIntState_dmaLast : (s.setIntState a i).dmaLast = s.dmaLast := State.setReg_dmaLast ..
@[simp] theorem State.setIntState_enc : (s.setIntState a i).enc = s.enc := State.setReg_enc ..
@[simp] theorem State.setIntState_ringq : (s.setIntState a i).ringq = s.ringq := State.setReg_ringq ..
@[simp] theorem State.setIntState_fst : (s.setIntState a i).fst = s.fst := State.setReg_fst ..
@[simp] theorem State.setIntState_ctxs : (s.setIntState a i).ctxs = s.ctxs := State.setReg_ctxs ..
@[simp] theorem State.setIntState_apr : (s.setIntState a i).apr = s.apr := State.setReg_apr ..
@[simp] theorem State.setIntState_bundle : (s.setIntState a i).bundle = s.bundle := State.setReg_bundle ..
@[simp] theorem State.setIntState_stns : (s.setIntState a i).stns = s.stns := State.setReg_stns ..
@[simp] theorem State.setIntState_mots : (s.setIntState a i).mots = s.mots := State.setReg_mots ..
@[simp] theorem State.setIntState_pgns : (s.setIntState a i).pgns = s.pgns := State.setReg_pgns ..
@[simp] theorem State.setIntState_stps : (s.setIntState a i).stps = s.stps := State.setReg_stps ..
@[simp] theorem State.setIntState_ctls : (s.setIntState a i).ctls = s.ctls := State.setReg_ctls ..
@[simp] theorem State.setIntState_hvos : (s.setIntState a i).hvos = s.hvos := State.setReg_hvos ..
@[simp] theorem State.setIntState_lups : (s.setIntState a i).lups = s.lups := State.setReg_lups ..
@[simp] theorem State.setIntState_htrs : (s.setIntState a i).htrs = s.htrs := State.setReg_htrs ..
@[simp] theorem State.setIntState_sched : (s.setIntState a i).sched = s.sched := State.setReg_sched ..
@[simp] theorem State.setIntState_mns : (s.setIntState a i).mns = s.mns := State.setReg_mns ..
@[simp] theorem State.setIntState_tmps : (s.setIntState a i).tmps = s.tmps := State.setReg_tmps ..

@[simp] theorem State.intEdge_pending : (s.intEdge a).pending = s.pending := State.setIntState_pending ..
@[simp] theorem State.intEdge_time : (s.intEdge a).time = s.time := State.setIntState_time ..
@[simp] theorem State.intEdge_timeFrac : (s.intEdge a).timeFrac = s.timeFrac := State.setIntState_timeFrac ..
@[simp] theorem State.intEdge_freeCtr : (s.intEdge a).freeCtr = s.freeCtr := State.setIntState_freeCtr ..
@[simp] theorem State.intEdge_latches : (s.intEdge a).latches = s.latches := State.setIntState_latches ..
@[simp] theorem State.intEdge_fresh : (s.intEdge a).fresh = s.fresh := State.setIntState_fresh ..
@[simp] theorem State.intEdge_lmem : (s.intEdge a).lmem = s.lmem := State.setIntState_lmem ..
@[simp] theorem State.intEdge_poison : (s.intEdge a).poison = s.poison := State.setIntState_poison ..
@[simp] theorem State.intEdge_hostMem : (s.intEdge a).hostMem = s.hostMem := State.setIntState_hostMem ..
@[simp] theorem State.intEdge_reply : (s.intEdge a).reply = s.reply := State.setIntState_reply ..
@[simp] theorem State.intEdge_emitted : (s.intEdge a).emitted = s.emitted := State.setIntState_emitted ..
@[simp] theorem State.intEdge_sys : (s.intEdge a).sys = s.sys := State.setIntState_sys ..
@[simp] theorem State.intEdge_balls : (s.intEdge a).balls = s.balls := State.setIntState_balls ..
@[simp] theorem State.intEdge_aon : (s.intEdge a).aon = s.aon := State.setIntState_aon ..
@[simp] theorem State.intEdge_rails : (s.intEdge a).rails = s.rails := State.setIntState_rails ..
@[simp] theorem State.intEdge_seq : (s.intEdge a).seq = s.seq := State.setIntState_seq ..
@[simp] theorem State.intEdge_feds : (s.intEdge a).feds = s.feds := State.setIntState_feds ..
@[simp] theorem State.intEdge_keep : (s.intEdge a).keep = s.keep := State.setIntState_keep ..
@[simp] theorem State.intEdge_cal : (s.intEdge a).cal = s.cal := State.setIntState_cal ..
@[simp] theorem State.intEdge_flt : (s.intEdge a).flt = s.flt := State.setIntState_flt ..
@[simp] theorem State.intEdge_ints : (s.intEdge a).ints = s.ints := State.setIntState_ints ..
@[simp] theorem State.intEdge_cas : (s.intEdge a).cas = s.cas := State.setIntState_cas ..
@[simp] theorem State.intEdge_att : (s.intEdge a).att = s.att := State.setIntState_att ..
@[simp] theorem State.intEdge_sec : (s.intEdge a).sec = s.sec := State.setIntState_sec ..
@[simp] theorem State.intEdge_ecc : (s.intEdge a).ecc = s.ecc := State.setIntState_ecc ..
@[simp] theorem State.intEdge_dmas : (s.intEdge a).dmas = s.dmas := State.setIntState_dmas ..
@[simp] theorem State.intEdge_dmaLast : (s.intEdge a).dmaLast = s.dmaLast := State.setIntState_dmaLast ..
@[simp] theorem State.intEdge_enc : (s.intEdge a).enc = s.enc := State.setIntState_enc ..
@[simp] theorem State.intEdge_ringq : (s.intEdge a).ringq = s.ringq := State.setIntState_ringq ..
@[simp] theorem State.intEdge_fst : (s.intEdge a).fst = s.fst := State.setIntState_fst ..
@[simp] theorem State.intEdge_ctxs : (s.intEdge a).ctxs = s.ctxs := State.setIntState_ctxs ..
@[simp] theorem State.intEdge_apr : (s.intEdge a).apr = s.apr := State.setIntState_apr ..
@[simp] theorem State.intEdge_bundle : (s.intEdge a).bundle = s.bundle := State.setIntState_bundle ..
@[simp] theorem State.intEdge_stns : (s.intEdge a).stns = s.stns := State.setIntState_stns ..
@[simp] theorem State.intEdge_mots : (s.intEdge a).mots = s.mots := State.setIntState_mots ..
@[simp] theorem State.intEdge_pgns : (s.intEdge a).pgns = s.pgns := State.setIntState_pgns ..
@[simp] theorem State.intEdge_stps : (s.intEdge a).stps = s.stps := State.setIntState_stps ..
@[simp] theorem State.intEdge_ctls : (s.intEdge a).ctls = s.ctls := State.setIntState_ctls ..
@[simp] theorem State.intEdge_hvos : (s.intEdge a).hvos = s.hvos := State.setIntState_hvos ..
@[simp] theorem State.intEdge_lups : (s.intEdge a).lups = s.lups := State.setIntState_lups ..
@[simp] theorem State.intEdge_htrs : (s.intEdge a).htrs = s.htrs := State.setIntState_htrs ..
@[simp] theorem State.intEdge_sched : (s.intEdge a).sched = s.sched := State.setIntState_sched ..
@[simp] theorem State.intEdge_mns : (s.intEdge a).mns = s.mns := State.setIntState_mns ..
@[simp] theorem State.intEdge_tmps : (s.intEdge a).tmps = s.tmps := State.setIntState_tmps ..

@[simp] theorem State.dropFault_pending : (s.dropFault n).pending = s.pending := rfl
@[simp] theorem State.dropFault_time : (s.dropFault n).time = s.time := rfl
@[simp] theorem State.dropFault_timeFrac : (s.dropFault n).timeFrac = s.timeFrac := rfl
@[simp] theorem State.dropFault_freeCtr : (s.dropFault n).freeCtr = s.freeCtr := rfl
@[simp] theorem State.dropFault_regs : (s.dropFault n).regs = s.regs := rfl
@[simp] theorem State.dropFault_latches : (s.dropFault n).latches = s.latches := rfl
@[simp] theorem State.dropFault_fresh : (s.dropFault n).fresh = s.fresh := rfl
@[simp] theorem State.dropFault_lmem : (s.dropFault n).lmem = s.lmem := rfl
@[simp] theorem State.dropFault_poison : (s.dropFault n).poison = s.poison := rfl
@[simp] theorem State.dropFault_hostMem : (s.dropFault n).hostMem = s.hostMem := rfl
@[simp] theorem State.dropFault_reply : (s.dropFault n).reply = s.reply := rfl
@[simp] theorem State.dropFault_emitted : (s.dropFault n).emitted = s.emitted := rfl
@[simp] theorem State.dropFault_sys : (s.dropFault n).sys = s.sys := rfl
@[simp] theorem State.dropFault_balls : (s.dropFault n).balls = s.balls := rfl
@[simp] theorem State.dropFault_aon : (s.dropFault n).aon = s.aon := rfl
@[simp] theorem State.dropFault_rails : (s.dropFault n).rails = s.rails := rfl
@[simp] theorem State.dropFault_seq : (s.dropFault n).seq = s.seq := rfl
@[simp] theorem State.dropFault_feds : (s.dropFault n).feds = s.feds := rfl
@[simp] theorem State.dropFault_keep : (s.dropFault n).keep = s.keep := rfl
@[simp] theorem State.dropFault_cal : (s.dropFault n).cal = s.cal := rfl
@[simp] theorem State.dropFault_ints : (s.dropFault n).ints = s.ints := rfl
@[simp] theorem State.dropFault_cas : (s.dropFault n).cas = s.cas := rfl
@[simp] theorem State.dropFault_att : (s.dropFault n).att = s.att := rfl
@[simp] theorem State.dropFault_sec : (s.dropFault n).sec = s.sec := rfl
@[simp] theorem State.dropFault_ecc : (s.dropFault n).ecc = s.ecc := rfl
@[simp] theorem State.dropFault_dmas : (s.dropFault n).dmas = s.dmas := rfl
@[simp] theorem State.dropFault_dmaLast : (s.dropFault n).dmaLast = s.dmaLast := rfl
@[simp] theorem State.dropFault_enc : (s.dropFault n).enc = s.enc := rfl
@[simp] theorem State.dropFault_ringq : (s.dropFault n).ringq = s.ringq := rfl
@[simp] theorem State.dropFault_fst : (s.dropFault n).fst = s.fst := rfl
@[simp] theorem State.dropFault_ctxs : (s.dropFault n).ctxs = s.ctxs := rfl
@[simp] theorem State.dropFault_apr : (s.dropFault n).apr = s.apr := rfl
@[simp] theorem State.dropFault_bundle : (s.dropFault n).bundle = s.bundle := rfl
@[simp] theorem State.dropFault_stns : (s.dropFault n).stns = s.stns := rfl
@[simp] theorem State.dropFault_mots : (s.dropFault n).mots = s.mots := rfl
@[simp] theorem State.dropFault_pgns : (s.dropFault n).pgns = s.pgns := rfl
@[simp] theorem State.dropFault_stps : (s.dropFault n).stps = s.stps := rfl
@[simp] theorem State.dropFault_ctls : (s.dropFault n).ctls = s.ctls := rfl
@[simp] theorem State.dropFault_hvos : (s.dropFault n).hvos = s.hvos := rfl
@[simp] theorem State.dropFault_lups : (s.dropFault n).lups = s.lups := rfl
@[simp] theorem State.dropFault_htrs : (s.dropFault n).htrs = s.htrs := rfl
@[simp] theorem State.dropFault_sched : (s.dropFault n).sched = s.sched := rfl
@[simp] theorem State.dropFault_mns : (s.dropFault n).mns = s.mns := rfl
@[simp] theorem State.dropFault_tmps : (s.dropFault n).tmps = s.tmps := rfl

@[simp] theorem State.emit_pending : (s.emit e).pending = s.pending := rfl
@[simp] theorem State.emit_time : (s.emit e).time = s.time := rfl
@[simp] theorem State.emit_timeFrac : (s.emit e).timeFrac = s.timeFrac := rfl
@[simp] theorem State.emit_freeCtr : (s.emit e).freeCtr = s.freeCtr := rfl
@[simp] theorem State.emit_regs : (s.emit e).regs = s.regs := rfl
@[simp] theorem State.emit_latches : (s.emit e).latches = s.latches := rfl
@[simp] theorem State.emit_fresh : (s.emit e).fresh = s.fresh := rfl
@[simp] theorem State.emit_lmem : (s.emit e).lmem = s.lmem := rfl
@[simp] theorem State.emit_poison : (s.emit e).poison = s.poison := rfl
@[simp] theorem State.emit_hostMem : (s.emit e).hostMem = s.hostMem := rfl
@[simp] theorem State.emit_reply : (s.emit e).reply = s.reply := rfl
@[simp] theorem State.emit_sys : (s.emit e).sys = s.sys := rfl
@[simp] theorem State.emit_balls : (s.emit e).balls = s.balls := rfl
@[simp] theorem State.emit_aon : (s.emit e).aon = s.aon := rfl
@[simp] theorem State.emit_rails : (s.emit e).rails = s.rails := rfl
@[simp] theorem State.emit_seq : (s.emit e).seq = s.seq := rfl
@[simp] theorem State.emit_feds : (s.emit e).feds = s.feds := rfl
@[simp] theorem State.emit_keep : (s.emit e).keep = s.keep := rfl
@[simp] theorem State.emit_cal : (s.emit e).cal = s.cal := rfl
@[simp] theorem State.emit_flt : (s.emit e).flt = s.flt := rfl
@[simp] theorem State.emit_ints : (s.emit e).ints = s.ints := rfl
@[simp] theorem State.emit_cas : (s.emit e).cas = s.cas := rfl
@[simp] theorem State.emit_att : (s.emit e).att = s.att := rfl
@[simp] theorem State.emit_sec : (s.emit e).sec = s.sec := rfl
@[simp] theorem State.emit_ecc : (s.emit e).ecc = s.ecc := rfl
@[simp] theorem State.emit_dmas : (s.emit e).dmas = s.dmas := rfl
@[simp] theorem State.emit_dmaLast : (s.emit e).dmaLast = s.dmaLast := rfl
@[simp] theorem State.emit_enc : (s.emit e).enc = s.enc := rfl
@[simp] theorem State.emit_ringq : (s.emit e).ringq = s.ringq := rfl
@[simp] theorem State.emit_fst : (s.emit e).fst = s.fst := rfl
@[simp] theorem State.emit_ctxs : (s.emit e).ctxs = s.ctxs := rfl
@[simp] theorem State.emit_apr : (s.emit e).apr = s.apr := rfl
@[simp] theorem State.emit_bundle : (s.emit e).bundle = s.bundle := rfl
@[simp] theorem State.emit_stns : (s.emit e).stns = s.stns := rfl
@[simp] theorem State.emit_mots : (s.emit e).mots = s.mots := rfl
@[simp] theorem State.emit_pgns : (s.emit e).pgns = s.pgns := rfl
@[simp] theorem State.emit_stps : (s.emit e).stps = s.stps := rfl
@[simp] theorem State.emit_ctls : (s.emit e).ctls = s.ctls := rfl
@[simp] theorem State.emit_hvos : (s.emit e).hvos = s.hvos := rfl
@[simp] theorem State.emit_lups : (s.emit e).lups = s.lups := rfl
@[simp] theorem State.emit_htrs : (s.emit e).htrs = s.htrs := rfl
@[simp] theorem State.emit_sched : (s.emit e).sched = s.sched := rfl
@[simp] theorem State.emit_mns : (s.emit e).mns = s.mns := rfl
@[simp] theorem State.emit_tmps : (s.emit e).tmps = s.tmps := rfl

@[simp] theorem State.finish_time : (s.finish t).time = t.time := rfl
@[simp] theorem State.finish_timeFrac : (s.finish t).timeFrac = t.timeFrac := rfl
@[simp] theorem State.finish_freeCtr : (s.finish t).freeCtr = t.freeCtr := rfl
@[simp] theorem State.finish_regs : (s.finish t).regs = t.regs := rfl
@[simp] theorem State.finish_latches : (s.finish t).latches = t.latches := rfl
@[simp] theorem State.finish_fresh : (s.finish t).fresh = t.fresh := rfl
@[simp] theorem State.finish_lmem : (s.finish t).lmem = t.lmem := rfl
@[simp] theorem State.finish_poison : (s.finish t).poison = t.poison := rfl
@[simp] theorem State.finish_hostMem : (s.finish t).hostMem = t.hostMem := rfl
@[simp] theorem State.finish_reply : (s.finish t).reply = t.reply := rfl
@[simp] theorem State.finish_emitted : (s.finish t).emitted = t.emitted := rfl
@[simp] theorem State.finish_sys : (s.finish t).sys = t.sys := rfl
@[simp] theorem State.finish_aon : (s.finish t).aon = t.aon := rfl
@[simp] theorem State.finish_rails : (s.finish t).rails = t.rails := rfl
@[simp] theorem State.finish_seq : (s.finish t).seq = t.seq := rfl
@[simp] theorem State.finish_feds : (s.finish t).feds = t.feds := rfl
@[simp] theorem State.finish_keep : (s.finish t).keep = t.keep := rfl
@[simp] theorem State.finish_cal : (s.finish t).cal = t.cal := rfl
@[simp] theorem State.finish_flt : (s.finish t).flt = t.flt := rfl
@[simp] theorem State.finish_ints : (s.finish t).ints = t.ints := rfl
@[simp] theorem State.finish_cas : (s.finish t).cas = t.cas := rfl
@[simp] theorem State.finish_att : (s.finish t).att = t.att := rfl
@[simp] theorem State.finish_sec : (s.finish t).sec = t.sec := rfl
@[simp] theorem State.finish_ecc : (s.finish t).ecc = t.ecc := rfl
@[simp] theorem State.finish_dmas : (s.finish t).dmas = t.dmas := rfl
@[simp] theorem State.finish_dmaLast : (s.finish t).dmaLast = t.dmaLast := rfl
@[simp] theorem State.finish_enc : (s.finish t).enc = t.enc := rfl
@[simp] theorem State.finish_ringq : (s.finish t).ringq = t.ringq := rfl
@[simp] theorem State.finish_fst : (s.finish t).fst = t.fst := rfl
@[simp] theorem State.finish_ctxs : (s.finish t).ctxs = t.ctxs := rfl
@[simp] theorem State.finish_apr : (s.finish t).apr = t.apr := rfl
@[simp] theorem State.finish_bundle : (s.finish t).bundle = t.bundle := rfl
@[simp] theorem State.finish_stns : (s.finish t).stns = t.stns := rfl
@[simp] theorem State.finish_mots : (s.finish t).mots = t.mots := rfl
@[simp] theorem State.finish_pgns : (s.finish t).pgns = t.pgns := rfl
@[simp] theorem State.finish_stps : (s.finish t).stps = t.stps := rfl
@[simp] theorem State.finish_ctls : (s.finish t).ctls = t.ctls := rfl
@[simp] theorem State.finish_hvos : (s.finish t).hvos = t.hvos := rfl
@[simp] theorem State.finish_lups : (s.finish t).lups = t.lups := rfl
@[simp] theorem State.finish_htrs : (s.finish t).htrs = t.htrs := rfl
@[simp] theorem State.finish_sched : (s.finish t).sched = t.sched := rfl
@[simp] theorem State.finish_mns : (s.finish t).mns = t.mns := rfl
@[simp] theorem State.finish_tmps : (s.finish t).tmps = t.tmps := rfl
@[simp] theorem State.finish_pending : (s.finish t).pending = s.pending := rfl

@[simp] theorem State.bump_pending : (s.bump f i).pending = s.pending := by unfold State.bump; split <;> simp
@[simp] theorem State.bump_time : (s.bump f i).time = s.time := by unfold State.bump; split <;> simp
@[simp] theorem State.bump_timeFrac : (s.bump f i).timeFrac = s.timeFrac := by unfold State.bump; split <;> simp
@[simp] theorem State.bump_freeCtr : (s.bump f i).freeCtr = s.freeCtr := by unfold State.bump; split <;> simp
@[simp] theorem State.bump_latches : (s.bump f i).latches = s.latches := by unfold State.bump; split <;> simp
@[simp] theorem State.bump_fresh : (s.bump f i).fresh = s.fresh := by unfold State.bump; split <;> simp
@[simp] theorem State.bump_lmem : (s.bump f i).lmem = s.lmem := by unfold State.bump; split <;> simp
@[simp] theorem State.bump_poison : (s.bump f i).poison = s.poison := by unfold State.bump; split <;> simp
@[simp] theorem State.bump_hostMem : (s.bump f i).hostMem = s.hostMem := by unfold State.bump; split <;> simp
@[simp] theorem State.bump_reply : (s.bump f i).reply = s.reply := by unfold State.bump; split <;> simp
@[simp] theorem State.bump_emitted : (s.bump f i).emitted = s.emitted := by unfold State.bump; split <;> simp
@[simp] theorem State.bump_sys : (s.bump f i).sys = s.sys := by unfold State.bump; split <;> simp
@[simp] theorem State.bump_balls : (s.bump f i).balls = s.balls := by unfold State.bump; split <;> simp
@[simp] theorem State.bump_aon : (s.bump f i).aon = s.aon := by unfold State.bump; split <;> simp
@[simp] theorem State.bump_rails : (s.bump f i).rails = s.rails := by unfold State.bump; split <;> simp
@[simp] theorem State.bump_seq : (s.bump f i).seq = s.seq := by unfold State.bump; split <;> simp
@[simp] theorem State.bump_feds : (s.bump f i).feds = s.feds := by unfold State.bump; split <;> simp
@[simp] theorem State.bump_keep : (s.bump f i).keep = s.keep := by unfold State.bump; split <;> simp
@[simp] theorem State.bump_cal : (s.bump f i).cal = s.cal := by unfold State.bump; split <;> simp
@[simp] theorem State.bump_flt : (s.bump f i).flt = s.flt := by unfold State.bump; split <;> simp
@[simp] theorem State.bump_ints : (s.bump f i).ints = s.ints := by unfold State.bump; split <;> simp
@[simp] theorem State.bump_cas : (s.bump f i).cas = s.cas := by unfold State.bump; split <;> simp
@[simp] theorem State.bump_att : (s.bump f i).att = s.att := by unfold State.bump; split <;> simp
@[simp] theorem State.bump_sec : (s.bump f i).sec = s.sec := by unfold State.bump; split <;> simp
@[simp] theorem State.bump_ecc : (s.bump f i).ecc = s.ecc := by unfold State.bump; split <;> simp
@[simp] theorem State.bump_dmas : (s.bump f i).dmas = s.dmas := by unfold State.bump; split <;> simp
@[simp] theorem State.bump_dmaLast : (s.bump f i).dmaLast = s.dmaLast := by unfold State.bump; split <;> simp
@[simp] theorem State.bump_enc : (s.bump f i).enc = s.enc := by unfold State.bump; split <;> simp
@[simp] theorem State.bump_ringq : (s.bump f i).ringq = s.ringq := by unfold State.bump; split <;> simp
@[simp] theorem State.bump_fst : (s.bump f i).fst = s.fst := by unfold State.bump; split <;> simp
@[simp] theorem State.bump_ctxs : (s.bump f i).ctxs = s.ctxs := by unfold State.bump; split <;> simp
@[simp] theorem State.bump_apr : (s.bump f i).apr = s.apr := by unfold State.bump; split <;> simp
@[simp] theorem State.bump_bundle : (s.bump f i).bundle = s.bundle := by unfold State.bump; split <;> simp
@[simp] theorem State.bump_stns : (s.bump f i).stns = s.stns := by unfold State.bump; split <;> simp
@[simp] theorem State.bump_mots : (s.bump f i).mots = s.mots := by unfold State.bump; split <;> simp
@[simp] theorem State.bump_pgns : (s.bump f i).pgns = s.pgns := by unfold State.bump; split <;> simp
@[simp] theorem State.bump_stps : (s.bump f i).stps = s.stps := by unfold State.bump; split <;> simp
@[simp] theorem State.bump_ctls : (s.bump f i).ctls = s.ctls := by unfold State.bump; split <;> simp
@[simp] theorem State.bump_hvos : (s.bump f i).hvos = s.hvos := by unfold State.bump; split <;> simp
@[simp] theorem State.bump_lups : (s.bump f i).lups = s.lups := by unfold State.bump; split <;> simp
@[simp] theorem State.bump_htrs : (s.bump f i).htrs = s.htrs := by unfold State.bump; split <;> simp
@[simp] theorem State.bump_sched : (s.bump f i).sched = s.sched := by unfold State.bump; split <;> simp
@[simp] theorem State.bump_mns : (s.bump f i).mns = s.mns := by unfold State.bump; split <;> simp
@[simp] theorem State.bump_tmps : (s.bump f i).tmps = s.tmps := by unfold State.bump; split <;> simp

@[simp] theorem State.raiseFault_pending : (s.raiseFault n).pending = s.pending := by unfold State.raiseFault; split <;> simp
@[simp] theorem State.raiseFault_time : (s.raiseFault n).time = s.time := by unfold State.raiseFault; split <;> simp
@[simp] theorem State.raiseFault_timeFrac : (s.raiseFault n).timeFrac = s.timeFrac := by unfold State.raiseFault; split <;> simp
@[simp] theorem State.raiseFault_freeCtr : (s.raiseFault n).freeCtr = s.freeCtr := by unfold State.raiseFault; split <;> simp
@[simp] theorem State.raiseFault_regs : (s.raiseFault n).regs = s.regs := by unfold State.raiseFault; split <;> simp
@[simp] theorem State.raiseFault_latches : (s.raiseFault n).latches = s.latches := by unfold State.raiseFault; split <;> simp
@[simp] theorem State.raiseFault_fresh : (s.raiseFault n).fresh = s.fresh := by unfold State.raiseFault; split <;> simp
@[simp] theorem State.raiseFault_lmem : (s.raiseFault n).lmem = s.lmem := by unfold State.raiseFault; split <;> simp
@[simp] theorem State.raiseFault_poison : (s.raiseFault n).poison = s.poison := by unfold State.raiseFault; split <;> simp
@[simp] theorem State.raiseFault_hostMem : (s.raiseFault n).hostMem = s.hostMem := by unfold State.raiseFault; split <;> simp
@[simp] theorem State.raiseFault_reply : (s.raiseFault n).reply = s.reply := by unfold State.raiseFault; split <;> simp
@[simp] theorem State.raiseFault_emitted : (s.raiseFault n).emitted = s.emitted := by unfold State.raiseFault; split <;> simp
@[simp] theorem State.raiseFault_sys : (s.raiseFault n).sys = s.sys := by unfold State.raiseFault; split <;> simp
@[simp] theorem State.raiseFault_balls : (s.raiseFault n).balls = s.balls := by unfold State.raiseFault; split <;> simp
@[simp] theorem State.raiseFault_aon : (s.raiseFault n).aon = s.aon := by unfold State.raiseFault; split <;> simp
@[simp] theorem State.raiseFault_rails : (s.raiseFault n).rails = s.rails := by unfold State.raiseFault; split <;> simp
@[simp] theorem State.raiseFault_seq : (s.raiseFault n).seq = s.seq := by unfold State.raiseFault; split <;> simp
@[simp] theorem State.raiseFault_feds : (s.raiseFault n).feds = s.feds := by unfold State.raiseFault; split <;> simp
@[simp] theorem State.raiseFault_keep : (s.raiseFault n).keep = s.keep := by unfold State.raiseFault; split <;> simp
@[simp] theorem State.raiseFault_cal : (s.raiseFault n).cal = s.cal := by unfold State.raiseFault; split <;> simp
@[simp] theorem State.raiseFault_ints : (s.raiseFault n).ints = s.ints := by unfold State.raiseFault; split <;> simp
@[simp] theorem State.raiseFault_cas : (s.raiseFault n).cas = s.cas := by unfold State.raiseFault; split <;> simp
@[simp] theorem State.raiseFault_att : (s.raiseFault n).att = s.att := by unfold State.raiseFault; split <;> simp
@[simp] theorem State.raiseFault_sec : (s.raiseFault n).sec = s.sec := by unfold State.raiseFault; split <;> simp
@[simp] theorem State.raiseFault_ecc : (s.raiseFault n).ecc = s.ecc := by unfold State.raiseFault; split <;> simp
@[simp] theorem State.raiseFault_dmas : (s.raiseFault n).dmas = s.dmas := by unfold State.raiseFault; split <;> simp
@[simp] theorem State.raiseFault_dmaLast : (s.raiseFault n).dmaLast = s.dmaLast := by unfold State.raiseFault; split <;> simp
@[simp] theorem State.raiseFault_enc : (s.raiseFault n).enc = s.enc := by unfold State.raiseFault; split <;> simp
@[simp] theorem State.raiseFault_ringq : (s.raiseFault n).ringq = s.ringq := by unfold State.raiseFault; split <;> simp
@[simp] theorem State.raiseFault_fst : (s.raiseFault n).fst = s.fst := by unfold State.raiseFault; split <;> simp
@[simp] theorem State.raiseFault_ctxs : (s.raiseFault n).ctxs = s.ctxs := by unfold State.raiseFault; split <;> simp
@[simp] theorem State.raiseFault_apr : (s.raiseFault n).apr = s.apr := by unfold State.raiseFault; split <;> simp
@[simp] theorem State.raiseFault_bundle : (s.raiseFault n).bundle = s.bundle := by unfold State.raiseFault; split <;> simp
@[simp] theorem State.raiseFault_stns : (s.raiseFault n).stns = s.stns := by unfold State.raiseFault; split <;> simp
@[simp] theorem State.raiseFault_mots : (s.raiseFault n).mots = s.mots := by unfold State.raiseFault; split <;> simp
@[simp] theorem State.raiseFault_pgns : (s.raiseFault n).pgns = s.pgns := by unfold State.raiseFault; split <;> simp
@[simp] theorem State.raiseFault_stps : (s.raiseFault n).stps = s.stps := by unfold State.raiseFault; split <;> simp
@[simp] theorem State.raiseFault_ctls : (s.raiseFault n).ctls = s.ctls := by unfold State.raiseFault; split <;> simp
@[simp] theorem State.raiseFault_hvos : (s.raiseFault n).hvos = s.hvos := by unfold State.raiseFault; split <;> simp
@[simp] theorem State.raiseFault_lups : (s.raiseFault n).lups = s.lups := by unfold State.raiseFault; split <;> simp
@[simp] theorem State.raiseFault_htrs : (s.raiseFault n).htrs = s.htrs := by unfold State.raiseFault; split <;> simp
@[simp] theorem State.raiseFault_sched : (s.raiseFault n).sched = s.sched := by unfold State.raiseFault; split <;> simp
@[simp] theorem State.raiseFault_mns : (s.raiseFault n).mns = s.mns := by unfold State.raiseFault; split <;> simp
@[simp] theorem State.raiseFault_tmps : (s.raiseFault n).tmps = s.tmps := by unfold State.raiseFault; split <;> simp

end Sys2Proof.Machine
end

