-- ==== Sys2Proof/Laws/Ops.lean ====
section
/-! SUPPORT. What the named operations do: reads after writes of registers and fields, the end of a command, and a host
write at its page. -/

namespace Sys2Proof.Machine

/-! ### Bits -/

theorem bits_lt (v lo len : Nat) : bits v lo len < 2 ^ len := Nat.mod_lt _ (by positivity)

/-- A word with a field replaced, as a number: what stands above the field, the new value, what stands below. -/
theorem toNat_putBits (w : Word) (lo len v : Nat) (h : lo + len ≤ 32) :
    (putBits w lo len v).toNat =
      w.toNat / 2 ^ (lo + len) * 2 ^ (lo + len) + v % 2 ^ len * 2 ^ lo + w.toNat % 2 ^ lo := by
  have hw : w.toNat < 2 ^ 32 := w.isLt
  have e1 : w.toNat = w.toNat / 2 ^ lo * 2 ^ lo + w.toNat % 2 ^ lo := by
    rw [Nat.mul_comm]; exact (Nat.div_add_mod _ _).symm
  have e2 : w.toNat / 2 ^ lo = w.toNat / 2 ^ lo / 2 ^ len * 2 ^ len + w.toNat / 2 ^ lo % 2 ^ len := by
    rw [Nat.mul_comm]; exact (Nat.div_add_mod _ _).symm
  have e3 : w.toNat / 2 ^ (lo + len) = w.toNat / 2 ^ lo / 2 ^ len := by rw [Nat.pow_add, Nat.div_div_eq_div_mul]
  have e4 : w.toNat = w.toNat / 2 ^ (lo + len) * 2 ^ (lo + len) + bits w.toNat lo len * 2 ^ lo + w.toNat % 2 ^ lo := by
    unfold bits
    rw [e3, Nat.pow_add, Nat.mul_comm (2 ^ lo) (2 ^ len), ← Nat.mul_assoc, ← Nat.add_mul, ← e2]
    exact e1
  have hval : w.toNat - bits w.toNat lo len * 2 ^ lo + v % 2 ^ len * 2 ^ lo
      = w.toNat / 2 ^ (lo + len) * 2 ^ (lo + len) + v % 2 ^ len * 2 ^ lo + w.toNat % 2 ^ lo := by omega
  have hq : w.toNat / 2 ^ (lo + len) < 2 ^ (32 - (lo + len)) := by
    rw [Nat.div_lt_iff_lt_mul (by positivity), ← Nat.pow_add]
    have : 32 - (lo + len) + (lo + len) = 32 := by omega
    rw [this]; exact hw
  have hm : v % 2 ^ len * 2 ^ lo + w.toNat % 2 ^ lo < 2 ^ (lo + len) := by
    have h1 : v % 2 ^ len < 2 ^ len := Nat.mod_lt _ (by positivity)
    have h2 : w.toNat % 2 ^ lo < 2 ^ lo := Nat.mod_lt _ (by positivity)
    have h3 : (v % 2 ^ len + 1) * 2 ^ lo ≤ 2 ^ len * 2 ^ lo := Nat.mul_le_mul_right _ h1
    rw [Nat.pow_add, Nat.mul_comm (2 ^ lo)]
    have h4 : (v % 2 ^ len + 1) * 2 ^ lo = v % 2 ^ len * 2 ^ lo + 2 ^ lo := by ring
    omega
  have hlt : w.toNat / 2 ^ (lo + len) * 2 ^ (lo + len) + v % 2 ^ len * 2 ^ lo + w.toNat % 2 ^ lo < 2 ^ 32 := by
    have h5 : (w.toNat / 2 ^ (lo + len) + 1) * 2 ^ (lo + len) ≤ 2 ^ (32 - (lo + len)) * 2 ^ (lo + len) :=
      Nat.mul_le_mul_right _ hq
    rw [← Nat.pow_add, show 32 - (lo + len) + (lo + len) = 32 by omega] at h5
    have h6 : (w.toNat / 2 ^ (lo + len) + 1) * 2 ^ (lo + len)
        = w.toNat / 2 ^ (lo + len) * 2 ^ (lo + len) + 2 ^ (lo + len) := by ring
    omega
  unfold putBits
  rw [BitVec.toNat_ofNat, hval, Nat.mod_eq_of_lt hlt]

/-- A field read back after it is put. -/
theorem bits_putBits_same (w : Word) (lo len v : Nat) (h : lo + len ≤ 32) :
    bits (putBits w lo len v).toNat lo len = v % 2 ^ len := by
  have h1 : (putBits w lo len v).toNat
      = 2 ^ lo * (w.toNat / 2 ^ (lo + len) * 2 ^ len + v % 2 ^ len) + w.toNat % 2 ^ lo := by
    rw [toNat_putBits w lo len v h, Nat.pow_add]; ring
  have h2 : w.toNat % 2 ^ lo < 2 ^ lo := Nat.mod_lt _ (by positivity)
  unfold bits
  rw [h1, Nat.mul_add_div (by positivity), Nat.div_eq_of_lt h2, Nat.add_zero, Nat.add_comm,
    Nat.add_mul_mod_self_right, Nat.mod_mod]

/-- A field below the one that is put. -/
theorem bits_putBits_below (w : Word) (lo len v lo' len' : Nat) (h : lo + len ≤ 32) (hd : lo' + len' ≤ lo) :
    bits (putBits w lo len v).toNat lo' len' = bits w.toNat lo' len' := by
  have key : ∀ q : Nat, ∀ z, bits (q * 2 ^ lo + z) lo' len' = bits z lo' len' := by
    intro q z
    unfold bits
    have : q * 2 ^ lo + z = 2 ^ lo' * (q * 2 ^ (lo - lo')) + z := by
      rw [show lo = lo' + (lo - lo') by omega, Nat.pow_add]; simp only [Nat.add_sub_cancel_left]; ring
    rw [this, Nat.mul_add_div (by positivity)]
    have h3 : q * 2 ^ (lo - lo') = q * 2 ^ (lo - lo' - len') * 2 ^ len' := by
      rw [Nat.mul_assoc, ← Nat.pow_add, show lo - lo' - len' + len' = lo - lo' by omega]
    rw [h3, Nat.add_comm, Nat.add_mul_mod_self_right]
  have h1 : (putBits w lo len v).toNat
      = (w.toNat / 2 ^ (lo + len) * 2 ^ len + v % 2 ^ len) * 2 ^ lo + w.toNat % 2 ^ lo := by
    rw [toNat_putBits w lo len v h, Nat.pow_add]; ring
  have h2 : w.toNat = w.toNat / 2 ^ lo * 2 ^ lo + w.toNat % 2 ^ lo := by
    rw [Nat.mul_comm]; exact (Nat.div_add_mod _ _).symm
  rw [h1, key]
  conv_rhs => rw [h2, key]

/-- A field above the one that is put. -/
theorem bits_putBits_above (w : Word) (lo len v lo' len' : Nat) (h : lo + len ≤ 32) (hd : lo + len ≤ lo') :
    bits (putBits w lo len v).toNat lo' len' = bits w.toNat lo' len' := by
  have h1 : v % 2 ^ len * 2 ^ lo + w.toNat % 2 ^ lo < 2 ^ (lo + len) := by
    have h1 : v % 2 ^ len < 2 ^ len := Nat.mod_lt _ (by positivity)
    have h2 : w.toNat % 2 ^ lo < 2 ^ lo := Nat.mod_lt _ (by positivity)
    have h3 : (v % 2 ^ len + 1) * 2 ^ lo ≤ 2 ^ len * 2 ^ lo := Nat.mul_le_mul_right _ h1
    rw [Nat.pow_add, Nat.mul_comm (2 ^ lo)]
    have h4 : (v % 2 ^ len + 1) * 2 ^ lo = v % 2 ^ len * 2 ^ lo + 2 ^ lo := by ring
    omega
  have key : ∀ z, z < 2 ^ (lo + len) → ∀ q, (q * 2 ^ (lo + len) + z) / 2 ^ lo' = q / 2 ^ (lo' - (lo + len)) := by
    intro z hz q
    have e : 2 ^ lo' = 2 ^ (lo + len) * 2 ^ (lo' - (lo + len)) := by
      rw [← Nat.pow_add, show lo + len + (lo' - (lo + len)) = lo' by omega]
    rw [e, ← Nat.div_div_eq_div_mul, Nat.mul_comm q, Nat.mul_add_div (by positivity), Nat.div_eq_of_lt hz, Nat.add_zero]
  unfold bits
  rw [toNat_putBits w lo len v h, Nat.add_assoc, key _ h1]
  conv_rhs => rw [← Nat.div_add_mod w.toNat (2 ^ (lo + len)), Nat.mul_comm, key _ (Nat.mod_lt _ (by positivity))]

/-! ### Registers -/

/-- A register read back after it is set. -/
@[simp] theorem State.reg_setReg_same (s : State) (a : Nat) (v : Word) : (s.setReg a v).reg a = v :=
  Sparse.get_set_same _ _ _ _

/-- Setting a register leaves every other one alone. -/
theorem State.reg_setReg_ne (s : State) (a b : Nat) (v : Word) (h : b ≠ a) : (s.setReg a v).reg b = s.reg b :=
  Sparse.get_set_ne _ _ _ _ _ h

/-- Which register a read gives after one is set. -/
theorem State.reg_setReg (s : State) (a b : Nat) (v : Word) : (s.setReg a v).reg b = if b = a then v else s.reg b := by
  by_cases h : b = a
  · subst h; simp
  · simp [h, State.reg_setReg_ne]

/-- Registers are all a read of one looks at. -/
theorem State.reg_congr {s t : State} (h : s.regs = t.regs) (a : Nat) : s.reg a = t.reg a := by
  unfold State.reg; rw [h]

@[simp] theorem State.finish_reg (s t : State) (a : Nat) : (s.finish t).reg a = t.reg a := rfl
@[simp] theorem State.finish_fld (s t : State) (f : Field) (i : Nat) : (s.finish t).fld f i = t.fld f i := rfl
@[simp] theorem State.finish_flag (s t : State) (f : Field) (i : Nat) : (s.finish t).flag f i = t.flag f i := rfl
@[simp] theorem State.finish_domOn (s t : State) (d : Dom) : (s.finish t).domOn d = t.domOn d := rfl
@[simp] theorem State.finish_lmemByte (s t : State) (a : Nat) : (s.finish t).lmemByte a = t.lmemByte a := rfl
@[simp] theorem State.emit_reg (s : State) (e : Emit) (a : Nat) : (s.emit e).reg a = s.reg a := rfl
@[simp] theorem State.dropFault_reg (s : State) (n a : Nat) : (s.dropFault n).reg a = s.reg a := rfl
@[simp] theorem State.raiseFault_reg (s : State) (n a : Nat) : (s.raiseFault n).reg a = s.reg a := by
  unfold State.raiseFault; split <;> rfl
@[simp] theorem State.emit_fld (s : State) (e : Emit) (f : Field) (i : Nat) : (s.emit e).fld f i = s.fld f i := rfl
@[simp] theorem State.raiseFault_fld (s : State) (n : Nat) (f : Field) (i : Nat) :
    (s.raiseFault n).fld f i = s.fld f i := by
  unfold State.fld; simp

/-- A fault source that is raised is in the collector's list of pairs. -/
@[simp] theorem State.raiseFault_mem (s : State) (n : Nat) : n ∈ (s.raiseFault n).flt.pair := by
  unfold State.raiseFault; split <;> simp_all

/-- A field read back after it is set. -/
theorem State.fld_setFld_same (s : State) (f : Field) (i v : Nat) (h : f.lo + f.len ≤ 32) :
    (s.setFld f i v).fld f i = v % 2 ^ f.len := by
  unfold State.fld State.setFld
  rw [State.reg_setReg_same, bits_putBits_same _ _ _ _ h]

/-- A field of another register is left alone. -/
theorem State.fld_setFld_addr (s : State) (f g : Field) (i j v : Nat) (h : g.addr j ≠ f.addr i) :
    (s.setFld f i v).fld g j = s.fld g j := by
  unfold State.fld State.setFld
  rw [State.reg_setReg_ne _ _ _ _ h]

/-- A field of the same register that shares no bit is left alone. -/
theorem State.fld_setFld_bits (s : State) (f g : Field) (i j v : Nat) (h : f.lo + f.len ≤ 32)
    (hd : g.lo + g.len ≤ f.lo ∨ f.lo + f.len ≤ g.lo) : (s.setFld f i v).fld g j = s.fld g j := by
  by_cases ha : g.addr j = f.addr i
  · unfold State.fld State.setFld
    rw [ha, State.reg_setReg_same]
    rcases hd with hd | hd
    · exact bits_putBits_below _ _ _ _ _ _ h hd
    · exact bits_putBits_above _ _ _ _ _ _ h hd
  · exact State.fld_setFld_addr s f g i j v ha

theorem State.reg_setFld_ne (s : State) (f : Field) (i v b : Nat) (h : b ≠ f.addr i) :
    (s.setFld f i v).reg b = s.reg b := State.reg_setReg_ne _ _ _ _ h

theorem State.reg_setFlag_ne (s : State) (f : Field) (i b : Nat) (x : Bool) (h : b ≠ f.addr i) :
    (s.setFlag f i x).reg b = s.reg b := State.reg_setReg_ne _ _ _ _ h

/-- Registers read the same whatever else of the state changes. -/
theorem State.reg_hwSet (s : State) (a b : Nat) (m : Word) :
    (s.hwSet a m).reg b = (s.setReg a (s.reg a ||| m)).reg b := rfl

theorem State.reg_event_ne (s : State) (blk inst n b : Nat) (h : b ≠ regAddr blk inst 0x010) :
    (s.event blk inst n).reg b = s.reg b := by
  unfold State.event
  rw [State.reg_hwSet, State.reg_setReg_ne _ _ _ _ h]

theorem State.reg_bump_ne (s : State) (f : Field) (i b : Nat) (h : b ≠ f.addr i) : (s.bump f i).reg b = s.reg b := by
  unfold State.bump; split
  · exact State.reg_setFld_ne _ _ _ _ _ h
  · rfl

/-- Bit `n` of a number as testBit shows it. -/
theorem bit_eq_testBit (v n : Nat) : bit v n = v.testBit n := by
  simp only [bit, bits, Nat.testBit_eq_decide_div_mod_eq, pow_one]
  rcases Nat.mod_two_eq_zero_or_one (v / 2 ^ n) with h | h <;> simp [h]

/-- An event's bit reads 1 once it is raised. -/
theorem State.event_bit (s : State) (blk inst n : Nat) (h : n < 32) :
    bit ((s.event blk inst n).reg (regAddr blk inst 0x010)).toNat n = true := by
  unfold State.event
  rw [State.reg_hwSet, State.reg_setReg_same, bit_eq_testBit, BitVec.toNat_or, Nat.testBit_or, BitVec.toNat_ofNat,
    Nat.testBit_mod_two_pow]
  simp [h, Nat.testBit_two_pow_self]

/-! ### Interrupt sources -/

theorem State.intState_lt (s : State) (src : Nat) : s.intState src < 4 := bits_lt _ _ _

/-- A source's state read back after it is set. -/
theorem State.intState_setIntState_same (s : State) (src v : Nat) (h : v < 4) :
    (s.setIntState src v).intState src = v := by
  have e : (s.setIntState src v).reg (intSrcAddr src) = putBits (s.reg (intSrcAddr src)) 16 2 v :=
    State.reg_setReg_same _ _ _
  unfold State.intState
  rw [e, bits_putBits_same _ _ _ _ (by omega)]; omega

theorem State.reg_setIntState_ne (s : State) (src v a : Nat) (h : a ≠ intSrcAddr src) :
    (s.setIntState src v).reg a = s.reg a := State.reg_setReg_ne _ _ _ _ h

theorem State.intState_setIntState_ne (s : State) (src m v : Nat) (h : intSrcAddr m ≠ intSrcAddr src) :
    (s.setIntState src v).intState m = s.intState m := by
  have e := State.reg_setIntState_ne s src v _ h
  unfold State.intState; rw [e]

/-- Every source has a register of its own. -/
theorem intSrcAddr_inj {m n : Nat} (h : intSrcAddr m = intSrcAddr n) : m = n := by
  simp only [intSrcAddr, Field.addr, regAddr, Field.at] at h
  omega

/-! ### A host write at its page -/

/-- In LOCKDOWN a write is discarded and counted with cause 8 (R24, R361). -/
theorem State.onPage_lockdown (s : State) (blk inst off : Nat) (f : State → State) (h : s.sys.mode = .lockdown) :
    s.onPage blk inst off f = s.accErr 8 0 true 0 (regAddr blk inst off) := by simp [State.onPage, h]

/-- At an existing page that is on, outside LOCKDOWN, a register that PAGE_LOCK does not guard takes the write. -/
theorem State.onPage_taken (s : State) (blk inst off : Nat) (f : State → State) (h : s.sys.mode ≠ .lockdown)
    (hp : pageExists blk inst = true) (ho : s.pageOn blk inst = true) (hl : ∀ r i, rowAt blk inst off = some (r, i) →
      (r.lock && blk != B.CTL && s.flag (H.PAGE_LOCK_LOCK blk) inst) = false) :
    s.onPage blk inst off f = f s := by
  unfold State.onPage
  simp only [h, hp, ho, if_false, Bool.not_true, Bool.false_eq_true]
  split
  · rename_i r i hr; rw [hl r i hr]; simp
  · rfl

/-- Is the register at a page offset one that PAGE_LOCK guards? -/
def rowLocked (blk inst off : Nat) : Bool :=
  match rowAt blk inst off with
  | some (r, _) => r.lock
  | none => false

/-- A host write that arrives at a page, of a register that PAGE_LOCK does not guard, has its effect. -/
theorem State.onPage_open (s : State) (blk inst off : Nat) (f : State → State) (hm : s.sys.mode ≠ .lockdown)
    (hp : pageExists blk inst = true) (ho : s.pageOn blk inst = true) (hl : rowLocked blk inst off = false) :
    s.onPage blk inst off f = f s := by
  refine State.onPage_taken s blk inst off f hm hp ho ?_
  intro r i hr
  simp only [rowLocked, hr] at hl
  simp [hl]

/-- The same for a guarded register of a page that is not locked. -/
theorem State.onPage_unlocked (s : State) (blk inst off : Nat) (f : State → State) (hm : s.sys.mode ≠ .lockdown)
    (hp : pageExists blk inst = true) (ho : s.pageOn blk inst = true)
    (hl : s.flag (H.PAGE_LOCK_LOCK blk) inst = false) : s.onPage blk inst off f = f s :=
  State.onPage_taken s blk inst off f hm hp ho (fun r i _ => by simp [hl])

end Sys2Proof.Machine
end

