-- ==== Sys2Proof/Laws/PerInstr.lean ====
section
/-! SUPPORT. The family InstanceBounds: a well-formed command has every bounded operand within its bound. -/

namespace Sys2Proof.Laws.InstanceBounds

/-- What the family says of a command. -/
def Statement (i : Instr) : Prop := i.wf = true → ∀ b ∈ i.bounds, b.1 < b.2

theorem of_wf (i : Instr) : Statement i := fun h b hb => of_decide_eq_true (List.all_eq_true.mp h b hb)

theorem hostRegWrite (addr : Nat) (be : BitVec 4) (ep : Bool) (v : Word) (hi : Option (BitVec 4 × Word)) : Statement (.hostRegWrite addr be ep v hi) := of_wf _
theorem counterLowRead (path : Path) (addr : Nat) (sz : Size) : Statement (.counterLowRead path addr sz) := of_wf _
theorem counterHighRead (path : Path) (addr : Nat) (sz : Size) : Statement (.counterHighRead path addr sz) := of_wf _
theorem prismWrite (blk inst off : Nat) (v : Word) : Statement (.prismWrite blk inst off v) := of_wf _
theorem prismRead (path : Path) (blk inst off : Nat) (sz : Size) : Statement (.prismRead path blk inst off sz) := of_wf _
theorem evtForceWrite (blk inst : Nat) (v : Word) : Statement (.evtForceWrite blk inst v) := of_wf _
theorem blkRst (blk inst : Nat) (en : Bool) : Statement (.blkRst blk inst en) := of_wf _
theorem blockResetDone (blk inst : Nat) : Statement (.blockResetDone blk inst) := of_wf _
theorem pageDisable (blk inst : Nat) : Statement (.pageDisable blk inst) := of_wf _
theorem pageEnable (blk inst : Nat) : Statement (.pageEnable blk inst) := of_wf _
theorem pageLock (blk inst : Nat) : Statement (.pageLock blk inst) := of_wf _
theorem pageGroupWrite (blk inst : Nat) (v : Word) : Statement (.pageGroupWrite blk inst v) := of_wf _
theorem modeReqCancel : Statement .modeReqCancel := of_wf _
theorem modeReqHibernate : Statement .modeReqHibernate := of_wf _
theorem modeReqIdle : Statement .modeReqIdle := of_wf _
theorem modeReqWarmup : Statement .modeReqWarmup := of_wf _
theorem modeReqDrain : Statement .modeReqDrain := of_wf _
theorem modeReqCalibrate : Statement .modeReqCalibrate := of_wf _
theorem modeReqSafehold : Statement .modeReqSafehold := of_wf _
theorem modeReqInvalid (target : Nat) : Statement (.modeReqInvalid target) := of_wf _
theorem modeChangeComplete : Statement .modeChangeComplete := of_wf _
theorem domainSwitch : Statement .domainSwitch := of_wf _
theorem warmupComplete : Statement .warmupComplete := of_wf _
theorem vstbyValid (mains : Bool) (straps : Straps) : Statement (.vstbyValid mains straps) := of_wf _
theorem vstbyLost : Statement .vstbyLost := of_wf _
theorem mainSuppliesValid (straps : Straps) : Statement (.mainSuppliesValid straps) := of_wf _
theorem mainSuppliesLost (low : Nat) : Statement (.mainSuppliesLost low) := of_wf _
theorem hibWake : Statement .hibWake := of_wf _
theorem bootExit : Statement .bootExit := of_wf _
theorem ringTailWrite (r v : Nat) : Statement (.ringTailWrite r v) := of_wf _
theorem ringHeadWrite (r v : Nat) : Statement (.ringHeadWrite r v) := of_wf _
theorem ringCtrlWrite (r : Nat) (v : Word) : Statement (.ringCtrlWrite r v) := of_wf _
theorem stage (errs : List CwErr) : Statement (.stage errs) := of_wf _
theorem restage (errs : List CwErr) : Statement (.restage errs) := of_wf _
theorem abort (errs : List CwErr) : Statement (.abort errs) := of_wf _
theorem release (errs : List CwErr) : Statement (.release errs) := of_wf _
theorem aprStnStopClear (v : Word) : Statement (.aprStnStopClear v) := of_wf _
theorem frameFused : Statement .frameFused := of_wf _
theorem frameDelivered : Statement .frameDelivered := of_wf _
theorem eventQueueDrain : Statement .eventQueueDrain := of_wf _
theorem receiptTimeout : Statement .receiptTimeout := of_wf _
theorem post (errs : List CwErr) : Statement (.post errs) := of_wf _
theorem drop (errs : List CwErr) : Statement (.drop errs) := of_wf _
theorem indexOpenDone (errs : List CwErr) : Statement (.indexOpenDone errs) := of_wf _
theorem poisonMark : Statement .poisonMark := of_wf _
theorem poisonHandover : Statement .poisonHandover := of_wf _
theorem decBandDelivered (n : Nat) (errs : List CwErr) : Statement (.decBandDelivered n errs) := of_wf _
theorem decBandLate (n : Nat) : Statement (.decBandLate n) := of_wf _
theorem encStart : Statement .encStart := of_wf _
theorem encSave : Statement .encSave := of_wf _
theorem encRestore (errs : List CwErr) : Statement (.encRestore errs) := of_wf _
theorem encAbort : Statement .encAbort := of_wf _
theorem encBandDone : Statement .encBandDone := of_wf _
theorem encLoupeJob (b : Nat) : Statement (.encLoupeJob b) := of_wf _
theorem facetBoundary (n : Nat) : Statement (.facetBoundary n) := of_wf _
theorem speedHoldClear (n : Nat) (v : Word) : Statement (.speedHoldClear n v) := of_wf _
theorem corLoad (n : Nat) : Statement (.corLoad n) := of_wf _
theorem corLoadDone (n : Nat) (errs : List CwErr) : Statement (.corLoadDone n errs) := of_wf _
theorem bdEdge (n frac : Nat) (rising : Bool) (width : Nat) : Statement (.bdEdge n frac rising width) := of_wf _
theorem bdWindowClose (n : Nat) : Statement (.bdWindowClose n) := of_wf _
theorem synLock (n : Nat) : Statement (.synLock n) := of_wf _
theorem synUnlock (n : Nat) : Statement (.synUnlock n) := of_wf _
theorem dllLock (n : Nat) : Statement (.dllLock n) := of_wf _
theorem dllUnlock (n : Nat) : Statement (.dllUnlock n) := of_wf _
theorem classChangeStart (n : Nat) : Statement (.classChangeStart n) := of_wf _
theorem relockDeadline (n : Nat) : Statement (.relockDeadline n) := of_wf _
theorem facetPacketSend (n : Nat) : Statement (.facetPacketSend n) := of_wf _
theorem keepTimer (n : Nat) : Statement (.keepTimer n) := of_wf _
theorem bcStatus (n flags seq lanes : Nat) : Statement (.bcStatus n flags seq lanes) := of_wf _
theorem bcTemp (n idx : Nat) (temp : BitVec 16) : Statement (.bcTemp n idx temp) := of_wf _
theorem bcApc (n e ps power : Nat) : Statement (.bcApc n e ps power) := of_wf _
theorem bcIddata (n addr : Nat) (w : Word) : Statement (.bcIddata n addr w) := of_wf _
theorem bcIdle (n : Nat) : Statement (.bcIdle n) := of_wf _
theorem bcBadBlock (n : Nat) (crc : Bool) : Statement (.bcBadBlock n crc) := of_wf _
theorem bcloss (n : Nat) : Statement (.bcloss n) := of_wf _
theorem blnEnable (n : Nat) : Statement (.blnEnable n) := of_wf _
theorem blnDisable (n : Nat) : Statement (.blnDisable n) := of_wf _
theorem blnRetrain (n : Nat) : Statement (.blnRetrain n) := of_wf _
theorem blnAutoRetrain (n : Nat) : Statement (.blnAutoRetrain n) := of_wf _
theorem blnIdread (n : Nat) : Statement (.blnIdread n) := of_wf _
theorem idAck (n : Nat) : Statement (.idAck n) := of_wf _
theorem trainDone (n : Nat) : Statement (.trainDone n) := of_wf _
theorem trainTimeout (n : Nat) : Statement (.trainTimeout n) := of_wf _
theorem idreadDone (n : Nat) : Statement (.idreadDone n) := of_wf _
theorem idreadTimeout (n : Nat) : Statement (.idreadTimeout n) := of_wf _
theorem secProvision (tap : Bool) : Statement (.secProvision tap) := of_wf _
theorem secCommission (tap : Bool) : Statement (.secCommission tap) := of_wf _
theorem secReturn (tap : Bool) : Statement (.secReturn tap) := of_wf _
theorem secReprovision (tap : Bool) : Statement (.secReprovision tap) := of_wf _
theorem secOpen (tap : Bool) : Statement (.secOpen tap) := of_wf _
theorem secNonce (tap : Bool) : Statement (.secNonce tap) := of_wf _
theorem secBadop (tap : Bool) : Statement (.secBadop tap) := of_wf _
theorem nonceExpire : Statement .nonceExpire := of_wf _
theorem bundlePush : Statement .bundlePush := of_wf _
theorem bundleLoadDone (flash : Option (List Byte)) (errs : List CwErr) (sfdp : BitVec 16) : Statement (.bundleLoadDone flash errs sfdp) := of_wf _
theorem stationRootFinal (c n : Nat) : Statement (.stationRootFinal c n) := of_wf _
theorem receiptWrite : Statement .receiptWrite := of_wf _
theorem ckptDone (ok : Bool) : Statement (.ckptDone ok) := of_wf _
theorem drbgHealthFail : Statement .drbgHealthFail := of_wf _
theorem signRetryTimeout : Statement .signRetryTimeout := of_wf _
theorem tapReset : Statement .tapReset := of_wf _
theorem tapBypass : Statement .tapBypass := of_wf _
theorem idcode : Statement .idcode := of_wf _
theorem samplePreload : Statement .samplePreload := of_wf _
theorem extest : Statement .extest := of_wf _
theorem extestPulse : Statement .extestPulse := of_wf _
theorem extestTrain : Statement .extestTrain := of_wf _
theorem secacc (write : Bool) (addr : Nat) (v : Word) : Statement (.secacc write addr v) := of_wf _
theorem scan : Statement .scan := of_wf _
theorem dbgWinRead : Statement .dbgWinRead := of_wf _
theorem dbgWinWrite (v : Word) (tap : Bool) : Statement (.dbgWinWrite v tap) := of_wf _
theorem motRun (m : Nat) : Statement (.motRun m) := of_wf _
theorem motStop (m : Nat) : Statement (.motStop m) := of_wf _
theorem motRelease (m : Nat) : Statement (.motRelease m) := of_wf _
theorem motBrake (m : Nat) : Statement (.motBrake m) := of_wf _
theorem motCatchDecide (m : Nat) (speed duty : Int) : Statement (.motCatchDecide m speed duty) := of_wf _
theorem motCatchTimeout (m : Nat) (still : Bool) : Statement (.motCatchTimeout m still) := of_wf _
theorem motLowSpeed (m : Nat) : Statement (.motLowSpeed m) := of_wf _
theorem motAlignDone (m : Nat) : Statement (.motAlignDone m) := of_wf _
theorem motBemfCrossing (m half : Nat) (order : Bool) : Statement (.motBemfCrossing m half order) := of_wf _
theorem motOlTimeout (m : Nat) : Statement (.motOlTimeout m) := of_wf _
theorem motObserverLoss (m : Nat) : Statement (.motObserverLoss m) := of_wf _
theorem motCoastTimeout (m : Nat) : Statement (.motCoastTimeout m) := of_wf _
theorem motFltInput (m : Nat) : Statement (.motFltInput m) := of_wf _
theorem motEncError (m : Nat) : Statement (.motEncError m) := of_wf _
theorem stpOff (m : Nat) : Statement (.stpOff m) := of_wf _
theorem stpEnable (m : Nat) : Statement (.stpEnable m) := of_wf _
theorem stpHome (m : Nat) : Statement (.stpHome m) := of_wf _
theorem stpCmdDiscard (m : Nat) : Statement (.stpCmdDiscard m) := of_wf _
theorem stpClr (m : Nat) : Statement (.stpClr m) := of_wf _
theorem stpSwitchChange (m w : Nat) (level : Bool) (edge : Nat) (earlier : List Nat) : Statement (.stpSwitchChange m w level edge earlier) := of_wf _
theorem stpStandstill (m : Nat) : Statement (.stpStandstill m) := of_wf _
theorem stpCoilFault (m : Nat) : Statement (.stpCoilFault m) := of_wf _
theorem pgnGo (g : Nat) : Statement (.pgnGo g) := of_wf _
theorem pgnStop (g : Nat) : Statement (.pgnStop g) := of_wf _
theorem pgnPreset (g : Nat) : Statement (.pgnPreset g) := of_wf _
theorem pgnVtgtWrite (g : Nat) (v : Word) : Statement (.pgnVtgtWrite g v) := of_wf _
theorem pgnMoveDone (g : Nat) : Statement (.pgnMoveDone g) := of_wf _
theorem pgnCapture (g : Nat) (rising : Bool) (ago : Nat) : Statement (.pgnCapture g rising ago) := of_wf _
theorem ctlSample (n : Nat) (aR aY aF : Int) (lat : Nat) : Statement (.ctlSample n aR aY aF lat) := of_wf _
theorem ctlEnable (n : Nat) : Statement (.ctlEnable n) := of_wf _
theorem ctlDisable (n : Nat) : Statement (.ctlDisable n) := of_wf _
theorem ctlSwap (n : Nat) : Statement (.ctlSwap n) := of_wf _
theorem ctlBankWrite (n : Nat) (b : Bool) (idx : Nat) (v : Word) : Statement (.ctlBankWrite n b idx v) := of_wf _
theorem hvoEnable (o : Nat) : Statement (.hvoEnable o) := of_wf _
theorem hvoDisable (o : Nat) : Statement (.hvoDisable o) := of_wf _
theorem hvoMeasure (o : Nat) (vs is : List Int) : Statement (.hvoMeasure o vs is) := of_wf _
theorem hvoRamped (o : Nat) : Statement (.hvoRamped o) := of_wf _
theorem hvoSync (mask : Word) : Statement (.hvoSync mask) := of_wf _
theorem lupArm (b : Nat) : Statement (.lupArm b) := of_wf _
theorem lupTrig (b : Nat) : Statement (.lupTrig b) := of_wf _
theorem lupStop (b : Nat) : Statement (.lupStop b) := of_wf _
theorem lupTick (b late : Nat) : Statement (.lupTick b late) := of_wf _
theorem lupRecordEnd (b : Nat) : Statement (.lupRecordEnd b) := of_wf _
theorem lupDumpDone (b : Nat) : Statement (.lupDumpDone b) := of_wf _
theorem lupRecordWrite (b : Nat) : Statement (.lupRecordWrite b) := of_wf _
theorem mainsCrossing (pos : Bool) (ago uhalf i1 : Nat) : Statement (.mainsCrossing pos ago uhalf i1) := of_wf _
theorem mainsCrossingMissing (uhalf : Nat) : Statement (.mainsCrossingMissing uhalf) := of_wf _
theorem mnsWindowEnd (u10 i10 : Nat) (p : Int) : Statement (.mnsWindowEnd u10 i10 p) := of_wf _
theorem mnsF10Update (f : Nat) : Statement (.mnsF10Update f) := of_wf _
theorem htrEnable (h : Nat) : Statement (.htrEnable h) := of_wf _
theorem htrDisable (h : Nat) : Statement (.htrDisable h) := of_wf _
theorem thrEnforce : Statement .thrEnforce := of_wf _
theorem thrEnd : Statement .thrEnd := of_wf _
theorem tmpSensorUpdate (n raw : Nat) : Statement (.tmpSensorUpdate n raw) := of_wf _
theorem tmpArrayUpdate (n idx : Nat) : Statement (.tmpArrayUpdate n idx) := of_wf _
theorem tmpSourceStale (n idx : Nat) : Statement (.tmpSourceStale n idx) := of_wf _
theorem fedCondition (n cond vin vbus : Nat) (shunt : Int) : Statement (.fedCondition n cond vin vbus shunt) := of_wf _
theorem fedRenewTimer (n : Nat) : Statement (.fedRenewTimer n) := of_wf _
theorem fedRxRenew (n : Nat) (w : Word) : Statement (.fedRxRenew n w) := of_wf _
theorem fedRxAck (n : Nat) (w : Word) : Statement (.fedRxAck n w) := of_wf _
theorem fedRxHandoff (n : Nat) (w : Word) (gap : Nat) : Statement (.fedRxHandoff n w gap) := of_wf _
theorem fedRxClaim (n : Nat) (w : Word) : Statement (.fedRxClaim n w) := of_wf _
theorem fedSwitchOff (n : Nat) : Statement (.fedSwitchOff n) := of_wf _
theorem fedOffTimeout (n : Nat) : Statement (.fedOffTimeout n) := of_wf _
theorem fedXgsLoss (n gap : Nat) : Statement (.fedXgsLoss n gap) := of_wf _
theorem fedLeaseExpire (n : Nat) (xgs : Bool) (vin gap : Nat) : Statement (.fedLeaseExpire n xgs vin gap) := of_wf _
theorem fedStartup (vin0 vin1 : Nat) : Statement (.fedStartup vin0 vin1) := of_wf _
theorem fedNofeed : Statement .fedNofeed := of_wf _
theorem fedHandover (n : Nat) : Statement (.fedHandover n) := of_wf _
theorem fedClr (n : Nat) : Statement (.fedClr n) := of_wf _
theorem fedRepair (n vin : Nat) : Statement (.fedRepair n vin) := of_wf _
theorem svScan (vals : List Nat) : Statement (.svScan vals) := of_wf _
theorem railLogTimer (r : Nat) : Statement (.railLogTimer r) := of_wf _
theorem logCommit : Statement .logCommit := of_wf _
theorem logClear : Statement .logClear := of_wf _
theorem pwrBlnEnWrite (v : Word) : Statement (.pwrBlnEnWrite v) := of_wf _
theorem seqReqOn (sc : Nat) : Statement (.seqReqOn sc) := of_wf _
theorem seqReqOff (sc : Nat) : Statement (.seqReqOff sc) := of_wf _
theorem seqDnStart : Statement .seqDnStart := of_wf _
theorem seqEnable : Statement .seqEnable := of_wf _
theorem seqWait : Statement .seqWait := of_wf _
theorem seqWaitExpire : Statement .seqWaitExpire := of_wf _
theorem seqCheck (gio : Bool) : Statement (.seqCheck gio) := of_wf _
theorem seqCheckTimeout : Statement .seqCheckTimeout := of_wf _
theorem seqJump (gio : Bool) : Statement (.seqJump gio) := of_wf _
theorem seqBarrierPass : Statement .seqBarrierPass := of_wf _
theorem seqBarrierTimeout : Statement .seqBarrierTimeout := of_wf _
theorem seqsyncRepull : Statement .seqsyncRepull := of_wf _
theorem mainokTimeout : Statement .mainokTimeout := of_wf _
theorem memTrained (verified : Bool) (failed : Nat) (delays : List Byte) (storeOk : Bool) : Statement (.memTrained verified failed delays storeOk) := of_wf _
theorem lmemFillDone : Statement .lmemFillDone := of_wf _
theorem memParityAlert (tries : Nat) (failed : Bool) (chans hostOffs : List Nat) : Statement (.memParityAlert tries failed chans hostOffs) := of_wf _
theorem scrubRead (errs : List CwErr) (lag : Bool) : Statement (.scrubRead errs lag) := of_wf _
theorem eccDevWindow : Statement .eccDevWindow := of_wf _
theorem eccEraseWrite (ch : Nat) (v : Word) : Statement (.eccEraseWrite ch v) := of_wf _
theorem eccTblClear : Statement .eccTblClear := of_wf _
theorem bar2Write (off : Nat) (data : List Byte) (ep : Bool) (errs : List CwErr) : Statement (.bar2Write off data ep errs) := of_wf _
theorem bar2Read (off len : Nat) (errs : List CwErr) : Statement (.bar2Read off len errs) := of_wf _
theorem b2BaseWrite (hi : Bool) (v : Word) : Statement (.b2BaseWrite hi v) := of_wf _
theorem dmaStart (c : Nat) : Statement (.dmaStart c) := of_wf _
theorem dmaAbort (c : Nat) : Statement (.dmaAbort c) := of_wf _
theorem dmaRequest (c : Nat) : Statement (.dmaRequest c) := of_wf _
theorem dmaBurst (c : Nat) (withdrawn : Bool) (errs : List CwErr) : Statement (.dmaBurst c withdrawn errs) := of_wf _
theorem dmaResponse (c : Nat) (ok : Bool) (data : List Byte) (errs : List CwErr) : Statement (.dmaResponse c ok data errs) := of_wf _
theorem dmaReadbackDone (c : Nat) (ok : Bool) (errs : List CwErr) : Statement (.dmaReadbackDone c ok errs) := of_wf _
theorem faultReport (src : Nat) : Statement (.faultReport src) := of_wf _
theorem faultWire (src : Nat) : Statement (.faultWire src) := of_wf _
theorem faultClear (src : Nat) : Statement (.faultClear src) := of_wf _
theorem xinFilterExpire (k : Nat) : Statement (.xinFilterExpire k) := of_wf _
theorem xinCfgWrite (k : Nat) (v : Word) : Statement (.xinCfgWrite k v) := of_wf _
theorem faultNInput (low : Bool) : Statement (.faultNInput low) := of_wf _
theorem fltLatchClear (page j : Nat) (v : Word) : Statement (.fltLatchClear page j v) := of_wf _
theorem faultNMinHold : Statement .faultNMinHold := of_wf _
theorem crstReset (straps : Straps) : Statement (.crstReset straps) := of_wf _
theorem stormWindowClose (tag : Nat) : Statement (.stormWindowClose tag) := of_wf _
theorem intEdge (src : Nat) : Statement (.intEdge src) := of_wf _
theorem intLevel (src : Nat) : Statement (.intLevel src) := of_wf _
theorem intArbitration : Statement .intArbitration := of_wf _
theorem intModExpire (t : Nat) : Statement (.intModExpire t) := of_wf _
theorem intClaim (t : Nat) : Statement (.intClaim t) := of_wf _
theorem intComplete (t src : Nat) : Statement (.intComplete t src) := of_wf _
theorem intSwi (v : Word) : Statement (.intSwi v) := of_wf _
theorem intSourceConfig (src : Nat) (v : Word) : Statement (.intSourceConfig src v) := of_wf _
theorem intTargetState (t : Nat) (v : Word) : Statement (.intTargetState t v) := of_wf _
theorem linkUp (width speed : Nat) : Statement (.linkUp width speed) := of_wf _
theorem linkDown : Statement .linkDown := of_wf _
theorem hotReset : Statement .hotReset := of_wf _
theorem flr : Statement .flr := of_wf _
theorem perst : Statement .perst := of_wf _
theorem d3hotEntry : Statement .d3hotEntry := of_wf _
theorem bmeClear : Statement .bmeClear := of_wf _
theorem pcieCplTimeout (c : Option Nat) : Statement (.pcieCplTimeout c) := of_wf _
theorem pcieInternalError : Statement .pcieInternalError := of_wf _
theorem pcieCorrectableError : Statement .pcieCorrectableError := of_wf _
theorem bar4Write (off : Nat) (be : BitVec 4) (ep : Bool) (v : Word) (hi : Option (BitVec 4 × Word)) : Statement (.bar4Write off be ep v hi) := of_wf _
theorem bar4Read (off : Nat) (sz : Size) : Statement (.bar4Read off sz) := of_wf _
theorem remoteReadTimeout : Statement .remoteReadTimeout := of_wf _
theorem casRxWr (x : RxPacket) : Statement (.casRxWr x) := of_wf _
theorem casRxRd (x : RxPacket) : Statement (.casRxRd x) := of_wf _
theorem casRxRdr (x : RxPacket) : Statement (.casRxRdr x) := of_wf _
theorem casRxPwr (x : RxPacket) : Statement (.casRxPwr x) := of_wf _
theorem casRxMsg (x : RxPacket) : Statement (.casRxMsg x) := of_wf _
theorem casRxNack (x : RxPacket) : Statement (.casRxNack x) := of_wf _
theorem casRxFlt (x : RxPacket) : Statement (.casRxFlt x) := of_wf _
theorem casRxEvt (x : RxPacket) : Statement (.casRxEvt x) := of_wf _
theorem casRxTrig (x : RxPacket) : Statement (.casRxTrig x) := of_wf _
theorem casRxLease (x : RxPacket) : Statement (.casRxLease x) := of_wf _
theorem casRxTsreq (b : Bool) (frac gap : Nat) : Statement (.casRxTsreq b frac gap) := of_wf _
theorem casRxTsrsp (b : Bool) (frac : Nat) (data : List Byte) : Statement (.casRxTsrsp b frac data) := of_wf _
theorem casRxDisc (x : RxPacket) : Statement (.casRxDisc x) := of_wf _
theorem casRxLack (b : Bool) (h : Nat) : Statement (.casRxLack b h) := of_wf _
theorem casRxLnak (b : Bool) (h : Nat) : Statement (.casRxLnak b h) := of_wf _
theorem casRxIdle (b : Bool) : Statement (.casRxIdle b) := of_wf _
theorem casDiscTimer : Statement .casDiscTimer := of_wf _
theorem casLeaseTimer : Statement .casLeaseTimer := of_wf _
theorem headLeaseExpire : Statement .headLeaseExpire := of_wf _
theorem casTbTimer (frac : Nat) : Statement (.casTbTimer frac) := of_wf _
theorem casPortUp (b : Bool) : Statement (.casPortUp b) := of_wf _
theorem casPortDown (b : Bool) : Statement (.casPortDown b) := of_wf _
theorem casBypass : Statement .casBypass := of_wf _
theorem casRejoin : Statement .casRejoin := of_wf _
theorem keepWrite (src : KeepSrc) (v : Word) : Statement (.keepWrite src v) := of_wf _
theorem keepWriteApplied (verified oldGood : Bool) : Statement (.keepWriteApplied verified oldGood) := of_wf _
theorem calRunDone (k idx : Nat) (a b : List Int) (lost storeOk : Bool) : Statement (.calRunDone k idx a b lost storeOk) := of_wf _
theorem calClear : Statement .calClear := of_wf _
theorem mainUpStart : Statement .mainUpStart := of_wf _
theorem secCmdDone (ok : Bool) : Statement (.secCmdDone ok) := of_wf _
theorem pgnStopped (g : Nat) : Statement (.pgnStopped g) := of_wf _
theorem escWindowExpire (src : Nat) : Statement (.escWindowExpire src) := of_wf _
theorem lupGioEdge (pin : Nat) (level : Bool) : Statement (.lupGioEdge pin level) := of_wf _
theorem casRxBadPacket (b : Bool) : Statement (.casRxBadPacket b) := of_wf _
theorem fedSupervisorLost (n : Nat) : Statement (.fedSupervisorLost n) := of_wf _
theorem bmeSet : Statement .bmeSet := of_wf _
theorem d0Return : Statement .d0Return := of_wf _
theorem msixEnableChange (on mask : Bool) : Statement (.msixEnableChange on mask) := of_wf _

end Sys2Proof.Laws.InstanceBounds
end

