-- ==== Sys2Proof/Tests/Slice0.lean ====
section
/-! SUPPORT. Tests of the model on small states, and for every statement with hypotheses a state and operands that meet
them. -/

namespace Sys2Proof.Tests

open Sys2Proof Sys2Proof.Machine

set_option Elab.async false

/-- IDLE with every domain and station on. -/
def live : State :=
  { State.reset with
    sys := { State.reset.sys with mode := .idle, trans := none }
    regs := [(F.PWR_DOM_STAT.addr 0x40, 0x0FC00FFF)] }

/-- The same with further registers, in rising order, below PWR_DOM_STAT. -/
def liveWith (rs : Sparse Word) : State := { live with regs := rs ++ live.regs }

/-- A state with FED_STAT of supervisor 0 given. -/
def fedState (v : Word) : State := { live with regs := live.regs ++ [(F.FED_STAT.addr 0, v)] }

/-! ### Small states -/

/-- IS_009 pending and enabled for target 0, priority 0x40; MSI-X Enable and Bus Master Enable set. -/
def pendingNine : State := liveWith [(F.HST_LINK.addr 0, 0xFFFFFFFF), (intSrcAddr 9, 0x00011040)]

/-- The same with vector 64 unmasked. -/
def pendingOpen : State :=
  { pendingNine with regs := pendingNine.regs.set regReset (vecCtl ((pendingNine.intGroup 9) % 1024)) 0 }

/-- The link carries requests; the device is in a mode, with nothing running. -/
def linked (m : Mode) : State :=
  { liveWith [(F.HST_LINK.addr 0, 0xD)] with time := 5, sys := { live.sys with mode := m } }

/-- A change toward a mode runs. -/
def changing (m to_ : Mode) : State :=
  { linked m with sys := { (linked m).sys with trans := some (Machine.Trans.mk to_ true 3 0x8000) } }

/-- Waking from HIBERNATE, supervisor 0 owning its bus, MAIN's UP program at step 9. -/
def wakingUp : State :=
  { fedState 2 with
    sys := { live.sys with mode := .hibernate, waking := true }
    keep := { live.keep with words := [(kwEntry 0, 0xFF09)] } }

/-- Scope 2 has programs at steps 4 and 6, and is in a state. -/
def scopeIn (v : Word) : State :=
  { live with
    keep := { live.keep with words := [(kwEntry 2, 0x0604)] } }.setReg (F.SEQ_SCOPE.addr 0) v
/-- A commit is outstanding. -/
def committing : State :=
  { live with att := { live.att with ckpts := [{ head := none, ceil := some 70000, clean := false }] } }

/-- Bytes of an entry with its CRC. -/
def sealed (body : List Byte) : List Byte := takeAt body 0 252 ++ leBytes 4 (crc32c (takeAt body 0 252)).toNat
/-- Ring 12 holds one entry; context 3 is in a state. -/
def offering (body : List Byte) (st : CtxSt) : State :=
  { live with
    lmem := Sparse.setList lmemDefault [] 0 (sealed body)
    aon := { live.aon with fillDone := true }
    ctxs := [(3, { Ctx.init with st := st, desc := sealed body })] }.setFlag F.RING_CTRL_EN (ringInst 12) true
    |>.setFld F.RING_TAIL_INDEX (ringInst 12) 1 |>.setFld F.MEM_SIZE 0 96
/-- A description whose fields lie in range: context 3, station 0, 99 facets, width 1, 80 g. -/
def described (op : Nat) : List Byte :=
  leBytes 1 op ++ leBytes 1 0 ++ leBytes 2 3 ++ leBytes 1 0 ++ leBytes 1 1 ++ leBytes 2 0 ++ leBytes 8 7 ++ leBytes 8 9000
    ++ leBytes 2 99 ++ leBytes 2 1 ++ leBytes 2 80 ++ leBytes 18 0 ++ leBytes 8 4096 ++ List.replicate 190 0

/-- A posting's bytes. -/
def posting (op addr first count : Nat) : List Byte :=
  sealed (leBytes 1 op ++ leBytes 7 0 ++ leBytes 8 addr ++ leBytes 4 first ++ leBytes 4 count ++ List.replicate 228 0)
/-- A record of one block at address 4096, station 0, plane 0. -/
def oneBlock (ctx : Option Nat) : PlaneRec :=
  { addr := 4096, bad := false, ctx := ctx, station := 0, plane := 0, bpp := 0, width := 1, length := 99, nTables := 1
    nBlocks := 1, serial := 5, tables := 0, k := 0, extents := [], nRes := 0, nPoison := 0, nHdrerr := 0, missing := 200 }
/-- Ring 0 holds one posting; the frame store has one record in slot 0, where one is given. -/
def posted (bs : List Byte) (rec : Option PlaneRec) (claims : List Claim) : State :=
  { live with
    lmem := Sparse.setList lmemDefault [] 0 bs
    aon := { live.aon with fillDone := true }
    fst := { Fst.init with
      recs := (match rec with | some p => [(0, some p)] | none => [])
      claims := claims
      lastRing := 11 } }.setFlag F.RING_CTRL_EN (ringInst 0) true
    |>.setFld F.RING_TAIL_INDEX (ringInst 0) 1

/-- One frame in a state, at position -10000, with its transport at 0 from generator 0. -/
def passing (st : CtxSt) (passed : Bool) : State :=
  { live with
    ctxs := [(3, { Ctx.init with
      st := st
      passed := passed
      desc := leBytes 16 0 ++ leBytes 8 (2 ^ 64 - 10000) ++ List.replicate 232 0 })] }
/-- A record waits for ring 16, which is in LMEM and empty. -/
def queued (bs : List Byte) : State :=
  { live with
    aon := { live.aon with fillDone := true }
    ringq := { queue := [(16, bs)], store := [] } }

/-- A frame of station 0 that has nothing exposed waits for its receipt. -/
def toSign : State :=
  { live with
    sys := { live.sys with mode := .print }
    att := { Att.init with queue := [3] }
    ctxs := [(3, { Ctx.init with
      st := .spoiled
      counter := some 7
      done := 1
      desc := leBytes 5 0 ++ [1] ++ List.replicate 250 0 })] }

/-- MEM_CFG valid with four channels; training not done. -/
def untrained : State := live.setReg (F.MEM_CFG.addr 0) 0x102
/-- LMEM of 32 GiB filled; the scrubber enabled and at a position. -/
def scrubbing (pos : Nat) : State :=
  { live with aon := { live.aon with fillDone := true } }.setReg (F.MEM_SIZE.addr 0) 32
    |>.setFlag F.ECC_SCRUB_CFG_EN 0x10 true |>.setPair64 F.ECC_SCRUB_POS_LO 0x10 pos

/-- The link is up, and LMEM of 32 GiB filled or not. -/
def hosted (filled : Bool) : State :=
  { live with aon := { live.aon with fillDone := filled } }.setReg (F.MEM_SIZE.addr 0) 32
    |>.setFlag F.HST_LINK_UP 0 true

/-- Channel 15 copies `n` elements of four bytes inside LMEM from address 256 to 4096. -/
def copying (state n : Nat) (x : Dma) : State :=
  { live with
    aon := { live.aon with fillDone := true }
    lmem := [(256, 1), (257, 2), (260, 3)]
    dmas := [(15, x)] }.setReg (F.MEM_SIZE.addr 0) 32
    |>.setFlag (H.PAGE_CTRL_EN B.DMA) 15 true
    |>.setFld F.DMA_CFG_ESIZE 15 2 |>.setFld (F.DMA_CNT_COUNT.at 0) 15 n |>.setFld (F.DMA_CNT_COUNT.at 1) 15 1
    |>.setFld (F.DMA_CNT_COUNT.at 2) 15 1 |>.setPair64 F.DMA_SRC_LO 15 256 |>.setPair64 F.DMA_DST_LO 15 4096
    |>.setReg ((F.DMA_SSTEP.at 0).addr 15) 4 |>.setReg ((F.DMA_DSTEP.at 0).addr 15) 4
    |>.setPair64 F.DMA_REMAIN_LO 15 n |>.setFld F.DMA_STAT_STATE 15 state
/-- Channel 15 waits for a request on pin 0, which is high. -/
def asking : State :=
  { copying 1 5 Dma.init with balls := { live.balls with gio := 1 } }.setFld F.DMA_CFG_REQ 15 2
/-- The same with the link up and bus mastering on, between spaces. -/
def hostCopy (src dst : Nat) : State :=
  (copying 2 5 Dma.init).setFlag F.HST_LINK_UP 0 true |>.setFlag F.HST_LINK_BME 0 true |>.setFld F.DMA_CFG_SSPACE 15 src
    |>.setFld F.DMA_CFG_DSPACE 15 dst

/-- Station 5 decodes band 2 of context 3, of one block's width. -/
def decoding : State :=
  { live with
    stns := [(5, { Stn.init with fmt := { Fmt.init with decoding := [(3, 2)] } })]
    ctxs := [(3, { Ctx.init with
      st := .admitted
      desc := leBytes 5 0 ++ [0x20] ++ leBytes 10 0 ++ leBytes 8 1000 ++ leBytes 2 99 ++ [1] ++ List.replicate 229 0 })] }

/-- The encoder enabled, with its configuration, status, hidden state, and LMEM of 32 GiB. -/
def encoder (busy : Bool) (cfg : Nat) (e : Enc) (band : Nat) : State :=
  { live with
    aon := { live.aon with fillDone := true }
    enc := e }.setReg (F.MEM_SIZE.addr 0) 32
    |>.setFlag (H.PAGE_CTRL_EN B.ENC) 0 true |>.setFld F.ENC_CFG_WIDTH 0 cfg |>.setFlag F.ENC_CFG_SKIP_ZERO 0 true
    |>.setFld F.ENC_BANDS_BANDS 0 2 |>.setFlag F.ENC_STAT_BUSY 0 busy |>.setFld F.ENC_STAT_BAND 0 band

/-- Station 5 with a pixel clock of 200 MHz in force. -/
def clocked : State :=
  (live.setReg ((F.CLK_FREQ.at 1).addr 5) (BitVec.ofNat 32 (200 * 2 ^ 23))).setFld F.CLK_STAT_CLASS 5 1
    |>.setFlag F.CLK_STAT_SYN_LOCK 5 true
/-- Station 5 with its link in a state and its BLN page enabled. -/
def linkIn (st : Nat) : State := (live.setFld F.BLN_STAT_LSTATE 5 st).setFlag (H.PAGE_CTRL_EN B.BLN) 5 true

/-- A bundle with one correction set, 3, for station 0; bank 1 of the station named for a load of set `set`. -/
def corrected (set : Nat) (loading : Option (Nat × Nat)) : State :=
  { live with
    bundle := { Bundle.init with
      ok := true
      sections := [{ typ := 4, id := 3, station := 0, offset := 4096, length := 196608, digest := [] }] }
    stns := [(0, { Stn.init with cor := { Cor.init with loading := loading } })] }.setFld F.COR_LOAD_CFG_BANK 0 1
    |>.setFld F.COR_LOAD_CFG_SET 0 set |>.setFlag (H.PAGE_CTRL_EN B.COR) 0 true

/-- Station 5 at press time 1000 with its FAC page enabled, FAC_STAT given, and its last edge and periods. -/
def beam (stat : Nat) (f : Fac) : State :=
  { live with
    time := 1000
    stns := [(5, { Stn.init with fac := f })] }.setFlag (H.PAGE_CTRL_EN B.FAC) 5 true
    |>.setFld F.FAC_STAT_BD_OK 5 (stat % 2) |>.setFld F.FAC_STAT_LOCKED 5 (stat / 2)

/-- Station 5 with FAC_STAT bits and class 1 of 200 MHz; a frame of class 2 waits for it. -/
def classed (locked retune dll : Bool) : State :=
  { live with
    ctxs := [(3, { Ctx.init with
      st := .admitted
      desc := leBytes 4 0 ++ [2, 0x20] ++ leBytes 10 0 ++ leBytes 8 1000 ++ leBytes 2 99 ++ [1] ++ List.replicate 229 0 })]
    }.setReg ((F.CLK_FREQ.at 1).addr 5) (BitVec.ofNat 32 (200 * 2 ^ 23))
    |>.setFld F.CLK_STAT_CLASS 5 1 |>.setFld F.FAC_STAT_CLASS 5 1 |>.setFlag F.FAC_STAT_LOCKED 5 locked
    |>.setFlag F.FAC_STAT_RETUNE 5 retune |>.setFlag F.CLK_STAT_SYN_LOCK 5 dll |>.setFlag F.CLK_STAT_DLL_LOCK 5 dll

/-- Station 5 with its link enabled, in a state, AUTO set, and its identity memory. -/
def linkAt (st : Nat) (mem : List Byte) : State :=
  { live with
    flt := { Flt.init with pair := [69] }
    stns := [(5, { Stn.init with bln := { Bln.init with idMem := mem } })] }.setFld F.BLN_STAT_LSTATE 5 st
    |>.setFlag F.BLN_CTRL_EN 5 true |>.setFlag F.BLN_CTRL_AUTO 5 true |>.setFlag F.BLN_STAT_ID_VALID 5 true

/-- One write of user word 7 waits, which has been written so many times. -/
def keepQueued (wear : Nat) : State := { live with
  keep := { live.keep with queue := [KeepWrite.mk 7 5], wear := [(7, wear)] } }
/-- The queue is full. -/
def keepFull : State := { live with keep := { live.keep with queue := List.replicate 16 (KeepWrite.mk 7 5) } }

/-- Rail 47 has changed since its last commit. -/
def railChanged : State := { live with
  rails := [(47, { Rail.init with changed := true })]
  time := 600000000000 }

/-- A program runs at step 2, whose word is given; what it waits for. -/
def seqAt (w : Word) (wait : SeqWait) (up : Bool) : State :=
  { live with
    keep := { live.keep with words := [(kwStep 2, w)] }
    time := 10000000000
    seq := { live.seq with wait := wait, begun := true, repull := true } }.setFld F.SEQ_STAT_STEP 0 2
    |>.setFlag F.SEQ_STAT_RUN 0 true |>.setFlag F.SEQ_STAT_UP 0 up

/-- Supervisor 0 in FAULT with a cause, VIN seen good again for REPAIR_T. -/
def fedFaulted (cause : Nat) : State :=
  { fedState (BitVec.ofNat 32 (cause * 2 ^ 28 + 4)) with feds := [(0, { Fed.init with repaired := true })] }

/-- A lifecycle and a key state, with a live nonce and the random source sound. -/
def lifecycle (lc key : Word) : State :=
  { live with
    keep := { Keep.init with words := Sparse.set keepDefault (Sparse.set keepDefault [] kwLc lc) kwKey key }
    sec := { Sec.init with nonce := true } }.setFlag F.SEC_STAT_DRBG_OK 0 true
/-- BLANK with the base point as the owner key. -/
def ownerSet : State := (lifecycle 0 0).setRegBytes F.SEC_OWNER (beBytes 48 ecG.1 ++ beBytes 48 ecG.2) 24

/-- A SEC command runs, with ZPEND as given. -/
def secRunning (op : SecOp) (zpend : Word) : State :=
  { lifecycle 2 1 with
    keep := { Keep.init with words := Sparse.set keepDefault (lifecycle 2 1).keep.words kwZpend zpend }
    sec := { Sec.init with cmd := some (op, true) } }
/-- A commit that names receipt 9 and raises CEIL. -/
def ckptRuns : State :=
  { live with att := { Att.init with ckpts := [{ head := some (9, List.replicate 48 7), ceil := some 65536, clean := true }] } }

/-- The Eyepiece is open, the window on with INC, at an address. -/
def eyepiece (a : Word) : State :=
  let s := ((live.setFlag F.DBG_STAT_OPEN 0 true).setReg (F.DBG_WIN_CTRL.addr 0) 3).setReg (F.DBG_WIN_ADDR_LO.addr 0) a
  { s.setReg (F.DBG_WIN_ADDR_HI.addr 0) a with sec := { Sec.init with win := [(0x10_0000_0010, some 7)] } }

/-- CONFIG, a load running. -/
def loads (src : Option Nat) : State :=
  { live with sys := { live.sys with mode := .config }, bundle := { Bundle.init with loading := some src } }
/-- A pushed image whose header is laid out, and nothing more. -/
def headerOnly : State :=
  (loads (some 0)).storeLmem 0 (leBytes 4 0x4E5A5552 ++ leBytes 2 1 ++ leBytes 2 1 ++ List.replicate 12 0 ++ leBytes 4 8192
    ++ List.replicate 296 0)
set_option maxRecDepth 100000 in
theorem witness_BundleLoads_judged : headerOnly.bundle.loading = some (some 0) ∧ headerOnly.domOn .sec = true ∧
    headerOnly.poisoned 0 0x140 = false ∧ headerLayout (headerOnly.lmemBytes 0 0x140) = true ∧
    headerOnly.poisoned 0 (bhTotal (headerOnly.lmemBytes 0 0x140)) = false ∧
    (loads none).bundle.loading = some none := by decide +kernel

/-- READY, a well-set six-step channel in a state. -/
def motor (m st : Nat) : State :=
  let s := { live with sys := { live.sys with mode := .ready } }
  let s := ((s.setFld F.MOT_CFG_POLES m 4).setFld F.MOT_RATED_RATED m 30000).setFld F.MOT_PWM_PERIOD m 6250
  (s.setMoState m st).setFlag (H.PAGE_CTRL_EN B.MOT) m true

/-- A channel's hidden state. -/
def turning (m st : Nat) (x : Mot) : State := { (motor m st).setMot m x with time := 100000000000 }
/-- A channel some time after it entered its state. -/
def later (s : State) : State := { s with time := 100000000000 }

/-- READY, an enabled stepper in a state, its switches assigned, its generator moving. -/
def stepper (m st : Nat) (vel : Int) : State :=
  let s := { live with sys := { live.sys with mode := .ready } }
  let s := ((s.setFld F.STP_CFG_PG m (31 - m)).setFld F.STP_SW m 0x808080).setFld F.STP_CUR_TPD m 3
  ((s.setStState m st).setFlag (H.PAGE_CTRL_EN B.STP) m true).setPgn (31 - m) { Pgn.init with vel := vel }
/-- The homing switch's search goes on. -/
def searching : State := (stepper 0 3 9).setFld F.STP_STAT_HSTEP 0 1

/-- READY, an enabled generator in a state and a mode, with a target. -/
def generator (g st vm : Nat) : State :=
  let s := { live with sys := { live.sys with mode := .ready } }
  let s := ((s.setFld F.PGN_CFG_MODE g vm).setPair64 F.PGN_TGT_LO g (2 ^ 64 - 5)).setFlag F.PGN_CAP_CFG_EN g true
  ((s.setPgState g st).setFlag (H.PAGE_CTRL_EN B.PGN) g true).setPgn g { Pgn.init with vel := 7, target := -3, queued := 9 }
/-- A generator one update short of its target, and one that has to stop. -/
def landing (g st : Nat) : State :=
  ((generator g st 0).setPair64 F.PGN_POS_LO g (2 ^ 64 - 196608)).setPgn g { Pgn.init with vel := 0, target := -3, queued := 9 }
/-- A stepper whose homing has backed off. -/
def backedOff : State :=
  (((((stepper 15 3 0).setFld F.STP_STAT_HSTEP 15 3).setPgState 16 2).setPgn 16 { Pgn.init with target := 4 }).setPair64
    F.PGN_POS_LO 16 262144).setFld F.STP_HOME_CREEP 15 7

/-- READY, a slot that runs a law, with coefficients in both banks. -/
def looped (n form : Nat) : State :=
  let s := { live with sys := { live.sys with mode := .ready }, time := 20000 }
  let s := ((s.setFld F.CTL_CFG_FORM n form).setFld F.CTL_PERIOD_VALUE n 2500).setFlag F.CTL_STAT_RUN n true
  let s := (s.setReg ((F.CTL_A.at 6).addr n) 0x40008000).setReg ((F.CTL_B.at 6).addr n) 0x10008000
  let s := (s.setReg ((F.CTL_A.at 0).addr n) 0x4000).setReg ((F.CTL_B.at 0).addr n) 0x7FFF
  (s.setReg (F.CTL_IN_R.addr n) 0x00010000).setFlag (H.PAGE_CTRL_EN B.CTL) n true
/-- The same with a swap pending, the last PID output known. -/
def swapping (n form : Nat) (u : Int) : State :=
  ((looped n form).setFlag F.CTL_STAT_PEND n true).setCtl n { Ctl.init with uPid := u, i := 77, dst := 9, yPrev := -100000 }

/-- What a slot's history is as a sample begins. -/
def sampled (s : State) (n : Nat) : Ctl := { s.ctl n with sampAt := some (s.sampleInstant n) }

/-- READY, a well-set HV output of slot 9 in a state, with a demand. -/
def highVolt (o st : Nat) : State :=
  let s := { live with sys := { live.sys with mode := .ready }, time := 5000 }
  let s := (((s.setFld F.HVO_PWM_PERIOD o 2500).setFld F.HVO_PWM_DMAX o 100).setFld F.HVO_CFG_SLOT o 9).setFld F.CTL_EU_U 9 30000
  let s := (s.setFld F.HVO_STAT_STATE o st).setFld F.HVO_DEMAND_DEMAND o 700
  ((s.setFld F.HVO_LIM_ILIM o 100).setFld F.HVO_LIM_ARC o 50).setFlag (H.PAGE_CTRL_EN B.HVO) o true

/-- An enabled buffer in a state, waiting for pin 127 with a source, with something recorded; its ring in host memory. -/
def loupe (b st src : Nat) : State :=
  let s := { live with enc := { live.enc with loupe := some b }, time := 3000 }
  let s := ((s.setFld F.LUP_STAT_STATE b st).setFld F.LUP_TRIG_TSRC b src).setFld F.LUP_TRIG_ARG b 127
  let s := s.setReg (F.HST_LINK.addr 0) 0xD
  let s := s.setLup b { Lup.init with words := [3, 2, 1], total := 3 }
  (s.setFlag (H.PAGE_CTRL_EN B.LUP) b true).setFlag F.LUP_CFG_TICK b true
/-- The same with its ring enabled. -/
def loupeRing (b st : Nat) : State := (loupe b st 0).setReg (F.RING_CTRL.addr (ringInst (24 + b))) 3
/-- An armed buffer whose level lies below what its node shows. -/
def levelLoupe (b : Nat) : State := (loupe b 1 1).setReg (F.LUP_LEVEL.addr b) 0xFFFFFFF0

/-- READY, at a time, the loop in a state, its last crossing positive-going at 5,000,000 ns. -/
def mains (st valid : Nat) : State :=
  let s := { live with
    sys := { live.sys with mode := .ready }
    time := 15000000
    mns := { live.mns with last := some (5000000, true), half := 10000000, valid := valid, coast := 19 } }
  (s.setFld F.MNS_SCALE_VFS 0 4000).setFld F.MNS_STAT_PSTATE 0 st
/-- The same once the window of the predicted crossing has passed. -/
def passed (st : Nat) : State := { mains st 0 with time := 17000000 }

/-- READY, an enabled heater in a state. -/
def heater (h st : Nat) : State :=
  let s := { live with sys := { live.sys with mode := .ready } }
  (s.setFld F.HTR_STAT_STATE h st).setFlag (H.PAGE_CTRL_EN B.HTR) h true
/-- The throttle in a state, with a channel at LIMIT that it watches or not. -/
def throttled (st ts : Nat) : State :=
  let s := { heater 0 0 with time := 1000000000000 }
  let s := { s with sched := { s.sched with clearAt := some 0 } }
  (s.setFld F.HTR_THR_STAT_STATE 8 st).setFld F.TMP_STAT_STATE 3 2 |>.setFld F.HTR_THR_EN_TS 8 ts

/-- READY, a channel of a type with a common ideality. -/
def sensor (n typ : Nat) : State :=
  let s := { live with sys := { live.sys with mode := .ready } }
  let s := ((s.setFld F.TMP_CFG_TYPE n typ).setFld F.TMP_SENS_IDEAL n 10080).setFld F.TMP_TH_B_ABS n 1600
  (s.setFld F.TMP_TH_A_LIMIT n 1280).setFld F.TMP_TH_A_WARN n 960
/-- Station 5's array takes BLN source 2, which reads a value. -/
def arrayOf (v : Nat) : State :=
  let s := (sensor (arrPage 5) 0).setFld F.TMP_ASRC_BLN (arrPage 5) 4
  (s.setFlag (F.BLN_TEMP_VALID.at 2) 5 true).setFld (F.BLN_TEMP_TEMP.at 2) 5 v

/-- A source of class `c` that presents a fault, at press time 7 µs. -/
def presenting (n : Nat) (c : Word) : State :=
  { live.setReg ((F.FLT_CFG.at (n % 64)).addr (n / 64)) c with time := 7000, flt := { live.flt with pair := [n] } }
/-- The same with its record open in slot 9. -/
def recorded (n : Nat) (c : Word) : State :=
  (presenting n c).setLogRec 9 { FltRec.none with source := n, cls := c.toNat, count := 4, tFirst := 6000, tLast := 6500 }

/-- An external input, active while ball 3 differs from ball 5, its filter running. -/
def filtering : State :=
  { live.setReg ((F.FLT_XIN.at 15).addr 0x10) 0x10503 with flt := { live.flt with xinFilt := [15] } }
/-- The record of a node in a storm of tag 5. -/
def stormRec (node t : Nat) : FltRec :=
  { FltRec.none with source := 110, cls := 2, node := node, tag := 5, count := node, tFirst := t, tLast := t + 9 }
/-- Node 0 of a cascade, with a window of two logged records. -/
def storming : State :=
  let s := ((live.setFlag F.CAS_STAT_CASEN 0 true).setLogRec 3 (stormRec 7 100)).setLogRec 4 (stormRec 9 200)
  { s with time := 1000000, flt := { s.flt with storms := [{ tag := 5, opened := 100, recs := [stormRec 7 100, stormRec 9 200] }] } }

/-- The worked example of spec/00: block 0x21, instance 0xE2, register offset 0x040. -/
theorem witness_AddressDecode : blkOf 0x021E2040 = 0x21 ∧ instOf 0x021E2040 = 0xE2 ∧ offOf 0x021E2040 = 0x040 ∧
    regAddr 0x21 0x05 0x040 = 0x02105040 := by decide

/-- A ring page with a reservation. -/
def reservedRing : State := live.setFld F.RING_RSV_COUNT 0x31 2

/-- The link carries requests, with the CAS domain off. -/
def casOff : State := (linked .idle).setDom .cas false

/-- The link carries requests, and two temperature pages are members of group 2. -/
def grouped : State := ((linked .idle).setFld (H.PAGE_GROUP_GRP B.TMP) 3 4).setFld (H.PAGE_GROUP_GRP B.TMP) 23 4
/-- Node 5 of a cascade is reached by port B; this is node 0. -/
def cascaded : State :=
  let s := ((((linked .idle).setFlag F.CAS_STAT_CASEN 0 true).setFlag F.CAS_STAT_B_UP 0 true).setFld F.CAS_STAT_STATE 0 3)
  { s.setReg (F.CAS_MAP_LO.addr 0) 0x21 with time := 50007, cas := { Cas.init with reads := [RemoteRead.mk 3 5 0x40 15 7, RemoteRead.mk 4 5 0x44 15 8] } }

/-- A masked and an unmasked vector are pending. -/
def vectored : State := ((linked .idle).setReg (vecPend 5) 0x60).setReg (vecCtl 6) 0
/-- Channel 15 waits for the host to answer its read. -/
def hostReading : State := { hostCopy 1 0 with dmas := [(15, { Dma.init with reading := 5 })] }

/-- Node 0 of a cascade whose port B is up, in UP. -/
def noded : State := { cascaded with cas := { cascaded.cas with hopsB := [(5, 1)], ringOut := [(9, 1)] } }
/-- A packet of node 5 on port B, the first there. -/
def fromFive (dst tag : Nat) (data : List Byte) : RxPacket := RxPacket.mk true dst 5 0 false 1 tag data
/-- Offset and value of a temperature threshold, with OSEQ 9. -/
def threshold : List Byte := leBytes 4 (F.TMP_TH_A.addr 23) ++ leBytes 4 77 ++ leBytes 4 9 ++ leBytes 4 0

/-- Rings 30 and 31 enabled, and buffer 3 armed for triggers of the cascade. -/
def messaged : State :=
  let s := (noded.setFlag F.RING_CTRL_EN (ringInst 30) true).setFlag F.RING_CTRL_EN (ringInst 31) true
  let s := (s.setFld F.LUP_STAT_STATE 3 1).setFld F.LUP_TRIG_TSRC 3 8
  { s with aon := { s.aon with fillDone := true } }
/-- A tagged fault record of node 5. -/
def tagged : List Byte :=
  { FltRec.none with source := 5, node := 5, tag := 0x77, tFirst := 9 }.bytes
/-- Two packets wait for their acknowledgement on port B. -/
def waiting : State :=
  let p := noded.mkPacket 0x01 5 0 []
  noded.setPort true { Port.init with unacked := [{ p with hseq := 255 }, p], hseqTx := 1 }

/-- LSEQ 1 of node 5. -/
def leaseFive : List Byte := leBytes 4 1 ++ leBytes 1 5 ++ leBytes 3 0
/-- Node 9, head of its island. -/
def headed : State := (noded.setFld F.CAS_STAT_NODE_ID 0 9).setFlag F.CAS_STAT_IS_HEAD 0 true
/-- This node's own DISC, under nonce 2, with the node's own nonce 3. -/
def doubled : State := { noded with cas := { noded.cas with nonce := 3 } }
def ownDisc : RxPacket := { fromFive 0xFF 0 (leBytes 4 0 ++ leBytes 4 2) with src := 0 }
/-- A node that follows its parent on port B, joining or not. -/
def joined (j : Bool) : State := { noded with cas := { noded.cas with parentB := true, joining := j, tsT1 := 100, tbGood := 15, tbAt := 40000 } }
/-- Both ports up; a packet of node 5 waits on port A. -/
def twoPorts : State :=
  (noded.setFlag F.CAS_STAT_A_UP 0 true).setPort false
    { Port.init with unacked := [{ noded.mkPacket 0x01 7 0 [] with src := 5 }] }

/-- A calibration run with given jobs. -/
def calibrating (js : List CalJob) : State :=
  let s := live.setFlag F.CAL_STAT_BUSY 0 true
  { s with cal := { s.cal with jobs := js }, sys := { s.sys with mode := .calibrate } }
/-- The same with bank A of the store sealed. -/
def sealedStore : State :=
  let s := calibrating [CalJob.mk 0 15 0, CalJob.mk 0 2 0]
  { s with cal := { s.cal with bankA := { epoch := some 0, recs := [] } } }
/-- A pair of DESKEW: the five lanes' windows of passing taps. -/
def deskewed (d : Int) : List Int := [0, 20, 1, 21, 2, 22, 3, 23, d, 24 + d]

theorem witness_QueueFront : live.pending = [] ∧ live.balls.vstby = true ∧ live.sys.mode ≠ .off ∧ live.sys.mode ≠ .hibernate ∧ live.cas.slew = 0 ∧
    live.timeFrac < 65536 ∧ ({ live with pending := [.linkDown, .headLeaseExpire] } : State).pending = .linkDown :: [.headLeaseExpire] ∧
    ({ live with sys := { live.sys with mode := .hibernate } } : State).sys.trans = none ∧ live.sys.waking = false ∧
    ({ live with balls := { live.balls with vstby := false } } : State).balls.vstby = false := by decide +kernel

theorem witness_StepKeepsWake : State.reset.Wired ∧ live.Wired := by decide +kernel

/-! ### For every statement, states and operands that meet the hypotheses of each of its clauses -/

set_option maxRecDepth 1000000 in
/-- The hypotheses of each clause of IntSourceInputs are met together. -/
theorem witness_IntSourceInputs :
    (∃ (src : Nat), (intPage src).isSome = true) ∧
    (∃ (s : State), s.openPage B.INT 0x10) := by
  refine ⟨⟨16, by decide +kernel⟩,
    ⟨liveWith [(intSrcAddr 9, 0x00021040)], by decide +kernel⟩⟩

set_option maxRecDepth 1000000 in
/-- The hypotheses of each clause of IntClaimAndComplete are met together. -/
theorem witness_IntClaimAndComplete :
    (∃ (s : State) (k : Nat), k < 16 ∧ (s.countStale k).bestSrc k = none) ∧
    (∃ (s : State) (k : Nat) (n : Nat), k < 16 ∧ n < 512 ∧ (s.countStale k).bestSrc k = some n ∧ (s.tgt
      k).stack.length < 8) ∧
    (∃ (s : State) (k : Nat) (n : Nat), k < 16 ∧ n < 512 ∧ s.openPage B.INT (0x20 + k)) := by
  refine ⟨⟨live, 3, by decide +kernel⟩,
    ⟨pendingNine, 0, 9, by decide +kernel⟩,
    ⟨live, 0, 9, by decide +kernel⟩⟩

set_option maxRecDepth 1000000 in
/-- The hypotheses of each clause of InterruptTargets are met together. -/
theorem witness_InterruptTargets :
    (∃ (s : State) (n : Nat) (k : Nat), n < 512 ∧ k ≤ 13 ∧ s.domOn .hst = true ∧ s.intWaiting n = true ∧ s.effTgt n =
      some k ∧ (∀ m, m < 512 → m = n ∨ s.intWaiting m = false) ∧ (∀ q, q < 16 → (s.tgt q).pinLow = false) ∧ (s.tgt
      k).stack = [] ∧ (s.tgt k).heldTill ≤ s.now ∧ (s.tgt k).sentFor ≠ some n ∧ bit (s.reg (vecCtl ((s.fld
      F.INT_TGT_CFG_VBASE (0x20 + k) + s.intGroup n) % 1024))).toNat 0 = false) ∧
    (∃ (s : State), (∀ m, m < 512 → s.intWaiting m = false) ∧ (∀ q, q < 16 → (s.tgt q).pinLow = false)) ∧
    (∃ (k : Nat), k < 16) ∧
    (∃ (s : State) (k : Nat), k < 16 ∧ s.openPage B.INT (0x20 + k)) ∧
    (∃ (s : State) (n : Nat), 1 ≤ n ∧ n < 512 ∧ s.openPage B.INT (n / 128)) ∧
    (∃ (s : State), s.openPage B.INT 0) := by
  refine ⟨⟨pendingOpen, 9, 0, by decide +kernel⟩,
    ⟨live, by decide +kernel⟩,
    ⟨15, by decide +kernel⟩,
    ⟨pendingOpen, 0, by decide +kernel⟩,
    ⟨live, 511, by decide +kernel⟩,
    ⟨live, by decide +kernel⟩⟩

set_option maxRecDepth 1000000 in
/-- The hypotheses of each clause of ModeRequests are met together. -/
theorem witness_ModeRequests :
    (∃ (s : State), s.openPage B.SYS 0 ∧ s.hostPath = true) ∧
    (∃ (s : State), s.requestable) ∧
    (∃ (s : State), s.requestable) ∧
    (∃ (s : State), s.requestable) ∧
    (∃ (s : State), s.requestable) ∧
    (∃ (s : State), s.requestable) ∧
    (∃ (s : State), s.requestable) ∧
    (∃ (s : State) (v : Nat), s.openPage B.SYS 0 ∧ s.hostPath = true ∧ (reqTarget v).isNone = true ∧ v % 16 ≠ 0) := by
  refine ⟨⟨{ linked .drain with sys := { (linked .drain).sys with pend := some .safehold, drainIdle := true } }, by
      decide +kernel⟩,
    ⟨linked .idle, by decide +kernel⟩,
    ⟨linked .print, by decide +kernel⟩,
    ⟨linked .ready, by decide +kernel⟩,
    ⟨linked .config, by decide +kernel⟩,
    ⟨linked .idle, by decide +kernel⟩,
    ⟨linked .print, by decide +kernel⟩,
    ⟨linked .print, 15, by decide +kernel⟩⟩

set_option maxRecDepth 1000000 in
/-- The hypotheses of each clause of ModeChangesEnd are met together. -/
theorem witness_ModeChangesEnd :
    (∃ (s : State) (x : Trans), s.sys.trans = some x ∧ s.sys.mode ≠ .boot) ∧
    (∃ (s : State) (d : Dom) (on : Bool), s.nextDomain = some (d, on) ∧ s.domDue d on = true ∧ s.domMode ≠
      .hibernate) ∧
    (∃ (s : State), s.sys.mode = .warmup ∧ s.sys.trans = none) ∧
    (∃ (s : State), s.sys.mode = .boot ∧ s.sys.trans = none ∧ s.zpend = 0 ∧ s.aon.fillDone = true ∧ s.bundle.loading
      = none) := by
  refine ⟨⟨changing .idle .warmup, Machine.Trans.mk .warmup true 3 0x8000, by decide +kernel⟩,
    ⟨State.reset, .sec, true, by decide +kernel⟩,
    ⟨linked .warmup, by decide +kernel⟩,
    ⟨{ linked .boot with aon := { (linked .boot).aon with fillDone := true } }, by decide +kernel⟩⟩

set_option maxRecDepth 1000000 in
/-- The hypotheses of each clause of SuppliesAndReset are met together. -/
theorem witness_SuppliesAndReset :
    (∃ (s : State), s.sys.mode = .hibernate ∧ s.sys.waking = false ∧ s.sys.trans = none) ∧
    (∃ (s : State), s.sys.waking = true ∧ s.sys.mainWait = none ∧ s.seqRuns = false ∧ s.fld F.FED_STAT_STATE 0 =
      fedOwner ∧ s.entryUp 0 ≠ 0xFF) ∧
    (∃ (s : State), s.sys.waking = true ∧ s.sys.mainWait = none ∧ s.seqRuns = false) ∧
    (∃ (s : State) (w : Nat), s.sys.mainWait = some w) ∧
    (∃ (s : State), s.balls.vstby = true) ∧
    (∃ (s : State) (low : Nat), low % 128 ≠ 0 ∧ s.sys.mode ≠ .off ∧ s.sys.mode ≠ .hibernate) ∧
    (∃ (s : State), s.balls.vstby = true) ∧
    (∃ (s : State), s.balls.vstby = false ∧ s.sys.mainWait = none) ∧
    (∃ (s : State) (w : Nat), s.sys.crst = some w ∧ (s.seq.after = .crst ∨ s.crstWaited w = true) ∧ s.scopesOff =
      true ∧ s.seqRuns = false) := by
  refine ⟨⟨linked .hibernate, by decide +kernel⟩,
    ⟨wakingUp, by decide +kernel⟩,
    ⟨wakingUp, by decide +kernel⟩,
    ⟨{ wakingUp with sys := { wakingUp.sys with mainWait := some 3 } }, 3, by decide +kernel⟩,
    ⟨{ wakingUp with sys := { wakingUp.sys with mainWait := some 3 } }, by decide +kernel⟩,
    ⟨linked .print, 3, by decide +kernel⟩,
    ⟨railChanged, by decide +kernel⟩,
    ⟨{ live with balls := { live.balls with vstby := false } }, by decide +kernel⟩,
    ⟨{ live with sys := { live.sys with crst := some 2 } }, 2, by decide +kernel⟩⟩

set_option maxRecDepth 1000000 in
/-- The hypotheses of each clause of ScopeRequests are met together. -/
theorem witness_ScopeRequests :
    (∃ (s : State) (sc : Nat), s.openPage B.SEQ 0 ∧ sc < 4 ∧ seqModeOk s.sys.mode = true ∧ sc ≠ 0 ∧ s.entryUp sc ≠
      0xFF ∧ s.scopeState sc = scOff ∧ s.seqRuns = false ∧ (∀ k, k < 4 → k ≠ sc → s.scopePend k ≠ 1)) ∧
    (∃ (s : State) (sc : Nat), s.openPage B.SEQ 0 ∧ sc < 4 ∧ seqModeOk s.sys.mode = true ∧ sc ≠ 0 ∧ s.entryDn sc ≠
      0xFF ∧ s.scopeState sc = scOn) ∧
    (∃ (s : State) (sc : Nat), s.openPage B.SEQ 0 ∧ sc < 4) ∧
    (∃ (s : State) (sc : Nat), s.openPage B.SEQ 0 ∧ sc < 4) ∧
    (∃ (s : State) (sc : Nat), s.seqRuns = false ∧ s.seqOrder.find? (fun k => s.scopePend k == 2 && s.scopeState k ==
      scOn) = some sc) ∧
    (∃ (s : State) (k : Ckpt) (rest : List Ckpt), s.att.ckpts = k :: rest ∧ s.keepWorn kwSel = false ∧ (∀ i, i < 17 →
      s.keepWorn (kwCkpt (1 - s.ckptSel) i) = false)) := by
  refine ⟨⟨scopeIn 0, 2, by decide +kernel⟩,
    ⟨scopeIn 0x200, 2, by decide +kernel⟩,
    ⟨scopeIn 0, 0, by decide +kernel⟩,
    ⟨scopeIn 0x200, 1, by decide +kernel⟩,
    ⟨scopeIn 0xA00, 2, by decide +kernel⟩,
    ⟨committing, { head := none, ceil := some 70000, clean := false }, [], by decide +kernel⟩⟩

set_option maxRecDepth 1000000 in
/-- The hypotheses of each clause of ApertureCommands are met together. -/
theorem witness_ApertureCommands :
    (∃ (s : State) (r : Nat) (bs : List Byte) (errs : List CwErr), s.offers r 1 bs errs ∧ fieldAt bs 2 2 < 160 ∧
      ((s.ctx (fieldAt bs 2 2)).st = .free ∨ (s.ctx (fieldAt bs 2 2)).st = .retired) ∧ (s.entryRead r errs).inRange {
      Ctx.init with desc := bs } = true ∧ (s.entryRead r errs).heldElsewhere (fieldAt bs 2 2) { Ctx.init with desc :=
      bs } = false) ∧
    (∃ (s : State) (r : Nat) (bs : List Byte) (errs : List CwErr), s.offers r 2 bs errs ∧ fieldAt bs 2 2 < 160 ∧
      (s.ctx (fieldAt bs 2 2)).st = .staged ∧ restageKey bs = restageKey (s.ctx (fieldAt bs 2 2)).desc ∧ (s.entryRead
      r errs).inRange { Ctx.init with desc := bs } = true) ∧
    (∃ (s : State) (r : Nat) (bs : List Byte) (errs : List CwErr), s.offers r 3 bs errs ∧ fieldAt bs 2 2 < 160 ∧
      ((s.ctx (fieldAt bs 2 2)).st = .admitted ∨ (s.ctx (fieldAt bs 2 2)).st = .exposing) ∧ (s.entryRead r
      errs).inRange { Ctx.init with desc := bs } = true) ∧
    (∃ (s : State) (r : Nat) (bs : List Byte) (errs : List CwErr), s.offers r 4 bs errs ∧ fieldAt bs 2 2 < 160 ∧
      (s.ctx (fieldAt bs 2 2)).st = .staged ∧ (s.entryRead r errs).inRange { Ctx.init with desc := bs } = true) ∧
    (∃ (s : State) (r : Nat) (bs : List Byte) (errs : List CwErr), s.offers r 4 bs errs ∧ fieldAt bs 2 2 < 160 ∧
      (s.ctx (fieldAt bs 2 2)).st ≠ .staged) := by
  refine ⟨⟨offering (described 1) .retired, 12, sealed (described 1), [], by decide +kernel⟩,
    ⟨offering (described 2) .staged, 12, sealed (described 2), [], by decide +kernel⟩,
    ⟨offering (described 3) .exposing, 12, sealed (described 3), [], by decide +kernel⟩,
    ⟨offering (described 4) .staged, 12, sealed (described 4), [], by decide +kernel⟩,
    ⟨offering (described 4) .admitted, 12, sealed (described 4), [], by decide +kernel⟩⟩

set_option maxRecDepth 1000000 in
/-- The hypotheses of each clause of Postings are met together. -/
theorem witness_Postings :
    (∃ (s : State) (s1 : State) (s2 : State) (r : Nat) (i : Nat) (j : Nat) (bs : List Byte) (e : List Byte) (p :
      PlaneRec) (errs : List CwErr), s.posts r 1 bs errs ∧ s.findRec (fieldAt bs 8 8) = some (i, p) ∧ s.planeRec i =
      some p ∧ p.bad = false ∧ s.beyondStaged i = false ∧ p.station = r / 2 ∧ p.plane = r % 2 ∧ fieldAt bs 0x14 4 = 1
      ∧ fieldAt bs 0x10 4 = j ∧ j < p.nBlocks ∧ s.entryRead r errs = s1 ∧ s1.entryBytes p.addr j = e ∧ s1.demand
      (entAddr e) 32 errs = s2) ∧
    (∃ (s : State) (r : Nat) (i : Nat) (bs : List Byte) (errs : List CwErr), s.posts r 1 bs errs ∧ s.findRec (fieldAt
      bs 8 8) = none ∧ s.freeSlot = some i ∧ s.fst.claims = [] ∧ fieldAt bs 0x14 4 = 0) ∧
    (∃ (s : State) (r : Nat) (i : Nat) (bs : List Byte) (p : PlaneRec) (errs : List CwErr), s.posts r 2 bs errs ∧
      s.findRec (fieldAt bs 8 8) = some (i, p)) ∧
    (∃ (s : State) (i : Nat) (a : Nat) (c : Nat) (rest : List Claim), s.fst.claims = Claim.mk a c :: rest ∧
      s.freeSlot = some i) := by
  refine ⟨⟨posted (posting 1 4096 0 1) (some (oneBlock none)) [],
      (posted (posting 1 4096 0 1) (some (oneBlock none)) []).taken,
      ((posted (posting 1 4096 0 1) (some (oneBlock none)) []).taken.demand 0 32 []), 0, 0, 0, posting 1 4096 0 1,
      List.replicate 16 0, oneBlock none, [], by decide +kernel⟩,
    ⟨posted (posting 1 4096 0 0) none [], 0, 0, posting 1 4096 0 0, [], by decide +kernel⟩,
    ⟨posted (posting 2 4096 0 0) (some (oneBlock none)) [], 0, 0, posting 2 4096 0 0, oneBlock none, [], by
      decide +kernel⟩,
    ⟨posted [] none [Claim.mk 4096 7], 0, 4096, 7, [], by decide +kernel⟩⟩

set_option maxRecDepth 1000000 in
/-- The hypotheses of each clause of FramesAlongTheTransport are met together. -/
theorem witness_FramesAlongTheTransport :
    (∃ (s : State) (c : Nat), s.passedBy .exposed ((s.reg (F.APR_FUSE_DIST.addr 0)).toNat) = some c) ∧
    (∃ (s : State) (c : Nat), s.passedBy .fused ((s.reg (F.APR_DLV_DIST.addr 0)).toNat) = some c ∧ s.ctxsWith (fun x
      => decide (x.st = .spoiled)) = []) ∧
    (∃ (s : State) (a : Nat) (rest : List Nat), s.ecc.handed = a :: rest ∧ s.fst.recs = []) ∧
    (∃ (s : State) (a : Nat) (rest : List Nat), s.ecc.handed = a :: rest) ∧
    (∃ (s : State) (c : Nat) (a : Nat), s.fst.hits = [Hit.mk (some c) a] ∧ (s.ctx c).st = .admitted ∧ (s.ctx c).begun
      = 0) ∧
    (∃ (s : State) (r : Nat) (bs : List Byte), r < 32 ∧ s.ringq.store = [] ∧ s.ringq.queue = [(r, bs)] ∧
      s.ringWritable r = true ∧ 0 < s.ringRoom r ∧ s.ringInHost r = false ∧ s.flag F.RING_CTRL_SHADOW_EN (ringInst r)
      = false) := by
  refine ⟨⟨passing .exposed false, 3, by decide +kernel⟩,
    ⟨passing .fused true, 3, by decide +kernel⟩,
    ⟨{ live with ecc := { Ecc.init with handed := [128] } }, 128, [], by decide +kernel⟩,
    ⟨{ posted [] (some (oneBlock none)) [] with ecc := { Ecc.init with handed := [4096, 128] } }, 4096, [128], by
      decide +kernel⟩,
    ⟨{ passing .admitted false with fst := { Fst.init with hits := [Hit.mk (some 3) 128] } }, 3, 128, by decide +kernel⟩,
    ⟨queued [1,2,3], 16, [1,2,3], by decide +kernel⟩⟩

set_option maxRecDepth 1000000 in
/-- The hypotheses of each clause of RingPointers are met together. -/
theorem witness_RingPointers :
    (∃ (s : State) (r : Nat) (v : Nat) (n : Nat), r ≤ 15 ∧ s.openPage B.APR (ringInst r) ∧ s.tailAdvance r v = some
      n) ∧
    (∃ (s : State) (r : Nat) (v : Nat), hostTail r = true ∧ s.openPage B.APR (ringInst r) ∧ s.tailAdvance r v = none) ∧
    (∃ (s : State) (r : Nat), r ≤ 31 ∧ hostTail r = false ∧ s.openPage B.APR (ringInst r)) ∧
    (∃ (s : State) (r : Nat) (v : Nat) (n : Nat), r ≤ 31 ∧ hostTail r = false ∧ s.openPage B.APR (ringInst r) ∧
      s.headAdvance r v = some n) ∧
    (∃ (s : State) (r : Nat) (v : Nat), r ≤ 31 ∧ hostTail r = false ∧ s.openPage B.APR (ringInst r) ∧ s.headAdvance r
      v = none) ∧
    (∃ (s : State) (r : Nat), r ≤ 31 ∧ s.openPage B.APR (ringInst r) ∧ s.fld F.RING_RSV_COUNT (ringInst r) = 0 ∧
      s.ringWaiting r = 0 ∧ s.ringUsed 28 = 0 ∧ s.ringUsed 29 = 0) ∧
    (∃ (s : State), s.openPage B.APR 0 ∧ s.domOn .img = true) := by
  refine ⟨⟨live, 15, 15, 15, by decide +kernel⟩,
    ⟨live, 15, 16, by decide +kernel⟩,
    ⟨live, 16, by decide +kernel⟩,
    ⟨live, 31, 0, 0, by decide +kernel⟩,
    ⟨live, 16, 1, by decide +kernel⟩,
    ⟨live, 0, by decide +kernel⟩,
    ⟨live, by decide +kernel⟩⟩

set_option maxRecDepth 1000000 in
/-- The hypotheses of each clause of ReceiptCommands are met together. -/
theorem witness_ReceiptCommands :
    (∃ (s : State) (c : Nat) (n : Nat), c < 160 ∧ n < 6 ∧ (s.ctx c).uses n = true ∧ ((s.ctx c).at n).root = none ∧
      bit (s.ctx c).done n = true) ∧
    (∃ (s : State) (c : Nat) (rest : List Nat), s.att.queue = c :: rest ∧ (s.ctx c).rooted = true ∧ s.receiptMode =
      true ∧ s.ctrWaits ((s.ctx c).counter.getD 0) = false ∧ (s.ctx c).lostPend = none ∧ (s.ctx c).counter.getD 0 < 2
      ^ 64) ∧
    (∃ (s : State), s.att.queue ≠ []) ∧
    (∃ (s : State), s.domOn .sec = true) ∧
    (∃ (s : State), s.att.retrying = true ∧ s.receiptMode = true) ∧
    (∃ (s : State) (k : Ckpt) (rest : List Ckpt), s.att.ckpts = k :: rest) := by
  refine ⟨⟨{ live with ctxs := [(3, { Ctx.init with st := .spoiled, done := 1, desc := leBytes 5 0 ++ [1] ++ List.replicate 18 0 ++ leBytes 2 1 ++ [1] ++ List.replicate 229 0 })] },
      3, 0, by decide +kernel⟩,
    ⟨toSign, 3, [], by decide +kernel⟩,
    ⟨toSign, by decide +kernel⟩,
    ⟨toSign, by decide +kernel⟩,
    ⟨{ toSign with att := { toSign.att with retrying := true } }, by decide +kernel⟩,
    ⟨{ live with att := { Att.init with ckpts := [{ head := none, ceil := some 5, clean := false }] } },
      { head := none, ceil := some 5, clean := false }, [], by decide +kernel⟩⟩

set_option maxRecDepth 1000000 in
/-- The hypotheses of each clause of LmemBringUp are met together. -/
theorem witness_LmemBringUp :
    (∃ (s : State), s.flag F.MEM_STAT_TRAINED 0 = false ∧ s.domOn .mem = true ∧ s.flag F.MEM_CFG_VALID 0 = true) ∧
    (∃ (s : State) (f : Nat), s.flag F.MEM_STAT_TRAINED 0 = false ∧ s.domOn .mem = true ∧ s.flag F.MEM_CFG_VALID 0 =
      true ∧ bits f 0 (chanCount (s.fld F.MEM_CFG_CHANS 0)) ≠ 0) ∧
    (∃ (s : State), s.flag F.MEM_STAT_TRAINED 0 = false ∧ s.domOn .mem = true) ∧
    (∃ (s : State), s.flag F.MEM_STAT_FILLING 0 = true) ∧
    (∃ (s : State), s.flag F.ECC_SCRUB_CFG_EN 0x10 = true ∧ s.aon.fillDone = true ∧ s.domOn .mem = true ∧ 0 <
      s.lmemSize ∧ s.lmemSize ≤ 2 ^ 40) ∧
    (∃ (s : State) (ch : Nat), ch < chanCount (s.fld F.MEM_CFG_CHANS 0) ∧ s.openPage B.ECC ch) ∧
    (∃ (s : State), s.openPage B.ECC 0x10) := by
  refine ⟨⟨untrained, by decide +kernel⟩,
    ⟨untrained, 8, by decide +kernel⟩,
    ⟨untrained, by decide +kernel⟩,
    ⟨live.setFlag F.MEM_STAT_FILLING 0 true, by decide +kernel⟩,
    ⟨scrubbing 128, by decide +kernel⟩,
    ⟨untrained, 3, by decide +kernel⟩,
    ⟨{ live with ecc := { Ecc.init with window := [(1,1)], total := [(1,1)], table := [(0, some {addr := 0, rank := 0, channel := 0, device := 0, hits := 1})] } },
      by decide +kernel⟩⟩

set_option maxRecDepth 1000000 in
/-- The hypotheses of each clause of HostToLmem are met together. -/
theorem witness_HostToLmem :
    (∃ (s : State) (off : Nat) (data : List Byte), s.hostPath = true ∧ off < 2 ^ 32 ∧ s.sys.mode ≠ .lockdown ∧
      s.lmemReady = true ∧ data ≠ [] ∧ s.b2Base + off + data.length ≤ s.lmemSize ∧ s.guarded (s.b2Base + off)
      data.length = false ∧ s.ownedRange (s.b2Base + off) data.length = false) ∧
    (∃ (s : State) (off : Nat), s.hostPath = true ∧ off < 2 ^ 32 ∧ s.sys.mode ≠ .lockdown ∧ s.lmemReady = false) ∧
    (∃ (s : State) (d : State) (off : Nat) (len : Nat) (errs : List CwErr), s.hostPath = true ∧ off < 2 ^ 32 ∧
      s.lmemReady = true ∧ s.b2Base + off + len ≤ s.lmemSize ∧ ((s.bundle.ok && s.bundle.enc) = false ∨ s.b2Base +
      off + len ≤ s.bundleBase) ∧ s.demand (s.b2Base + off) len errs = d) ∧
    (∃ (s : State) (off : Nat), s.hostPath = true ∧ off < 2 ^ 32 ∧ (s.lmemReady = false ∨ ((s.bundle.ok &&
      s.bundle.enc) = true ∧ s.bundleBase ≤ s.b2Base + off))) ∧
    (∃ (s : State), s.hostPath = true ∧ s.sys.mode ≠ .lockdown) ∧
    (∃ (s : State) (k : Nat), s.domOn .mem = true ∧ 1 ≤ k ∧ k ≤ 3) ∧
    (∃ (s : State), s.domOn .mem = true) := by
  refine ⟨⟨{ hosted true with lmem := [(8, 7)] }, 8, [0, 5, 6], by decide +kernel⟩,
    ⟨hosted false, 8, by decide +kernel⟩,
    ⟨{ hosted true with lmem := [(8, 7)] }, ({ hosted true with lmem := [(8, 7)] }).taken, 8, 4, [], by decide +kernel⟩,
    ⟨hosted false, 8, by decide +kernel⟩,
    ⟨hosted true, by decide +kernel⟩,
    ⟨live, 3, by decide +kernel⟩,
    ⟨live, by decide +kernel⟩⟩

set_option maxRecDepth 1000000 in
/-- The hypotheses of each clause of DmaChannels are met together. -/
theorem witness_DmaChannels :
    (∃ (s : State) (c : Nat), c < 16 ∧ s.openPage B.DMA c ∧ s.dmState c = 0 ∧ s.pageEn B.DMA c = true ∧ s.dmaBad c =
      true) ∧
    (∃ (s : State) (c : Nat), c < 16 ∧ s.openPage B.DMA c ∧ s.dmState c = 0 ∧ s.pageEn B.DMA c = true ∧ s.dmaBad c =
      false ∧ (s.dmaAligned c = true ∨ s.flag F.DMA_CFG_ALIGN_FB c = true) ∧ (s.lmemReady = true ∨ (s.sspace c ≠ 0 ∧
      s.dspace c ≠ 0))) ∧
    (∃ (s : State) (c : Nat), c < 16 ∧ s.domOn .hst = true ∧ s.dmState c = 1 ∧ ((s.fld F.DMA_CFG_REQ c = 1 ∧
      (s.encAsks c = true ∨ s.toPort c = false)) ∨ (s.fld F.DMA_CFG_REQ c ≠ 1 ∧ s.balls.gio.getLsbD (s.fld
      F.DMA_CFG_PIN c) = true))) ∧
    (∃ (s : State) (d : State) (c : Nat) (n : Nat) (a : Nat) (b : Nat) (errs : List CwErr), c < 16 ∧ s.domOn .hst =
      true ∧ s.dmaReady c = true ∧ s.dmaTurn c = true ∧ s.sspace c = 0 ∧ s.dspace c = 0 ∧ s.lmemReady = true ∧
      s.nextBurst c = n ∧ s.srcAddr c (s.dma c).next = a ∧ s.dstAddr c (s.dma c).next = b ∧ s.demand (s.dmaSpan c a
      (n * s.esize c)).1 (s.dmaSpan c a (n * s.esize c)).2 errs = d ∧ a + n * s.esize c ≤ s.lmemSize ∧ b + n *
      s.esize c ≤ s.lmemSize ∧ s.guarded b (n * s.esize c) = false ∧ s.ownedRange b (n * s.esize c) = false ∧ n ≤
      s.pair64 F.DMA_REMAIN_LO c) ∧
    (∃ (s : State) (d : State) (c : Nat) (n : Nat) (a : Nat) (b : Nat) (errs : List CwErr), c < 16 ∧ s.domOn .hst =
      true ∧ s.dmaReady c = true ∧ s.dmaTurn c = true ∧ s.sspace c = 0 ∧ s.dspace c = 1 ∧ s.flag F.HST_LINK_UP 0 =
      true ∧ s.lmemReady = true ∧ s.nextBurst c = n ∧ s.srcAddr c (s.dma c).next = a ∧ s.dstAddr c (s.dma c).next = b
      ∧ s.demand (s.dmaSpan c a (n * s.esize c)).1 (s.dmaSpan c a (n * s.esize c)).2 errs = d ∧ a + n * s.esize c ≤
      s.lmemSize ∧ n ≤ s.pair64 F.DMA_REMAIN_LO c) ∧
    (∃ (s : State) (c : Nat), c < 16 ∧ s.domOn .hst = true ∧ s.dmaReady c = true ∧ s.dmaTurn c = true ∧ s.sspace c =
      1 ∧ s.flag F.HST_LINK_UP 0 = true) ∧
    (∃ (s : State) (c : Nat), c < 16 ∧ s.domOn .hst = true ∧ s.dmState c = 2 ∧ (s.dma c).reading = 0 ∧ (s.dma
      c).writing ≠ 0) ∧
    (∃ (s : State) (c : Nat), c < 16 ∧ s.domOn .hst = true ∧ s.dmState c = 2 ∧ (s.dma c).reading ≠ 0) ∧
    (∃ (s : State) (c : Nat) (n : Nat) (b : Nat), c < 16 ∧ s.domOn .hst = true ∧ s.dmState c = 2 ∧ (s.dma c).reading
      = n ∧ n ≠ 0 ∧ s.dspace c = 0 ∧ s.dstAddr c (s.dma c).next = b ∧ b + n * s.esize c ≤ s.lmemSize ∧ s.guarded b (n
      * s.esize c) = false ∧ s.ownedRange b (n * s.esize c) = false ∧ n ≤ s.pair64 F.DMA_REMAIN_LO c) ∧
    (∃ (s : State) (c : Nat), c < 16 ∧ s.domOn .hst = true ∧ s.dmState c = 3) ∧
    (∃ (s : State) (c : Nat), c < 16 ∧ s.openPage B.DMA c ∧ s.domOn .hst = true ∧ (s.dmState c = 1 ∨ s.dmState c = 2)
      ∧ (s.dma c).reading = 0 ∧ (s.dma c).writing = 0) := by
  refine ⟨⟨copying 0 0 Dma.init, 15, by decide +kernel⟩,
    ⟨copying 0 5 Dma.init, 15, by decide +kernel⟩,
    ⟨asking, 15, by decide +kernel⟩,
    ⟨copying 2 5 Dma.init, (copying 2 5 Dma.init).taken, 15, 5, 256, 4096, [], by decide +kernel⟩,
    ⟨hostCopy 0 1, (hostCopy 0 1).taken, 15, 5, 256, 4096, [], by decide +kernel⟩,
    ⟨hostCopy 1 0, 15, by decide +kernel⟩,
    ⟨copying 2 5 { Dma.init with writing := 5 }, 15, by decide +kernel⟩,
    ⟨copying 2 5 { Dma.init with reading := 5 }, 15, by decide +kernel⟩,
    ⟨copying 2 5 { Dma.init with reading := 5 }, 15, 5, 4096, by decide +kernel⟩,
    ⟨copying 3 5 Dma.init, 15, by decide +kernel⟩,
    ⟨copying 2 5 Dma.init, 15, by decide +kernel⟩⟩

set_option maxRecDepth 1000000 in
/-- The hypotheses of each clause of DecoderBands are met together. -/
theorem witness_DecoderBands :
    (∃ (s : State) (n : Nat) (ctx : Nat) (b : Nat) (rest : List (Nat × Nat)), n < 6 ∧ (s.stn n).fmt.decoding = (ctx,
      b) :: rest) ∧
    (∃ (s : State) (n : Nat) (ctx : Nat) (b : Nat) (rest : List (Nat × Nat)), n < 6 ∧ (s.stn n).fmt.decoding = (ctx,
      b) :: rest ∧ ((s.ctx ctx).st = .admitted ∨ (s.ctx ctx).st = .exposing)) := by
  refine ⟨⟨decoding, 5, 3, 2, [], by decide +kernel⟩,
    ⟨decoding, 5, 3, 2, [], by decide +kernel⟩⟩

set_option maxRecDepth 1000000 in
/-- The hypotheses of each clause of EncoderJobs are met together. -/
theorem witness_EncoderJobs :
    (∃ (s : State), s.openPage B.ENC 0 ∧ s.pageEn B.ENC 0 = true ∧ s.encBusy = false ∧ s.encBad = false) ∧
    (∃ (s : State), s.openPage B.ENC 0 ∧ s.pageEn B.ENC 0 = true ∧ (s.encBusy = true ∨ s.encBad = true)) ∧
    (∃ (s : State), s.openPage B.ENC 0 ∧ s.pageEn B.ENC 0 = true ∧ s.encBusy = true) ∧
    (∃ (s : State), s.openPage B.ENC 0 ∧ s.pageEn B.ENC 0 = true ∧ s.encBusy = false ∧ s.enc.ran = true ∧ s.lmemReady
      = true ∧ s.pair64 F.ENC_SAVE_LO 0 + 24704 ≤ s.lmemSize) ∧
    (∃ (s : State) (d : State) (a : Nat) (errs : List CwErr), s.openPage B.ENC 0 ∧ s.pageEn B.ENC 0 = true ∧
      s.encBusy = false ∧ s.pair64 F.ENC_SAVE_LO 0 = a ∧ s.demand a 24704 errs = d) ∧
    (∃ (s : State), s.openPage B.ENC 0 ∧ s.pageEn B.ENC 0 = true ∧ s.encBusy = true) ∧
    (∃ (s : State), s.openPage B.ENC 0 ∧ s.encBusy = true) ∧
    (∃ (s : State), s.domOn .img = true ∧ s.encBusy = true ∧ s.pageEn B.ENC 0 = true ∧ s.enc.loupe = none ∧
      s.enc.loupeReq = [] ∧ s.enc.saveReq = false ∧ s.encBandBytes ≠ 0 ∧ s.encBandBytes ≤ s.enc.port.length ∧ s.fld
      F.ENC_STAT_BAND 0 < s.fld F.ENC_BANDS_BANDS 0) ∧
    (∃ (s : State) (b : Nat), s.domOn .img = true ∧ s.pageEn B.ENC 0 = true ∧ b ∈ s.enc.loupeReq ∧ s.enc.loupe = none
      ∧ s.encBusy = false) := by
  refine ⟨⟨encoder false 1 Enc.init 0, by decide +kernel⟩,
    ⟨encoder true 1 Enc.init 0, by decide +kernel⟩,
    ⟨encoder true 1 Enc.init 0, by decide +kernel⟩,
    ⟨encoder false 1 { Enc.init with ran := true } 0, by decide +kernel⟩,
    ⟨encoder false 1 Enc.init 0, (encoder false 1 Enc.init 0).taken, 0, [], by decide +kernel⟩,
    ⟨encoder true 1 Enc.init 0, by decide +kernel⟩,
    ⟨encoder true 1 { Enc.init with port := [1] } 0, by decide +kernel⟩,
    ⟨encoder true 1 { Enc.init with port := List.replicate 24577 0 } 1, by decide +kernel⟩,
    ⟨encoder false 1 { Enc.init with loupeReq := [3, 2] } 1, 2, by decide +kernel⟩⟩

set_option maxRecDepth 1000000 in
/-- The hypotheses of each clause of FacetBoundaries are met together. -/
theorem witness_FacetBoundaries :
    (∃ (s : State) (n : Nat), n < 6 ∧ s.stnOn n = true) ∧
    (∃ (s : State) (n : Nat), n < 6 ∧ s.stnOn n = true ∧ s.freqNow n ≠ 0 ∧ s.ctxs = [] ∧ (s.stn n).fmt.facetCtx = []
      ∧ (s.stn n).fmt.writes = []) ∧
    (∃ (s : State) (n : Nat), n < 6 ∧ s.stnOn n = true ∧ s.pageEn B.BLN n = true) ∧
    (∃ (s : State) (n : Nat), n < 6 ∧ s.stnOn n = true ∧ 1 ≤ s.fld F.BLN_STAT_LSTATE n ∧ s.fld F.BLN_STAT_LSTATE n ≤
      3 ∧ (s.stn n).bln.retrainHeld = false ∧ (s.stn n).bln.sent ≠ []) ∧
    (∃ (s : State) (n : Nat), n < 6 ∧ s.stnOn n = true ∧ (s.stn n).bln.retrainHeld = false) ∧
    (∃ (s : State) (n : Nat), n < 6 ∧ s.openPage B.FMT n) := by
  refine ⟨⟨clocked, 5, by decide +kernel⟩,
    ⟨clocked, 5, by decide +kernel⟩,
    ⟨{ linkIn 3 with stns := [(5, { Stn.init with bln := { Bln.init with bdSeen := true, sent := [(7, [])] } })] }, 5, by
      decide +kernel⟩,
    ⟨{ linkIn 1 with stns := [(5, { Stn.init with bln := { Bln.init with dark := [0x200, 4], sent := [(0x1234, [])] } })] },
      5, by decide +kernel⟩,
    ⟨linkIn 0, 5, by decide +kernel⟩,
    ⟨live.setFlag F.FMT_HOLD_SPEED_HOLD 5 true, 5, by decide +kernel⟩⟩

set_option maxRecDepth 1000000 in
/-- The hypotheses of each clause of CorrectionLoads are met together. -/
theorem witness_CorrectionLoads :
    (∃ (s : State) (n : Nat) (b : Nat), n < 6 ∧ s.openPage B.COR n ∧ s.pageEn B.COR n = true ∧ (s.stn n).cor.loading
      = none ∧ s.fld F.COR_LOAD_CFG_BANK n = b ∧ (s.activeBank n ≠ b ∨ s.bankVer n b = false) ∧ (s.bankVer n b =
      false ∨ s.holdsSet n (1 - b) (s.bankSet n b) = true ∨ s.ctxsWith (fun x => (x.st = .admitted || x.st =
      .exposing) && x.uses n && x.corSet == s.bankSet n b) = []) ∧ (s.corSection n (s.fld F.COR_LOAD_CFG_SET
      n)).isSome = true) ∧
    (∃ (s : State) (n : Nat), n < 6 ∧ s.openPage B.COR n ∧ s.pageEn B.COR n = true ∧ (s.stn n).cor.loading.isSome =
      true) ∧
    (∃ (s : State) (n : Nat), n < 6 ∧ s.openPage B.COR n ∧ s.pageEn B.COR n = true ∧ (s.stn n).cor.loading = none ∧
      s.bankVer n (s.fld F.COR_LOAD_CFG_BANK n) = false ∧ s.corSection n (s.fld F.COR_LOAD_CFG_SET n) = none) ∧
    (∃ (s : State) (d : State) (n : Nat) (b : Nat) (set : Nat) (a : Nat) (x : Section) (errs : List CwErr), n < 6 ∧ b
      < 2 ∧ set < 2 ^ 8 ∧ (s.stn n).cor.loading = some (b, set) ∧ s.corSection n set = some x ∧ s.bundleBase +
      x.offset = a ∧ s.demand a 196608 errs = d) := by
  refine ⟨⟨corrected 3 none, 0, 1, by decide +kernel⟩,
    ⟨corrected 3 (some (1, 3)), 0, by decide +kernel⟩,
    ⟨corrected 4 none, 0, by decide +kernel⟩,
    ⟨corrected 3 (some (1, 3)), (corrected 3 (some (1, 3))).demand 4096 196608 [CwErr.mk 4224 [] true], 0, 1, 3, 4096,
      { typ := 4, id := 3, station := 0, offset := 4096, length := 196608, digest := [] }, [CwErr.mk 4224 [] true],
      by decide +kernel⟩⟩

set_option maxRecDepth 1000000 in
/-- The hypotheses of each clause of BeamDetect are met together. -/
theorem witness_BeamDetect :
    (∃ (s : State) (n : Nat) (w : Nat) (rising : Bool), n < 6 ∧ s.domOn (.bln n) = true ∧ s.pageEn B.FAC n = true ∧
      s.flag F.FAC_CFG_EDGE n ≠ rising ∧ 64 ≤ w ∧ s.flag F.FAC_STAT_BD_OK n = false ∧ (s.stn n).fac.ts = 0) ∧
    (∃ (s : State) (n : Nat) (w : Nat) (rising : Bool), n < 6 ∧ s.domOn (.bln n) = true ∧ s.pageEn B.FAC n = true ∧
      s.flag F.FAC_CFG_EDGE n ≠ rising ∧ 64 ≤ w ∧ s.flag F.FAC_STAT_BD_OK n = false ∧ (s.stn n).fac.ts ≠ 0) ∧
    (∃ (s : State) (n : Nat) (frac : Nat) (w : Nat) (rising : Bool), n < 6 ∧ s.domOn (.bln n) = true ∧ s.pageEn B.FAC
      n = true ∧ s.flag F.FAC_CFG_EDGE n ≠ rising ∧ 64 ≤ w ∧ s.flag F.FAC_STAT_BD_OK n = true ∧ 32 * s.now + frac %
      128 + s.winBefore n < (s.stn n).fac.ts + s.expPeriod n) ∧
    (∃ (s : State) (n : Nat) (w : Nat) (rising : Bool), (s.flag F.FAC_CFG_EDGE n = rising ∨ w < 64)) ∧
    (∃ (s : State) (n : Nat), n < 6 ∧ s.domOn (.bln n) = true ∧ s.flag F.FAC_STAT_BD_OK n = true) := by
  refine ⟨⟨beam 0 Fac.init, 5, 64, true, by decide +kernel⟩,
    ⟨beam 0 { Fac.init with ts := 500 }, 5, 64, true, by decide +kernel⟩,
    ⟨beam 1 { Fac.init with ts := 30000, periods := [(20000, 0)] }, 5, 5, 64, true, by decide +kernel⟩,
    ⟨beam 1 Fac.init, 5, 64, false, by decide +kernel⟩,
    ⟨beam 3 { Fac.init with ts := 30000, periods := [(20000, 0)] }, 5, by decide +kernel⟩⟩

set_option maxRecDepth 1000000 in
/-- The hypotheses of each clause of PixelClock are met together. -/
theorem witness_PixelClock :
    (∃ (s : State) (n : Nat), n < 6 ∧ s.domOn (.bln n) = true ∧ s.pixFreq n (s.fld F.CLK_STAT_CLASS n) ≠ 0) ∧
    (∃ (s : State) (n : Nat), n < 6 ∧ s.domOn (.bln n) = true) ∧
    (∃ (s : State) (n : Nat), n < 6 ∧ s.domOn (.bln n) = true ∧ s.flag F.CLK_STAT_SYN_LOCK n = true) ∧
    (∃ (s : State) (n : Nat), n < 6 ∧ s.domOn (.bln n) = true ∧ s.flag F.CLK_STAT_DLL_LOCK n = true) ∧
    (∃ (s : State) (n : Nat) (c : Nat), n < 6 ∧ s.stnOn n = true ∧ s.nextFrame n = some c ∧ s.locked n = true ∧
      (s.stn n).fmt.owners = [] ∧ (s.ctx c).cls ≠ s.stnClass n ∧ (s.ctx c).cls < 16) ∧
    (∃ (s : State) (n : Nat) (c : Nat), n < 6 ∧ s.stnOn n = true ∧ s.nextFrame n = some c ∧ s.flag F.FAC_STAT_RETUNE
      n = true ∧ s.locked n = false ∧ (s.ctx c).st = .admitted ∧ (s.ctx c).begun = 0) := by
  refine ⟨⟨classed true false false, 5, by decide +kernel⟩,
    ⟨classed true false true, 5, by decide +kernel⟩,
    ⟨classed true false true, 5, by decide +kernel⟩,
    ⟨classed true false true, 5, by decide +kernel⟩,
    ⟨classed true false true, 5, 3, by decide +kernel⟩,
    ⟨classed false true false, 5, 3, by decide +kernel⟩⟩

set_option maxRecDepth 1000000 in
/-- The hypotheses of each clause of LinkCommands are met together. -/
theorem witness_LinkCommands :
    (∃ (s : State) (n : Nat), n < 6 ∧ s.openPage B.BLN n) ∧
    (∃ (s : State) (n : Nat), n < 6 ∧ s.openPage B.BLN n ∧ s.flag F.BLN_CTRL_EN n = true) ∧
    (∃ (s : State) (n : Nat), n < 6 ∧ s.stnOn n = true ∧ s.flag F.BLN_CTRL_AUTO n = true ∧ s.flag F.BLN_CTRL_EN n =
      true ∧ s.link n = 4 ∧ (s.stn n).fmt.owners = [] ∧ ((s.stn n).bln.autoAt.all fun w => decide (w + 10000000 ≤
      s.now)) = true) ∧
    (∃ (s : State) (n : Nat), n < 6 ∧ s.domOn (.bln n) = true ∧ s.link n = 1) ∧
    (∃ (s : State) (n : Nat), n < 6 ∧ s.domOn (.bln n) = true ∧ s.link n = 1) ∧
    (∃ (s : State) (n : Nat), n < 6 ∧ s.openPage B.BLN n ∧ (s.link n = 2 ∨ s.link n = 3)) ∧
    (∃ (s : State) (n : Nat), n < 6 ∧ s.domOn (.bln n) = true ∧ s.link n = 2) ∧
    (∃ (s : State) (n : Nat), n < 6 ∧ s.domOn (.bln n) = true ∧ s.link n = 2) ∧
    (∃ (s : State) (n : Nat), n < 6 ∧ s.openPage B.BLN n) ∧
    (∃ (s : State) (n : Nat), n < 6 ∧ s.openPage B.BLN n ∧ s.flag F.BLN_CTRL_EN n = true) := by
  refine ⟨⟨live, 5, by decide +kernel⟩,
    ⟨linkAt 3 [], 5, by decide +kernel⟩,
    ⟨linkAt 4 [], 5, by decide +kernel⟩,
    ⟨linkAt 1 [], 5, by decide +kernel⟩,
    ⟨linkAt 1 [], 5, by decide +kernel⟩,
    ⟨linkAt 3 [], 5, by decide +kernel⟩,
    ⟨linkAt 2 [], 5, by decide +kernel⟩,
    ⟨linkAt 2 [], 5, by decide +kernel⟩,
    ⟨linkAt 3 [], 5, by decide +kernel⟩,
    ⟨linkAt 3 [], 5, by decide +kernel⟩⟩

set_option maxRecDepth 1000000 in
/-- The hypotheses of each clause of LinkBackChannel are met together. -/
theorem witness_LinkBackChannel :
    (∃ (s : State) (n : Nat) (i : Nat), s.hears n = true ∧ i < 4) ∧
    (∃ (s : State) (n : Nat) (e : Nat), s.hears n = true ∧ e < 48) ∧
    (∃ (s : State) (n : Nat) (a : Nat), s.hears n = true ∧ s.link n = 2 ∧ a + 4 ≤ 0xC54) ∧
    (∃ (s : State) (n : Nat) (flags : Nat) (seq : Nat), s.hears n = true ∧ ((s.stn n).bln.sent.head?.any fun k =>
      decide (1 < (k.1 + 65536 - seq % 65536) % 65536)) = false ∧ s.link n = 3 ∧ bit flags 1 = true) ∧
    (∃ (s : State) (n : Nat) (flags : Nat) (seq : Nat), s.hears n = true ∧ ((s.stn n).bln.sent.head?.any fun k =>
      decide (1 < (k.1 + 65536 - seq % 65536) % 65536)) = false ∧ s.link n ≠ 3 ∧ bit flags 3 = false ∧ bit flags 4 =
      false) ∧
    (∃ (s : State) (n : Nat), s.hears n = true) ∧
    (∃ (s : State) (n : Nat), s.hears n = true ∧ s.link n ≠ 1) := by
  refine ⟨⟨linkAt 3 [], 5, 3, by decide +kernel⟩,
    ⟨linkAt 3 [], 5, 47, by decide +kernel⟩,
    ⟨linkAt 2 [], 5, 8, by decide +kernel⟩,
    ⟨linkAt 3 [], 5, 0x1E, 70000, by decide +kernel⟩,
    ⟨linkAt 2 [], 5, 6, 70000, by decide +kernel⟩,
    ⟨linkAt 3 [], 5, by decide +kernel⟩,
    ⟨linkAt 3 [], 5, by decide +kernel⟩⟩

set_option maxRecDepth 1000000 in
/-- The hypotheses of each clause of KeepStoreWrites are met together. -/
theorem witness_KeepStoreWrites :
    (∃ (s : State) (src : KeepSrc) (w : Nat), s.keepTarget src = some w) ∧
    (∃ (s : State), s.openPage B.KPS 0 ∧ 0x800 ≤ s.fld F.KPS_SEL_WORD 0) ∧
    (∃ (s : State) (q : KeepWrite) (rest : List KeepWrite), s.keep.queue = q :: rest) := by
  refine ⟨⟨live, .kps, 0, by decide +kernel⟩,
    ⟨liveWith [(F.KPS_SEL.addr 0, 0x800)], by decide +kernel⟩,
    ⟨keepQueued 0, KeepWrite.mk 7 5, [], by decide +kernel⟩⟩

set_option maxRecDepth 1000000 in
/-- The hypotheses of each clause of RailLogsAndStations are met together. -/
theorem witness_RailLogsAndStations :
    (∃ (s : State), s.sys.mode ≠ .hibernate ∧ s.sys.mode ≠ .off) ∧
    (∃ (s : State) (r : Nat), r < 48 ∧ (s.rail r).changed = true ∧ (s.rail r).commitAt + 600 * 10 ^ 9 ≤ s.now) ∧
    (∃ (s : State), s.openPage B.PWR 0x40) ∧
    (∃ (s : State), s.openPage B.PWR 0x40) ∧
    (∃ (s : State), s.openPage B.PWR 0x40) := by
  refine ⟨⟨live, by decide +kernel⟩,
    ⟨railChanged, 47, by decide +kernel⟩,
    ⟨railChanged, by decide +kernel⟩,
    ⟨railChanged, by decide +kernel⟩,
    ⟨live, by decide +kernel⟩⟩

set_option maxRecDepth 1000000 in
/-- The hypotheses of each clause of SequencerSteps are met together. -/
theorem witness_SequencerSteps :
    (∃ (s : State) (w : Nat), s.readyStep = some w ∧ bits w 28 4 = 1 ∧ bit w 26 = false ∧ bits w 0 6 < 48) ∧
    (∃ (s : State) (w : Nat), s.readyStep = some w ∧ bits w 28 4 = 2) ∧
    (∃ (s : State), s.seqRuns = true ∧ s.seq.wait = .timer ∧ s.waited (waitNs (s.stepWord s.seqStep)) = true) ∧
    (∃ (s : State), s.readyStep = some (s.stepWord s.seqStep) ∧ bits (s.stepWord s.seqStep) 28 4 = 3) ∧
    (∃ (s : State), s.seqRuns = true ∧ s.seq.wait = .check ∧ s.waited (checkNs (s.stepWord s.seqStep)) = true) ∧
    (∃ (s : State) (w : Nat), s.readyStep = some w ∧ bits w 28 4 = 4 ∧ bits w 24 4 ≠ 0xF) ∧
    (∃ (s : State), s.seqRuns = true ∧ s.seq.wait = .barrier) ∧
    (∃ (s : State), s.seq.repull = true ∧ s.seq.passAt + 2000 ≤ s.now) ∧
    (∃ (s : State), s.seqRuns = true ∧ s.seq.wait = .barrier ∧ s.waited (waitNs (s.stepWord s.seqStep)) = true) := by
  refine ⟨⟨seqAt 0x18000005 .ready true, 0x18000005, by decide +kernel⟩,
    ⟨seqAt 0x28000000 .ready true, 0x28000000, by decide +kernel⟩,
    ⟨seqAt 0x20000000 .timer true, by decide +kernel⟩,
    ⟨seqAt 0x30000000 .ready true, by decide +kernel⟩,
    ⟨seqAt 0x30000400 .check true, by decide +kernel⟩,
    ⟨seqAt 0x41000700 .ready true, 0x41000700, by decide +kernel⟩,
    ⟨seqAt 0x28000000 .barrier true, by decide +kernel⟩,
    ⟨seqAt 0x28000000 .barrier true, by decide +kernel⟩,
    ⟨seqAt 0x28000000 .barrier true, by decide +kernel⟩⟩

set_option maxRecDepth 1000000 in
/-- The hypotheses of each clause of FeedMessages are met together. -/
theorem witness_FeedMessages :
    (∃ (s : State) (n : Nat), n < 2 ∧ (s.fed n).token = true ∧ s.fld F.FED_STAT_STATE n = fedOwner ∧ (s.fed n).sentAt
      + 50000 ≤ s.now) ∧
    (∃ (s : State) (n : Nat) (w : Word), n < 2 ∧ s.pageOn B.FED n = true ∧ fedGood w 1 = true ∧ s.fld
      F.FED_STAT_STATE n = fedStandby) ∧
    (∃ (s : State) (n : Nat) (w : Word), n < 2 ∧ s.pageOn B.FED n = true ∧ fedGood w 2 = true ∧ bits w.toNat 12 16 =
      s.fld F.FED_STAT_LSEQ n ∧ s.fld F.FED_STAT_STATE n = fedOwner) ∧
    (∃ (s : State) (n : Nat) (w : Word), n < 2 ∧ s.pageOn B.FED n = true ∧ fedGood w 3 = true ∧ s.fld
      F.FED_STAT_STATE n = fedStandby) ∧
    (∃ (s : State) (n : Nat) (w : Word), n < 2 ∧ s.pageOn B.FED n = true ∧ fedGood w 4 = true ∧ s.fld
      F.FED_STAT_STATE n = fedOwner ∧ (s.fed n).claimAt = none) ∧
    (∃ (s : State) (n : Nat) (st : Nat), n < 2 ∧ (s.fed n).giving = some st) ∧
    (∃ (s : State) (n : Nat) (st : Nat), n < 2 ∧ (s.fed n).giving = some st) ∧
    (∃ (s : State) (n : Nat), n < 2 ∧ s.fld F.FED_STAT_STATE n = fedStandby) ∧
    (∃ (s : State) (n : Nat), n < 2 ∧ s.pageOn B.FED n = true ∧ s.fld F.FED_STAT_STATE n = fedOwner ∧ (s.fed
      n).heardAt + 200000 ≤ s.now) ∧
    (∃ (s : State) (n : Nat) (vin0 : Nat) (vin1 : Nat), n = (if bit (s.keepWord (kwFeed 1 0)).toNat 0 = true ∧ bit
      (s.keepWord (kwFeed 0 0)).toNat 0 = false then 1 else 0) ∧ s.pageOn B.FED n = true ∧ s.fld F.FED_STAT_STATE n =
      fedOff ∧ s.flag F.FED_STAT_XGS n = false ∧ (s.fed n).heardAt + 20000 ≤ s.now ∧ bits (s.keepWord (kwFeed n
      1)).toNat 0 16 ≤ (if n = 0 then vin0 else vin1) ∧ (if n = 0 then vin0 else vin1) ≤ bits (s.keepWord (kwFeed n
      1)).toNat 16 16) := by
  refine ⟨⟨{ fedState 2 with feds := [(0, { Fed.init with token := true })], time := 50000 }, 0, by decide +kernel⟩,
    ⟨fedState 1, 0, fedWord 1 65535 true, by decide +kernel⟩,
    ⟨fedState 2, 0, fedWord 2 0 true, by decide +kernel⟩,
    ⟨fedState 1, 0, fedWord 3 65535 false, by decide +kernel⟩,
    ⟨fedState 2, 0, fedWord 4 1 false, by decide +kernel⟩,
    ⟨{ fedState 2 with feds := [(0, { Fed.init with giving := some 1 })] }, 0, 1, by decide +kernel⟩,
    ⟨{ fedState 2 with feds := [(0, { Fed.init with token := true, giving := some 1 })] }, 0, 1, by decide +kernel⟩,
    ⟨fedState 1, 0, by decide +kernel⟩,
    ⟨{ fedState 2 with time := 200000 }, 0, by decide +kernel⟩,
    ⟨{ live with time := 20000 }, 0, 0x200, 0x200, by decide +kernel⟩⟩

set_option maxRecDepth 1000000 in
/-- The hypotheses of each clause of FeedFaults are met together. -/
theorem witness_FeedFaults :
    (∃ (s : State) (n : Nat) (cond : Nat) (vin : Nat) (vbus : Nat) (shunt : Int), n < 2 ∧ 1 ≤ cond ∧ cond ≤ 5 ∧
      s.pageOn B.FED n = true ∧ s.fld F.FED_STAT_STATE n = fedOwner ∧ (s.fedMeasured n vin vbus shunt).fedTest n cond
      = true) ∧
    (∃ (s : State) (n : Nat), n < 2 ∧ s.openPage B.FED n ∧ s.fld F.FED_STAT_STATE n = fedOwner) ∧
    (∃ (s : State) (n : Nat), n < 2 ∧ s.openPage B.FED n ∧ s.fld F.FED_STAT_STATE n = fedFault ∧ (s.fed n).repaired =
      true ∧ s.fld F.FED_STAT_CAUSE n ≠ 6) ∧
    (∃ (s : State) (n : Nat) (vin : Nat), n < 2 ∧ s.pageOn B.FED n = true ∧ s.fld F.FED_STAT_STATE n = fedFault ∧
      (s.fld F.FED_STAT_CAUSE n = 1 ∨ s.fld F.FED_STAT_CAUSE n = 2 ∨ s.fld F.FED_STAT_CAUSE n = 5) ∧ bits (s.keepWord
      (kwFeed n 1)).toNat 0 16 ≤ vin ∧ vin ≤ bits (s.keepWord (kwFeed n 1)).toNat 16 16) ∧
    (∃ (s : State) (n : Nat), n < 2 ∧ s.pageOn B.FED n = true) := by
  refine ⟨⟨fedState 2, 0, 4, 77777, 3, 6000, by decide +kernel⟩,
    ⟨fedState 2, 0, by decide +kernel⟩,
    ⟨fedFaulted 3, 0, by decide +kernel⟩,
    ⟨fedFaulted 1, 0, 0x200, by decide +kernel⟩,
    ⟨fedState 0xFF, 0, by decide +kernel⟩⟩

set_option maxRecDepth 1000000 in
/-- The hypotheses of each clause of SecurityCommands are met together. -/
theorem witness_SecurityCommands :
    (∃ (s : State) (tap : Bool), s.secTakes .provision tap) ∧
    (∃ (s : State) (tap : Bool), s.secTakes .commission tap ∧ s.sec.nonce = true ∧ s.fld F.SEC_CMD_STAT_FAILS 0 < 8) ∧
    (∃ (s : State) (tap : Bool), s.secTakes .ret tap ∧ s.sec.nonce = true ∧ s.fld F.SEC_CMD_STAT_FAILS 0 < 8) ∧
    (∃ (s : State) (tap : Bool), s.secTakes .reprovision tap ∧ s.sec.nonce = true ∧ s.fld F.SEC_CMD_STAT_FAILS 0 < 8) ∧
    (∃ (s : State) (tap : Bool), s.secTakes .opn tap ∧ s.lc ≠ 0 ∧ s.sec.nonce = true ∧ s.fld F.SEC_CMD_STAT_FAILS 0 <
      8) ∧
    (∃ (s : State) (tap : Bool), s.secTakes .opn tap ∧ s.lc = 0) ∧
    (∃ (s : State) (tap : Bool), s.domOn .sec = true ∧ (tap = true ∨ s.openPage B.SEC 0) ∧ s.zpend = 0 ∧ s.sec.cmd =
      none) ∧
    (∃ (s : State) (tap : Bool), s.domOn .sec = true ∧ (tap = true ∨ s.openPage B.SEC 0) ∧ s.zpend = 0 ∧ s.sec.cmd =
      none) := by
  refine ⟨⟨ownerSet, false, by decide +kernel⟩,
    ⟨lifecycle 1 1, false, by decide +kernel⟩,
    ⟨lifecycle 2 1, true, by decide +kernel⟩,
    ⟨lifecycle 3 0, false, by decide +kernel⟩,
    ⟨lifecycle 2 1, true, by decide +kernel⟩,
    ⟨lifecycle 0 0, false, by decide +kernel⟩,
    ⟨lifecycle 0 0, false, by decide +kernel⟩,
    ⟨lifecycle 0 0, true, by decide +kernel⟩⟩

set_option maxRecDepth 1000000 in
/-- The hypotheses of each clause of SecurityCompletions are met together. -/
theorem witness_SecurityCompletions :
    (∃ (s : State) (tap : Bool), s.sec.cmd = some (.provision, tap) ∧ s.keep.wear = []) ∧
    (∃ (s : State) (tap : Bool), s.sec.cmd = some (.commission, tap) ∧ s.keep.wear = []) ∧
    (∃ (s : State) (tap : Bool), s.sec.cmd = some (.opn, tap) ∧ s.zpend = 0) ∧
    (∃ (s : State) (tap : Bool), s.sec.cmd = some (.ret, tap) ∧ s.zpend = 2 ∧ s.keep.wear = []) ∧
    (∃ (s : State) (op : SecOp) (tap : Bool), s.sec.cmd = some (op, tap)) ∧
    (∃ (s : State) (k : Ckpt) (rest : List Ckpt), s.att.ckpts = k :: rest ∧ s.keep.wear = [] ∧ (k.head.getD
      (s.ckptCtr, s.ckptHead)).1 < 2 ^ 64 ∧ k.ceil.getD s.ckptCeil < 2 ^ 64) := by
  refine ⟨⟨secRunning .provision 0, true, by decide +kernel⟩,
    ⟨secRunning .commission 0, true, by decide +kernel⟩,
    ⟨secRunning .opn 0, true, by decide +kernel⟩,
    ⟨secRunning .ret 2, true, by decide +kernel⟩,
    ⟨secRunning .opn 2, .opn, true, by decide +kernel⟩,
    ⟨ckptRuns, { head := some (9, List.replicate 48 7), ceil := some 65536, clean := true }, [], by decide +kernel⟩⟩

set_option maxRecDepth 1000000 in
/-- The hypotheses of each clause of TapInstructions are met together. -/
theorem witness_TapInstructions :
    (∃ (s : State), s.tapOn = true) ∧
    (∃ (s : State), s.tapOn = true) ∧
    (∃ (s : State), s.tapOn = true) ∧
    (∃ (s : State), s.tapOn = true) ∧
    (∃ (s : State), s.tapOn = true) ∧
    (∃ (s : State), s.tapOn = true) ∧
    (∃ (s : State), s.tapOn = true) ∧
    (∃ (s : State), s.tapOn = true) ∧
    (∃ (s : State), s.tapOn = true ∧ s.domOn .sec = true) ∧
    (∃ (s : State) (a : Nat), s.tapOn = true ∧ a < 2 ^ 27) ∧
    (∃ (s : State), s.tapOn = true ∧ s.openPage B.DBG 0 ∧ s.dbgOpen = true ∧ s.flag (H.PAGE_LOCK_LOCK B.DBG) 0 =
      false) ∧
    (∃ (s : State), s.winOn = true) ∧
    (∃ (s : State), s.winOn = false) ∧
    (∃ (s : State) (tap : Bool), s.winOn = true ∧ (if tap = true then s.sys.mode ≠ .lockdown else s.openPage B.DBG
      0)) := by
  refine ⟨⟨live, by decide +kernel⟩,
    ⟨live, by decide +kernel⟩,
    ⟨live, by decide +kernel⟩,
    ⟨live, by decide +kernel⟩,
    ⟨live, by decide +kernel⟩,
    ⟨lifecycle 2 1, by decide +kernel⟩,
    ⟨lifecycle 3 0, by decide +kernel⟩,
    ⟨live, by decide +kernel⟩,
    ⟨lifecycle 2 1, by decide +kernel⟩,
    ⟨live, F.MOT_CTRL.addr 0, by decide +kernel⟩,
    ⟨eyepiece 0, by decide +kernel⟩,
    ⟨eyepiece 0x10, by decide +kernel⟩,
    ⟨live, by decide +kernel⟩,
    ⟨eyepiece 0xFFFFFFFF, true, by decide +kernel⟩⟩

set_option maxRecDepth 1000000 in
/-- The hypotheses of each clause of BundleLoads are met together. -/
theorem witness_BundleLoads :
    (∃ (s : State), s.openPage B.SEC 0 ∧ s.domOn .sec = true ∧ s.sys.mode = .config ∧ s.bundle.ok = false ∧
      s.bundle.loading = none) ∧
    (∃ (s : State), s.openPage B.SEC 0 ∧ s.domOn .sec = true ∧ (s.sys.mode ≠ .config ∨ s.bundle.ok = true)) ∧
    (∃ (s : State) (a : Nat) (errs : List CwErr), s.domOn .sec = true ∧ s.bundle.loading = some (some a) ∧ cleanRead
      errs a 0x140 ∧ s.poisoned a 0x140 = false ∧ headerLayout (s.lmemBytes a 0x140) = false) ∧
    (∃ (s : State) (a : Nat) (errs : List CwErr) (img : List Byte), s.domOn .sec = true ∧ s.bundle.loading = some
      (some a) ∧ cleanRead errs a 0x140 ∧ s.poisoned a 0x140 = false ∧ headerLayout (s.lmemBytes a 0x140) = true ∧
      img = s.lmemBytes a (bhTotal (s.lmemBytes a 0x140)) ∧ cleanRead errs a (bhTotal (s.lmemBytes a 0x140)) ∧
      s.poisoned a (bhTotal (s.lmemBytes a 0x140)) = false) ∧
    (∃ (s : State) (sfdp : BitVec 16) (flash : Option (List Byte)) (img : List Byte), s.domOn .sec = true ∧
      s.bundle.loading = some none ∧ img = (s.flashRead sfdp flash).getD []) := by
  refine ⟨⟨{ loads none with bundle := Bundle.init }, by decide +kernel⟩,
    ⟨live, by decide +kernel⟩,
    ⟨loads (some 0), 0, [], by decide +kernel⟩,
    ⟨headerOnly, 0, [], headerOnly.lmemBytes 0 (bhTotal (headerOnly.lmemBytes 0 0x140)), by decide +kernel⟩,
    ⟨loads none, 0, some [], [], by decide +kernel⟩⟩

set_option maxRecDepth 1000000 in
/-- The hypotheses of each clause of MotorCommands are met together. -/
theorem witness_MotorCommands :
    (∃ (s : State) (m : Nat), m < 24 ∧ s.openPage B.MOT m ∧ s.domOn .ctl = true ∧ s.pageEn B.MOT m = true ∧
      s.sys.mode.moves = true ∧ s.moState m = moOff ∧ s.motBad m = false) ∧
    (∃ (s : State) (m : Nat), m < 24 ∧ s.openPage B.MOT m ∧ s.domOn .ctl = true ∧ s.pageEn B.MOT m = true ∧
      s.sys.mode.moves = true ∧ s.moState m = moOff ∧ s.motBad m = true) ∧
    (∃ (s : State) (m : Nat), m < 24 ∧ s.openPage B.MOT m ∧ s.domOn .ctl = true ∧ s.pageEn B.MOT m = true ∧
      (s.moState m = moCatch ∨ s.moState m = moBrake ∨ s.moState m = moAlign ∨ s.moState m = moOpen ∨ s.moState m =
      moCoast)) ∧
    (∃ (s : State) (m : Nat), m < 24 ∧ s.openPage B.MOT m ∧ s.domOn .ctl = true ∧ s.pageEn B.MOT m = true ∧ s.moState
      m = moRun) ∧
    (∃ (s : State) (m : Nat), m < 24 ∧ s.openPage B.MOT m ∧ s.domOn .ctl = true ∧ s.pageEn B.MOT m = true ∧ s.moState
      m ≠ moRun) ∧
    (∃ (s : State) (m : Nat), m < 24 ∧ s.openPage B.MOT m ∧ s.domOn .ctl = true ∧ s.pageEn B.MOT m = true ∧
      s.sys.mode.moves = true ∧ s.moState m ≠ moRun ∧ s.moState m ≠ moFault ∧ (s.moState m = moOff → s.motBad m =
      false)) := by
  refine ⟨⟨motor 23 0, 23, by decide +kernel⟩,
    ⟨(motor 0 0).setFld F.MOT_CFG_POLES 0 0, 0, by decide +kernel⟩,
    ⟨motor 0 4, 0, by decide +kernel⟩,
    ⟨(((motor 0 5).setFld F.MOT_BIND_STN 0 63).setFlag F.MOT_BIND_XPORT 0 true).setFlag F.MOT_BIND_PG_EN 0 true, 0, by
      decide +kernel⟩,
    ⟨{ (motor 0 8).setFld F.MOT_STAT_FCAUSE 0 4 with flt := { live.flt with pair := [113] } }, 0, by decide +kernel⟩,
    ⟨motor 0 7, 0, by decide +kernel⟩⟩

set_option maxRecDepth 1000000 in
/-- The hypotheses of each clause of MotorEvents are met together. -/
theorem witness_MotorEvents :
    (∃ (s : State) (m : Nat), m < 24 ∧ s.domOn .ctl = true ∧ s.moState m = moCatch) ∧
    (∃ (s : State) (m : Nat), m < 24 ∧ s.domOn .ctl = true ∧ s.moState m = moCatch) ∧
    (∃ (s : State) (m : Nat), m < 24 ∧ s.domOn .ctl = true ∧ ((s.moState m = moBrake ∧ (s.mot m).braking = .catch) ∨
      s.moState m = moStopping)) ∧
    (∃ (s : State) (m : Nat), m < 24 ∧ s.domOn .ctl = true ∧ s.ranFor m (s.alignTime m) = true ∧ (s.moState m =
      moAlign ∨ (s.moState m = moBrake ∧ (s.mot m).braking = .stop))) ∧
    (∃ (s : State) (m : Nat), m < 24 ∧ s.domOn .ctl = true ∧ s.moMode m = 0 ∧ (s.moState m = moOpen ∨ s.moState m =
      moRun ∨ s.moState m = moCoast ∨ s.moState m = moStopping) ∧ (s.mot m).last = none) ∧
    (∃ (s : State) (m : Nat) (t0 : Nat), m < 24 ∧ s.domOn .ctl = true ∧ s.moMode m = 0 ∧ s.moState m = moOpen ∧
      (s.mot m).last = some t0 ∧ (s.mot m).gaps.length = 6) ∧
    (∃ (s : State) (m : Nat), m < 24 ∧ s.domOn .ctl = true ∧ ((s.moState m = moOpen ∧ (s.olRamp m).any (fun r =>
      s.ranFor m (r + 10 ^ 9)) = true) ∨ (s.moState m = moBrake ∧ (s.mot m).braking = .catch ∧ s.ranFor m (10 ^ 10) =
      true))) ∧
    (∃ (s : State) (m : Nat), m < 24 ∧ s.domOn .ctl = true ∧ s.moMode m = 0 ∧ s.moState m = moStopping ∧ ((s.mot
      m).gaps.length ≠ 6 ∨ s.crossingLate m s.now = true ∨ 3 ≤ (s.mot m).low)) ∧
    (∃ (s : State) (m : Nat), m < 24 ∧ s.domOn .ctl = true ∧ s.moMode m = 0 ∧ s.moState m = moRun ∧ ((s.mot
      m).gaps.length ≠ 6 ∨ s.crossingLate m s.now = true ∨ 3 ≤ (s.mot m).low)) ∧
    (∃ (s : State) (m : Nat), m < 24 ∧ s.domOn .ctl = true ∧ s.moState m = moCoast ∧ s.ranFor m (s.coastTime m) =
      true) ∧
    (∃ (s : State) (m : Nat), m < 24 ∧ s.domOn .ctl = true ∧ s.moState m ≠ moRun ∧ s.moState m ≠ moFault) ∧
    (∃ (s : State) (m : Nat), m < 24 ∧ s.domOn .ctl = true ∧ s.moMode m ≠ 0 ∧ s.moState m ≠ moOff ∧ s.moState m ≠
      moRun ∧ s.moState m ≠ moFault) := by
  refine ⟨⟨motor 23 1, 23, by decide +kernel⟩,
    ⟨motor 0 1, 0, by decide +kernel⟩,
    ⟨motor 0 2, 0, by decide +kernel⟩,
    ⟨later (motor 0 3), 0, by decide +kernel⟩,
    ⟨motor 0 5, 0, by decide +kernel⟩,
    ⟨{ turning 0 4 { Mot.init with last := some 100, gaps := List.replicate 6 900, errs := List.replicate 6 0, good := 11 } with time := 1000 },
      0, 100, by decide +kernel⟩,
    ⟨(later (motor 0 4)).setFld F.MOT_OL_OL_ACC 0 9, 0, by decide +kernel⟩,
    ⟨motor 0 7, 0, by decide +kernel⟩,
    ⟨((motor 0 5).setFld F.MOT_BIND_STN 0 63).setFlag F.MOT_BIND_XPORT 0 true, 0, by decide +kernel⟩,
    ⟨later (motor 0 6), 0, by decide +kernel⟩,
    ⟨motor 0 4, 0, by decide +kernel⟩,
    ⟨(motor 0 3).setFld F.MOT_CFG_MODE 0 2, 0, by decide +kernel⟩⟩

set_option maxRecDepth 1000000 in
/-- The hypotheses of each clause of StepperChannels are met together. -/
theorem witness_StepperChannels :
    (∃ (s : State) (m : Nat), m < 16 ∧ s.openPage B.STP m ∧ s.domOn .ctl = true ∧ s.pageEn B.STP m = true ∧ s.stState
      m ≠ stFault) ∧
    (∃ (s : State) (m : Nat), m < 16 ∧ s.openPage B.STP m ∧ s.domOn .ctl = true ∧ s.pageEn B.STP m = true ∧
      s.sys.mode.moves = true) ∧
    (∃ (s : State) (m : Nat), m < 16 ∧ s.openPage B.STP m ∧ s.domOn .ctl = true ∧ s.pageEn B.STP m = true ∧
      s.sys.mode.moves = true ∧ s.swEn m (s.homeSw m) = true ∧ s.stState m < stHoming ∧ s.swActive m (s.homeSw m) =
      false) ∧
    (∃ (s : State) (m : Nat), m < 16 ∧ s.openPage B.STP m ∧ s.domOn .ctl = true ∧ s.pageEn B.STP m = true ∧
      s.sys.mode.moves = true ∧ s.swEn m (s.homeSw m) = true ∧ s.stState m < stHoming ∧ s.swActive m (s.homeSw m) =
      true) ∧
    (∃ (s : State) (m : Nat), m < 16 ∧ s.openPage B.STP m) ∧
    (∃ (s : State) (m : Nat), m < 16 ∧ s.openPage B.STP m ∧ s.domOn .ctl = true ∧ s.stState m = stFault ∧ ((s.stp
      m).faultSw.all fun w => !s.swActive m w) = true) ∧
    (∃ (s : State) (m : Nat), m < 16 ∧ s.openPage B.STP m ∧ s.domOn .ctl = true ∧ ((s.stp m).faultSw.any fun w =>
      s.swActive m w) = true) ∧
    (∃ (s : State) (m : Nat) (w : Nat) (level : Bool) (edge : Nat) (edges : List Nat), m < 16 ∧ s.domOn .ctl = true ∧
      s.swEn m w = true ∧ s.chatters m (edge :: edges) = false ∧ (edge :: edges).all (s.swDeb m ≤ ·) = true ∧
      (s.stState m = stOff ∨ s.stState m = stFault ∨ (level == s.swPol m w) = false)) ∧
    (∃ (s : State) (m : Nat) (w : Nat) (level : Bool) (edge : Nat) (edges : List Nat), m < 16 ∧ s.domOn .ctl = true ∧
      s.swEn m w = true ∧ s.chatters m (edge :: edges) = false ∧ (edge :: edges).all (s.swDeb m ≤ ·) = true ∧ level =
      s.swPol m w ∧ s.swActive m w = false ∧ w = s.homeSw m ∧ s.stState m = stHoming ∧ s.fld F.STP_STAT_HSTEP m = 1) ∧
    (∃ (s : State) (m : Nat) (w : Nat) (level : Bool) (edge : Nat) (edges : List Nat), m < 16 ∧ s.domOn .ctl = true ∧
      s.swEn m w = true ∧ s.chatters m (edge :: edges) = false ∧ (edge :: edges).all (s.swDeb m ≤ ·) = true ∧ level =
      s.swPol m w ∧ s.swActive m w = false ∧ (s.stState m = stIdle ∨ s.stState m = stMoving) ∧ ((w = 0 ∧ (s.pgn
      (s.stPg m)).vel < 0) ∨ (w = 1 ∧ 0 < (s.pgn (s.stPg m)).vel))) ∧
    (∃ (s : State) (m : Nat) (w : Nat) (edge : Nat) (edges : List Nat), m < 16 ∧ s.domOn .ctl = true ∧ s.swEn m w =
      true ∧ s.chatters m (edge :: edges) = true) ∧
    (∃ (s : State) (m : Nat), m < 16 ∧ s.domOn .ctl = true ∧ s.fld F.STP_CUR_TPD m ≠ 0 ∧ s.stState m = stIdle ∧
      (s.pgn (s.stPg m)).vel = 0 ∧ s.flag F.STP_STAT_STILL m = false) ∧
    (∃ (s : State) (m : Nat), m < 16 ∧ s.domOn .ctl = true ∧ (s.stState m = stIdle ∨ s.stState m = stMoving ∨
      s.stState m = stHoming)) := by
  refine ⟨⟨stepper 15 0 0, 15, by decide +kernel⟩,
    ⟨stepper 15 0 0, 15, by decide +kernel⟩,
    ⟨stepper 15 0 0, 15, by decide +kernel⟩,
    ⟨(stepper 0 1 9).setFld F.STP_STAT_SW 0 1, 0, by decide +kernel⟩,
    ⟨stepper 3 0 0, 3, by decide +kernel⟩,
    ⟨(stepper 0 4 0).setFld F.STP_STAT_FCAUSE 0 2, 0, by decide +kernel⟩,
    ⟨((stepper 0 4 0).setFld F.STP_STAT_SW 0 1).setStp 0 { Stp.init with faultSw := [0] }, 0, by decide +kernel⟩,
    ⟨stepper 0 0 0, 0, 2, false, 10 ^ 10, [], by decide +kernel⟩,
    ⟨searching, 0, 0, false, 10 ^ 10, [], by decide +kernel⟩,
    ⟨stepper 0 2 (-9), 0, 0, false, 10 ^ 10, [], by decide +kernel⟩,
    ⟨stepper 0 3 9, 0, 2, 0, List.replicate 300 0, by decide +kernel⟩,
    ⟨stepper 0 1 0, 0, by decide +kernel⟩,
    ⟨stepper 0 2 0, 0, by decide +kernel⟩⟩

set_option maxRecDepth 1000000 in
/-- The hypotheses of each clause of Generators are met together. -/
theorem witness_Generators :
    (∃ (s : State) (g : Nat), g < 32 ∧ s.openPage B.PGN g ∧ s.domOn .ctl = true ∧ s.pageEn B.PGN g = true ∧
      s.sys.mode.moves = true ∧ s.pgVelMode g = false) ∧
    (∃ (s : State) (g : Nat), g < 32 ∧ s.openPage B.PGN g ∧ s.domOn .ctl = true ∧ s.pageEn B.PGN g = true ∧
      s.sys.mode.moves = true ∧ s.pgVelMode g = true) ∧
    (∃ (s : State) (g : Nat), g < 32 ∧ s.openPage B.PGN g ∧ s.domOn .ctl = true) ∧
    (∃ (s : State) (g : Nat), g < 32 ∧ s.openPage B.PGN g ∧ s.domOn .ctl = true ∧ s.pgState g = pgIdle ∧
      (s.isTransport g = false ∨ s.flight = [])) ∧
    (∃ (s : State) (g : Nat), g < 32 ∧ s.openPage B.PGN g ∧ s.domOn .ctl = true ∧ (s.pgState g ≠ pgIdle ∨
      (s.isTransport g = true ∧ s.flight ≠ []))) ∧
    (∃ (s : State) (g : Nat), g < 32 ∧ s.openPage B.PGN g ∧ s.domOn .ctl = true) ∧
    (∃ (s : State) (g : Nat), g < 32 ∧ s.domOn .ctl = true ∧ s.pgSeeks g = true ∧ s.pgState g ≠ pgIdle ∧ s.pgState g
      ≠ pgStopping ∧ s.pgCanLand g = true ∧ s.homers g = []) ∧
    (∃ (s : State) (g : Nat) (m : Nat), g < 32 ∧ s.domOn .ctl = true ∧ s.pgSeeks g = true ∧ s.pgState g ≠ pgIdle ∧
      s.pgState g ≠ pgStopping ∧ s.pgCanLand g = true ∧ s.homers g = [m] ∧ s.fld F.STP_STAT_HSTEP m = 3) ∧
    (∃ (s : State) (g : Nat), g < 32 ∧ s.domOn .ctl = true ∧ (s.pgState g = pgStopping ∨ (s.pgn g).drive = some 0) ∧
      s.pgCanRest g = true ∧ s.flag F.PGN_STAT_QUEUED g = false ∧ s.homers g = []) ∧
    (∃ (s : State) (g : Nat) (rising : Bool), g < 32 ∧ s.domOn .ctl = true ∧ s.flag F.PGN_CAP_CFG_EN g = true ∧ (2 ≤
      s.fld F.PGN_CAP_CFG_EDGE g ∨ s.fld F.PGN_CAP_CFG_EDGE g = (if rising = true then 0 else 1))) := by
  refine ⟨⟨generator 31 0 0, 31, by decide +kernel⟩,
    ⟨generator 0 2 1, 0, by decide +kernel⟩,
    ⟨generator 31 2 0, 31, by decide +kernel⟩,
    ⟨generator 31 0 1, 31, by decide +kernel⟩,
    ⟨generator 31 3 1, 31, by decide +kernel⟩,
    ⟨generator 31 3 1, 31, by decide +kernel⟩,
    ⟨landing 1 2, 1, by decide +kernel⟩,
    ⟨backedOff, 16, 15, by decide +kernel⟩,
    ⟨landing 1 4, 1, by decide +kernel⟩,
    ⟨generator 1 4 0, 1, true, by decide +kernel⟩⟩

set_option maxRecDepth 1000000 in
/-- The hypotheses of each clause of ActiveBankWrites are met together. -/
theorem witness_ActiveBankWrites :
    (∃ (s : State) (n : Nat) (i : Nat) (b : Bool), n < 96 ∧ i < 48 ∧ s.openPage B.CTL n ∧ s.domOn .ctl = true ∧
      s.ctlBank n = b) ∧
    (∃ (s : State) (n : Nat) (i : Nat) (b : Bool), n < 96 ∧ i < 48 ∧ s.openPage B.CTL n ∧ s.domOn .ctl = true ∧
      s.ctlBank n = !b) := by
  refine ⟨⟨live, 95, 47, false, by decide +kernel⟩,
    ⟨live, 95, 47, true, by decide +kernel⟩⟩

set_option maxRecDepth 1000000 in
/-- The hypotheses of each clause of BumplessSwap are met together. -/
theorem witness_BumplessSwap :
    (∃ (s : State) (n : Nat) (lat : Nat), n < 96 ∧ s.domOn .ctl = true ∧ s.sampleDue n = true ∧ lat ≤ s.fld
      F.CTL_PERIOD_VALUE n ∧ s.fld F.CTL_CFG_FORM n = 1 ∧ s.flag F.CTL_STAT_PEND n = true ∧ (s.ctl n).swapAt + 100 ≤
      s.now ∧ s.bankUsable n (!s.ctlBank n) = true) := by
  exact ⟨swapping 95 1 5, 95, 7, by decide +kernel⟩

set_option maxRecDepth 1000000 in
/-- The hypotheses of each clause of LoopSlots are met together. -/
theorem witness_LoopSlots :
    (∃ (s : State) (n : Nat) (lat : Nat) (aR : Int) (aY : Int) (aF : Int) (r : Int) (y : Int) (f : Int) (c : Ctl) (o
      : LawOut), n < 96 ∧ s.domOn .ctl = true ∧ s.sampleDue n = true ∧ lat ≤ s.fld F.CTL_PERIOD_VALUE n ∧ s.flag
      F.CTL_STAT_PEND n = false ∧ s.slotIn n F.CTL_IN_R aR = r ∧ s.slotIn n F.CTL_IN_Y aY = y ∧ s.slotIn n F.CTL_IN_F
      aF = f ∧ c = { s.ctl n with sampAt := some (s.sampleInstant n) } ∧ o = s.law n (s.ctlBank n) c (sat16 (r - y))
      y f (s.consumerSat n) false (s.flag F.CTL_STAT_SAT n)) ∧
    (∃ (s : State) (n : Nat) (lat : Nat), n < 96 ∧ s.domOn .ctl = true ∧ s.sampleDue n = true ∧ s.fld
      F.CTL_PERIOD_VALUE n < lat) ∧
    (∃ (s : State) (n : Nat), n < 96 ∧ s.sampleDue n = false) ∧
    (∃ (s : State) (n : Nat), n < 96 ∧ s.openPage B.CTL n ∧ s.domOn .ctl = true ∧ s.pageEn B.CTL n = true ∧ s.flag
      F.CTL_CTRL_EN n = false ∧ s.ctlBad n = true) ∧
    (∃ (s : State) (n : Nat), n < 96 ∧ s.openPage B.CTL n ∧ s.domOn .ctl = true ∧ s.pageEn B.CTL n = true ∧ s.flag
      F.CTL_CTRL_EN n = false ∧ s.ctlBad n = false) ∧
    (∃ (s : State) (n : Nat), n < 96 ∧ s.openPage B.CTL n ∧ s.domOn .ctl = true ∧ s.flag F.CTL_CTRL_EN n = true) ∧
    (∃ (s : State) (n : Nat), n < 96 ∧ s.openPage B.CTL n ∧ s.domOn .ctl = true ∧ s.flag F.CTL_STAT_PEND n = false ∧
      s.flag F.CTL_STAT_RUN n = true) ∧
    (∃ (s : State) (n : Nat), n < 96 ∧ s.openPage B.CTL n ∧ s.flag F.CTL_STAT_PEND n = true) ∧
    (∃ (s : State) (n : Nat), n < 96 ∧ s.openPage B.CTL n ∧ s.domOn .ctl = true ∧ s.flag F.CTL_STAT_PEND n = false ∧
      s.flag F.CTL_STAT_RUN n = false) := by
  refine ⟨⟨looped 95 1, 95, 2500, 100, 5, 9, (looped 95 1).slotIn 95 F.CTL_IN_R 100, 0, 0, sampled (looped 95 1) 95,
      (looped 95 1).law 95 ((looped 95 1).ctlBank 95) (sampled (looped 95 1) 95) (sat16 (((looped 95 1).slotIn 95 F.CTL_IN_R 100) - 0)) 0 0 ((looped 95 1).consumerSat 95) false ((looped 95 1).flag F.CTL_STAT_SAT 95),
      by decide +kernel⟩,
    ⟨looped 95 1, 95, 2501, by decide +kernel⟩,
    ⟨live, 95, by decide +kernel⟩,
    ⟨looped 95 0, 95, by decide +kernel⟩,
    ⟨looped 95 3, 95, by decide +kernel⟩,
    ⟨(looped 95 3).setFlag F.CTL_CTRL_EN 95 true, 95, by decide +kernel⟩,
    ⟨looped 95 3, 95, by decide +kernel⟩,
    ⟨swapping 95 1 5, 95, by decide +kernel⟩,
    ⟨(looped 95 3).setFlag F.CTL_STAT_RUN 95 false, 95, by decide +kernel⟩⟩

set_option maxRecDepth 1000000 in
/-- The hypotheses of each clause of HighVoltage are met together. -/
theorem witness_HighVoltage :
    (∃ (s : State) (o : Nat), o < 32 ∧ s.openPage B.HVO o ∧ s.domOn .ctl = true ∧ s.pageEn B.HVO o = true ∧
      s.sys.mode.moves = true ∧ s.hvState o = hvOff ∧ s.hvBad o = false) ∧
    (∃ (s : State) (o : Nat), o < 32 ∧ s.openPage B.HVO o ∧ s.domOn .ctl = true ∧ s.pageEn B.HVO o = true ∧
      s.sys.mode.moves = true ∧ s.hvState o = hvOff ∧ s.hvBad o = true) ∧
    (∃ (s : State) (o : Nat), o < 32 ∧ s.openPage B.HVO o ∧ s.domOn .ctl = true ∧ s.hvState o = hvRun) ∧
    (∃ (s : State) (o : Nat), o < 32 ∧ s.openPage B.HVO o ∧ s.domOn .ctl = true ∧ s.hvState o = hvFault) ∧
    (∃ (s : State) (o : Nat), o < 32 ∧ s.openPage B.HVO o ∧ s.domOn .ctl = true ∧ s.hvState o = hvRampdn ∧ (s.hvo
      o).rampAt = none) ∧
    (∃ (s : State) (o : Nat) (vs : List Int) (is : List Int), o < 32 ∧ s.domOn .ctl = true ∧ (s.hvState o = hvRun ∨
      s.hvState o = hvRampdn) ∧ s.measures o vs is = true ∧ 3 ≤ (s.hvo o).ocRun ∧ s.sfld F.HVO_LIM_ILIM o <
      s.measured o is) ∧
    (∃ (s : State) (o : Nat) (vs : List Int) (is : List Int) (i : Int) (j : Int), o < 32 ∧ s.domOn .ctl = true ∧
      (s.hvState o = hvRun ∨ s.hvState o = hvRampdn) ∧ s.measures o vs is = true ∧ (s.hvo o).lastI = some j ∧ i =
      s.measured o is ∧ i ≤ s.sfld F.HVO_LIM_ILIM o ∧ s.sfld F.HVO_LIM_ARC o < (if i < j then j - i else i - j)) ∧
    (∃ (s : State) (o : Nat) (vs : List Int) (is : List Int) (i : Int), o < 32 ∧ s.domOn .ctl = true ∧ (s.hvState o =
      hvRun ∨ s.hvState o = hvRampdn) ∧ s.measures o vs is = true ∧ i = s.measured o is ∧ i ≤ s.sfld F.HVO_LIM_ILIM o
      ∧ (s.hvo o).lastI.all (fun j => decide ((if i < j then j - i else i - j) ≤ s.sfld F.HVO_LIM_ARC o)) = true) ∧
    (∃ (s : State) (o : Nat), o < 32 ∧ s.domOn .ctl = true ∧ s.hvAtZero o = true) ∧
    (∃ (s : State), s.openPage B.HVO 0x20 ∧ s.domOn .ctl = true) := by
  refine ⟨⟨highVolt 31 0, 31, by decide +kernel⟩,
    ⟨(highVolt 31 0).setFld F.HVO_PWM_PERIOD 31 624, 31, by decide +kernel⟩,
    ⟨highVolt 31 1, 31, by decide +kernel⟩,
    ⟨(highVolt 31 3).setFld F.HVO_STAT_FCAUSE 31 2, 31, by decide +kernel⟩,
    ⟨highVolt 7 2, 7, by decide +kernel⟩,
    ⟨(highVolt 7 1).setHvo 7 { Hvo.init with ocRun := 3 }, 7, [8], [26], by decide +kernel⟩,
    ⟨(highVolt 7 1).setHvo 7 { Hvo.init with lastI := some (-5) }, 7, [8], [15], 60, -5, by decide +kernel⟩,
    ⟨highVolt 7 1, 7, [8], [15], 60, by decide +kernel⟩,
    ⟨{ (highVolt 7 2).setHvo 7 { Hvo.init with rampAt := some 3 } with time := 10 ^ 12 }, 7, by decide +kernel⟩,
    ⟨((highVolt 7 1).setReg (F.HVO_NCO.addr 31) 99).setReg (F.HVO_NCO.addr 0) 99, by decide +kernel⟩⟩

set_option maxRecDepth 1000000 in
/-- The hypotheses of each clause of LoupeBuffers are met together. -/
theorem witness_LoupeBuffers :
    (∃ (s : State) (b : Nat), b < 4 ∧ s.openPage B.LUP b ∧ s.domOn .ctl = true ∧ s.pageEn B.LUP b = true ∧ (s.luState
      b = luIdle ∨ s.luState b = luDone) ∧ (s.lup b).held = none) ∧
    (∃ (s : State) (b : Nat), b < 4 ∧ s.openPage B.LUP b ∧ s.domOn .ctl = true ∧ s.luState b = luArmed) ∧
    (∃ (s : State) (b : Nat) (late : Nat), b < 4 ∧ s.domOn .ctl = true ∧ (s.lupDue b late).isSome = true ∧
      ((s.luState b = luArmed ∧ (s.tsrc b = 0 ∨ 5 ≤ s.tsrc b)) ∨ (s.luState b = luTriggered ∧ s.lupFull b = false))) ∧
    (∃ (s : State) (b : Nat) (late : Nat), b < 4 ∧ s.domOn .ctl = true ∧ (s.lupDue b late).isSome = true ∧ s.luState
      b = luArmed ∧ s.tsrc b = 1 ∧ (s.reg (F.LUP_LEVEL.addr b)).toInt < (s.lupWord b).toInt) ∧
    (∃ (s : State) (b : Nat), b < 4 ∧ s.openPage B.LUP b ∧ s.domOn .ctl = true ∧ (s.luState b = luArmed ∨ s.luState b
      = luTriggered)) ∧
    (∃ (s : State) (b : Nat), b < 4 ∧ s.domOn .ctl = true ∧ s.luState b = luTriggered ∧ s.lupFull b = true ∧ (s.lup
      b).words ≠ []) ∧
    (∃ (s : State) (b : Nat), b < 4 ∧ s.domOn .ctl = true ∧ s.enc.loupe = some b ∧ s.luState b = luDumping ∧ s.ringEn
      (24 + b) = false) ∧
    (∃ (s : State) (b : Nat), b < 4 ∧ s.domOn .ctl = true ∧ s.enc.loupe = some b ∧ s.luState b = luDumping ∧ s.ringEn
      (24 + b) = true ∧ s.ringWaiting (24 + b) = 0 ∧ 0 < s.ringRoom (24 + b) ∧ s.ringWritable (24 + b) = true ∧
      s.flag F.LUP_CFG_REARM b = false) ∧
    (∃ (s : State) (b : Nat) (rec : List Byte), b < 4 ∧ s.domOn .ctl = true ∧ (s.lup b).held = some rec ∧ s.ringEn
      (24 + b) = true ∧ s.ringWaiting (24 + b) = 0 ∧ 0 < s.ringRoom (24 + b) ∧ s.ringWritable (24 + b) = true ∧
      s.flag F.LUP_CFG_REARM b = false) ∧
    (∃ (pin : Nat), pin < 128) := by
  refine ⟨⟨loupe 3 0 6, 3, by decide +kernel⟩,
    ⟨loupe 3 1 6, 3, by decide +kernel⟩,
    ⟨loupe 3 1 6, 3, 16, by decide +kernel⟩,
    ⟨levelLoupe 3, 3, 0, by decide +kernel⟩,
    ⟨loupe 3 1 1, 3, by decide +kernel⟩,
    ⟨(loupe 3 2 0).setLup 3 { Lup.init with words := [1], total := 65536, trigAt := some 0 }, 3, by decide +kernel⟩,
    ⟨loupe 3 3 0, 3, by decide +kernel⟩,
    ⟨loupeRing 3 3, 3, by decide +kernel⟩,
    ⟨(loupeRing 3 3).setLup 3 { Lup.init with held := some (List.replicate 256 1) }, 3, List.replicate 256 1, by
      decide +kernel⟩,
    ⟨127, by decide +kernel⟩⟩

set_option maxRecDepth 1000000 in
/-- The hypotheses of each clause of MainsLoop are met together. -/
theorem witness_MainsLoop :
    (∃ (s : State), s.domOn .ana = true ∧ s.fld F.MNS_SCALE_VFS 0 = 0) ∧
    (∃ (s : State) (pos : Bool) (ago : Nat), s.domOn .ana = true ∧ s.fld F.MNS_SCALE_VFS 0 ≠ 0 ∧ s.mnState = mnSearch
      ∧ s.crossingValid (s.now - ago) pos = false) ∧
    (∃ (s : State) (pos : Bool) (ago : Nat), s.domOn .ana = true ∧ s.fld F.MNS_SCALE_VFS 0 ≠ 0 ∧ s.mnState = mnSearch
      ∧ s.crossingValid (s.now - ago) pos = true ∧ s.mns.valid < 7) ∧
    (∃ (s : State) (pos : Bool) (ago : Nat), s.domOn .ana = true ∧ s.fld F.MNS_SCALE_VFS 0 ≠ 0 ∧ s.mnState = mnSearch
      ∧ s.crossingValid (s.now - ago) pos = true ∧ s.mns.valid = 7) ∧
    (∃ (s : State) (pos : Bool) (ago : Nat), s.domOn .ana = true ∧ s.fld F.MNS_SCALE_VFS 0 ≠ 0 ∧ s.mnState = mnLocked
      ∧ (s.crossingValid (s.now - ago) pos = true ∨ s.inWindow (s.now - ago) = false)) ∧
    (∃ (s : State) (pos : Bool) (ago : Nat), s.domOn .ana = true ∧ s.fld F.MNS_SCALE_VFS 0 ≠ 0 ∧ s.mnState = mnLocked
      ∧ s.crossingValid (s.now - ago) pos = false ∧ s.inWindow (s.now - ago) = true ∧ 1 < s.coastMax) ∧
    (∃ (s : State) (ago : Nat), s.domOn .ana = true ∧ s.fld F.MNS_SCALE_VFS 0 ≠ 0 ∧ s.mnState = mnCoast ∧ s.mns.cand
      = none ∧ (s.inWindow (s.now - ago) = false ∨ s.mns.coast + 1 < s.coastMax)) ∧
    (∃ (s : State), s.domOn .ana = true ∧ s.fld F.MNS_SCALE_VFS 0 ≠ 0 ∧ s.mnState = mnLocked ∧ s.missingFrom ≤ s.now
      ∧ 1 < s.coastMax) ∧
    (∃ (s : State), s.domOn .ana = true ∧ s.fld F.MNS_SCALE_VFS 0 ≠ 0 ∧ s.mnState = mnCoast ∧ s.missingFrom ≤ s.now ∧
      s.coastMax ≤ s.mns.coast + 1) ∧
    (∃ (s : State), s.domOn .ana = true ∧ s.fld F.MNS_SCALE_VFS 0 ≠ 0 ∧ s.mnState = mnSearch) ∧
    (∃ (s : State), s.domOn .ana = true) ∧
    (∃ (s : State), s.domOn .ana = true ∧ s.fld F.MNS_SCALE_VFS 0 ≠ 0) := by
  refine ⟨⟨live, by decide +kernel⟩,
    ⟨mains 0 7, true, 0, by decide +kernel⟩,
    ⟨mains 0 6, false, 0, by decide +kernel⟩,
    ⟨mains 0 7, false, 0, by decide +kernel⟩,
    ⟨mains 1 0, false, 0, by decide +kernel⟩,
    ⟨mains 1 0, true, 0, by decide +kernel⟩,
    ⟨mains 2 0, 5000000, by decide +kernel⟩,
    ⟨passed 1, by decide +kernel⟩,
    ⟨passed 2, by decide +kernel⟩,
    ⟨mains 0 3, by decide +kernel⟩,
    ⟨(mains 1 0).setFld F.MNS_AVAIL_ILIM 0 1600, by decide +kernel⟩,
    ⟨mains 1 0, by decide +kernel⟩⟩

set_option maxRecDepth 1000000 in
/-- The hypotheses of each clause of HeatersAndThrottle are met together. -/
theorem witness_HeatersAndThrottle :
    (∃ (s : State) (h : Nat), h < 8 ∧ s.openPage B.HTR h ∧ s.domOn .ana = true ∧ s.pageEn B.HTR h = true ∧
      s.sys.mode.moves = true ∧ s.htState h = htOff ∧ s.htBad h = false) ∧
    (∃ (s : State) (h : Nat), h < 8 ∧ s.openPage B.HTR h ∧ s.domOn .ana = true ∧ s.pageEn B.HTR h = true ∧
      s.sys.mode.moves = true ∧ s.htState h = htOff ∧ s.htBad h = true) ∧
    (∃ (s : State) (h : Nat), h < 8 ∧ s.openPage B.HTR h ∧ s.domOn .ana = true ∧ s.htState h = htFault) ∧
    (∃ (s : State) (h : Nat), h < 8 ∧ s.openPage B.HTR h ∧ s.domOn .ana = true ∧ (s.htState h = htRun ∨ s.htState h =
      htSuppress)) ∧
    (∃ (s : State), s.domOn .ana = true ∧ s.fld F.HTR_THR_STAT_STATE 8 = 1 ∧ s.thrCause ≠ 0 ∧ s.sched.thrAt + s.grace
      ≤ s.now) ∧
    (∃ (s : State), s.domOn .ana = true ∧ (s.fld F.HTR_THR_STAT_STATE 8 = 1 ∨ (s.fld F.HTR_THR_STAT_STATE 8 = 2 ∧
      s.heldClear = true)) ∧ s.thrCause = 0) := by
  refine ⟨⟨heater 7 0, 7, by decide +kernel⟩,
    ⟨(heater 7 0).setFld F.HTR_CFG_PROT 7 24, 7, by decide +kernel⟩,
    ⟨(heater 0 3).setFld F.HTR_STAT_FCAUSE 0 2, 0, by decide +kernel⟩,
    ⟨heater 0 1, 0, by decide +kernel⟩,
    ⟨throttled 1 8, by decide +kernel⟩,
    ⟨throttled 2 0, by decide +kernel⟩⟩

set_option maxRecDepth 1000000 in
/-- The hypotheses of each clause of Temperatures are met together. -/
theorem witness_Temperatures :
    (∃ (s : State) (n : Nat) (raw : Nat) (v : Int), n < 24 ∧ s.domOn .ana = true ∧ s.fld F.TMP_CFG_TYPE n = 1 ∧
      20000000 ≤ raw ∧ raw ≤ 90000000 ∧ 9000 ≤ s.fld F.TMP_SENS_IDEAL n ∧ s.fld F.TMP_SENS_IDEAL n ≤ 11000 ∧
      diodeTemp raw (s.fld F.TMP_SENS_IDEAL n) (signed (s.fld F.TMP_SENS_OFS n) 16) = v ∧ -32768 ≤ v ∧ v ≤ 32767 ∧
      s.fld F.TMP_RATE_RATE n = 0) ∧
    (∃ (s : State) (n : Nat) (raw : Nat), n < 24 ∧ s.domOn .ana = true ∧ (if s.fld F.TMP_CFG_TYPE n = 1 then raw <
      20000000 ∨ 90000000 < raw else s.fld F.TMP_CFG_TYPE n = 2 ∧ (raw < 10000 ∨ 10000000000 < raw))) ∧
    (∃ (s : State) (n : Nat) (i : Nat) (v : Int), n < 6 ∧ i < 5 ∧ s.domOn .ana = true ∧ (List.range 5).filter
      (s.srcOn n) = [i] ∧ s.srcValue n i = (true, v) ∧ s.nextLevel (arrPage n) (s.tmState (arrPage n)) v < 3 ∧ -32768
      ≤ v ∧ v ≤ 32767) ∧
    (∃ (s : State) (n : Nat) (i : Nat), n < 6 ∧ i < 5 ∧ s.domOn .ana = true ∧ s.srcOn n i = true ∧ s.srcSilent n i =
      true ∧ (s.tmState (arrPage n)) < 3 ∧ (List.range 5).filter (s.srcOn n) = [i]) := by
  refine ⟨⟨sensor 23 1, 23, 60000000, diodeTemp 60000000 10080 0, by decide +kernel⟩,
    ⟨sensor 23 1, 23, 19999999, by decide +kernel⟩,
    ⟨arrayOf 400, 5, 2, 400, by decide +kernel⟩,
    ⟨arrayOf 1500, 5, 2, by decide +kernel⟩⟩

set_option maxRecDepth 1000000 in
/-- The hypotheses of each clause of FaultReports are met together. -/
theorem witness_FaultReports :
    (∃ (s : State) (n : Nat) (c : Nat), n < 384 ∧ s.domOn .ctl = true ∧ s.presents n false = true ∧ srcOneShot n =
      false ∧ (s.reg ((F.FLT_CFG.at (n % 64)).addr (n / 64))).toNat = c ∧ c ≤ 2 ∧ s.escN n < 2 ∧ s.openRec n (if
      s.casEnabled = true then s.nodeId else 0) c = none) ∧
    (∃ (s : State) (n : Nat) (c : Nat) (i : Nat), n < 384 ∧ s.domOn .ctl = true ∧ s.presents n false = true ∧
      srcOneShot n = false ∧ (s.reg ((F.FLT_CFG.at (n % 64)).addr (n / 64))).toNat = c ∧ c ≤ 2 ∧ s.escN n < 2 ∧
      s.openRec n (if s.casEnabled = true then s.nodeId else 0) c = some i) ∧
    (∃ (s : State) (n : Nat) (c : Nat), n < 384 ∧ s.domOn .ctl = true ∧ s.presents n true = true ∧ n ≠ 353 ∧ (s.reg
      ((F.FLT_CFG.at (n % 64)).addr (n / 64))).toNat = c ∧ c ≤ 2 ∧ s.escN n < 2 ∧ s.openRec n (if s.casEnabled = true
      then s.nodeId else 0) c = none) ∧
    (∃ (s : State) (n : Nat), n < 384 ∧ s.domOn .ctl = true ∧ s.clears n = true) ∧
    (∃ (s : State) (n : Nat), n < 384 ∧ s.domOn .ctl = true ∧ ((s.flt.counts.filter fun e => !(e.1 == n && decide
      (e.2 + s.escWin n ≤ s.now))).filter fun e => e.1 == n).length < s.escN n) := by
  refine ⟨⟨presenting 110 2, 110, 2, by decide +kernel⟩,
    ⟨recorded 110 2, 110, 2, 9, by decide +kernel⟩,
    ⟨presenting 372 2, 372, 2, by decide +kernel⟩,
    ⟨(live.setBitOf F.FLT_LIVE 1 46 true), 110, by decide +kernel⟩,
    ⟨(live.setFld (F.FLT_ESC_N.at 46) 1 3).setBitOf F.FLT_ESCD 1 46 true, 110, by decide +kernel⟩⟩

set_option maxRecDepth 1000000 in
/-- The hypotheses of each clause of GraveLocksDown are met together. -/
theorem witness_GraveLocksDown :
    (∃ (s : State) (n : Nat), n < 384 ∧ n ≠ 353 ∧ s.domOn .ctl = true ∧ s.presents n false = true ∧ (s.reg
      ((F.FLT_CFG.at (n % 64)).addr (n / 64))).toNat = 4 ∧ s.escN n < 2 ∧ s.openRec n (if s.casEnabled = true then
      s.nodeId else 0) 4 = none ∧ s.sys.mode ≠ .off ∧ (s.sys.mode = .hibernate → s.sys.trans.isSome = true) ∧
      s.domMode ≠ .lockdown) := by
  exact ⟨presenting 0 4, 0, by decide +kernel⟩

set_option maxRecDepth 1000000 in
/-- The hypotheses of each clause of FaultLines are met together. -/
theorem witness_FaultLines :
    (∃ (s : State), s.domOn .ctl = true) ∧
    (∃ (s : State), s.flt.fnAt + 1000 ≤ s.now) ∧
    (∃ (s : State) (page : Nat) (j : Nat), page ≤ 5 ∧ j ≤ 1 ∧ s.openPage B.FLT page ∧ s.domOn .ctl = true) ∧
    (∃ (s : State) (k : Nat), k < 16 ∧ s.openPage B.FLT 0x10 ∧ s.domOn .ctl = true ∧ s.flag (H.PAGE_LOCK_LOCK B.FLT)
      0x10 = false) ∧
    (∃ (s : State) (k : Nat), k < 16 ∧ k ∈ s.flt.xinFilt ∧ s.xinSettled k 0 = true ∧ s.srcLive (32 + k) = false ∧ { s
      with flt := { s.flt with xinFilt := s.flt.xinFilt.filter (· ≠ k) } }.xinReads k ≠ 1) ∧
    (∃ (s : State) (tag : Nat) (o : Nat) (i : Nat) (j : Nat) (a : FltRec) (b : FltRec), s.flt.storms.find? (fun w =>
      w.tag == tag && decide (s.stormEnd w ≤ s.now)) = some { tag := tag, opened := o, recs := [a, b] } ∧
      s.casEnabled = true ∧ a.node ≠ s.nodeId ∧ a.storm = false ∧ b.storm = false ∧ a.same b = false ∧ b.same a =
      false ∧ b.before a = false ∧ (s.flt.log.find? fun e => e.2.same a) = some (i, a) ∧ (s.flt.log.find? fun e =>
      e.2.same b) = some (j, b) ∧ s.logRec i = a ∧ s.fld F.FLT_LOG_HEAD_NEXT 0x10 ≠ i) := by
  refine ⟨⟨live, by decide +kernel⟩,
    ⟨{ later live with flt := { live.flt with drivers := [3, 110] } }.setBitOf F.FLT_LATCH 1 46 true, by decide +kernel⟩,
    ⟨live.setReg ((F.FLT_LATCH.at 1).addr 5) 0xFF, 5, 1, by decide +kernel⟩,
    ⟨live, 15, by decide +kernel⟩,
    ⟨filtering, 15, by decide +kernel⟩,
    ⟨storming, 5, 100, 3, 4, stormRec 7 100, stormRec 9 200, by decide +kernel⟩⟩

set_option maxRecDepth 1000000 in
/-- The hypotheses of each clause of PageControls are met together. -/
theorem witness_PageControls :
    (∃ (s : State) (blk : Nat) (inst : Nat) (off : Nat), s.openPage blk inst ∧ s.flag (H.PAGE_LOCK_LOCK blk) inst =
      false ∧ blk < 128 ∧ inst < 256 ∧ blk ≠ B.PWR ∧ (blk = B.FMT → off ≠ F.FMT_STAT.off) ∧ s.ringHeld blk inst =
      false ∧ off < 4096 ∧ off ≠ 0x008 ∧ off ≠ 0x00C ∧ s.rstKeeps blk inst off = false) ∧
    (∃ (s : State) (inst : Nat), s.openPage B.APR inst ∧ s.ringHeld B.APR inst = true) ∧
    (∃ (s : State) (blk : Nat) (inst : Nat), blk < 128 ∧ inst < 256 ∧ pageExists blk inst = true ∧ s.pageOn blk inst
      = true ∧ s.flag (H.PAGE_CTRL_BLK_RST blk) inst = true) ∧
    (∃ (s : State) (blk : Nat) (inst : Nat), s.openPage blk inst) ∧
    (∃ (s : State) (blk : Nat) (inst : Nat), s.openPage blk inst ∧ enActs blk inst = true) ∧
    (∃ (s : State) (blk : Nat) (inst : Nat), s.openPage blk inst ∧ enActs blk inst = false) ∧
    (∃ (s : State) (blk : Nat) (inst : Nat), s.openPage blk inst ∧ (enActs blk inst = false ∨ s.pageEn blk inst =
      false)) ∧
    (∃ (s : State) (m : Nat), m < 24 ∧ s.openPage B.MOT m ∧ s.pageEn B.MOT m = true ∧ s.moState m ≠ moRun) ∧
    (∃ (s : State) (blk : Nat) (inst : Nat), s.openPage blk inst ∧ s.hostPath = true ∧ s.fld F.PRS_STAT_OUT 0 ≠ 255) := by
  refine ⟨⟨live.setFld F.TMP_CFG_TYPE 23 1, B.TMP, 23, 0x040, by decide +kernel⟩,
    ⟨reservedRing, 0x31, by decide +kernel⟩,
    ⟨(live.setFlag (H.PAGE_CTRL_BLK_RST B.TMP) 23 true).setFlag (H.PAGE_STATUS_BUSY B.TMP) 23 true, B.TMP, 23, by
      decide +kernel⟩,
    ⟨live, B.TMP, 23, by decide +kernel⟩,
    ⟨live.setFlag (H.PAGE_CTRL_EN B.HVO) 31 false, B.HVO, 31, by decide +kernel⟩,
    ⟨live, B.SYS, 0, by decide +kernel⟩,
    ⟨live, B.SYS, 0, by decide +kernel⟩,
    ⟨motor 23 4, 23, by decide +kernel⟩,
    ⟨linked .idle, B.TMP, 23, by decide +kernel⟩⟩

set_option maxRecDepth 1000000 in
/-- The hypotheses of each clause of OffDomainAccesses are met together. -/
theorem witness_OffDomainAccesses :
    (∃ (s : State) (blk : Nat) (inst : Nat) (off : Nat) (sz : Size), blk < 128 ∧ inst < 0xE0 ∧ off < 4096 ∧
      pageExists blk inst = true ∧ s.domOn (domOf blk inst) = false ∧ s.hostPath = true ∧ s.nodeId = 0 ∧ (sz =
      .double → off % 8 = 0)) ∧
    (∃ (s : State) (blk : Nat) (inst : Nat) (off : Nat), blk < 128 ∧ inst < 0xE0 ∧ off < 4096 ∧ off % 4 = 0 ∧
      pageExists blk inst = true ∧ s.domOn (domOf blk inst) = false ∧ s.hostPath = true ∧ s.fld F.PRS_STAT_OUT 0 ≠
      255 ∧ s.sys.mode ≠ .lockdown) := by
  refine ⟨⟨casOff, B.CAS, 0, 0x048, .word, by decide +kernel⟩,
    ⟨casOff, B.CAS, 0, 0x048, by decide +kernel⟩⟩

set_option maxRecDepth 1000000 in
/-- The hypotheses of each clause of CounterLatches are met together. -/
theorem witness_CounterLatches :
    (∃ (s : State) (path : Path) (blk : Nat) (inst : Nat) (off : Nat), blk < 128 ∧ inst < 0xE0 ∧ off < 4092 ∧ off % 4
      = 0 ∧ isCounter blk inst off = true ∧ pageExists blk inst = true ∧ s.pageOn blk inst = true ∧ s.pathOpen path =
      true) ∧
    (∃ (s : State) (path : Path) (blk : Nat) (inst : Nat) (off : Nat) (sz : Size), blk < 128 ∧ inst < 0xE0 ∧ off <
      4092 ∧ off % 4 = 0 ∧ isCounter blk inst off = true ∧ pageExists blk inst = true ∧ s.pageOn blk inst = true ∧
      s.pathOpen path = true ∧ sz ≠ .double) := by
  refine ⟨⟨(linked .idle).setPair64 F.PGN_POS_LO 31 0x500000007, .host, B.PGN, 31, F.PGN_POS_LO.off, by decide +kernel⟩,
    ⟨{ (linked .idle) with latches := [(regAddr B.PGN 31 F.PGN_POS_LO.off, 9)] }, .host, B.PGN, 31, F.PGN_POS_LO.off,
      .word, by decide +kernel⟩⟩

set_option maxRecDepth 1000000 in
/-- The hypotheses of each clause of HostAccesses are met together. -/
theorem witness_HostAccesses :
    (∃ (s : State) (n : Nat), n < 24 ∧ s.openPage B.TMP n ∧ s.hostPath = true ∧ s.fld F.PRS_STAT_OUT 0 ≠ 255) ∧
    (∃ (s : State) (a : Nat) (be : BitVec 4), s.hostPath = true ∧ s.fld F.PRS_STAT_OUT 0 ≠ 255 ∧ a < 2 ^ 27 ∧ (be ≠
      15 ∨ s.sys.mode = .lockdown ∨ (blkOf a ≠ 0x7F ∧ pageExists (blkOf a) (instOf a) = false ∧ instOf a < 0xE0))) ∧
    (∃ (s : State), s.hostPath = true ∧ s.fld F.PRS_STAT_OUT 0 ≠ 255) ∧
    (∃ (s : State) (blk : Nat) (inst : Nat), blk < 128 ∧ isPrism inst = true ∧ inst < 256 ∧ blockExists blk = true ∧
      s.hostPath = true ∧ s.fld F.PRS_STAT_OUT 0 ≠ 255 ∧ s.sys.mode ≠ .lockdown ∧ s.ringSelected inst = false ∧
      (s.members blk inst).all (fun i => s.pageOn blk i) = true) ∧
    (∃ (s : State) (path : Path) (inst : Nat) (off : Nat) (i : Nat) (rest : List Nat) (sz : Size), isPrism inst =
      true ∧ inst < 256 ∧ s.pathOpen path = true ∧ s.members B.TMP inst = i :: rest ∧ s.pageOn B.TMP i = true ∧ off <
      4096 ∧ off % 4 = 0 ∧ (sz = .double → off % 8 = 0)) ∧
    (∃ (s : State) (path : Path) (blk : Nat) (inst : Nat) (off : Nat) (sz : Size), blk < 127 ∧ isPrism inst = true ∧
      inst < 256 ∧ off < 4096 ∧ s.pathOpen path = true ∧ s.members blk inst = [] ∧ (sz = .double → off % 8 = 0)) ∧
    (∃ (s : State) (blk : Nat) (inst : Nat), s.openPage blk inst ∧ s.hostPath = true ∧ s.fld F.PRS_STAT_OUT 0 ≠ 255) ∧
    (∃ (s : State) (off : Nat) (be : BitVec 4) (hi : Option (BitVec 4 × Word)), off < 2 ^ 33 ∧ (hi ≠ none → off % 8 =
      0) ∧ s.hostPath = true ∧ s.fld F.PRS_STAT_OUT 0 ≠ 255 ∧ bar4Node off ≠ s.nodeId ∧ (be ≠ 15 ∨ s.sys.mode =
      .lockdown ∨ s.nodeReach (bar4Node off) = false)) ∧
    (∃ (s : State) (off : Nat), off < 2 ^ 33 ∧ s.hostPath = true ∧ s.fld F.PRS_STAT_OUT 0 ≠ 255) ∧
    (∃ (s : State) (off : Nat), off < 2 ^ 33 ∧ s.hostPath = true ∧ s.fld F.PRS_STAT_OUT 0 ≠ 255 ∧ s.sys.mode ≠
      .lockdown ∧ bar4Node off ≠ s.nodeId ∧ s.nodeReach (bar4Node off) = true ∧ s.clearTo (bar4Node off)) ∧
    (∃ (s : State) (r : RemoteRead) (rest : List RemoteRead), s.cas.reads = r :: rest ∧ r.at_ + 50000 ≤ s.now) := by
  refine ⟨⟨grouped, 23, by decide +kernel⟩,
    ⟨grouped, 0x02B00048, 7, by decide +kernel⟩,
    ⟨grouped, by decide +kernel⟩,
    ⟨grouped, B.TMP, 0xE2, by decide +kernel⟩,
    ⟨grouped.setFld F.TMP_TH_A 3 77, .host, 0xE2, 0x048, 3, [23], .double, by decide +kernel⟩,
    ⟨grouped, .host, B.PGN, 0xE2, 0x048, .part 3, by decide +kernel⟩,
    ⟨grouped, B.MOT, 23, by decide +kernel⟩,
    ⟨cascaded, 6 * 2 ^ 27 + 4, 15, none, by decide +kernel⟩,
    ⟨cascaded, 5 * 2 ^ 27 + 4, by decide +kernel⟩,
    ⟨cascaded, 5 * 2 ^ 27 + 0x43, by decide +kernel⟩,
    ⟨cascaded, RemoteRead.mk 3 5 0x40 15 7, [RemoteRead.mk 4 5 0x44 15 8], by decide +kernel⟩⟩

set_option maxRecDepth 1000000 in
/-- The hypotheses of each clause of LinkEvents are met together. -/
theorem witness_LinkEvents :
    (∃ (s : State) (w : Nat) (v : Nat), s.domOn .hst = true ∧ s.flag F.HST_LINK_UP 0 = false ∧ (w = 1 ∨ w = 2 ∨ w = 4
      ∨ w = 8) ∧ 1 ≤ v ∧ v ≤ 5) ∧
    (∃ (s : State) (off : Nat), s.linkOn = true ∧ 0x044 ≤ off ∧ off < 4096 ∧ off ≠ 0x050 ∧ off ≠ 0x060) ∧
    (∃ (s : State) (off : Nat), s.linkOn = true ∧ 0x044 ≤ off ∧ off < 4096 ∧ off ≠ 0x050 ∧ off ≠ 0x060) ∧
    (∃ (s : State) (off : Nat), s.linkOn = true ∧ 0x044 ≤ off ∧ off < 4096 ∧ off ≠ 0x050 ∧ off ≠ 0x060) ∧
    (∃ (s : State) (off : Nat), s.domOn .hst = true ∧ s.flag F.HST_CFG_PERST 0 = false ∧ 0x044 ≤ off ∧ off < 4096 ∧
      off ≠ 0x050 ∧ off ≠ 0x060) ∧
    (∃ (s : State), s.domOn .hst = true ∧ s.flag F.HST_CFG_PERST 0 = true ∧ s.inBoot = false ∧ s.domMode ≠ .lockdown
      ∧ s.sys.mode ≠ .lockdown ∧ s.sys.mode ≠ .off ∧ s.sys.mode ≠ .hibernate) ∧
    (∃ (s : State), s.linkOn = true) ∧
    (∃ (s : State), s.linkOn = true) ∧
    (∃ (s : State), s.linkOn = true) ∧
    (∃ (s : State), s.linkOn = true) ∧
    (∃ (s : State), s.linkOn = true) ∧
    (∃ (s : State) (c : Option Nat), s.linkOn = true ∧ (∀ k, c = some k → (s.dma k).reading = 0 ∨ s.sspace k ≠ 1)) ∧
    (∃ (s : State) (k : Nat), s.linkOn = true ∧ k < 16 ∧ s.sspace k = 1 ∧ (s.dma k).reading ≠ 0 ∧ s.dmState k ≠
      dmStopping ∧ s.toPort k = false) ∧
    (∃ (s : State), s.domOn .hst = true) ∧
    (∃ (s : State), s.domOn .hst = true) := by
  refine ⟨⟨live, 8, 5, by decide +kernel⟩,
    ⟨(linked .idle).setReg (F.HST_CFG.addr 0) 1 |>.setFld F.DMA_STAT_STATE 15 1, 0x044, by decide +kernel⟩,
    ⟨vectored, 0x054, by decide +kernel⟩,
    ⟨(linked .idle).setReg (F.HST_ACC_INFO.addr 0) 1, 0x054, by decide +kernel⟩,
    ⟨(linked .idle).setReg (F.HST_ACC_INFO.addr 0) 1, 0x054, by decide +kernel⟩,
    ⟨(linked .print).setFlag F.HST_CFG_PERST 0 true, by decide +kernel⟩,
    ⟨linked .idle, by decide +kernel⟩,
    ⟨(linked .idle).setFlag F.HST_LINK_D3 0 true, by decide +kernel⟩,
    ⟨(linked .idle).setFlag F.HST_LINK_BME 0 false, by decide +kernel⟩,
    ⟨linked .idle, by decide +kernel⟩,
    ⟨vectored, by decide +kernel⟩,
    ⟨linked .idle, none, by decide +kernel⟩,
    ⟨hostReading, 15, by decide +kernel⟩,
    ⟨linked .idle, by decide +kernel⟩,
    ⟨(linked .idle).setReg (F.HST_AER_CNT.addr 0) 0xFFFFFFFF, by decide +kernel⟩⟩

set_option maxRecDepth 1000000 in
/-- The hypotheses of each clause of CascadeAccesses are met together. -/
theorem witness_CascadeAccesses :
    (∃ (s : State) (x : RxPacket) (n : Nat), s.heard x ∧ n < 24 ∧ pktOff x = F.TMP_TH_A.addr n ∧ s.openPage B.TMP n ∧
      s.flag F.CAS_CFG_REMOTE_WR 0 = true) ∧
    (∃ (s : State) (x : RxPacket), s.heard x ∧ (s.sys.mode = .lockdown ∨ s.flag F.CAS_CFG_REMOTE_WR 0 = false ∨ blkOf
      (pktOff x) = B.SEC ∨ blkOf (pktOff x) = B.DBG ∨ blkOf (pktOff x) = B.KPS)) ∧
    (∃ (s : State) (x : RxPacket) (n : Nat), s.heard x ∧ x.dst = s.nodeId ∧ n < 24 ∧ pktOff x = F.TMP_TH_A.addr n ∧
      s.pageOn B.TMP n = true ∧ s.clearTo x.src) ∧
    (∃ (s : State) (x : RxPacket) (r : RemoteRead) (rest : List RemoteRead), s.heard x ∧ s.cas.reads = r :: rest ∧
      r.tag = x.tag ∧ r.node = x.src) ∧
    (∃ (s : State) (x : RxPacket) (n : Nat), s.heard x ∧ n < 24 ∧ pktOff x = F.TMP_TH_A.addr n ∧ s.openPage B.TMP n ∧
      s.flag F.CAS_CFG_REMOTE_WR 0 = true ∧ s.flag (H.PAGE_LOCK_LOCK B.TMP) n = false) ∧
    (∃ (s : State) (x : RxPacket) (k : Nat), s.canHear x.portB = true ∧ x.hseq = (s.cas.port x.portB).hseqRx ∧
      x.reflected = false ∧ x.src = s.nodeId ∧ s.casState < casBypass ∧ s.cas.ringOut = [(fieldAt x.data 8 4, k)] ∧ 1
      ≤ s.fld F.PRS_STAT_OUT 0) := by
  refine ⟨⟨noded, fromFive 0 0 threshold, 23, by decide +kernel⟩,
    ⟨noded, fromFive 0 0 (leBytes 4 (F.KPS_SEL.addr 0) ++ leBytes 4 1), by decide +kernel⟩,
    ⟨noded.setReg (F.TMP_TH_A.addr 23) 1234, fromFive 0 200 threshold, 23, by decide +kernel⟩,
    ⟨noded, fromFive 0 3 threshold, RemoteRead.mk 3 5 0x40 15 7, [RemoteRead.mk 4 5 0x44 15 8], by decide +kernel⟩,
    ⟨noded, fromFive 0xFF 0 threshold, 23, by decide +kernel⟩,
    ⟨noded.setFld F.PRS_STAT_OUT 0 1, { fromFive 0xFF 0 threshold with src := 0 }, 1, by decide +kernel⟩⟩

set_option maxRecDepth 1000000 in
/-- The hypotheses of each clause of CascadeMessages are met together. -/
theorem witness_CascadeMessages :
    (∃ (s : State) (x : RxPacket), s.heard x ∧ x.tag ≤ 1 ∧ (0x06 + 256 * x.tag, x.src, fieldAt x.data 4 4) ∉
      s.cas.seen ∧ s.ringEn (30 + x.tag) = true ∧ s.ringWaiting (30 + x.tag) = 0 ∧ 0 < s.ringRoom (30 + x.tag) ∧
      s.lmemReady = true ∧ s.flag F.RING_CTRL_SHADOW_EN (ringInst (30 + x.tag)) = false) ∧
    (∃ (s : State) (x : RxPacket), s.heard x ∧ x.dst = s.nodeId ∧ x.tag ≤ 1 ∧ (0x06 + 256 * x.tag, x.src, fieldAt
      x.data 4 4) ∉ s.cas.seen ∧ s.ringEn (30 + x.tag) = false ∧ s.clearTo x.src) ∧
    (∃ (s : State) (x : RxPacket), s.heard x) ∧
    (∃ (s : State) (x : RxPacket), s.heard x ∧ s.domOn .ctl = true ∧ (FltRec.ofBytes x.data).tag ≠ 0 ∧ bit
      (FltRec.ofBytes x.data).react 4 = false ∧ (s.flt.storms.any fun w => w.tag == (FltRec.ofBytes x.data).tag) =
      false) ∧
    (∃ (s : State) (x : RxPacket), s.heard x ∧ s.ringEn 31 = true ∧ s.ringWaiting 31 = 0 ∧ 0 < s.ringRoom 31 ∧
      s.lmemReady = true ∧ s.flag F.RING_CTRL_SHADOW_EN (ringInst 31) = false) ∧
    (∃ (s : State) (x : RxPacket) (b : Nat), s.heard x ∧ (0x0A, x.src, fieldAt x.data 8 4) ∉ s.cas.seen ∧ b < 4 ∧
      s.domOn .ctl = true ∧ s.tsrc b = 8 ∧ s.luState b = luArmed) ∧
    (∃ (s : State) (b : Bool), s.canHear b = true ∧ (s.cas.port b).queue = []) ∧
    (∃ (s : State) (b : Bool) (h : Nat) (again : List Packet), s.canHear b = true ∧ (s.cas.port b).queue = [] ∧
      (s.cas.port b).unacked.filter (fun x => !ackedBy ((h + 255) % 256) x.hseq) = again) ∧
    (∃ (s : State) (b : Bool), s.canHear b = true) ∧
    (∃ (s : State) (x : RxPacket), s.canHear x.portB = true ∧ x.hseq = ((s.cas.port x.portB).hseqRx + 1) % 256 ∧
      (s.cas.port x.portB).hseqRx < 256) := by
  refine ⟨⟨messaged, fromFive 0 1 (List.replicate 32 7), by decide +kernel⟩,
    ⟨noded, fromFive 0 1 (List.replicate 32 7), by decide +kernel⟩,
    ⟨noded, fromFive 0 0 [], by decide +kernel⟩,
    ⟨noded, fromFive 0 0 tagged, by decide +kernel⟩,
    ⟨messaged, fromFive 0 0 (List.replicate 24 7), by decide +kernel⟩,
    ⟨messaged, fromFive 0xFF 0 threshold, 3, by decide +kernel⟩,
    ⟨waiting, true, by decide +kernel⟩,
    ⟨waiting, true, 0, [noded.mkPacket 0x01 5 0 []], by decide +kernel⟩,
    ⟨waiting, true, by decide +kernel⟩,
    ⟨noded, { fromFive 0 0 threshold with hseq := 1 }, by decide +kernel⟩⟩

set_option maxRecDepth 1000000 in
/-- The hypotheses of each clause of CascadeRoles are met together. -/
theorem witness_CascadeRoles :
    (∃ (s : State) (x : RxPacket) (k : Nat), s.heard x ∧ k < 64 ∧ fieldAt x.data 4 1 = k ∧ k ≠ s.nodeId) ∧
    (∃ (s : State) (b : Bool), s.casActive = true ∧ s.flag F.CAS_STAT_IS_HEAD 0 = true ∧ s.cas.leaseSent + 50000 ≤
      s.now ∧ s.portUp b = true ∧ (s.cas.port b).queue = [] ∧ (s.cas.port b).unacked.length < 32) ∧
    (∃ (s : State), s.casActive = true ∧ s.flag F.CAS_STAT_HEAD_OK 0 = true ∧ s.flag F.CAS_STAT_IS_HEAD 0 = false ∧
      s.cas.leaseAt + 200000 ≤ s.now) ∧
    (∃ (s : State) (x : RxPacket), s.heard x ∧ x.src < 64) ∧
    (∃ (s : State) (x : RxPacket), s.canHear x.portB = true ∧ x.hseq = (s.cas.port x.portB).hseqRx ∧ x.reflected =
      false ∧ x.src = s.nodeId ∧ s.casState < casBypass ∧ fieldAt x.data 4 4 < s.cas.nonce) ∧
    (∃ (s : State) (b : Bool), s.casActive = true ∧ s.casState = casDisc ∧ s.cas.discAt + 1000000 ≤ s.now ∧ s.portUp
      b = true ∧ (s.cas.port b).queue = [] ∧ (s.cas.port b).unacked.length < 32) ∧
    (∃ (s : State) (k : Nat), s.casActive = true ∧ s.casState = casUp ∧ s.cas.discAt + 1000000 ≤ s.now ∧ k < 64 ∧ k ≠
      s.nodeId ∧ s.casPresent k = true) ∧
    (∃ (s : State), s.casActive = true ∧ s.flag F.CAS_STAT_TB_MASTER 0 = false ∧ s.cas.tbAt + 10000 ≤ s.now ∧
      s.portUp s.cas.parentB = true) ∧
    (∃ (s : State) (b : Bool), s.canHear b = true ∧ s.casState < casBypass) ∧
    (∃ (s : State) (b : Bool) (frac : Nat) (d : List Byte) (th : Int), s.canHear b = true ∧ s.casState < casBypass ∧
      s.flag F.CAS_STAT_TB_MASTER 0 = false ∧ b = s.cas.parentB ∧ (1000 * (((fieldAt d 0 8 : Int) - s.cas.tsT1) +
      ((fieldAt d 8 8 : Int) - s.laneTime frac)) + 32 * s.sfld (if b then F.CAS_ASYM_B_PS else F.CAS_ASYM_A_PS) 0 +
      1000) / 2000 = th ∧ th.natAbs < 2 ^ 31) ∧
    (∃ (s : State) (b : Bool), s.casEnabled = true ∧ s.domOn .cas = true ∧ s.portUp b = false ∧ s.ringUsed 28 = 0 ∧
      s.ringUsed 29 = 0) ∧
    (∃ (s : State) (b : Bool) (p : Packet), s.casEnabled = true ∧ s.domOn .cas = true ∧ s.portUp b = true ∧ s.portUp
      (!b) = true ∧ (s.cas.port b).unacked = [p] ∧ (s.cas.port b).queue = [] ∧ p.reflected = false ∧ p.src ≠ s.nodeId
      ∧ (s.cas.port (!b)).queue = [] ∧ (s.cas.port (!b)).unacked.length < 32) ∧
    (∃ (s : State), s.openPage B.CAS 0 ∧ s.casEnabled = true) ∧
    (∃ (s : State), s.openPage B.CAS 0 ∧ s.casEnabled = true ∧ (s.casState = casBypass ∨ s.casState = casDup) ∧
      s.ringUsed 28 = 0 ∧ s.ringUsed 29 = 0) := by
  refine ⟨⟨noded, fromFive 0xFF 0 leaseFive, 5, by decide +kernel⟩,
    ⟨headed, true, by decide +kernel⟩,
    ⟨(later noded).setFlag F.CAS_STAT_HEAD_OK 0 true, by decide +kernel⟩,
    ⟨noded, fromFive 0xFF 0 (leBytes 4 0x30105 ++ leBytes 4 2), by decide +kernel⟩,
    ⟨doubled, ownDisc, by decide +kernel⟩,
    ⟨(later noded).setFld F.CAS_STAT_STATE 0 2, true, by decide +kernel⟩,
    ⟨later noded, 5, by decide +kernel⟩,
    ⟨joined true, by decide +kernel⟩,
    ⟨noded, true, by decide +kernel⟩,
    ⟨joined true, true, 0, leBytes 8 200 ++ leBytes 8 1600334, 105, by decide +kernel⟩,
    ⟨noded, false, by decide +kernel⟩,
    ⟨twoPorts, false, { noded.mkPacket 0x01 7 0 [] with src := 5 }, by decide +kernel⟩,
    ⟨noded, by decide +kernel⟩,
    ⟨noded.setFld F.CAS_STAT_STATE 0 4, by decide +kernel⟩⟩

set_option maxRecDepth 1000000 in
/-- The hypotheses of each clause of CalibrationRuns are met together. -/
theorem witness_CalibrationRuns :
    (∃ (s : State) (i : Nat) (p : Nat) (other : CalJob) (oa : Int) (ga : Int) (ob : Int) (gb : Int), s.domOn .ctl =
      true ∧ s.cal.jobs = [CalJob.mk 0 i p, other] ∧ other.inst ≠ i ∧ -64 ≤ oa ∧ oa ≤ 63 ∧ -64 ≤ ob ∧ ob ≤ 63 ∧ -128
      ≤ ga ∧ ga ≤ 127 ∧ -128 ≤ gb ∧ gb ≤ 127 ∧ (oa - ob).natAbs ≤ s.adcTol.1 ∧ (ga - gb).natAbs ≤ s.adcTol.2 ∧
      s.calStore = false) ∧
    (∃ (s : State) (i : Nat) (p : Nat) (other : CalJob) (x : Int) (y : Int), s.domOn .ctl = true ∧ s.cal.jobs =
      [CalJob.mk 0 i p, other] ∧ other.inst ≠ i ∧ -64 ≤ x ∧ x ≤ 63 ∧ -128 ≤ y ∧ y ≤ 127 ∧ s.calStore = true ∧
      s.cal.storeErr = false ∧ s.cal.activeB = false ∧ s.cal.bankA.epoch.isSome = true ∧ s.cal.bankA.used + 0x28 ≤
      0x8000) ∧
    (∃ (s : State) (k : Nat) (i : Nat) (p : Nat) (other : CalJob) (a : List Int) (b : List Int), s.domOn .ctl = true
      ∧ k ≤ 4 ∧ s.cal.jobs = [CalJob.mk k i p, other] ∧ other.inst ≠ i ∧ a.length = s.calCount k i ∧ b.length =
      s.calCount k i ∧ (s.calValues k i a b).2.2 = false) ∧
    (∃ (s : State) (k : Nat) (i : Nat) (p : Nat) (other : CalJob) (a : List Int) (b : List Int) (lost : Bool),
      s.domOn .ctl = true ∧ k ≤ 4 ∧ s.cal.jobs = [CalJob.mk k i p, other] ∧ other.inst ≠ i ∧ a.length = s.calCount k
      i ∧ b.length = s.calCount k i ∧ (lost = true ∨ (s.calValues k i a b).2.2 = true ∧ s.calAgrees k (s.calValues k
      i a b) = false)) ∧
    (∃ (s : State) (k : Nat) (i : Nat) (p : Nat) (other : CalJob) (a : List Int) (b : List Int), s.domOn .ctl = true
      ∧ k ≤ 3 ∧ s.cal.jobs = [CalJob.mk k i p, other] ∧ other.inst ≠ i ∧ a.length = s.calCount k i ∧ b.length =
      s.calCount k i ∧ (s.calValues k i a b).2.2 = true ∧ s.calAgrees k (s.calValues k i a b) = true ∧ s.calStore =
      false) ∧
    (∃ (s : State) (i : Nat) (p : Nat) (x : Int), s.domOn .ctl = true ∧ s.cal.jobs = [CalJob.mk 3 i p] ∧ -31 ≤ x ∧ x
      ≤ 31 ∧ s.calStore = false ∧ bit (s.reg (F.CAL_REQ.addr 0)).toNat 4 = false) ∧
    (∃ (s : State), s.openPage B.CAL 0) := by
  refine ⟨⟨(calibrating [CalJob.mk 0 15 0, CalJob.mk 0 2 0]).setFlag F.CAL_CFG_STORE 0 false, 15, 0, CalJob.mk 0 2 0, -64, 127,
      -63, 125, by decide +kernel⟩,
    ⟨sealedStore, 15, 0, CalJob.mk 0 2 0, -3, 5, by decide +kernel⟩,
    ⟨calibrating [CalJob.mk 0 15 0, CalJob.mk 0 2 0], 0, 15, 0, CalJob.mk 0 2 0, [-3, 128], [-3, 127], by decide +kernel⟩,
    ⟨calibrating [CalJob.mk 0 15 0, CalJob.mk 0 2 0], 0, 15, 0, CalJob.mk 0 2 0, [-3, 5], [-1, 5], false, by
      decide +kernel⟩,
    ⟨(calibrating [CalJob.mk 2 5 0, CalJob.mk 2 2 0]).setFlag F.CAL_CFG_STORE 0 false, 2, 5, 0, CalJob.mk 2 2 0,
      deskewed 4, deskewed 5, by decide +kernel⟩,
    ⟨(calibrating [CalJob.mk 3 23 0]).setFlag F.CAL_CFG_STORE 0 false, 23, 0, -31, by decide +kernel⟩,
    ⟨live, by decide +kernel⟩⟩

/-- What a test asks of a next state. -/
def execNext (o : Host.Outcome State Fault Refusal) (p : State → Bool) : Bool :=
  match o with
  | .next t => p t
  | _ => false

/-! ### Well-formedness: for each kind of bound a term that breaks it -/

theorem test_illFormed_1 : (
    [.hostRegWrite (2 ^ 27) 15 false 0 none, .prismWrite 128 0 0 0, .prismWrite 0 256 0 0, .prismWrite 0 0 4096 0,
      .modeReqInvalid 16, .ringTailWrite 32 0, .ringTailWrite 0 65536, .decBandDelivered 6 [], .encLoupeJob 4,
      .bcTemp 0 4 0, .bcApc 0 48 0 0, .bcIddata 0 3153 0, .stationRootFinal 160 0, .motRun 24, .stpOff 16,
      .stpSwitchChange 0 4 false 0 [], .pgnGo 32] : List Instr).all (fun c => !c.wf) = true := by decide

theorem test_illFormed_2 : (
    [.ctlSample 96 0 0 0 0, .ctlBankWrite 0 false 48 0, .hvoEnable 32, .htrEnable 8, .tmpSensorUpdate 24 0,
      .tmpArrayUpdate 0 5, .fedCondition 2 0 0 0 0, .railLogTimer 48, .seqReqOn 4, .eccEraseWrite 4 0,
      .bar2Write (2 ^ 32) [] false [], .dmaStart 16, .faultReport 384, .xinFilterExpire 16, .fltLatchClear 6 0 0,
      .fltLatchClear 0 2 0, .stormWindowClose 65536] : List Instr).all (fun c => !c.wf) = true := by decide

theorem test_illFormed_3 : (
    [.intEdge 512, .intModExpire 16, .linkUp 32 0, .linkUp 0 16, .bar4Write (2 ^ 33) 15 false 0 none,
      .casRxWr ⟨false, 256, 0, 0, false, 0, 0, []⟩, .casRxWr ⟨false, 0, 64, 0, false, 0, 0, []⟩,
      .casRxWr ⟨false, 0, 0, 256, false, 0, 0, []⟩, .casRxWr ⟨false, 0, 0, 0, false, 64, 0, []⟩,
      .casRxWr ⟨false, 0, 0, 0, false, 0, 256, []⟩, .casRxWr ⟨false, 0, 0, 0, false, 0, 0, List.replicate 33 0⟩,
      .casRxLack false 256, .calRunDone 5 0 [] [] false false, .calRunDone 0 96 [] [] false false,
      .lupGioEdge 128 false] : List Instr).all (fun c => !c.wf) = true := by decide

theorem test_wellFormed : (Instr.ctlSample 95 0 0 0 5).wf = true ∧ (Instr.fedClr 1).wf = true := by decide

/-! ### Worked examples of the spec -/

/-- spec/00, worked example: BAR 0 offset 0x021E2040. -/
theorem test_addr_decode : blkOf 0x021E2040 = 0x21 ∧ instOf 0x021E2040 = 0xE2 ∧ offOf 0x021E2040 = 0x040 ∧
    isPrism 0xE2 = true ∧ regAddr 0x21 0x05 0x040 = 0x02105040 := by decide

/-- spec/02, check 2: at class 0 with 993/1,024 a thirteenth block per band fits and a fourteenth does not. -/
theorem test_check2_blocks :
    let s := (live.setReg ((F.APR_SC_PERIOD).addr 0) 169333).setFld F.APR_DEC_MARGIN_MARGIN 0 993
    s.check2 { Ctx.init with desc := List.replicate 0x1A 0 ++ [13] } 0 = true ∧
      s.check2 { Ctx.init with desc := List.replicate 0x1A 0 ++ [14] } 0 = false := by decide +kernel

/-- spec/03, line 0 of a block: the mapped residues at x = 2, 5 and 6. -/
theorem test_lbc_residues : mapRes 4 3 0 = 6 ∧ mapRes 4 4 3 = 2 ∧ mapRes 4 15 4 = 9 ∧ unmap 4 4 9 = 15 := by decide

/-- spec/03: segment 0 costs 81 bits of codes with K = 0, behind Z and K. -/
theorem test_lbc_segment : (codeSeg 4 ([0, 0, 6, 0, 0, 2, 9] ++ List.replicate 57 0)).length = 3 + 81 := by decide +kernel

/-- spec/04, a bow-and-skew node pair at weight 30/48: y, x delay, power and width. -/
theorem test_node_interpolation : interp 18 19 30 = 19 ∧ interp (-40) (-44) 30 = -42 ∧ interp 10 12 30 = 11 ∧
    interp (-1) (-1) 30 = -1 := by decide

/-- spec/11 R302: g(x) divides a codeword (here one whose first 124 symbols are 0), so that the roots of g(x) are roots of it,
and one symbol changed shows. -/
theorem test_codeword :
    let c := [1, 2, 3, 0x80] ++ rsChecks [1, 2, 3, 0x80]
    c.length = 36 ∧ rsAt c (gfPow 0) = 0 ∧ rsAt c (gfPow 1) = 0 ∧ rsAt c (gfPow 31) = 0 ∧
      rsAt (c.set 9 5) (gfPow 1) ≠ 0 := by decide +kernel

/-- spec/08, station 0 charge: the set point 6,500 counts/s at GAIN 17,896 and SH 13. -/
theorem test_ctl_scale : scaleIn 6500 17896 13 = 14200 := by decide

/-- Bank B of the charge loop of spec/08. -/
def charge : State :=
  let w := fun (s : State) (i : Nat) (v : Word) => s.setReg ((F.CTL_B.at i).addr 0) v
  w (w (w (w (w live 0 32169) 1 322) 4 20480) 6 0x60000000) 7 2

/-- spec/08: the samples k, which swaps to bank B without a bump, and k + 1. -/
theorem test_ctl_swap :
    let c := { Ctl.init with uPid := 29491 }
    let k := charge.lawPid 0 true c 2000 0 16000 false true true
    let k1 := charge.lawPid 0 true k.c 1900 0 16000 false false k.sat
    k.u = 24576 ∧ k.sat = true ∧ k.c.i / 2 ^ 15 = 6722 ∧ k1.u = 24183 ∧ k1.sat = false := by decide +kernel

/-- spec/00 R7: a low-word read latches the high word for its path alone. -/
theorem test_latch_per_path :
    let s := (linked .idle).setPair64 F.PGN_POS_LO 31 0x500000007
    let a := regAddr B.PGN 31 F.PGN_POS_LO.off
    execNext (execCounterLowRead .host a s) (fun t => t.latches.get (fun _ => 0) (pathNum .host * 2 ^ 27 + a) == 5 &&
      t.latches.get (fun _ => 0) (pathNum .eyepiece * 2 ^ 27 + a) == 0) = true := by decide +kernel

end Sys2Proof.Tests
end

section
/-! SUPPORT and PROOFS. BAR 0 offsets (R8): the fields that an offset is made of, and which registers such an offset can
name. -/

namespace Sys2Proof.Machine

theorem blkOf_regAddr (blk inst off : Nat) (hb : blk < 128) (hi : inst < 256) (ho : off < 4096) :
    blkOf (regAddr blk inst off) = blk := by
  unfold blkOf regAddr; omega

theorem instOf_regAddr (blk inst off : Nat) (hi : inst < 256) (ho : off < 4096) :
    instOf (regAddr blk inst off) = inst := by
  unfold instOf regAddr; omega

theorem offOf_regAddr (blk inst off : Nat) (ho : off < 4096) : offOf (regAddr blk inst off) = off := by
  unfold offOf regAddr; omega

theorem regAddr_lt (blk inst off : Nat) (hb : blk < 128) (hi : inst < 256) (ho : off < 4096) :
    regAddr blk inst off < 2 ^ 27 := by
  unfold regAddr; omega

theorem regAddr_fields (a : Nat) (h : a < 2 ^ 27) : regAddr (blkOf a) (instOf a) (offOf a) = a := by
  unfold regAddr blkOf instOf offOf; omega

/-- An offset names one register: its fields are determined by it. -/
theorem regAddr_inj {blk inst off blk' inst' off' : Nat} (hi : inst < 256) (ho : off < 4096) (hi' : inst' < 256)
    (ho' : off' < 4096) (h : regAddr blk inst off = regAddr blk' inst' off') :
    blk = blk' ∧ inst = inst' ∧ off = off' := by
  unfold regAddr at h; omega

/-- The word of an offset, which is what an access addresses, lies on the same page. -/
theorem blkOf_word (a : Nat) : blkOf (a / 4 * 4) = blkOf a := by unfold blkOf; omega
theorem instOf_word (a : Nat) : instOf (a / 4 * 4) = instOf a := by unfold instOf; omega

/-- The word of a register at a multiple of 4 is its own offset. -/
theorem word_regAddr (blk inst off : Nat) (hb : blk < 128) (hi : inst < 256) (ho : off < 4096) (h4 : off % 4 = 0) :
    regAddr blk inst off % 2 ^ 27 / 4 * 4 = regAddr blk inst off := by
  unfold regAddr; omega

/-- Only blocks below the MSI-X block have pages, and none lies at a group address (R9, R363). -/
theorem pageExists_bounds {blk inst : Nat} (h : pageExists blk inst = true) : blk < 0x7F ∧ inst < 0xE0 := by
  unfold pageExists at h
  split at h <;> simp only [decide_eq_true_eq, Bool.false_eq_true] at h <;> omega

/-- Every row of the register tables lies above the page header (R14). -/
theorem blockRows_off (blk : Nat) : ∀ r ∈ blockRows blk, 0x040 ≤ r.off := by
  unfold blockRows
  split <;> decide

theorem rowAt_header (blk inst off : Nat) (h : off < 0x040) : rowAt blk inst off = none := by
  refine List.findSome?_eq_none_iff.mpr fun r hr => ?_
  have := blockRows_off blk r hr
  exact if_neg (by omega)

/-- PAGE_LOCK guards no register of the page header (R15). -/
theorem rowLocked_header (blk inst off : Nat) (h : off < 0x040) : rowLocked blk inst off = false := by
  simp [rowLocked, rowAt_header blk inst off h]

/-- Settles O48: each field is a quotient and a remainder of the offset, and together they take up all its bits. -/
theorem addressDecode : Obligations.AddressDecode := by
  unfold Obligations.AddressDecode
  refine ⟨fun a => ⟨rfl, rfl, ?_⟩, fun blk inst off hb hi ho => ?_, regAddr_fields⟩
  · simp [offOf, bits]
  · exact ⟨blkOf_regAddr blk inst off hb hi ho, instOf_regAddr blk inst off hi ho, offOf_regAddr blk inst off ho⟩

end Sys2Proof.Machine
end

section
/-! SUPPORT. Registers, fields and flags after the small updates; which parts of the state an update leaves alone; and the
end of a command. -/

namespace Sys2Proof.Machine

/-! ### What a read of a field looks at -/

theorem State.fld_congr {s t : State} {f : Field} {i : Nat} (h : t.reg (f.addr i) = s.reg (f.addr i)) :
    t.fld f i = s.fld f i := by
  unfold State.fld; rw [h]

theorem State.flag_congr {s t : State} {f : Field} {i : Nat} (h : t.reg (f.addr i) = s.reg (f.addr i)) :
    t.flag f i = s.flag f i := by
  unfold State.flag; rw [State.fld_congr h]

/-- Whether a domain is on stands in PWR_DOM_STAT alone. -/
theorem State.domOn_congr {s t : State} (h : t.reg (F.PWR_DOM_STAT.addr 0x40) = s.reg (F.PWR_DOM_STAT.addr 0x40))
    (d : Dom) : t.domOn d = s.domOn d := by
  unfold State.domOn; rw [State.fld_congr h]

theorem State.pageOn_congr {s t : State} (h : t.reg (F.PWR_DOM_STAT.addr 0x40) = s.reg (F.PWR_DOM_STAT.addr 0x40))
    (blk inst : Nat) : t.pageOn blk inst = s.pageOn blk inst := by
  unfold State.pageOn; rw [State.domOn_congr h, State.fld_congr h]

/-! ### Flags -/

/-- A one-bit field read back after it is set. -/
theorem State.flag_setFlag_same (s : State) (f : Field) (i : Nat) (b : Bool) (hl : f.len = 1) (h : f.lo < 32) :
    (s.setFlag f i b).flag f i = b := by
  unfold State.flag State.setFlag
  rw [State.fld_setFld_same _ _ _ _ (by omega), hl]
  cases b <;> rfl

/-- A flag of another register, or another bit of the same one, is left alone. -/
theorem State.flag_setFlag_ne (s : State) (f g : Field) (i j : Nat) (b : Bool) (hf : f.lo + f.len ≤ 32)
    (h : g.addr j ≠ f.addr i ∨ g.lo + g.len ≤ f.lo ∨ f.lo + f.len ≤ g.lo) :
    (s.setFlag f i b).flag g j = s.flag g j := by
  unfold State.flag State.setFlag
  rcases h with h | h
  · rw [State.fld_setFld_addr _ _ _ _ _ _ h]
  · rw [State.fld_setFld_bits _ _ _ _ _ _ hf h]

/-- A saturating counter read back after it counts (R3). -/
theorem State.fld_bump_same (s : State) (f : Field) (i : Nat) (h : f.lo + f.len ≤ 32) :
    (s.bump f i).fld f i = min (s.fld f i + 1) (2 ^ f.len - 1) := by
  have hlt : s.fld f i < 2 ^ f.len := bits_lt _ _ _
  unfold State.bump
  split
  · rw [State.fld_setFld_same _ _ _ _ h, Nat.mod_eq_of_lt (by omega)]; omega
  · omega

theorem State.reg_setPair64_ne (s : State) (f : Field) (i v a : Nat) (h : a ≠ f.addr i) (h' : a ≠ f.addr i + 4) :
    (s.setPair64 f i v).reg a = s.reg a := by
  unfold State.setPair64
  rw [State.reg_setReg_ne _ _ _ _ h', State.reg_setReg_ne _ _ _ _ h]

/-- Registers left out of the map read their reset values. -/
theorem State.reg_filter_out (s : State) (p : Nat × Word → Bool) (a : Nat) (h : ∀ v, p (a, v) = false) :
    ({ s with regs := s.regs.filter p } : State).reg a = regReset a := by
  have key : ∀ m : Sparse Word, Sparse.find (m.filter p) a = none := by
    intro m
    induction m with
    | nil => rfl
    | cons e m ih =>
      obtain ⟨k, w⟩ := e
      by_cases hk : a = k
      · subst hk; rw [List.filter_cons_of_neg (by simp [h w])]; exact ih
      · rw [List.filter_cons]
        split
        · simpa [Sparse.find, hk] using ih
        · exact ih
  simp [State.reg, Sparse.get, key]

/-! ### Registers that an update does not touch -/

theorem State.regsBut_setReg (s : State) (a : Nat) (v : Word) : s.regsBut (s.setReg a v) [a] :=
  fun b hb => State.reg_setReg_ne _ _ _ _ (by simpa using hb)

theorem State.regsBut_setFlag (s : State) (f : Field) (i : Nat) (b : Bool) : s.regsBut (s.setFlag f i b) [f.addr i] :=
  State.regsBut_setReg _ _ _

theorem State.regsBut_event (s : State) (blk inst n : Nat) : s.regsBut (s.event blk inst n) [evtAddr blk inst] :=
  fun _ hb => State.reg_event_ne _ _ _ _ _ fun h => hb (by simp [h, evtAddr])

/-- Updates one after the other touch the registers that one of them touches. -/
theorem State.regsBut.trans {s t u : State} {as bs cs : List Nat} (h : s.regsBut t as) (h' : t.regsBut u bs)
    (ha : ∀ a ∈ as, a ∈ cs) (hb : ∀ b ∈ bs, b ∈ cs) : s.regsBut u cs :=
  fun a hc => (h' a fun hm => hc (hb a hm)).trans (h a fun hm => hc (ha a hm))

/-! ### Updates of registers alone -/

/-- `t` differs from `s` in registers, and in the record of W1C bits just set, alone. -/
def State.movesRegs (s t : State) : Prop := ∃ r w, t = { s with regs := r, fresh := w }

/-- The same, but for the list of source pairs that read asserted. -/
def State.movesRegsAndPairs (s t : State) : Prop :=
  ∃ r w p, t = { s with regs := r, fresh := w, flt := { s.flt with pair := p } }

theorem State.movesRegs_refl (s : State) : s.movesRegs s := ⟨_, _, rfl⟩
theorem State.movesRegs_setReg (s : State) (a : Nat) (v : Word) : s.movesRegs (s.setReg a v) := ⟨_, _, rfl⟩
theorem State.movesRegs_setFlag (s : State) (f : Field) (i : Nat) (b : Bool) : s.movesRegs (s.setFlag f i b) :=
  State.movesRegs_setReg _ _ _
theorem State.movesRegs_hwSet (s : State) (a : Nat) (m : Word) : s.movesRegs (s.hwSet a m) :=
  ⟨(s.setReg a (s.reg a ||| m)).regs, (s.hwSet a m).fresh, rfl⟩
theorem State.movesRegs_event (s : State) (blk inst n : Nat) : s.movesRegs (s.event blk inst n) :=
  State.movesRegs_hwSet _ _ _

theorem State.movesRegs_bump (s : State) (f : Field) (i : Nat) : s.movesRegs (s.bump f i) := by
  unfold State.bump; split
  · exact State.movesRegs_setReg _ _ _
  · exact State.movesRegs_refl s

theorem State.movesRegs.trans {s t u : State} (h : s.movesRegs t) (h' : t.movesRegs u) : s.movesRegs u := by
  obtain ⟨r, w, rfl⟩ := h
  obtain ⟨r', w', rfl⟩ := h'
  exact ⟨r', w', rfl⟩

theorem State.movesRegs_setPair64 (s : State) (f : Field) (i v : Nat) : s.movesRegs (s.setPair64 f i v) :=
  (State.movesRegs_setReg _ _ _).trans (State.movesRegs_setReg _ _ _)

/-- A fault source raised beside moves of registers. -/
theorem State.movesRegs.raiseFault {s t : State} (h : s.movesRegs t) (n : Nat) :
    s.movesRegsAndPairs (t.raiseFault n) := by
  obtain ⟨r, w, rfl⟩ := h
  unfold State.raiseFault
  split <;> exact ⟨_, _, _, rfl⟩

/-- A command that moves registers alone leaves every other part of the state as it was, but for WAKE_N. -/
theorem State.movesRegs.onlyRegs {s t : State} (h : s.movesRegs t) : s.onlyRegs (s.finish t) := by
  obtain ⟨r, w, rfl⟩ := h
  rfl

theorem State.movesRegsAndPairs.onlyRegsAndFaults {s t : State} (h : s.movesRegsAndPairs t) :
    s.onlyRegsAndFaults (s.finish t) := by
  obtain ⟨r, w, p, rfl⟩ := h
  rfl

/-! ### The end of a command -/

/-- Two commands that leave the same state have the same outcome. -/
theorem next_finish {s t u : State} (h : t = u) :
    (.next (s.finish t) : Host.Outcome State Fault Refusal) = .next (s.finish u) := by rw [h]

section
variable (s t : State)

theorem State.regsBut.finish {s t : State} {as : List Nat} (h : s.regsBut t as) : s.regsBut (s.finish t) as := h
theorem State.finish_pageEn (blk inst : Nat) : (s.finish t).pageEn blk inst = t.pageEn blk inst := rfl
theorem State.finish_raised (blk inst n : Nat) : (s.finish t).raised blk inst n = t.raised blk inst n := rfl
theorem State.finish_moState (m : Nat) : (s.finish t).moState m = t.moState m := rfl

end

end Sys2Proof.Machine
end

section
/-! SUPPORT. Host access errors, and a host write through BAR 0: what stops it, and where it has its effect (R6, R9, R18,
R24, R360, R361, R364). -/

namespace Sys2Proof.Machine

/-! ### What moves of registers leave alone -/

theorem State.mem_pair_raiseFault {s : State} {n : Nat} (h : n ∈ s.flt.pair) (m : Nat) :
    n ∈ (s.raiseFault m).flt.pair := by
  unfold State.raiseFault
  split
  · exact h
  · exact List.mem_append_left _ h

section
variable {s t : State} (h : s.movesRegsAndPairs t)
include h

theorem State.movesRegsAndPairs.lmem : t.lmem = s.lmem := by obtain ⟨r, w, p, rfl⟩ := h; rfl
theorem State.movesRegsAndPairs.sys : t.sys = s.sys := by obtain ⟨r, w, p, rfl⟩ := h; rfl
theorem State.movesRegsAndPairs.cas : t.cas = s.cas := by obtain ⟨r, w, p, rfl⟩ := h; rfl

end

/-! ### A host access error (R361) -/

/-- The registers that a host access error writes: its count, its record, its address, and HST.ACC_ERR. -/
def accErrRegs : List Nat :=
  [F.HST_ACC_CNT.addr 0, F.HST_ACC_INFO.addr 0, F.HST_ACC_ADDR_LO.addr 0, F.HST_ACC_ADDR_HI.addr 0, evtAddr B.HST 0]

section
variable (s : State) (cause via : Nat) (write : Bool) (node addr : Nat)

/-- An access error writes registers and raises F_310. -/
theorem State.accErr_raises :
    ∃ t, s.movesRegs t ∧ s.accErr cause via write node addr = t.raiseFault 310 :=
  ⟨_, (((State.movesRegs_bump _ _ _).trans (State.movesRegs_setReg _ _ _)).trans
    (State.movesRegs_setPair64 _ _ _ _)).trans (State.movesRegs_event _ _ _ _), rfl⟩

theorem State.accErr_movesRegs : s.movesRegsAndPairs (s.accErr cause via write node addr) := by
  obtain ⟨t, ht, e⟩ := State.accErr_raises s cause via write node addr
  exact e ▸ ht.raiseFault 310

theorem State.accErr_regsBut : s.regsBut (s.accErr cause via write node addr) accErrRegs := by
  intro a ha
  simp only [accErrRegs, List.mem_cons, List.not_mem_nil, or_false, not_or] at ha
  obtain ⟨hcnt, hinfo, hlo, hhi, hevt⟩ := ha
  unfold State.accErr
  rw [State.raiseFault_reg, State.reg_event_ne _ _ _ _ _ hevt, State.reg_setPair64_ne _ _ _ _ _ hlo hhi,
    State.reg_setReg_ne _ _ _ _ hinfo, State.reg_bump_ne _ _ _ _ hcnt]

/-- What the record of an access error holds. -/
theorem State.accErr_info : (s.accErr cause via write node addr).reg (F.HST_ACC_INFO.addr 0) =
    BitVec.ofNat 32 (cause * 2 ^ 28 + via * 2 ^ 26 + (if write then 2 ^ 25 else 0) + node % 64) := by
  unfold State.accErr
  rw [State.raiseFault_reg, State.reg_event_ne _ _ _ _ _ (by decide),
    State.reg_setPair64_ne _ _ _ _ _ (by decide) (by decide), State.reg_setReg_same]

theorem State.accErr_cause (hc : cause < 16) (hv : via < 4) :
    (s.accErr cause via write node addr).fld F.HST_ACC_INFO_CAUSE 0 = cause := by
  have h := State.accErr_info s cause via write node addr
  have hn : node % 64 < 64 := Nat.mod_lt _ (by decide)
  unfold State.fld
  rw [show F.HST_ACC_INFO_CAUSE.addr 0 = F.HST_ACC_INFO.addr 0 from rfl, h, BitVec.toNat_ofNat]
  simp only [bits]
  cases write <;> simp <;> omega

theorem State.accErr_via (hv : via < 4) :
    (s.accErr cause via write node addr).fld F.HST_ACC_INFO_VIA 0 = via := by
  have h := State.accErr_info s cause via write node addr
  have hn : node % 64 < 64 := Nat.mod_lt _ (by decide)
  unfold State.fld
  rw [show F.HST_ACC_INFO_VIA.addr 0 = F.HST_ACC_INFO.addr 0 from rfl, h, BitVec.toNat_ofNat]
  simp only [bits]
  cases write <;> simp <;> omega

theorem State.accErr_node (hn : node < 64) :
    (s.accErr cause via write node addr).fld F.HST_ACC_INFO_NODE 0 = node := by
  have h := State.accErr_info s cause via write node addr
  unfold State.fld
  rw [show F.HST_ACC_INFO_NODE.addr 0 = F.HST_ACC_INFO.addr 0 from rfl, h, BitVec.toNat_ofNat]
  simp only [bits]
  cases write <;> simp <;> omega

theorem State.accErr_raised : (s.accErr cause via write node addr).raised B.HST 0 3 = true := by
  unfold State.accErr State.raised
  rw [State.raiseFault_reg]
  exact State.event_bit _ _ _ _ (by decide)

theorem State.accErr_pair : 310 ∈ (s.accErr cause via write node addr).flt.pair := State.raiseFault_mem _ _

/-- A fault source that reads asserted before an access error does so after it. -/
theorem State.mem_pair_accErr {n : Nat} (h : n ∈ s.flt.pair) : n ∈ (s.accErr cause via write node addr).flt.pair := by
  obtain ⟨t, ⟨r, w, rfl⟩, e⟩ := State.accErr_raises s cause via write node addr
  rw [e]
  exact State.mem_pair_raiseFault (s := { s with regs := r, fresh := w }) h 310

end

/-- An access error writes registers of HST alone. -/
theorem accErrRegs_blk : ∀ a ∈ accErrRegs, blkOf a = B.HST := by decide

/-! ### Whether a host write arrives (R359, R361, R367) -/

/-- The registers by which a host write is let in: the link, the domains, and the count of ring-wide writes out. -/
def hostGateRegs : List Nat := [F.PWR_DOM_STAT.addr 0x40, F.HST_LINK.addr 0, F.PRS_STAT.addr 0]

/-- A host write arrives: the link is up, in D0, and no ring-wide write holds it back (R366). -/
def State.hostTakes (s : State) : Prop := s.hostPath = true ∧ s.fld F.PRS_STAT_OUT 0 ≠ 255

theorem State.hostPath_congr {s t : State} (hd : t.reg (F.PWR_DOM_STAT.addr 0x40) = s.reg (F.PWR_DOM_STAT.addr 0x40))
    (hl : t.reg (F.HST_LINK.addr 0) = s.reg (F.HST_LINK.addr 0)) : t.hostPath = s.hostPath := by
  have hu : t.flag F.HST_LINK_UP 0 = s.flag F.HST_LINK_UP 0 := State.flag_congr hl
  have h3 : t.flag F.HST_LINK_D3 0 = s.flag F.HST_LINK_D3 0 := State.flag_congr hl
  unfold State.hostPath
  rw [State.domOn_congr hd, hu, h3]

theorem State.hostTakes_congr {s t : State} (h : ∀ a ∈ hostGateRegs, t.reg a = s.reg a) :
    t.hostTakes ↔ s.hostTakes := by
  have ho : t.fld F.PRS_STAT_OUT 0 = s.fld F.PRS_STAT_OUT 0 := State.fld_congr (h _ (by simp [hostGateRegs]; decide))
  unfold State.hostTakes
  rw [State.hostPath_congr (h _ (by simp [hostGateRegs])) (h _ (by simp [hostGateRegs])), ho]

theorem State.hostTakes_gate {s : State} (h : s.hostTakes) :
    (!s.hostPath || s.fld F.PRS_STAT_OUT 0 == 255) = false := by
  obtain ⟨hp, ho⟩ := h
  simp [hp, ho]

/-! ### What stops a host write -/

section
variable {s : State} (h : s.hostTakes)
include h

/-- A poisoned write is discarded and reported (R360). -/
theorem hostWrite_poisoned (a : Nat) (be : BitVec 4) (v : Word) :
    hostWrite a be true v s = (s.emit (.aer 0)).raiseFault 309 := by
  simp [hostWrite, State.hostTakes_gate h]

/-- A write of part of a register is discarded as PARTIAL (R6, R361). -/
theorem hostWrite_partial (a : Nat) (be : BitVec 4) (v : Word) (hb : be ≠ 15) :
    hostWrite a be false v s = s.accErr 1 0 true 0 (a % bar0Size) := by
  unfold hostWrite
  rw [State.hostTakes_gate h, if_neg Bool.false_ne_true, if_neg Bool.false_ne_true, if_pos hb]

/-- In LOCKDOWN a write is discarded (R24). -/
theorem hostWrite_lockdown (a : Nat) (v : Word) (hm : s.sys.mode = .lockdown) :
    hostWrite a 15 false v s = s.accErr 8 0 true 0 (a % bar0Size) := by
  simp [hostWrite, State.hostTakes_gate h, hm]

/-- Outside LOCKDOWN a whole write of a register that is not carried ring-wide is applied here alone (R366). -/
theorem hostWrite_applied (a : Nat) (v : Word) (ha : a < bar0Size) (hm : s.sys.mode ≠ .lockdown)
    (hr : blkOf a = 0x7F ∨ s.ringSelected (instOf a) = false) :
    hostWrite a 15 false v s = s.writeAddr false a v fun s c => s.accErr c 0 true 0 a := by
  have hn : ¬ (blkOf a ≠ 0x7F ∧ s.ringSelected (instOf a) = true) := by
    rcases hr with hr | hr <;> simp [hr]
  unfold hostWrite
  simp only [State.hostTakes_gate h, hm, Nat.mod_eq_of_lt ha, hn, if_false, Bool.false_eq_true, ne_eq, not_true_eq_false]

end

/-- A write to one page is never carried ring-wide (R366). -/
theorem State.ringSelected_instance (s : State) (inst : Nat) (h : inst < 0xE0) : s.ringSelected inst = false := by
  unfold State.ringSelected
  rw [if_neg (by omega)]
  simp [show ¬ 0xE0 ≤ inst by omega]

theorem isPrism_instance (inst : Nat) (h : inst < 0xE0) : isPrism inst = false := by
  simp [isPrism, show ¬ 0xE0 ≤ inst by omega, show inst ≠ 0xFF by omega]

/-- A block of which a page exists is there. -/
theorem blockExists_of_pageExists {blk inst : Nat} (h : pageExists blk inst = true) : blockExists blk = true := by
  have hm : inst ∈ instancesOf blk := List.mem_filter.mpr ⟨List.mem_range.mpr (pageExists_bounds h).2, h⟩
  simp [blockExists, List.ne_nil_of_mem hm]

/-- A write at a register of a page that exists and is on reaches that page (R8, R9). -/
theorem State.writeAddr_page (s : State) (tap : Bool) (blk inst off : Nat) (v : Word) (bad : State → Nat → State)
    (hp : pageExists blk inst = true) (ho : s.pageOn blk inst = true) (hoff : off < 4096) (h4 : off % 4 = 0) :
    s.writeAddr tap (regAddr blk inst off) v bad = s.writePage tap blk inst off v := by
  obtain ⟨hb, hi⟩ := pageExists_bounds hp
  unfold State.writeAddr
  simp only [word_regAddr blk inst off (by omega) (by omega) hoff h4, blkOf_regAddr blk inst off (by omega) (by omega) hoff,
    instOf_regAddr blk inst off (by omega) hoff, offOf_regAddr blk inst off hoff, blockExists_of_pageExists hp,
    isPrism_instance inst hi, hp, ho, show blk ≠ 0x7F by omega, if_true, if_false, Bool.not_true, Bool.false_eq_true]

/-- A write at a page that does not exist is discarded as ABSENT (R9, R361). -/
theorem State.writeAddr_absent (s : State) (tap : Bool) (a : Nat) (v : Word) (bad : State → Nat → State)
    (ha : a < 2 ^ 27) (hb : blkOf a ≠ 0x7F) (hi : instOf a < 0xE0) (hp : pageExists (blkOf a) (instOf a) = false) :
    s.writeAddr tap a v bad = bad s 2 := by
  unfold State.writeAddr
  simp only [Nat.mod_eq_of_lt ha, blkOf_word, instOf_word, isPrism_instance _ hi, hp, hb, if_false, Bool.false_eq_true]
  split <;> rfl

/-- A host write of a whole register at an open page has its effect there. -/
theorem hostWrite_page {s : State} (h : s.hostTakes) {blk inst : Nat} (hp : s.openPage blk inst) (off : Nat) (v : Word)
    (hoff : off < 4096) (h4 : off % 4 = 0) :
    hostWrite (regAddr blk inst off) 15 false v s = s.writePage false blk inst off v := by
  obtain ⟨hm, he, ho⟩ := hp
  obtain ⟨hb, hi⟩ := pageExists_bounds he
  rw [hostWrite_applied h _ _ (regAddr_lt _ _ _ (by omega) (by omega) hoff) hm (.inr ?_),
    State.writeAddr_page _ _ _ _ _ _ _ he ho hoff h4]
  rw [instOf_regAddr _ _ _ (by omega) hoff, State.ringSelected_instance _ _ hi]

end Sys2Proof.Machine
end

section
/-! PROOFS. The page header's controls: BLK_RST and its end, EN, LOCK and PAGE_GROUP (R14, R15, R16, R56, R417, R421). -/

namespace Sys2Proof.Machine

/-! ### The registers of the page header -/

theorem addr_PAGE_CTRL_EN (blk i : Nat) : (H.PAGE_CTRL_EN blk).addr i = regAddr blk i 0x008 := by
  simp only [Field.addr, H.PAGE_CTRL_EN]
theorem addr_PAGE_CTRL_BLK_RST (blk i : Nat) : (H.PAGE_CTRL_BLK_RST blk).addr i = regAddr blk i 0x008 := by
  simp only [Field.addr, H.PAGE_CTRL_BLK_RST]
theorem addr_PAGE_STATUS_BUSY (blk i : Nat) : (H.PAGE_STATUS_BUSY blk).addr i = regAddr blk i 0x00C := by
  simp only [Field.addr, H.PAGE_STATUS_BUSY]
theorem addr_PAGE_LOCK_LOCK (blk i : Nat) : (H.PAGE_LOCK_LOCK blk).addr i = regAddr blk i 0x020 := by
  simp only [Field.addr, H.PAGE_LOCK_LOCK]

/-- A flag set in one register of a page leaves the page's other registers alone. -/
theorem State.reg_setFlag_off {f : Field} {blk i o : Nat} (hf : f.addr i = regAddr blk i o) (s : State) (b : Bool)
    {off : Nat} (h : off ≠ o) : (s.setFlag f i b).reg (regAddr blk i off) = s.reg (regAddr blk i off) := by
  refine State.reg_setFlag_ne _ _ _ _ _ ?_
  rw [hf]; unfold regAddr; omega

section
variable (s : State) (blk i : Nat) (b : Bool)

theorem State.pageEn_setEn : (s.setFlag (H.PAGE_CTRL_EN blk) i b).flag (H.PAGE_CTRL_EN blk) i = b :=
  State.flag_setFlag_same _ _ _ _ rfl (by simp [H.PAGE_CTRL_EN])

theorem State.blkRst_setBlkRst : (s.setFlag (H.PAGE_CTRL_BLK_RST blk) i b).flag (H.PAGE_CTRL_BLK_RST blk) i = b :=
  State.flag_setFlag_same _ _ _ _ rfl (by simp [H.PAGE_CTRL_BLK_RST])

theorem State.busy_setBusy : (s.setFlag (H.PAGE_STATUS_BUSY blk) i b).flag (H.PAGE_STATUS_BUSY blk) i = b :=
  State.flag_setFlag_same _ _ _ _ rfl (by simp [H.PAGE_STATUS_BUSY])

theorem State.lock_setLock : (s.setFlag (H.PAGE_LOCK_LOCK blk) i b).flag (H.PAGE_LOCK_LOCK blk) i = b :=
  State.flag_setFlag_same _ _ _ _ rfl (by simp [H.PAGE_LOCK_LOCK])

theorem State.blkRst_setEn : (s.setFlag (H.PAGE_CTRL_EN blk) i b).flag (H.PAGE_CTRL_BLK_RST blk) i =
    s.flag (H.PAGE_CTRL_BLK_RST blk) i :=
  State.flag_setFlag_ne _ _ _ _ _ _ (by simp [H.PAGE_CTRL_EN]) (by simp [H.PAGE_CTRL_EN, H.PAGE_CTRL_BLK_RST])

theorem State.pageEn_setBlkRst : (s.setFlag (H.PAGE_CTRL_BLK_RST blk) i b).flag (H.PAGE_CTRL_EN blk) i =
    s.flag (H.PAGE_CTRL_EN blk) i :=
  State.flag_setFlag_ne _ _ _ _ _ _ (by simp [H.PAGE_CTRL_BLK_RST]) (by simp [H.PAGE_CTRL_EN, H.PAGE_CTRL_BLK_RST])

/-- PAGE_STATUS is another register than PAGE_CTRL. -/
theorem State.flag_setBusy (f : Field) (h : f.addr i = regAddr blk i 0x008) :
    (s.setFlag (H.PAGE_STATUS_BUSY blk) i b).flag f i = s.flag f i :=
  State.flag_congr (by rw [h, State.reg_setFlag_off (addr_PAGE_STATUS_BUSY ..) _ _ (by decide)])

theorem State.busy_setEn : (s.setFlag (H.PAGE_CTRL_EN blk) i b).flag (H.PAGE_STATUS_BUSY blk) i =
    s.flag (H.PAGE_STATUS_BUSY blk) i :=
  State.flag_congr (by rw [addr_PAGE_STATUS_BUSY, State.reg_setFlag_off (addr_PAGE_CTRL_EN ..) _ _ (by decide)])

end

/-! ### A command that writes a page's header -/

theorem State.pageThere_of_openPage {s : State} {blk inst : Nat} (h : s.openPage blk inst) :
    s.pageThere blk inst = true := by
  obtain ⟨_, hp, ho⟩ := h
  simp [State.pageThere, hp, ho]

/-- A host write of a register of the page header that arrives has its effect: no lock guards it (R14, R15). -/
theorem State.onPage_header {s : State} {blk inst : Nat} (h : s.openPage blk inst) (off : Nat) (f : State → State)
    (ho : off < 0x040) : (s.onPage blk inst off fun s => if s.pageThere blk inst then f s else s) = f s := by
  obtain ⟨hm, hp, hd⟩ := h
  rw [State.onPage_open _ _ _ _ _ hm hp hd (rowLocked_header _ _ _ ho),
    if_pos (State.pageThere_of_openPage ⟨hm, hp, hd⟩)]

theorem exec_blkRst {s : State} {blk inst : Nat} (h : s.openPage blk inst) (en : Bool) :
    exec (.blkRst blk inst en) s = .next (s.finish (s.blkRst blk inst en)) :=
  next_finish (State.onPage_header h 0x008 (·.blkRst blk inst en) (by decide))

theorem exec_pageLock {s : State} {blk inst : Nat} (h : s.openPage blk inst) :
    exec (.pageLock blk inst) s = .next (s.finish (s.setFlag (H.PAGE_LOCK_LOCK blk) inst true)) :=
  next_finish (State.onPage_header h 0x020 (·.setFlag (H.PAGE_LOCK_LOCK blk) inst true) (by decide))

theorem exec_pageEnable {s : State} {blk inst : Nat} (h : s.openPage blk inst) :
    exec (.pageEnable blk inst) s = .next (s.finish (s.pageEnable blk inst)) :=
  next_finish (State.onPage_header h 0x008 (·.pageEnable blk inst) (by decide))

theorem exec_pageDisable {s : State} {blk inst : Nat} (h : s.openPage blk inst) :
    exec (.pageDisable blk inst) s = .next (s.finish (s.pageDisable blk inst)) :=
  next_finish (State.onPage_header h 0x008 (·.pageDisable blk inst) (by decide))

/-! ### BLK_RST -/

theorem State.regs_ite {c : Prop} [Decidable c] {t u s : State} (ht : t.regs = s.regs) (hu : u.regs = s.regs) :
    (if c then t else u).regs = s.regs := by
  split
  · exact ht
  · exact hu

/-- What a block holds beside its registers comes up without a write of one. -/
theorem State.rstHidden_regs (s : State) (blk i : Nat) : (s.rstHidden blk i).regs = s.regs := by
  unfold State.rstHidden
  repeat' apply State.regs_ite
  all_goals rfl

/-- What every step of a loop keeps, the loop keeps. -/
theorem forAll_keeps {σ : Type} {xs : List Nat} {f : σ → Nat → σ} (P : σ → Prop)
    (hf : ∀ t x, x ∈ xs → P t → P (f t x)) {s : σ} (hs : P s) : P (forAll xs s f) :=
  List.foldlRecOn xs f hs fun t ht x hx => hf t x hx ht

/-- CAPPED and its event stand on the generators' pages (R201). -/
theorem State.capSync_reg_ne (s : State) (a : Nat) (h : blkOf a ≠ B.PGN) : s.capSync.reg a = s.reg a := by
  have hne : ∀ g off, g < 256 → off < 4096 → a ≠ regAddr B.PGN g off :=
    fun g off hg ho e => h (e ▸ blkOf_regAddr _ _ _ (by decide) hg ho)
  unfold State.capSync
  refine forAll_keeps (fun t : State => t.reg a = s.reg a) (fun t g hg ht => ?_) rfl
  have hgl : g < 256 := by have := List.mem_range.mp hg; omega
  split_ifs
  · rw [State.reg_setFlag_ne _ F.PGN_STAT_CAPPED _ _ _ (hne g 0x074 hgl (by decide)), ht]
  · exact ht
  · rw [State.reg_event_ne _ _ _ _ _ (hne g _ hgl (by decide)),
      State.reg_setFlag_ne _ F.PGN_STAT_CAPPED _ _ _ (hne g 0x074 hgl (by decide)), ht]
  · exact ht

/-- What a reset keeps of a page depends on the rest of the state for PWR alone. -/
theorem State.rstKeeps_congr (s t : State) (blk inst off : Nat) (h : blk ≠ B.PWR) :
    t.rstKeeps blk inst off = s.rstKeeps blk inst off := by
  have hb : (blk == B.PWR) = false := by simpa using h
  simp only [State.rstKeeps, hb, Bool.false_and]

/-- A page's BLK_RST and BUSY set, and EN cleared where it acts: how its reset ends. -/
def State.rstMark (s : State) (blk i : Nat) : State :=
  let t := (s.setFlag (H.PAGE_CTRL_BLK_RST blk) i true).setFlag (H.PAGE_STATUS_BUSY blk) i true
  if enActs blk i then t.setFlag (H.PAGE_CTRL_EN blk) i false else t

theorem State.rstMark_reg_ne (s : State) (blk i off : Nat) (h8 : off ≠ 0x008) (hC : off ≠ 0x00C) :
    (s.rstMark blk i).reg (regAddr blk i off) = s.reg (regAddr blk i off) := by
  unfold State.rstMark
  split
  · rw [State.reg_setFlag_off (addr_PAGE_CTRL_EN ..) _ _ h8, State.reg_setFlag_off (addr_PAGE_STATUS_BUSY ..) _ _ hC,
      State.reg_setFlag_off (addr_PAGE_CTRL_BLK_RST ..) _ _ h8]
  · rw [State.reg_setFlag_off (addr_PAGE_STATUS_BUSY ..) _ _ hC,
      State.reg_setFlag_off (addr_PAGE_CTRL_BLK_RST ..) _ _ h8]

theorem State.rstMark_flags (s : State) (blk i : Nat) :
    (s.rstMark blk i).flag (H.PAGE_CTRL_BLK_RST blk) i = true ∧
      (s.rstMark blk i).flag (H.PAGE_STATUS_BUSY blk) i = true := by
  unfold State.rstMark
  split
  · rw [State.blkRst_setEn, State.flag_setBusy _ _ _ _ _ (addr_PAGE_CTRL_BLK_RST ..), State.busy_setEn]
    exact ⟨State.blkRst_setBlkRst .., State.busy_setBusy ..⟩
  · rw [State.flag_setBusy _ _ _ _ _ (addr_PAGE_CTRL_BLK_RST ..)]
    exact ⟨State.blkRst_setBlkRst .., State.busy_setBusy ..⟩

/-- A page's registers cleared to reset, but for those kept, and then the rest of the block: the registers that a reset
of a page other than PWR's shows, FMT_STAT apart. -/
theorem State.blkRst_shape (s : State) (blk i : Nat) (hw : blk ≠ B.PWR) (hr : s.ringHeld blk i = false) :
    ∃ u : State, s.blkRst blk i false = u.rstMark blk i ∧
      ∀ a, (blk = B.FMT → a ≠ F.FMT_STAT.addr i) → blkOf a = blk → instOf a = i →
        s.rstKeeps blk i (offOf a) = false → u.reg a = regReset a := by
  unfold State.blkRst
  rw [if_neg (by simp [hr])]
  refine ⟨_, rfl, fun a hf hb hi hk => ?_⟩
  have hw' : ¬ (blk = B.PWR ∧ i < 48) := fun h => hw h.1
  by_cases hF : blk = B.FMT
  · simp only [if_pos hF, if_neg hw']
    rw [State.capSync_reg_ne _ _ (by rw [hb, hF]; decide), State.reg_congr (State.rstHidden_regs _ _ _),
      State.reg_setFlag_ne _ F.FMT_STAT_TIGHT _ _ _ (hf hF), State.reg_setFlag_ne _ F.FMT_STAT_CUT _ _ _ (hf hF)]
    exact State.reg_filter_out _ _ _ fun v => by simp [hb, hi, State.rstKeeps_congr s _ _ _ _ hw, hk]
  · simp only [if_neg hF, if_neg hw']
    rw [State.reg_congr (State.rstHidden_regs _ _ _)]
    exact State.reg_filter_out _ _ _ fun v => by simp [hb, hi, State.rstKeeps_congr s _ _ _ _ hw, hk]

theorem State.blkRst_held (s : State) (i : Nat) (en : Bool) (h : s.ringHeld B.APR i = true) :
    s.blkRst B.APR i en = s.event B.APR i 1 := if_pos h

/-! ### EN -/

theorem State.pageEnable_inert (s : State) (blk i : Nat) (h : enActs blk i = false) : s.pageEnable blk i = s :=
  if_neg (by simp [h])

theorem State.endDark_regs (s : State) (n why : Nat) : (s.endDark n why).regs = s.regs := rfl
theorem State.endDark_lmem (s : State) (n why : Nat) : (s.endDark n why).lmem = s.lmem := rfl

/-- EN = 1 sets EN, and no other register: a station that may light again only drops a dark request (R417). -/
theorem State.pageEnable_acts (s : State) (blk i : Nat) (h : enActs blk i = true) :
    (s.pageEnable blk i).regs = (s.setFlag (H.PAGE_CTRL_EN blk) i true).regs ∧ (s.pageEnable blk i).lmem = s.lmem := by
  unfold State.pageEnable
  rw [if_pos h]
  dsimp only
  split
  · rw [State.endDark_regs, State.endDark_lmem]
    exact ⟨rfl, State.setFlag_lmem ..⟩
  · exact ⟨rfl, State.setFlag_lmem ..⟩

theorem State.pageDisable_inert (s : State) (blk i : Nat) (h : enActs blk i = false ∨ s.pageEn blk i = false) :
    s.pageDisable blk i = s := by
  refine if_neg fun ⟨ha, he⟩ => ?_
  rcases h with h | h
  · simp [h] at ha
  · simp [h] at he

/-! ### A motor channel released (R180, R186) -/

section
variable (s : State) (m : Nat)

theorem State.setMot_reg (x : Mot) (a : Nat) : (s.setMot m x).reg a = s.reg a := rfl
theorem State.setMot_lmem (x : Mot) : (s.setMot m x).lmem = s.lmem := rfl

theorem State.moClear_reg_ne {a : Nat} (h : a ≠ F.MOT_STAT.addr m) : (s.moClear m).reg a = s.reg a := by
  have hc : (s.setFld F.MOT_STAT_FCAUSE m 0).reg a = s.reg a := State.reg_setFld_ne _ F.MOT_STAT_FCAUSE _ _ _ h
  unfold State.moClear
  dsimp only
  split
  · exact hc
  · rw [State.dropFault_reg, hc]

theorem State.moClear_lmem : (s.moClear m).lmem = s.lmem := by
  unfold State.moClear
  dsimp only
  split
  · rw [State.setFld_lmem]
  · rw [State.dropFault_lmem, State.setFld_lmem]

theorem State.setMoState_reg_ne (v : Nat) {a : Nat} (h : a ≠ F.MOT_STAT.addr m) :
    (s.setMoState m v).reg a = s.reg a := by
  have hs : ∀ x, ((s.setFld F.MOT_STAT_STATE m v).setMot m x).reg a = s.reg a := fun x => by
    rw [State.setMot_reg, State.reg_setFld_ne _ F.MOT_STAT_STATE _ _ _ h]
  unfold State.setMoState
  dsimp only
  split
  · exact hs _
  · rw [State.reg_setFlag_ne _ F.MOT_STAT_MODLIM _ _ _ h, hs]

theorem State.setMoState_state (v : Nat) (hv : v < 16) : (s.setMoState m v).moState m = v := by
  have hs : ∀ x, ((s.setFld F.MOT_STAT_STATE m v).setMot m x).moState m = v := fun x =>
    (State.fld_setFld_same s F.MOT_STAT_STATE m v (by decide)).trans (Nat.mod_eq_of_lt hv)
  unfold State.setMoState
  dsimp only
  split
  · exact hs _
  · exact (State.fld_setFld_bits _ F.MOT_STAT_MODLIM F.MOT_STAT_STATE _ _ _ (by decide) (by decide)).trans (hs _)

theorem State.setMoState_lmem (v : Nat) : (s.setMoState m v).lmem = s.lmem := by
  unfold State.setMoState
  dsimp only
  split
  · rw [State.setMot_lmem, State.setFld_lmem]
  · rw [State.setFlag_lmem, State.setMot_lmem, State.setFld_lmem]

/-- RELEASE ends in OFF, and changes MOT_STAT alone of the registers. -/
theorem State.moRelease_spec : (s.moRelease m).moState m = moOff ∧
    (∀ a, a ≠ F.MOT_STAT.addr m → (s.moRelease m).reg a = s.reg a) ∧ (s.moRelease m).lmem = s.lmem := by
  unfold State.moRelease State.moToOff
  refine ⟨State.setMoState_state _ m moOff (by decide), fun a h => ?_, ?_⟩
  · rw [State.setMot_reg, State.setMoState_reg_ne _ _ _ h]
    split
    · exact State.moClear_reg_ne _ _ h
    · rfl
  · rw [State.setMot_lmem, State.setMoState_lmem]
    split
    · exact State.moClear_lmem _ _
    · rfl

/-- EN = 0 of a motor channel that does not run releases it and leaves CMD (R417). -/
theorem State.pageDisable_mot (hm : m < 24) (ho : s.pageOn B.MOT m = true) (he : s.pageEn B.MOT m = true)
    (hr : s.moState m ≠ moRun) :
    s.pageDisable B.MOT m = (s.setFlag (H.PAGE_CTRL_EN B.MOT) m false).moRelease m := by
  have hacts : enActs B.MOT m = true := by
    have : pageExists B.MOT m = true := decide_eq_true (by omega)
    simp [enActs, this]
  have hon : (s.setFlag (H.PAGE_CTRL_EN B.MOT) m false).pageOn B.MOT m = true := by
    rw [State.pageOn_congr (State.reg_setFlag_ne _ _ _ _ _ ?_), ho]
    simp only [Field.addr, H.PAGE_CTRL_EN, regAddr]; omega
  have hst : (s.setFlag (H.PAGE_CTRL_EN B.MOT) m false).moState m = s.moState m :=
    State.fld_congr (State.reg_setFlag_off (addr_PAGE_CTRL_EN ..) _ _ (by decide : F.MOT_STAT_STATE.off ≠ 0x008))
  unfold State.pageDisable State.pageStops
  rw [if_pos ⟨hacts, he⟩, hon]
  simp [stnBlocks, hst, hr]

end

/-! ### The commands -/

/-- BLK_RST of a page: its registers at reset, BLK_RST and BUSY set (R14). -/
theorem exec_blkRst_resets {s : State} {blk inst off : Nat} (h : s.openPage blk inst) (hw : blk ≠ B.PWR)
    (hf : blk = B.FMT → off ≠ F.FMT_STAT.off) (hr : s.ringHeld blk inst = false) (ho : off < 4096) (h8 : off ≠ 0x008)
    (hC : off ≠ 0x00C) (hk : s.rstKeeps blk inst off = false) :
    ∃ t, exec (.blkRst blk inst false) s = .next t ∧ t.reg (regAddr blk inst off) = regReset (regAddr blk inst off) ∧
      t.flag (H.PAGE_CTRL_BLK_RST blk) inst = true ∧ t.flag (H.PAGE_STATUS_BUSY blk) inst = true := by
  obtain ⟨hb, hi⟩ := pageExists_bounds h.2.1
  obtain ⟨u, hu, hreg⟩ := State.blkRst_shape s blk inst hw hr
  refine ⟨_, exec_blkRst h false, ?_, ?_⟩
  · rw [State.finish_reg, hu, State.rstMark_reg_ne _ _ _ _ h8 hC]
    refine hreg _ (fun e ha => hf e ?_) (blkOf_regAddr _ _ _ (by omega) (by omega) ho) (instOf_regAddr _ _ _ (by omega) ho)
      (by rw [offOf_regAddr _ _ _ ho]; exact hk)
    exact (regAddr_inj (by omega) ho (by omega) (by decide) ha).2.2
  · rw [State.finish_flag, State.finish_flag, hu]
    exact State.rstMark_flags u blk inst

/-- BLK_RST of an audit or event ring with reservations is discarded with BADPTR (R56). -/
theorem exec_blkRst_held {s : State} {inst : Nat} (en : Bool) (h : s.openPage B.APR inst)
    (hr : s.ringHeld B.APR inst = true) :
    ∃ t, exec (.blkRst B.APR inst en) s = .next t ∧ t.raised B.APR inst 1 = true ∧ s.regsBut t [evtAddr B.APR inst] ∧
      s.onlyRegs t := by
  refine ⟨_, exec_blkRst h en, ?_⟩
  rw [State.blkRst_held _ _ _ hr]
  rw [State.finish_raised]
  exact ⟨State.event_bit _ _ _ _ (by decide), (State.regsBut_event _ _ _ _).finish,
    (State.movesRegs_event _ _ _ _).onlyRegs⟩

/-- The end of a block reset clears BLK_RST and BUSY, and leaves EN (R14). -/
theorem exec_blockResetDone {s : State} {blk inst : Nat} (hp : pageExists blk inst = true)
    (ho : s.pageOn blk inst = true) (hb : s.flag (H.PAGE_CTRL_BLK_RST blk) inst = true) :
    ∃ t, exec (.blockResetDone blk inst) s = .next t ∧
      t.flag (H.PAGE_CTRL_BLK_RST blk) inst = false ∧ t.flag (H.PAGE_STATUS_BUSY blk) inst = false ∧
      t.flag (H.PAGE_CTRL_EN blk) inst = s.flag (H.PAGE_CTRL_EN blk) inst ∧
      s.regsBut t [regAddr blk inst 0x008, regAddr blk inst 0x00C] ∧ s.onlyRegs t := by
  refine ⟨s.finish ((s.setFlag (H.PAGE_CTRL_BLK_RST blk) inst false).setFlag (H.PAGE_STATUS_BUSY blk) inst false),
    next_finish (if_pos ⟨by simp [State.pageThere, hp, ho], hb⟩),
    ?_, ?_, ?_, ?_, ((State.movesRegs_setFlag _ _ _ _).trans (State.movesRegs_setFlag _ _ _ _)).onlyRegs⟩
  · rw [State.finish_flag, State.flag_setBusy _ _ _ _ _ (addr_PAGE_CTRL_BLK_RST ..)]
    exact State.blkRst_setBlkRst ..
  · rw [State.finish_flag]
    exact State.busy_setBusy ..
  · rw [State.finish_flag, State.flag_setBusy _ _ _ _ _ (addr_PAGE_CTRL_EN ..), State.pageEn_setBlkRst]
  · have hctrl := State.regsBut_setFlag s (H.PAGE_CTRL_BLK_RST blk) inst false
    have hstat := State.regsBut_setFlag (s.setFlag (H.PAGE_CTRL_BLK_RST blk) inst false) (H.PAGE_STATUS_BUSY blk) inst false
    rw [addr_PAGE_CTRL_BLK_RST] at hctrl
    rw [addr_PAGE_STATUS_BUSY] at hstat
    exact (hctrl.trans hstat (by simp) (by simp)).finish

/-- PAGE_LOCK sets LOCK (R15). -/
theorem exec_pageLock_locks {s : State} {blk inst : Nat} (h : s.openPage blk inst) :
    ∃ t, exec (.pageLock blk inst) s = .next t ∧
      t.flag (H.PAGE_LOCK_LOCK blk) inst = true ∧ s.regsBut t [regAddr blk inst 0x020] ∧ s.onlyRegs t := by
  have hregs := State.regsBut_setFlag s (H.PAGE_LOCK_LOCK blk) inst true
  rw [addr_PAGE_LOCK_LOCK] at hregs
  refine ⟨_, exec_pageLock h, ?_, hregs.finish, (State.movesRegs_setFlag _ _ _ _).onlyRegs⟩
  rw [State.finish_flag]
  exact State.lock_setLock ..

/-- EN = 1 sets EN on a page where EN acts (R417). -/
theorem exec_pageEnable_sets {s : State} {blk inst : Nat} (h : s.openPage blk inst) (ha : enActs blk inst = true) :
    ∃ t, exec (.pageEnable blk inst) s = .next t ∧ t.pageEn blk inst = true ∧ s.regsBut t [regAddr blk inst 0x008] ∧
      t.lmem = s.lmem := by
  obtain ⟨hregs, hlmem⟩ := State.pageEnable_acts s blk inst ha
  refine ⟨_, exec_pageEnable h, ?_, fun a hn => ?_, ?_⟩
  · rw [State.finish_pageEn]
    exact (State.flag_congr (State.reg_congr hregs _)).trans (State.pageEn_setEn ..)
  · rw [State.finish_reg, State.reg_congr hregs]
    exact State.regsBut_setFlag _ _ _ _ a (by rwa [addr_PAGE_CTRL_EN])
  · rw [State.finish_lmem, hlmem]

/-- EN = 0 releases a motor channel that does not run, and leaves CMD (R417). -/
theorem exec_pageDisable_mot {s : State} {m : Nat} (hm : m < 24) (h : s.openPage B.MOT m)
    (he : s.pageEn B.MOT m = true) (hr : s.moState m ≠ moRun) :
    ∃ t, exec (.pageDisable B.MOT m) s = .next t ∧ t.pageEn B.MOT m = false ∧ t.moState m = moOff ∧
      t.fld F.MOT_CTRL_CMD m = s.fld F.MOT_CTRL_CMD m ∧
      s.regsBut t [regAddr B.MOT m 0x008, F.MOT_STAT.addr m] ∧ t.lmem = s.lmem := by
  obtain ⟨hoff, hreg, hlmem⟩ := State.moRelease_spec (s.setFlag (H.PAGE_CTRL_EN B.MOT) m false) m
  have hstat : ∀ off, off ≠ F.MOT_STAT.off → regAddr B.MOT m off ≠ F.MOT_STAT.addr m :=
    fun off h e => h (Nat.add_left_cancel e)
  have hcmd : F.MOT_CTRL_CMD.addr m = regAddr B.MOT m 0x040 := rfl
  refine ⟨_, exec_pageDisable h, ?_⟩
  rw [State.pageDisable_mot s m hm h.2.2 he hr]
  rw [State.finish_pageEn, State.finish_moState, State.finish_fld, State.finish_lmem, hlmem, State.setFlag_lmem]
  refine ⟨?_, hoff, ?_, fun a ha => ?_, rfl⟩
  · refine (State.flag_congr (hreg _ ?_)).trans (State.pageEn_setEn ..)
    rw [addr_PAGE_CTRL_EN]; exact hstat _ (by decide)
  · refine State.fld_congr ?_
    rw [hcmd, hreg _ (hstat _ (by decide)), State.reg_setFlag_off (addr_PAGE_CTRL_EN ..) _ _ (by decide)]
  · simp only [List.mem_cons, List.not_mem_nil, or_false, not_or] at ha
    rw [State.finish_reg, hreg _ ha.2, State.reg_setFlag_ne _ _ _ _ _ (by rw [addr_PAGE_CTRL_EN]; exact ha.1)]

/-- A write of PAGE_GROUP sets the page's groups (R16). -/
theorem exec_pageGroupWrite {s : State} {blk inst : Nat} (v : Word) (h : s.openPage blk inst) (ht : s.hostTakes) :
    ∃ t, exec (.pageGroupWrite blk inst v) s = .next t ∧ t.reg (regAddr blk inst 0x024) = v &&& 0xFFFF ∧
      s.regsBut t [regAddr blk inst 0x024] ∧ s.onlyRegs t := by
  refine ⟨s.finish (s.setReg (regAddr blk inst 0x024) (v &&& 0xFFFF)),
    next_finish (hostWrite_page ht h 0x024 v (by decide) (by decide)),
    ?_, (State.regsBut_setReg _ _ _).finish, (State.movesRegs_setReg _ _ _).onlyRegs⟩
  rw [State.finish_reg, State.reg_setReg_same]

/-- Settles O49: each clause is what the command's own lemma says of a page that the write reaches. -/
theorem pageControls : Obligations.PageControls := by
  unfold Obligations.PageControls
  refine ⟨fun s blk inst off h _ _ _ hw hf hr ho h8 hC hk => exec_blkRst_resets h hw hf hr ho h8 hC hk,
    fun s inst en h hr => exec_blkRst_held en h hr,
    fun s blk inst _ _ hp ho hb => exec_blockResetDone hp ho hb,
    fun s blk inst h => exec_pageLock_locks h,
    fun s blk inst h ha => exec_pageEnable_sets h ha,
    fun s blk inst h ha => ⟨_, exec_pageEnable h, ?_⟩,
    fun s blk inst h ha => ⟨_, exec_pageDisable h, ?_⟩,
    fun s m hm h he hr => exec_pageDisable_mot hm h he hr,
    fun s blk inst v h hp ho => exec_pageGroupWrite v h ⟨hp, ho⟩⟩
  · rw [State.pageEnable_inert _ _ _ ha]; rfl
  · rw [State.pageDisable_inert _ _ _ ha]; rfl

end Sys2Proof.Machine
end

section
/-! PROOFS. Register reads: at one page, through a group address, of any size; and the latches of the 64-bit counters
(R6, R7, R9, R10). -/

namespace Sys2Proof.Machine

/-! ### What an answer leaves alone -/

section
variable (s : State) (w : Word)

theorem State.answer_answer (w' : Word) : (s.answer w).answer w' = s.answer w' := rfl
theorem State.answer_pageOn (blk i : Nat) : (s.answer w).pageOn blk i = s.pageOn blk i := rfl
theorem State.answer_members (blk inst : Nat) : (s.answer w).members blk inst = s.members blk inst := rfl

end

theorem regAddr_add (blk inst off n : Nat) : regAddr blk inst off + n = regAddr blk inst (off + n) := by
  unfold regAddr; omega

/-! ### Sizes of a read (R6) -/

/-- A reply holds what was read and nothing of the state it is made in. -/
theorem State.sizedReply_eq (s t : State) (sz : Size) (lo hi : Word) : t.sizedReply sz lo hi = s.sizedReply sz lo hi := by
  cases sz with
  | part be =>
    unfold State.sizedReply State.narrow
    by_cases hb : be = 15
    · simp only [hb, if_true]; rfl
    · simp only [hb, if_false]; rfl
  | word => rfl
  | double => rfl

/-- A read of any size where the register at `a` answers `lo`, once the state `u` it leaves is reached, and the one above it
then answers `hi`. -/
theorem State.sized_answers {s u : State} {rd : State → Nat → State} {a : Nat} {lo hi : Word} (sz : Size)
    (hlo : rd s a = u.answer lo) (hhi : sz = .double → rd (u.answer lo) (a + 4) = u.answer hi) :
    s.sized sz a rd = { u with reply := u.sizedReply sz lo hi } := by
  cases sz with
  | part be =>
    unfold State.sized State.sizedReply
    rw [hlo]
    unfold State.narrow
    by_cases hb : be = 15
    · simp only [hb, if_true]; rfl
    · simp only [hb, if_false]; rfl
  | word => unfold State.sized State.sizedReply; rw [hlo]; rfl
  | double => unfold State.sized State.sizedReply; simp only [hlo, hhi rfl]; rfl

/-! ### Where a read goes (R9, R10) -/

/-- A read at a register of a page that exists and is on is that page's. -/
theorem State.readAddr_page (s : State) (path : Path) (blk inst off : Nat) (hp : pageExists blk inst = true)
    (ho : s.pageOn blk inst = true) (hoff : off < 4096) (h4 : off % 4 = 0) :
    s.readAddr path (regAddr blk inst off) = s.readPage path blk inst off := by
  obtain ⟨hb, hi⟩ := pageExists_bounds hp
  unfold State.readAddr
  simp only [word_regAddr blk inst off (by omega) (by omega) hoff h4, blkOf_regAddr blk inst off (by omega) (by omega) hoff,
    instOf_regAddr blk inst off (by omega) hoff, offOf_regAddr blk inst off hoff, isPrism_instance inst hi, hp, ho,
    show blk ≠ 0x7F by omega, if_true, if_false, Bool.false_eq_true]

/-- A read through a group address is that of the lowest member (R10). -/
theorem State.readAddr_group (s : State) (path : Path) (blk inst off i : Nat) (rest : List Nat) (hb : blk < 0x7F)
    (hi : inst < 256) (hg : isPrism inst = true) (hm : s.members blk inst = i :: rest) (ho : s.pageOn blk i = true)
    (hoff : off < 4096) (h4 : off % 4 = 0) :
    s.readAddr path (regAddr blk inst off) = s.readPage path blk i off := by
  unfold State.readAddr
  simp only [word_regAddr blk inst off (by omega) hi hoff h4, blkOf_regAddr blk inst off (by omega) hi hoff,
    instOf_regAddr blk inst off hi hoff, offOf_regAddr blk inst off hoff, hg, hm, ho,
    show blk ≠ 0x7F by omega, if_true, if_false]

/-- A group without a member reads 0 (R10). -/
theorem State.readAddr_empty (s : State) (path : Path) (blk inst off : Nat) (hb : blk < 0x7F)
    (hi : inst < 256) (hg : isPrism inst = true) (hm : s.members blk inst = []) (hoff : off < 4096) :
    s.readAddr path (regAddr blk inst off) = s.answer 0 := by
  unfold State.readAddr
  simp only [Nat.mod_eq_of_lt (regAddr_lt blk inst off (by omega) hi hoff), blkOf_word, instOf_word,
    blkOf_regAddr blk inst off (by omega) hi hoff, instOf_regAddr blk inst off hi hoff, hg, hm,
    show blk ≠ 0x7F by omega, if_true, if_false]

/-! ### Counters (R7) -/

/-- The word above a counter's low word is no low word of another. -/
theorem not_isCounter_high {blk inst off : Nat} (h : isCounter blk inst off = true) :
    isCounter blk inst (off + 4) = false := by
  have apart : ∀ r ∈ counterRows, ∀ r' ∈ counterRows, r.1 = r'.1 → r.2.2.2 + 4 ≠ r'.2.2.2 := by decide
  unfold isCounter at h ⊢
  obtain ⟨r, hr, hrow⟩ := List.any_eq_true.mp h
  refine List.any_eq_false.mpr fun r' hr' hrow' => ?_
  simp only [Bool.and_eq_true, beq_iff_eq] at hrow hrow'
  obtain ⟨⟨⟨hblk, _⟩, _⟩, hlow⟩ := hrow
  obtain ⟨⟨⟨hblk', _⟩, _⟩, hlow'⟩ := hrow'
  exact apart r hr r' hr' (hblk.trans hblk'.symm) (by rw [hlow, hlow'])

theorem State.readPage_low (s : State) (path : Path) (blk i off : Nat) (h : isCounter blk i off = true) :
    s.readPage path blk i off = s.readLow path blk i off := if_pos h

theorem State.readPage_high (s : State) (path : Path) (blk i off : Nat) (h : isCounter blk i off = true) :
    s.readPage path blk i (off + 4) = s.readHigh path blk i (off + 4) := by
  unfold State.readPage
  rw [if_neg (by simp [not_isCounter_high h]), if_pos ⟨by omega, by simpa using h⟩]

/-- The latch of a counter for a path. -/
def latchKey (path : Path) (blk inst off : Nat) : Nat := pathNum path * 2 ^ 27 + regAddr blk inst off

/-- The state with a counter's high word latched for a path. -/
def State.latched (s : State) (path : Path) (blk inst off : Nat) : State :=
  { s with latches := s.latches.set (fun _ => 0) (latchKey path blk inst off) (s.showPage blk inst (off + 4)) }

section
variable {s : State} {path : Path} {blk inst off : Nat} (hc : isCounter blk inst off = true)
  (hp : pageExists blk inst = true) (ho : s.pageOn blk inst = true) (hoff : off < 4092) (h4 : off % 4 = 0)
include hc hp ho hoff h4

/-- A read of a counter's low word returns it and latches the high word; at 64 bits the high word comes from the latch. -/
theorem State.sized_counterLow (sz : Size) :
    s.sized sz (regAddr blk inst off) (fun s a => s.readAddr path a) =
      { s.latched path blk inst off with
        reply := (s.latched path blk inst off).sizedReply sz (s.showPage blk inst off)
          (s.showPage blk inst (off + 4)) } := by
  refine State.sized_answers sz ?_ fun _ => ?_
  · rw [State.readAddr_page _ _ _ _ _ hp ho (by omega) h4, State.readPage_low _ _ _ _ _ hc]; rfl
  · have ho' : ((s.latched path blk inst off).answer (s.showPage blk inst off)).pageOn blk inst = true := ho
    rw [regAddr_add, State.readAddr_page _ _ _ _ _ hp ho' (by omega) (by omega), State.readPage_high _ _ _ _ _ hc]
    have hl : (s.latched path blk inst off).latches.get (fun _ => 0) (latchKey path blk inst off) =
        s.showPage blk inst (off + 4) := Sparse.get_set_same _ _ _ _
    unfold State.readHigh
    rw [Nat.add_sub_cancel, State.answer_answer]
    exact congrArg (State.answer (s.latched path blk inst off)) hl

/-- A read of a counter's high word by itself returns the latch. -/
theorem State.sized_counterHigh (sz : Size) (hz : sz ≠ .double) :
    s.sized sz (regAddr blk inst (off + 4)) (fun s a => s.readAddr path a) =
      { s with reply := s.sizedReply sz (s.latches.get (fun _ => 0) (latchKey path blk inst off)) 0 } := by
  refine State.sized_answers sz ?_ fun h => absurd h hz
  rw [State.readAddr_page _ _ _ _ _ hp ho (by omega) (by omega), State.readPage_high _ _ _ _ _ hc]
  unfold State.readHigh
  rw [Nat.add_sub_cancel]; rfl

theorem exec_counterLowRead_latches (sz : Size) (hpath : s.pathOpen path = true) :
    exec (.counterLowRead path (regAddr blk inst off) sz) s = .next (s.finish { s.latched path blk inst off with
      reply := (s.latched path blk inst off).sizedReply sz (s.showPage blk inst off)
        (s.showPage blk inst (off + 4)) }) := by
  obtain ⟨hb, hi⟩ := pageExists_bounds hp
  refine next_finish ?_
  unfold counterLowRead
  simp only [bar0Size, Nat.mod_eq_of_lt (regAddr_lt blk inst off (by omega) (by omega) (by omega)),
    blkOf_regAddr blk inst off (by omega) (by omega) (by omega), instOf_regAddr blk inst off (by omega) (by omega),
    offOf_regAddr blk inst off (by omega)]
  rw [if_pos ⟨hpath, hc⟩]
  exact State.sized_counterLow hc hp ho hoff h4 sz

theorem exec_counterHighRead_latch (sz : Size) (hpath : s.pathOpen path = true) (hz : sz ≠ .double) :
    exec (.counterHighRead path (regAddr blk inst (off + 4)) sz) s = .next (s.finish { s with
      reply := s.sizedReply sz (s.latches.get (fun _ => 0) (latchKey path blk inst off)) 0 }) := by
  obtain ⟨hb, hi⟩ := pageExists_bounds hp
  refine next_finish ?_
  unfold counterHighRead
  simp only [bar0Size, Nat.mod_eq_of_lt (regAddr_lt blk inst (off + 4) (by omega) (by omega) (by omega)),
    blkOf_regAddr blk inst (off + 4) (by omega) (by omega) (by omega),
    instOf_regAddr blk inst (off + 4) (by omega) (by omega), offOf_regAddr blk inst (off + 4) (by omega)]
  rw [if_pos ⟨hpath, by omega, by simpa using hc⟩]
  exact State.sized_counterHigh hc hp ho hoff h4 sz hz

end

/-- Settles O51: the low word's read sets one latch, that of its counter and its path, and the high word's read reads it. -/
theorem counterLatches : Obligations.CounterLatches := by
  unfold Obligations.CounterLatches
  refine ⟨fun s path blk inst off sz _ _ hoff h4 hc hp ho hpath => ?_,
    fun s path blk inst off sz _ _ hoff h4 hc hp ho hpath hz => ?_, fun k => rfl⟩
  · exact ⟨_, exec_counterLowRead_latches hc hp ho hoff h4 sz hpath, State.sizedReply_eq _ _ _ _ _,
      Sparse.get_set_same _ _ _ _, fun k hk => Sparse.get_set_ne _ _ _ _ _ hk, rfl, rfl⟩
  · exact ⟨_, exec_counterHighRead_latch hc hp ho hoff h4 sz hpath hz, rfl, rfl, rfl, rfl⟩

end Sys2Proof.Machine
end

section
/-! PROOFS. What host accesses do: poisoned and discarded writes, and the thresholds of a temperature page (R6, R15, R24,
R360, R361). -/

namespace Sys2Proof.Machine

/-! ### A poisoned write (R360) -/

/-- A poisoned write is reported through AER and as F_309, and changes nothing else. -/
def State.poisonReported (s t : State) : Prop :=
  309 ∈ t.flt.pair ∧ t.emitted = s.emitted ++ [.aer 0] ∧ t.regs = s.regs ∧ t.lmem = s.lmem

theorem State.poisonReported_report (s : State) : s.poisonReported (s.finish ((s.emit (.aer 0)).raiseFault 309)) := by
  refine ⟨?_, ?_, ?_, ?_⟩
  · rw [State.finish_flt]; exact State.raiseFault_mem _ _
  · rw [State.finish_emitted, State.raiseFault_emitted]; rfl
  · rw [State.finish_regs, State.raiseFault_regs, State.emit_regs]
  · rw [State.finish_lmem, State.raiseFault_lmem, State.emit_lmem]

/-- A poisoned access is discarded whole: its upper half adds nothing. -/
theorem upperHalf_poisoned (hi : Option (BitVec 4 × Word)) (wr : BitVec 4 → Word → State → State) (s : State) :
    upperHalf true hi wr s = s := by
  cases hi <;> rfl

theorem exec_hostRegWrite_poisoned {s : State} (h : s.hostTakes) (a : Nat) (be : BitVec 4) (v : Word)
    (hi : Option (BitVec 4 × Word)) :
    ∃ t, exec (.hostRegWrite a be true v hi) s = .next t ∧ s.poisonReported t := by
  refine ⟨s.finish ((s.emit (.aer 0)).raiseFault 309), next_finish ?_,
    State.poisonReported_report s⟩
  rw [upperHalf_poisoned, hostWrite_poisoned h]

/-! ### A discarded write (R24, R361) -/

/-- A host write is recorded as an access error with its cause, and has no other effect. -/
def State.discardedAs (s t : State) (cause : Nat) : Prop :=
  t.fld F.HST_ACC_INFO_CAUSE 0 = cause ∧ t.raised B.HST 0 3 = true ∧ 310 ∈ t.flt.pair ∧
    s.regsBut t accErrRegs ∧ s.onlyRegsAndFaults t

theorem State.accErr_discardedAs (s : State) (cause via : Nat) (write : Bool) (node addr : Nat) (hc : cause < 16)
    (hv : via < 4) : s.discardedAs (s.finish (s.accErr cause via write node addr)) cause := by
  refine ⟨?_, ?_, ?_, (State.accErr_regsBut _ _ _ _ _ _).finish, (State.accErr_movesRegs _ _ _ _ _ _).onlyRegsAndFaults⟩
  · rw [State.finish_fld, State.accErr_cause _ _ _ _ _ _ hc hv]
  · rw [State.finish_raised, State.accErr_raised]
  · rw [State.finish_flt]; exact State.accErr_pair _ _ _ _ _ _

/-- A write of part of a register, one in LOCKDOWN and one of an absent page, judged in this order (assumption 61). -/
theorem hostWrite_discarded {s : State} (h : s.hostTakes) {a : Nat} (be : BitVec 4) (v : Word) (ha : a < 2 ^ 27)
    (hbad : be ≠ 15 ∨ s.sys.mode = .lockdown ∨
      (blkOf a ≠ 0x7F ∧ pageExists (blkOf a) (instOf a) = false ∧ instOf a < 0xE0)) :
    hostWrite a be false v s = s.accErr (if be ≠ 15 then 1 else if s.sys.mode = .lockdown then 8 else 2) 0 true 0 a := by
  have hmod : a % bar0Size = a := Nat.mod_eq_of_lt ha
  by_cases hb : be = 15
  · subst hb
    by_cases hm : s.sys.mode = .lockdown
    · rw [hostWrite_lockdown h _ _ hm, hmod, if_neg (by simp), if_pos hm]
    · obtain ⟨hblk, hp, hi⟩ : blkOf a ≠ 0x7F ∧ pageExists (blkOf a) (instOf a) = false ∧ instOf a < 0xE0 := by
        simpa [hm] using hbad
      rw [hostWrite_applied h _ _ ha hm (.inr (State.ringSelected_instance _ _ hi)),
        State.writeAddr_absent _ _ _ _ _ ha hblk hi hp, if_neg (by simp), if_neg hm]
  · rw [hostWrite_partial h _ _ _ hb, hmod, if_pos hb]

theorem exec_hostRegWrite_discarded {s : State} (h : s.hostTakes) {a : Nat} (be : BitVec 4) (v : Word) (ha : a < 2 ^ 27)
    (hbad : be ≠ 15 ∨ s.sys.mode = .lockdown ∨
      (blkOf a ≠ 0x7F ∧ pageExists (blkOf a) (instOf a) = false ∧ instOf a < 0xE0)) :
    ∃ t, exec (.hostRegWrite a be false v none) s = .next t ∧
      s.discardedAs t (if be ≠ 15 then 1 else if s.sys.mode = .lockdown then 8 else 2) := by
  refine ⟨_, next_finish (hostWrite_discarded h be v ha hbad),
    State.accErr_discardedAs _ _ _ _ _ _ ?_ (by decide)⟩
  split_ifs <;> decide

/-! ### The thresholds of a temperature page (R6, R15) -/

/-- A register of a temperature page that a write sets whole and that PAGE_LOCK guards (R264). -/
def tmpThreshold (off : Nat) : Prop := off = F.TMP_TH_A.off ∨ off = F.TMP_TH_B.off

/-- Every bit of a threshold register is RWL. -/
theorem rowAt_tmpThreshold {n off : Nat} (hn : n < 24) (ho : tmpThreshold off) :
    ∃ r, rowAt B.TMP n off = some (r, 0) ∧ r.rw = 0xFFFFFFFF ∧ r.lock = true := by
  have keyA : ∀ n < 24, rowAt B.TMP n F.TMP_TH_A.off =
      some (⟨0, 0x17, 0x048, 1, 4, [0x7800640], 0xFFFFFFFF, 0, 0, true⟩, 0) := by decide
  have keyB : ∀ n < 24, rowAt B.TMP n F.TMP_TH_B.off =
      some (⟨0, 0x17, 0x04C, 1, 4, [0x3008c0], 0xFFFFFFFF, 0, 0, true⟩, 0) := by decide
  rcases ho with rfl | rfl
  · exact ⟨_, keyA n hn, rfl, rfl⟩
  · exact ⟨_, keyB n hn, rfl, rfl⟩

/-- A write under R11 of a register whose every bit is RW sets it whole. -/
theorem State.plain_whole (s : State) (a : Nat) (r : RegRow) (v : Word) (hrw : r.rw = 0xFFFFFFFF) :
    s.plain a r v = s.setReg a v := by
  unfold State.plain
  rw [hrw, show BitVec.ofNat 32 0xFFFFFFFF = BitVec.allOnes 32 from rfl]
  simp only [BitVec.not_allOnes, BitVec.and_zero, BitVec.zero_or, BitVec.and_allOnes]

/-- A write of a threshold sets it unless the page is locked (R15). -/
theorem State.writePage_tmpThreshold (s : State) {n off : Nat} (hn : n < 24) (ho : tmpThreshold off) (v : Word) :
    s.writePage false B.TMP n off v =
      if s.flag (H.PAGE_LOCK_LOCK B.TMP) n = true then s else s.setReg (regAddr B.TMP n off) v := by
  obtain ⟨r, hrow, hrw, hlock⟩ := rowAt_tmpThreshold hn ho
  have hwrite : s.writePage false B.TMP n off v = s.writeRow false B.TMP n r 0 (regAddr B.TMP n off) v := by
    rcases ho with rfl | rfl
    · unfold State.writePage; rw [hrow]; rfl
    · unfold State.writePage; rw [hrow]; rfl
  have hctl : ∀ p : Prop, ¬ (B.TMP = B.CTL ∧ p) := fun _ h => absurd h.1 (by decide)
  rw [hwrite]
  unfold State.writeRow
  rw [if_neg (hctl _), if_neg (hctl _), hlock]
  simp only [true_and]
  split
  · rfl
  · exact State.plain_whole _ _ _ _ hrw

/-- The registers that a write of a threshold looks at before it is taken. -/
def tmpGateRegs (n : Nat) : List Nat := (H.PAGE_LOCK_LOCK B.TMP).addr n :: hostGateRegs

/-- What half of a write does to a threshold register: it sets it, or it is discarded for its byte enables or the lock. -/
structure State.thresholdWritten (s t : State) (n off : Nat) (be : BitVec 4) (v : Word) : Prop where
  value : t.reg (regAddr B.TMP n off) =
    if be ≠ 15 ∨ s.flag (H.PAGE_LOCK_LOCK B.TMP) n = true then s.reg (regAddr B.TMP n off) else v
  others : s.regsBut t (regAddr B.TMP n off :: accErrRegs)
  fault : be ≠ 15 → 310 ∈ t.flt.pair
  keeps : ∀ k ∈ s.flt.pair, k ∈ t.flt.pair
  sys : t.sys = s.sys
  lmem : t.lmem = s.lmem

theorem tmpReg_not_accErr {n off : Nat} (hn : n < 24) (ho : off < 4096) : regAddr B.TMP n off ∉ accErrRegs := by
  intro hmem
  have hblk := accErrRegs_blk _ hmem
  rw [blkOf_regAddr _ _ _ (by decide) (by omega) ho] at hblk
  exact absurd hblk (by decide)

theorem tmpReg_apart {n off off' : Nat} (hn : n < 24) (ho : off < 4096) (ho' : off' < 4096) (h : off ≠ off') :
    regAddr B.TMP n off ∉ regAddr B.TMP n off' :: accErrRegs := by
  intro hmem
  rcases List.mem_cons.mp hmem with e | hmem
  · exact h (regAddr_inj (by omega) ho (by omega) ho' e).2.2
  · exact tmpReg_not_accErr hn ho hmem

theorem hostWrite_tmpThreshold {s : State} (h : s.hostTakes) {n off : Nat} (hn : n < 24) (hp : s.openPage B.TMP n)
    (ho : tmpThreshold off) (be : BitVec 4) (v : Word) :
    s.thresholdWritten (hostWrite (regAddr B.TMP n off) be false v s) n off be v := by
  have hoff : off < 4096 ∧ off % 4 = 0 := by rcases ho with rfl | rfl <;> decide
  by_cases hb : be = 15
  · subst hb
    rw [hostWrite_page h hp off v hoff.1 hoff.2, State.writePage_tmpThreshold s hn ho v]
    by_cases hl : s.flag (H.PAGE_LOCK_LOCK B.TMP) n = true
    · rw [if_pos hl]
      exact ⟨by rw [if_pos (.inr hl)], fun _ _ => rfl, fun h => absurd rfl h, fun _ hk => hk, rfl, rfl⟩
    · rw [if_neg hl]
      exact ⟨by rw [State.reg_setReg_same, if_neg (by simp [hl])],
        fun a ha => State.reg_setReg_ne _ _ _ _ fun e => ha (by simp [e]), fun h => absurd rfl h, fun _ hk => hk, rfl, rfl⟩
  · rw [hostWrite_partial h _ _ _ hb]
    have hm := State.accErr_movesRegs s 1 0 true 0 (regAddr B.TMP n off % bar0Size)
    have hr := State.accErr_regsBut s 1 0 true 0 (regAddr B.TMP n off % bar0Size)
    have hne : regAddr B.TMP n off ∉ accErrRegs := tmpReg_not_accErr hn hoff.1
    exact ⟨by rw [if_pos (.inl hb), hr _ hne], fun a ha => hr a fun hmem => ha (List.mem_cons_of_mem _ hmem),
      fun _ => State.accErr_pair _ _ _ _ _ _, fun _ hk => State.mem_pair_accErr _ _ _ _ _ _ hk, hm.sys, hm.lmem⟩

/-- The registers that let a write in are none that a write of a threshold touches. -/
theorem tmpGateRegs_apart {n off : Nat} (hn : n < 24) (ho : tmpThreshold off) :
    ∀ a ∈ tmpGateRegs n, a ∉ regAddr B.TMP n off :: accErrRegs := by
  have hoff : off < 4096 ∧ 0x020 ≠ off := by rcases ho with rfl | rfl <;> decide
  have hblk : blkOf (regAddr B.TMP n off) = B.TMP := blkOf_regAddr _ _ _ (by decide) (by omega) hoff.1
  have hgate : ∀ a ∈ hostGateRegs, blkOf a ≠ B.TMP ∧ a ∉ accErrRegs := by decide
  intro a ha hmem
  rcases List.mem_cons.mp ha with rfl | ha
  · rw [addr_PAGE_LOCK_LOCK] at hmem
    exact tmpReg_apart hn (by decide) hoff.1 hoff.2 hmem
  · obtain ⟨hb, hacc⟩ := hgate a ha
    rcases List.mem_cons.mp hmem with rfl | hmem
    · exact hb hblk
    · exact hacc hmem

/-- Half of a write leaves the page as open as it was for the other half. -/
theorem State.thresholdWritten.gate {s t : State} {n off : Nat} {be : BitVec 4} {v : Word}
    (hw : s.thresholdWritten t n off be v) (hn : n < 24) (ho : tmpThreshold off) (h : s.hostTakes)
    (hp : s.openPage B.TMP n) :
    t.hostTakes ∧ t.openPage B.TMP n ∧ t.flag (H.PAGE_LOCK_LOCK B.TMP) n = s.flag (H.PAGE_LOCK_LOCK B.TMP) n := by
  have hg : ∀ a ∈ tmpGateRegs n, t.reg a = s.reg a := fun a ha => hw.others a (tmpGateRegs_apart hn ho a ha)
  have hg' : ∀ a ∈ hostGateRegs, t.reg a = s.reg a := fun a ha => hg a (List.mem_cons_of_mem _ ha)
  obtain ⟨hm, he, hon⟩ := hp
  refine ⟨(State.hostTakes_congr hg').mpr h, ⟨hw.sys ▸ hm, he, ?_⟩,
    State.flag_congr (hg _ (List.mem_cons_self ..))⟩
  rw [State.pageOn_congr (hg' _ (by simp [hostGateRegs])), hon]

/-- A host write of a temperature page's thresholds sets each one that it covers whole, unless the page is locked. -/
theorem exec_hostRegWrite_thresholds {s : State} (h : s.hostTakes) {n : Nat} (hn : n < 24) (hp : s.openPage B.TMP n)
    (be : BitVec 4) (v : Word) (hi : Option (BitVec 4 × Word)) :
    ∃ t, exec (.hostRegWrite (F.TMP_TH_A.addr n) be false v hi) s = .next t ∧
      t.reg (F.TMP_TH_A.addr n) = (if be ≠ 15 ∨ s.flag (H.PAGE_LOCK_LOCK B.TMP) n = true then
        s.reg (F.TMP_TH_A.addr n) else v) ∧
      t.reg (F.TMP_TH_B.addr n) = (if (hi.map (·.1)).getD 0 ≠ 15 ∨ s.flag (H.PAGE_LOCK_LOCK B.TMP) n = true then
        s.reg (F.TMP_TH_B.addr n) else (hi.map (·.2)).getD 0) ∧
      (be ≠ 15 → 310 ∈ t.flt.pair) ∧
      s.regsBut t (F.TMP_TH_A.addr n :: F.TMP_TH_B.addr n :: accErrRegs) ∧ t.lmem = s.lmem := by
  have hA : F.TMP_TH_A.addr n = regAddr B.TMP n F.TMP_TH_A.off := rfl
  have hB : F.TMP_TH_B.addr n = regAddr B.TMP n F.TMP_TH_B.off := rfl
  have hBA := tmpReg_apart (off := F.TMP_TH_B.off) (off' := F.TMP_TH_A.off) hn (by decide) (by decide) (by decide)
  have hAB := tmpReg_apart (off := F.TMP_TH_A.off) (off' := F.TMP_TH_B.off) hn (by decide) (by decide) (by decide)
  have hlo := hostWrite_tmpThreshold h hn hp (.inl rfl : tmpThreshold F.TMP_TH_A.off) be v
  rw [hA, hB]
  cases hi with
  | none =>
    refine ⟨s.finish (hostWrite (regAddr B.TMP n F.TMP_TH_A.off) be false v s), rfl, ?_⟩
    rw [State.finish_reg, State.finish_reg, State.finish_flt, State.finish_lmem]
    refine ⟨hlo.value, ?_, hlo.fault, State.regsBut.finish fun a ha => hlo.others a ?_, hlo.lmem⟩
    · rw [hlo.others _ hBA]; exact (if_pos (.inl (by decide))).symm
    · simp only [List.mem_cons, not_or] at ha ⊢; exact ⟨ha.1, ha.2.2⟩
  | some x =>
    obtain ⟨be', v'⟩ := x
    obtain ⟨ht, hp', hlock⟩ := hlo.gate hn (.inl rfl) h hp
    have hup := hostWrite_tmpThreshold ht hn hp' (.inr rfl : tmpThreshold F.TMP_TH_B.off) be' v'
    refine ⟨s.finish (hostWrite (regAddr B.TMP n F.TMP_TH_B.off) be' false v'
      (hostWrite (regAddr B.TMP n F.TMP_TH_A.off) be false v s)), ?_, ?_⟩
    · rw [← regAddr_add B.TMP n F.TMP_TH_A.off 4]; rfl
    · rw [State.finish_reg, State.finish_reg, State.finish_flt, State.finish_lmem]
      refine ⟨by rw [hup.others _ hAB, hlo.value], ?_, fun hb => hup.keeps _ (hlo.fault hb), State.regsBut.finish ?_,
        hup.lmem.trans hlo.lmem⟩
      · rw [hup.value, hlock, hlo.others _ hBA]; rfl
      · exact State.regsBut.trans hlo.others hup.others (by simp; tauto) (by simp; tauto)

end Sys2Proof.Machine
end

section
/-! PROOFS. Group accesses, EVT_FORCE, BAR 4 and the timeout of a remote read; and the host's accesses together (R9, R10,
R14, R358, R364, R374). -/

namespace Sys2Proof.Machine

/-! ### A write through a group address (R10, R364) -/

/-- EVT_EN of the pages listed, written one after the other. -/
def State.writeEvtEns (s : State) (blk : Nat) (v : Word) (is : List Nat) : State :=
  is.foldl (fun s i => s.setReg (regAddr blk i 0x014) (evtBits blk i v)) s

theorem State.writeEvtEns_movesRegs (s : State) (blk : Nat) (v : Word) (is : List Nat) :
    s.movesRegs (s.writeEvtEns blk v is) := by
  induction is generalizing s with
  | nil => exact State.movesRegs_refl s
  | cons i is ih => exact (State.movesRegs_setReg _ _ _).trans (ih _)

theorem State.writeEvtEns_regsBut (s : State) (blk : Nat) (v : Word) (is : List Nat) :
    s.regsBut (s.writeEvtEns blk v is) (is.map fun i => regAddr blk i 0x014) := by
  induction is generalizing s with
  | nil => exact fun _ _ => rfl
  | cons i is ih => exact (State.regsBut_setReg _ _ _).trans (ih _) (by simp) (by simp +contextual)

/-- Every page listed holds what was written, whichever is written last. -/
theorem State.writeEvtEns_reg (s : State) (blk : Nat) (v : Word) (is : List Nat) (hlt : ∀ i ∈ is, i < 256) {i : Nat}
    (hi : i ∈ is) : (s.writeEvtEns blk v is).reg (regAddr blk i 0x014) = evtBits blk i v := by
  induction is generalizing s with
  | nil => cases hi
  | cons j is ih =>
    by_cases hmem : i ∈ is
    · exact ih _ (fun k hk => hlt k (by simp [hk])) hmem
    · obtain rfl : i = j := by simpa [hmem] using hi
      refine (State.writeEvtEns_regsBut _ blk v is _ fun h => hmem ?_).trans (State.reg_setReg_same _ _ _)
      obtain ⟨k, hk, e⟩ := List.mem_map.mp h
      obtain ⟨_, rfl, _⟩ := regAddr_inj (hlt k (by simp [hk])) (by decide) (hlt i (by simp)) (by decide) e
      exact hk

theorem State.members_lt (s : State) (blk inst : Nat) : ∀ i ∈ s.members blk inst, i < 256 := by
  have hinst : ∀ i ∈ instancesOf blk, i < 256 := fun i hi => by
    have := List.mem_range.mp (List.mem_filter.mp hi).1; omega
  unfold State.members
  split
  · exact hinst
  · exact fun i hi => hinst i (List.mem_filter.mp hi).1

/-- A write of EVT_EN at each page listed, all of them on. -/
theorem State.forAll_evtEn (s : State) (blk : Nat) (v : Word) (bad : State → Nat → State) (is : List Nat)
    (hlt : ∀ i ∈ is, i < 256) (hon : ∀ i ∈ is, s.pageOn blk i = true) :
    (forAll is s fun s i => if s.pageOn blk i then s.writePage false blk i 0x014 v else bad s 3) =
      s.writeEvtEns blk v is := by
  induction is generalizing s with
  | nil => rfl
  | cons i is ih =>
    have hkeep : ∀ j, (s.setReg (regAddr blk i 0x014) (evtBits blk i v)).pageOn blk j = s.pageOn blk j := fun j =>
      State.pageOn_congr (State.reg_setReg_ne _ _ _ _ fun e => by
        have := (regAddr_inj (by decide) (by decide) (hlt i (by simp)) (by decide) e).2.2
        exact absurd this (by decide)) _ _
    have hstep : (if s.pageOn blk i then s.writePage false blk i 0x014 v else bad s 3) =
        s.setReg (regAddr blk i 0x014) (evtBits blk i v) := by
      rw [if_pos (hon i (by simp))]; rfl
    have htail := ih (s.setReg (regAddr blk i 0x014) (evtBits blk i v)) (fun j hj => hlt j (by simp [hj]))
      (fun j hj => by rw [hkeep]; exact hon j (by simp [hj]))
    unfold forAll at htail ⊢
    rw [List.foldl_cons, hstep]
    exact htail

theorem blockExists_ne_msix {blk : Nat} (h : blockExists blk = true) : blk ≠ 0x7F := by
  rintro rfl
  revert h; decide

theorem exec_prismWrite_evtEn {s : State} (h : s.hostTakes) {blk inst : Nat} (v : Word) (hb : blk < 128)
    (hg : isPrism inst = true) (hi : inst < 256) (hx : blockExists blk = true) (hm : s.sys.mode ≠ .lockdown)
    (hr : s.ringSelected inst = false) (hon : (s.members blk inst).all (fun i => s.pageOn blk i) = true) :
    ∃ t, exec (.prismWrite blk inst 0x014 v) s = .next t ∧
      (∀ i, i ∈ s.members blk inst → t.reg (regAddr blk i 0x014) = evtBits blk i v) ∧
      s.regsBut t ((s.members blk inst).map fun i => regAddr blk i 0x014) ∧ s.onlyRegs t := by
  have hlt := s.members_lt blk inst
  have hwrite : hostWrite (regAddr blk inst 0x014) 15 false v s = s.writeEvtEns blk v (s.members blk inst) := by
    rw [hostWrite_applied h _ _ (regAddr_lt _ _ _ hb hi (by decide)) hm
      (.inr (by rw [instOf_regAddr _ _ _ hi (by decide)]; exact hr))]
    unfold State.writeAddr
    simp only [word_regAddr blk inst 0x014 hb hi (by decide) (by decide), blkOf_regAddr blk inst 0x014 hb hi (by decide),
      instOf_regAddr blk inst 0x014 hi (by decide), offOf_regAddr blk inst 0x014 (by decide), hg, hx,
      blockExists_ne_msix hx, if_true, if_false, Bool.not_true, Bool.false_eq_true]
    exact State.forAll_evtEn s blk v (fun s c => s.accErr c 0 true 0 (regAddr blk inst 0x014)) _ hlt
      (List.all_eq_true.mp hon)
  refine ⟨s.finish (s.writeEvtEns blk v (s.members blk inst)), next_finish ?_,
    fun i hmem => ?_, (State.writeEvtEns_regsBut _ _ _ _).finish, (State.writeEvtEns_movesRegs _ _ _ _).onlyRegs⟩
  · rw [if_pos hg, hwrite]
  · rw [State.finish_reg, State.writeEvtEns_reg _ _ _ _ hlt hmem]

/-- EVT_FORCE sets the events written as 1 (R14). -/
theorem exec_evtForceWrite {s : State} (h : s.hostTakes) {blk inst : Nat} (v : Word) (hp : s.openPage blk inst) :
    ∃ t, exec (.evtForceWrite blk inst v) s = .next t ∧
      t.reg (evtAddr blk inst) = s.reg (evtAddr blk inst) ||| evtBits blk inst v ∧ s.regsBut t [evtAddr blk inst] ∧
      s.onlyRegs t := by
  refine ⟨s.finish (s.forceEvents blk inst v),
    next_finish (hostWrite_page h hp 0x018 v (by decide) (by decide)), ?_, ?_, ?_⟩
  · rw [State.finish_reg]; exact State.reg_setReg_same _ _ _
  · exact (State.regsBut_setReg _ _ _).finish
  · exact (State.movesRegs_setReg _ _ _).onlyRegs

/-! ### Reads through a group address (R10) -/

theorem not_isCounter_tmp (i off : Nat) : isCounter B.TMP i off = false := by
  have apart : ∀ r ∈ counterRows, r.1 ≠ B.TMP := by decide
  refine List.any_eq_false.mpr fun r hr hrow => ?_
  simp only [Bool.and_eq_true, beq_iff_eq] at hrow
  exact apart r hr hrow.1.1.1

/-- A read of a temperature page has no effect but its answer. -/
theorem State.readPage_tmp (s : State) (path : Path) (i off : Nat) :
    s.readPage path B.TMP i off = s.answer (s.showPage B.TMP i off) := by
  unfold State.readPage
  simp [not_isCounter_tmp]

theorem State.answer_showPage_tmp (s : State) (w : Word) (i off : Nat) :
    (s.answer w).showPage B.TMP i off = s.showPage B.TMP i off := by
  rfl

/-- A read of any size through a group address of the temperature pages shows the lowest member (R6, R10). -/
theorem exec_prismRead_tmp {s : State} {path : Path} {inst off i : Nat} {rest : List Nat} (sz : Size)
    (hg : isPrism inst = true) (hi : inst < 256) (hpath : s.pathOpen path = true)
    (hm : s.members B.TMP inst = i :: rest) (hon : s.pageOn B.TMP i = true) (ho : off < 4096) (h4 : off % 4 = 0)
    (h8 : sz = .double → off % 8 = 0) :
    ∃ t, exec (.prismRead path B.TMP inst off sz) s = .next t ∧
      t.reply = s.sizedReply sz (s.showPage B.TMP i off) (s.showPage B.TMP i (off + 4)) ∧ t.regs = s.regs ∧
      t.lmem = s.lmem := by
  have hread : s.sized sz (regAddr B.TMP inst off) (fun s a => s.readAddr path a) =
      { s with reply := s.sizedReply sz (s.showPage B.TMP i off) (s.showPage B.TMP i (off + 4)) } := by
    refine State.sized_answers sz ?_ fun hz => ?_
    · rw [State.readAddr_group _ _ _ _ _ i rest (by decide) hi hg hm hon ho h4, State.readPage_tmp]
    · have := h8 hz
      have hm' := (State.answer_members s (s.showPage B.TMP i off) B.TMP inst).trans hm
      have hon' := (State.answer_pageOn s (s.showPage B.TMP i off) B.TMP i).trans hon
      rw [regAddr_add, State.readAddr_group _ _ _ _ _ i rest (by decide) hi hg hm' hon' (by omega) (by omega),
        State.readPage_tmp, State.answer_answer, State.answer_showPage_tmp]
  exact ⟨_, next_finish ((if_pos hpath).trans hread), rfl, rfl, rfl⟩

/-- A read through a group address without a member returns 0 (R10). -/
theorem exec_prismRead_empty {s : State} {path : Path} {blk inst off : Nat} (sz : Size) (hb : blk < 127)
    (hg : isPrism inst = true) (hi : inst < 256) (ho : off < 4096) (hpath : s.pathOpen path = true)
    (hm : s.members blk inst = []) (h8 : sz = .double → off % 8 = 0) :
    ∃ t, exec (.prismRead path blk inst off sz) s = .next t ∧ t.reply = s.sizedReply sz 0 0 ∧ t.regs = s.regs ∧
      t.lmem = s.lmem := by
  have hread : s.sized sz (regAddr blk inst off) (fun s a => s.readAddr path a) =
      { s with reply := s.sizedReply sz 0 0 } := by
    refine State.sized_answers sz (State.readAddr_empty _ _ _ _ _ hb hi hg hm ho) fun hz => ?_
    have := h8 hz
    have hm' := (State.answer_members s 0 blk inst).trans hm
    rw [regAddr_add, State.readAddr_empty _ _ _ _ _ hb hi hg hm' (by omega), State.answer_answer]
  exact ⟨_, next_finish ((if_pos hpath).trans hread), rfl, rfl, rfl⟩

/-! ### Packets handed to a port (R371, R372) -/

theorem Cas.port_setPort (c : Cas) (b : Bool) (p : Port) : (c.setPort b p).port b = p := by cases b <;> rfl
theorem Cas.setPort_setPort (c : Cas) (b : Bool) (p q : Port) : (c.setPort b p).setPort b q = c.setPort b q := by
  cases b <;> rfl

/-- A port with nothing queued sends nothing. -/
theorem State.pumpPort_empty (s : State) (b : Bool) (n : Nat) (h : (s.cas.port b).queue = []) : s.pumpPort b n = s := by
  cases n with
  | zero => rfl
  | succ n => unfold State.pumpPort; simp only [h]

/-- Sending moves packets, never registers or LMEM. -/
theorem State.pumpPort_frame (s : State) (b : Bool) (n : Nat) :
    (s.pumpPort b n).regs = s.regs ∧ (s.pumpPort b n).lmem = s.lmem := by
  induction n generalizing s with
  | zero => exact ⟨rfl, rfl⟩
  | succ n ih =>
    unfold State.pumpPort
    dsimp only
    split
    · exact ⟨rfl, rfl⟩
    · split
      · exact ih _
      · exact ⟨rfl, rfl⟩

theorem State.sendTo_frame (s : State) (p : Packet) : (s.sendTo p).regs = s.regs ∧ (s.sendTo p).lmem = s.lmem := by
  unfold State.sendTo State.putOut
  dsimp only
  split
  · exact State.pumpPort_frame _ _ _
  · split
    · exact ⟨rfl, rfl⟩
    · exact State.pumpPort_frame _ _ _

/-- A packet to a node whose port can take it leaves at once. -/
theorem State.sendTo_clear (s : State) (p : Packet) (h : s.clearTo p.dst) :
    ∃ q x, s.sendTo p = (s.setPort (s.routeB p.dst) q).emit (.packet (s.routeB p.dst) { p with hseq := x }) := by
  obtain ⟨hup, hq, hlen⟩ := h
  unfold State.sendTo
  generalize s.routeB p.dst = b at hup hq hlen ⊢
  unfold State.putOut
  simp only [hup, if_true, hq, enqueueByClass, List.filter_nil, List.nil_append, List.append_nil]
  unfold State.pumpPort
  simp only [State.setPort, Cas.port_setPort, Cas.setPort_setPort, hlen, if_true]
  exact ⟨_, _, State.pumpPort_empty _ _ _ (congrArg Port.queue (Cas.port_setPort _ _ _))⟩

/-! ### BAR 4 (R358, R374) -/

section
variable {s : State} (h : s.hostTakes) {off : Nat} (be : BitVec 4) (v : Word)
include h

theorem bar4Write_poisoned : bar4Write off be true v s = (s.emit (.aer 0)).raiseFault 309 := by
  unfold bar4Write
  simp only [State.hostTakes_gate h, if_true, if_false, Bool.false_eq_true]

theorem exec_bar4Write_poisoned (ho : off < 2 ^ 33) (hi : Option (BitVec 4 × Word)) :
    ∃ t, exec (.bar4Write off be true v hi) s = .next t ∧ s.poisonReported t := by
  refine ⟨s.finish ((s.emit (.aer 0)).raiseFault 309), next_finish ?_,
    State.poisonReported_report s⟩
  exact (if_pos ho).trans ((upperHalf_poisoned _ _ _).trans (bar4Write_poisoned h be v))

variable (hk : bar4Node off ≠ s.nodeId)
include hk

/-- A write to another node that does not leave is recorded with the cause that applies foremost. -/
theorem bar4Write_remote_discarded (hbad : be ≠ 15 ∨ s.sys.mode = .lockdown ∨ s.nodeReach (bar4Node off) = false) :
    bar4Write off be false v s =
      s.accErr (if be ≠ 15 then 1 else if s.sys.mode = .lockdown then 8 else 7) 2 true (bar4Node off) off := by
  unfold bar4Write
  simp only [State.hostTakes_gate h, hk, if_false, Bool.false_eq_true]
  split_ifs with hb hm hr
  · rfl
  · rfl
  · exact absurd hbad (by simp [not_not.mp hb, hm, hr])
  · rfl

/-- A whole write to a node that can be reached is sent as a WR. -/
theorem bar4Write_remote_sent (hb : be = 15) (hm : s.sys.mode ≠ .lockdown) (hr : s.nodeReach (bar4Node off) = true) :
    bar4Write off be false v s =
      s.sendTo (s.mkPacket 0x01 (bar4Node off) 0 (leBytes 4 (off % bar0Size / 4 * 4) ++ leBytes 4 v.toNat)) := by
  unfold bar4Write
  simp only [State.hostTakes_gate h, hk, hb, hm, hr, if_true, if_false, Bool.false_eq_true, ne_eq, not_true_eq_false]

end

/-- An access error of another node stands recorded, and nothing outside HST's record has changed. -/
structure State.remoteRecorded (s t : State) (k : Nat) : Prop where
  via : t.fld F.HST_ACC_INFO_VIA 0 = 2
  node : t.fld F.HST_ACC_INFO_NODE 0 = k
  raised : t.raised B.HST 0 3 = true
  others : s.regsBut t accErrRegs
  lmem : t.lmem = s.lmem

theorem State.remoteRecorded_accErr (s : State) (c k a : Nat) (hk : k < 64) :
    s.remoteRecorded (s.accErr c 2 true k a) k :=
  ⟨State.accErr_via _ _ _ _ _ _ (by decide), State.accErr_node _ _ _ _ _ _ hk, State.accErr_raised _ _ _ _ _ _,
    State.accErr_regsBut _ _ _ _ _ _, (State.accErr_movesRegs _ _ _ _ _ _).lmem⟩

/-- What moves neither registers nor LMEM leaves the record as it stands. -/
theorem State.remoteRecorded.frame {s t u : State} {k : Nat} (h : s.remoteRecorded t k)
    (hu : u.regs = t.regs ∧ u.lmem = t.lmem) : s.remoteRecorded u k := by
  have hreg : ∀ a, u.reg a = t.reg a := State.reg_congr hu.1
  exact ⟨(State.fld_congr (hreg _)).trans h.via, (State.fld_congr (hreg _)).trans h.node,
    by rw [← h.raised]; unfold State.raised; rw [hreg], fun a ha => (hreg a).trans (h.others a ha), hu.2.trans h.lmem⟩

/-- The upper half of a discarded write to another node is recorded over it, or is sent. -/
theorem State.remoteRecorded.upper {s t : State} {off : Nat} (hr : s.remoteRecorded t (bar4Node off)) (h : s.hostTakes)
    (h8 : off % 8 = 0) (hk : bar4Node off ≠ s.nodeId) (be : BitVec 4) (v : Word) :
    s.remoteRecorded (bar4Write (off + 4) be false v t) (bar4Node off) := by
  have hnode : bar4Node (off + 4) = bar4Node off := by unfold bar4Node; omega
  have hlt : bar4Node off < 64 := Nat.mod_lt _ (by decide)
  have hgate : ∀ a ∈ hostGateRegs, a ∉ accErrRegs := by decide
  have ht : t.hostTakes := (State.hostTakes_congr fun a ha => hr.others a (hgate a ha)).mpr h
  have hid : t.nodeId = s.nodeId := State.fld_congr (hr.others _ (by decide))
  have hk' : bar4Node (off + 4) ≠ t.nodeId := by rw [hnode, hid]; exact hk
  by_cases hbad : be ≠ 15 ∨ t.sys.mode = .lockdown ∨ t.nodeReach (bar4Node (off + 4)) = false
  · rw [bar4Write_remote_discarded ht be v hk' hbad, hnode]
    have hrec := State.remoteRecorded_accErr t (if be ≠ 15 then 1 else if t.sys.mode = .lockdown then 8 else 7)
      (bar4Node off) (off + 4) hlt
    exact ⟨hrec.via, hrec.node, hrec.raised, fun a ha => (hrec.others a ha).trans (hr.others a ha),
      hrec.lmem.trans hr.lmem⟩
  · simp only [not_or, ne_eq, not_not, Bool.not_eq_false] at hbad
    obtain ⟨hb, hm, hreach⟩ := hbad
    rw [bar4Write_remote_sent ht be v hk' hb hm hreach]
    exact hr.frame (State.sendTo_frame _ _)

/-- A write to another node that is discarded is recorded as BAR 4's, with the node (R361, R374). -/
theorem exec_bar4Write_discarded {s : State} (h : s.hostTakes) {off : Nat} (be : BitVec 4) (v : Word)
    (hi : Option (BitVec 4 × Word)) (ho : off < 2 ^ 33) (h8 : hi ≠ none → off % 8 = 0) (hk : bar4Node off ≠ s.nodeId)
    (hbad : be ≠ 15 ∨ s.sys.mode = .lockdown ∨ s.nodeReach (bar4Node off) = false) :
    ∃ t, exec (.bar4Write off be false v hi) s = .next (s.finish t) ∧ s.remoteRecorded t (bar4Node off) ∧
      (hi = none →
        t = s.accErr (if be ≠ 15 then 1 else if s.sys.mode = .lockdown then 8 else 7) 2 true (bar4Node off) off) := by
  have hlow := bar4Write_remote_discarded h be v hk hbad
  have hrec := State.remoteRecorded_accErr s (if be ≠ 15 then 1 else if s.sys.mode = .lockdown then 8 else 7)
    (bar4Node off) off (Nat.mod_lt _ (by decide))
  rw [← hlow] at hrec ⊢
  cases hi with
  | none => exact ⟨_, next_finish (if_pos ho), hrec, fun _ => rfl⟩
  | some x =>
    exact ⟨_, next_finish (if_pos ho),
      hrec.upper h (h8 (by simp)) hk x.1 x.2, fun e => by cases e⟩

/-- A write that can be sent leaves as a WR with its offset and value (R374). -/
theorem exec_bar4Write_sends {s : State} (h : s.hostTakes) {off : Nat} (v : Word) (ho : off < 2 ^ 33)
    (hm : s.sys.mode ≠ .lockdown) (hk : bar4Node off ≠ s.nodeId) (hr : s.nodeReach (bar4Node off) = true)
    (hc : s.clearTo (bar4Node off)) :
    ∃ t, exec (.bar4Write off 15 false v none) s = .next t ∧
      s.sends t 0x01 (bar4Node off) 0 (leBytes 4 (off % 2 ^ 27 / 4 * 4) ++ leBytes 4 v.toNat) = true ∧ t.regs = s.regs ∧
      t.lmem = s.lmem := by
  have hsent := bar4Write_remote_sent h 15 v hk rfl hm hr
  have hframe := State.sendTo_frame s
    (s.mkPacket 0x01 (bar4Node off) 0 (leBytes 4 (off % bar0Size / 4 * 4) ++ leBytes 4 v.toNat))
  obtain ⟨q, x, hsend⟩ := State.sendTo_clear s
    (s.mkPacket 0x01 (bar4Node off) 0 (leBytes 4 (off % bar0Size / 4 * 4) ++ leBytes 4 v.toNat)) hc
  refine ⟨_, next_finish ((if_pos ho).trans hsent), ?_, hframe.1, hframe.2⟩
  rw [hsend]
  simp [State.sends, State.emit, State.setPort, State.mkPacket, bar0Size]

/-! ### A remote read that times out (R374) -/

section
variable (s : State) (r : RemoteRead)

/-- A remote read that fails is taken from those that wait. -/
theorem State.remoteFail_reads : (s.remoteFail r).cas.reads = s.cas.reads.filter (· ≠ r) := by
  have hm := State.accErr_movesRegs { s with cas := { s.cas with reads := s.cas.reads.filter (· ≠ r) } } 7 2 false r.node
    (r.node * 2 ^ 27 + r.off)
  exact congrArg Cas.reads hm.cas

theorem State.remoteFail_regsBut : s.regsBut (s.remoteFail r) accErrRegs :=
  State.accErr_regsBut { s with cas := { s.cas with reads := s.cas.reads.filter (· ≠ r) } } 7 2 false r.node
    (r.node * 2 ^ 27 + r.off)

theorem State.remoteFail_lmem : (s.remoteFail r).lmem = s.lmem :=
  (State.accErr_movesRegs { s with cas := { s.cas with reads := s.cas.reads.filter (· ≠ r) } } 7 2 false r.node
    (r.node * 2 ^ 27 + r.off)).lmem

theorem State.remoteFail_reply : (s.remoteFail r).reply.word = 0 := rfl

end

theorem exec_remoteReadTimeout {s : State} {r : RemoteRead} {rest : List RemoteRead} (hr : s.cas.reads = r :: rest)
    (hnow : r.at_ + 50000 ≤ s.now) :
    ∃ t, exec .remoteReadTimeout s = .next t ∧ t.cas.reads = rest.filter (· ≠ r) ∧ t.reply.word = 0 ∧
      327 ∈ t.flt.pair ∧ t.raised B.CAS 0 6 = true ∧
      t.fld F.CAS_RD_TO_CNT 0 = min (s.fld F.CAS_RD_TO_CNT 0 + 1) 0xFFFFFFFF ∧
      s.regsOutside t [B.HST, B.CAS] ∧ t.lmem = s.lmem := by
  have hrun : remoteReadTimeout s = (((s.remoteFail r).bump F.CAS_RD_TO_CNT 0).event B.CAS 0 6).raiseFault 327 := by
    unfold remoteReadTimeout
    rw [hr]
    exact if_neg (by omega)
  have hcnt : (s.remoteFail r).fld F.CAS_RD_TO_CNT 0 = s.fld F.CAS_RD_TO_CNT 0 :=
    State.fld_congr (State.remoteFail_regsBut s r _ (by decide))
  refine ⟨_, next_finish hrun, ?_, ?_, ?_, ?_, ?_, fun a ha => ?_, ?_⟩
  · rw [State.finish_cas, State.raiseFault_cas, State.event_cas, State.bump_cas, State.remoteFail_reads, hr,
      List.filter_cons_of_neg (by simp)]
  · rw [State.finish_reply, State.raiseFault_reply, State.event_reply, State.bump_reply, State.remoteFail_reply]
  · rw [State.finish_flt]; exact State.raiseFault_mem _ _
  · rw [State.finish_raised]
    unfold State.raised
    rw [State.raiseFault_reg]
    exact State.event_bit _ _ _ _ (by decide)
  · rw [State.finish_fld, State.raiseFault_fld, State.fld_congr (State.reg_event_ne _ _ _ _ _ (by decide)),
      State.fld_bump_same _ _ _ (by decide), hcnt]
    rfl
  · simp only [List.mem_cons, List.not_mem_nil, or_false, not_or] at ha
    rw [State.finish_reg, State.raiseFault_reg,
      State.reg_event_ne _ _ _ _ _ (fun e => ha.2 (by rw [e]; decide)),
      State.reg_bump_ne _ _ _ _ (fun e => ha.2 (by rw [e]; decide)),
      State.remoteFail_regsBut s r _ fun hm => ha.1 (accErrRegs_blk _ hm)]
  · rw [State.finish_lmem, State.raiseFault_lmem, State.event_lmem, State.bump_lmem, State.remoteFail_lmem]

/-! ### The host's accesses together -/

/-- A host write of a temperature page's thresholds, poisoned or not. -/
theorem exec_hostRegWrite_tmp {s : State} (h : s.hostTakes) {n : Nat} (hn : n < 24) (hp : s.openPage B.TMP n)
    (be : BitVec 4) (ep : Bool) (v : Word) (hi : Option (BitVec 4 × Word)) :
    ∃ t, exec (.hostRegWrite (F.TMP_TH_A.addr n) be ep v hi) s = .next t ∧
      t.reg (F.TMP_TH_A.addr n) = (if ep = true ∨ be ≠ 15 ∨ s.flag (H.PAGE_LOCK_LOCK B.TMP) n = true then
        s.reg (F.TMP_TH_A.addr n) else v) ∧
      t.reg (F.TMP_TH_B.addr n) =
        (if ep = true ∨ (hi.map (·.1)).getD 0 ≠ 15 ∨ s.flag (H.PAGE_LOCK_LOCK B.TMP) n = true then
          s.reg (F.TMP_TH_B.addr n) else (hi.map (·.2)).getD 0) ∧
      (ep = false → be ≠ 15 → 310 ∈ t.flt.pair) ∧ (ep = true → 309 ∈ t.flt.pair) ∧
      s.regsBut t (F.TMP_TH_A.addr n :: F.TMP_TH_B.addr n :: accErrRegs) ∧ t.lmem = s.lmem := by
  cases ep with
  | true =>
    obtain ⟨t, he, hpair, _, hregs, hlmem⟩ := exec_hostRegWrite_poisoned h (F.TMP_TH_A.addr n) be v hi
    exact ⟨t, he, by rw [if_pos (.inl rfl), State.reg_congr hregs], by rw [if_pos (.inl rfl), State.reg_congr hregs],
      nofun, fun _ => hpair, fun a _ => State.reg_congr hregs a, hlmem⟩
  | false =>
    obtain ⟨t, he, hA, hB, hpair, hregs, hlmem⟩ := exec_hostRegWrite_thresholds h hn hp be v hi
    exact ⟨t, he, by simpa using hA, by simpa using hB, fun _ => hpair, nofun, hregs, hlmem⟩

/-- A discarded BAR 4 write as the host finds it recorded. -/
theorem exec_bar4Write_recorded {s : State} (h : s.hostTakes) {off : Nat} (be : BitVec 4) (v : Word)
    (hi : Option (BitVec 4 × Word)) (ho : off < 2 ^ 33) (h8 : hi ≠ none → off % 8 = 0) (hk : bar4Node off ≠ s.nodeId)
    (hbad : be ≠ 15 ∨ s.sys.mode = .lockdown ∨ s.nodeReach (bar4Node off) = false) :
    ∃ t, exec (.bar4Write off be false v hi) s = .next t ∧
      (hi = none → t.fld F.HST_ACC_INFO_CAUSE 0 = (if be ≠ 15 then 1 else if s.sys.mode = .lockdown then 8 else 7)) ∧
      t.fld F.HST_ACC_INFO_VIA 0 = 2 ∧ t.fld F.HST_ACC_INFO_NODE 0 = bar4Node off ∧ t.raised B.HST 0 3 = true ∧
      s.regsOutside t [B.HST] ∧ t.lmem = s.lmem ∧ (hi = none → s.onlyRegsAndFaults t) := by
  obtain ⟨t, he, hrec, hnone⟩ := exec_bar4Write_discarded h be v hi ho h8 hk hbad
  refine ⟨_, he, fun e => ?_, hrec.via, hrec.node, hrec.raised, fun a ha => ?_, hrec.lmem, fun e => ?_⟩
  · rw [State.finish_fld, hnone e, State.accErr_cause _ _ _ _ _ _ _ (by decide)]
    split_ifs <;> decide
  · rw [State.finish_reg]
    exact hrec.others a fun hm => ha (by rw [accErrRegs_blk a hm]; exact List.mem_cons_self ..)
  · rw [hnone e]
    exact (State.accErr_movesRegs _ _ _ _ _ _).onlyRegsAndFaults

/-- Settles O52: each clause is what the access's own lemma says of a host whose writes arrive. -/
theorem hostAccesses : Obligations.HostAccesses := by
  unfold Obligations.HostAccesses
  refine ⟨fun s n be ep v hi hn hp hpath hout => exec_hostRegWrite_tmp ⟨hpath, hout⟩ hn hp be ep v hi,
    fun s a be v hpath hout ha hbad => ?_,
    fun s a be v hi hpath hout => ?_,
    fun s blk inst v hb hg hi hx hpath hout hm hr hon => exec_prismWrite_evtEn ⟨hpath, hout⟩ v hb hg hi hx hm hr hon,
    fun s path inst off i rest sz hg hi hpath hm hon ho h4 h8 => exec_prismRead_tmp sz hg hi hpath hm hon ho h4 h8,
    fun s path blk inst off sz hb hg hi ho hpath hm h8 => exec_prismRead_empty sz hb hg hi ho hpath hm h8,
    fun s blk inst v hp hpath hout => exec_evtForceWrite ⟨hpath, hout⟩ v hp,
    fun s off be v hi ho h8 hpath hout hk hbad => exec_bar4Write_recorded ⟨hpath, hout⟩ be v hi ho h8 hk hbad,
    fun s off be v hi ho hpath hout => ?_,
    fun s off v ho hpath hout hm hk hr hc => exec_bar4Write_sends ⟨hpath, hout⟩ v ho hm hk hr hc,
    fun s r rest hr hnow => exec_remoteReadTimeout hr hnow⟩
  · obtain ⟨t, he, hcause, hraised, hpair, hregs, honly⟩ := exec_hostRegWrite_discarded ⟨hpath, hout⟩ be v ha hbad
    exact ⟨t, he, hcause, hraised, hpair, hregs, honly⟩
  · obtain ⟨t, he, hpair, hemit, hregs, hlmem⟩ := exec_hostRegWrite_poisoned ⟨hpath, hout⟩ a be v hi
    exact ⟨t, he, hpair, hemit, hregs, hlmem⟩
  · obtain ⟨t, he, hpair, hemit, hregs, hlmem⟩ := exec_bar4Write_poisoned ⟨hpath, hout⟩ be v ho hi
    exact ⟨t, he, hpair, hemit, hregs, hlmem⟩

end Sys2Proof.Machine
end

section
/-! PROOFS. The state after a chip reset (R25, R27). -/

namespace Sys2Proof.Machine

/-- After reset every register reads as the tables give it. -/
theorem State.reg_reset (a : Nat) : State.reset.reg a = regReset a := rfl

theorem Sparse.wf_nil {α : Type} (d : Nat → α) : Sparse.wf d [] := ⟨List.Pairwise.nil, nofun⟩

/-- Settles O60: the reset state lists no register and no byte of LMEM, and the tables hold the rest. -/
theorem resetState : Obligations.ResetState := by
  unfold Obligations.ResetState
  simp only [State.reg_reset]
  refine ⟨rfl, rfl, rfl, rfl, fun _ => rfl, fun _ => trivial, ?tables, rfl, rfl, ?stations, Sparse.wf_nil _,
    Sparse.wf_nil _, ?wake⟩
  case tables => decide
  case stations => decide
  case wake => decide

end Sys2Proof.Machine
end

section
/-! PROOFS. Two statements that some state breaks: an access to the page of the shared CLK outputs (R18, R418), and a domain
switched on while writes are held for a station (R135, R271). -/

namespace Sys2Proof.Machine

/-- The device in IDLE with every domain on but the cascade and station 0. -/
def stationOff : State :=
  { State.reset with
    sys := { State.reset.sys with mode := .idle, trans := none }
    regs := [(F.HST_LINK.addr 0, 0xD), (F.PWR_DOM_STAT.addr 0x40, 0x0F800DFF)] }

/-- Station 0 off as in `stationOff`, with a FACET record to restore, and a write held for its FAC page whose offset lies
beyond the page, at PWR_DOM_STAT. No run reaches it: a held write lies on the page, and none stays as the station goes off. -/
def strayHeld : State :=
  { stationOff with
    cal := { Cal.init with bankA := { epoch := some 0, recs := [CalRec.mk 6 0 0 0 [] [] false] } }
    stns := [(0, { Stn.init with fac := { Fac.init with
      held := [(F.PWR_DOM_STAT.addr 0x40 - regAddr B.FAC 0 0, 0)] } })] }

/-- Station 0 is the next domain to switch on, at once. -/
theorem strayHeld_nextDomain :
    strayHeld.nextDomain = some (.bln 0, true) ∧ strayHeld.domDue (.bln 0) true = true ∧
      strayHeld.domMode ≠ .hibernate := by
  decide +kernel

/-- The held write clears PWR_DOM_STAT as the station is restored. -/
theorem strayHeld_domOn : (domainSwitch strayHeld).domOn (.bln 0) = false := by decide +kernel

/-- Refutes O5, in its clause on DOMAIN_SWITCH alone: the statement speaks of every state, and a write held for a FAC page
may lie off the page in one. As station 0 is restored such a write clears PWR_DOM_STAT, and with it the domain just
switched on. -/
theorem not_modeChangesEnd : ¬ Obligations.ModeChangesEnd := by
  unfold Obligations.ModeChangesEnd
  rintro ⟨-, hswitch, -⟩
  obtain ⟨hnext, hdue, hmode⟩ := strayHeld_nextDomain
  obtain ⟨t, he, hon, -⟩ := hswitch strayHeld (.bln 0) true hnext hdue hmode
  obtain rfl : strayHeld.finish (domainSwitch strayHeld) = t := Host.Outcome.next.inj he
  rw [State.finish_domOn, strayHeld_domOn] at hon
  exact Bool.false_ne_true hon

/-- The page of the shared CLK outputs belongs to station 0's domain, which is off. -/
theorem stationOff_clkPage : pageExists B.CLK 6 = true ∧ stationOff.domOn (domOf B.CLK 6) = false ∧
    stationOff.hostPath = true ∧ stationOff.nodeId = 0 := by
  decide +kernel

/-- It answers all the same, with its PAGE_ID. -/
theorem stationOff_readClk :
    (stationOff.sized .word (regAddr B.CLK 6 0) fun s a => bar4Read a 15 s).reply.word = 0x320C0001 := by
  decide +kernel

/-- Refutes O50, in its clause on reads: the page of the CLK outputs that all stations share is reached while any station is
on, though the domain that the statement names for it is station 0's. With station 0 off and station 1 on a read of the
page's PAGE_ID does not return 0. -/
theorem not_offDomainAccesses : ¬ Obligations.OffDomainAccesses := by
  unfold Obligations.OffDomainAccesses
  rintro ⟨hread, -⟩
  obtain ⟨hpage, hoff, hpath, hnode⟩ := stationOff_clkPage
  obtain ⟨t, he, hreply, -⟩ :=
    hread stationOff B.CLK 6 0 .word (by decide) (by decide) (by decide) hpage hoff hpath hnode nofun
  obtain rfl : stationOff.finish (stationOff.sized .word (regAddr B.CLK 6 0) fun s a => bar4Read a 15 s) = t :=
    Host.Outcome.next.inj he
  have hzero := congrArg Reply.word hreply
  rw [State.finish_reply, stationOff_readClk] at hzero
  exact absurd hzero (by decide)

end Sys2Proof.Machine
end

section
/-! SUPPORT. What leaves the mode and press time alone: rings, frames, lasers, motors, encoders, steppers, generators, and
requests up to the end of a change. Each lemma takes a state that stands in the mode and at the press time of `s` through
one operation; a proof follows the operation's own steps and branches. -/

namespace Sys2Proof.Machine

/-- `t` stands in the mode of `s`, at the same press time. -/
def State.keepsClock (s t : State) : Prop := t.sys.mode = s.sys.mode ∧ t.time = s.time ∧ t.timeFrac = s.timeFrac

namespace State.keepsClock

protected theorem refl (s : State) : s.keepsClock s := ⟨rfl, rfl, rfl⟩

section
variable {s t u : State} (h : s.keepsClock t)
include h

theorem ite {c : Prop} [Decidable c] (hu : s.keepsClock u) : s.keepsClock (if c then t else u) := by
  split <;> assumption

theorem forAll {xs : List Nat} {f : State → Nat → State} (hf : ∀ u x, s.keepsClock u → s.keepsClock (f u x)) :
    s.keepsClock (forAll xs t f) :=
  forAll_keeps (s.keepsClock ·) (fun u x _ => hf u x) h

end

section
variable {s t : State} (h : s.keepsClock t) {a b c i n m g o r v src : Nat} {w : Word} {f : Field} {x : Bool} {z : Int}
  {bs : List Byte} {p : Packet}
include h

/-! Registers, events and fault sources -/

theorem setReg : s.keepsClock (t.setReg a w) := h
theorem setFld : s.keepsClock (t.setFld f i v) := h.setReg
theorem setFlag : s.keepsClock (t.setFlag f i x) := h.setFld
theorem setPair64 : s.keepsClock (t.setPair64 f i v) := h.setReg.setReg
theorem hwSet : s.keepsClock (t.hwSet a w) := h
theorem event : s.keepsClock (t.event a i n) := h.hwSet
theorem bump : s.keepsClock (t.bump f i) := h.setFld.ite h
theorem withFlt {q : Flt} : s.keepsClock { t with flt := q } := h
theorem raiseFault : s.keepsClock (t.raiseFault n) := h.ite h.withFlt
theorem dropFault : s.keepsClock (t.dropFault n) := h
theorem emit {e : Emit} : s.keepsClock (t.emit e) := h
theorem draw : s.keepsClock t.draw.2 := h
theorem withRingq {q : RingQ} : s.keepsClock { t with ringq := q } := h
theorem withAtt {q : Att} : s.keepsClock { t with att := q } := h
theorem withFst {q : Fst} : s.keepsClock { t with fst := q } := h
theorem withSched {q : Sched} : s.keepsClock { t with sched := q } := h

/-! Rings and packets -/

theorem ringDrop : s.keepsClock (t.ringDrop r) := h.bump.event
theorem storeHost : s.keepsClock (t.storeHost a bs) := h
theorem storeLmem : s.keepsClock (t.storeLmem a bs) := h
theorem setTail : s.keepsClock (t.setTail r n) := h.setFld.storeHost.ite h.setFld
theorem ringPut : s.keepsClock (t.ringPut r bs) := (h.storeHost.ite h.storeLmem).setTail
theorem putUnreserved : s.keepsClock (t.putUnreserved r bs) := h.ringDrop.ite (h.ringPut.ite (h.withRingq.ite h.ringDrop))
theorem setPort {q : Port} : s.keepsClock (t.setPort x q) := h
theorem pumpPort (n : Nat) : s.keepsClock (t.pumpPort x n) := by
  induction n generalizing t with
  | zero => exact h
  | succ n ih =>
    unfold State.pumpPort
    dsimp only
    split
    · exact h
    · exact (ih h.setPort.emit).ite h
theorem putOut : s.keepsClock (t.putOut x p) := (h.setPort.pumpPort 33).ite (h.ite (h.setPort.pumpPort 33))
theorem sendTo : s.keepsClock (t.sendTo p) := h.putOut
theorem forwardEvent : s.keepsClock (t.forwardEvent r bs) := (h.putUnreserved.ite h.sendTo).ite h
theorem ringRelease : s.keepsClock (t.ringRelease r n) := h.setFld
theorem putReserved : s.keepsClock (t.putReserved r bs) := h.ringRelease.ringPut.ite h.ringRelease.withRingq
theorem writeEvent {e : EvRec} : s.keepsClock (t.writeEvent r x e) := (h.putReserved.ite h.putUnreserved).forwardEvent

/-! Requests and changes of mode, up to their end -/

theorem beginMode {m : Mode} : s.keepsClock (t.beginMode m x c) := h
theorem withRefuse : s.keepsClock { t with sys := { t.sys with refuse := c } } := h
theorem withDrainIdle : s.keepsClock { t with sys := { t.sys with drainIdle := x } } := h
theorem refuse : s.keepsClock (t.refuse c) := h.withRefuse.event
theorem deviceMode {m : Mode} : s.keepsClock (t.deviceMode m) := by
  unfold State.deviceMode
  split
  · exact h.beginMode
  · exact h.withDrainIdle.refuse.beginMode.ite h
theorem preempt : s.keepsClock (t.preempt x) := by
  have hrefuse : ∀ {u : State} {b : Bool}, s.keepsClock u → s.keepsClock (if b then u.refuse refPreempted else u) :=
    fun hu => hu.refuse.ite hu
  exact hrefuse (hrefuse h)
theorem printCheck : s.keepsClock t.printCheck := h.ite (h.deviceMode.ite (h.deviceMode.ite h))

/-! Frames -/

theorem setCtx {x : Ctx} : s.keepsClock (t.setCtx c x) := h
theorem frameEvent : s.keepsClock (t.frameEvent c a v r n x) := (h.setCtx.ite h).event.writeEvent
theorem assignCounter : s.keepsClock (t.assignCounter c) := h.ite h.setCtx.withAtt.setFld
theorem returnSlots : s.keepsClock (t.returnSlots c) := h.ringRelease.setCtx
theorem clockStart : s.keepsClock (t.clockStart c) :=
  (h.setCtx.assignCounter.ite h.setCtx.assignCounter.returnSlots).ite h
theorem spoilWith : s.keepsClock (t.spoilWith x c v src) :=
  ((h.setCtx.frameEvent.clockStart.ite h.setCtx.frameEvent).printCheck).ite
    (((h.setCtx.ite h).ite (h.setCtx.ite h).frameEvent).ite h)
theorem spoil : s.keepsClock (t.spoil c v src) := h.spoilWith
theorem spoilRun : s.keepsClock (t.spoilRun c v src) := h.spoilWith
theorem spoilAt : s.keepsClock (t.spoilAt n v src x) := h.forAll fun _ _ hu => (hu.setCtx.ite hu).spoil
theorem fstStat : s.keepsClock t.fstStat := h.setFld.setFlag.setFlag
theorem setRec {q : Option PlaneRec} : s.keepsClock (t.setRec i q) := h.withFst.fstStat
theorem freeRecs : s.keepsClock (t.freeRecs c) := (h.forAll fun _ _ hu => hu.setRec).withFst.fstStat
theorem tryRetire : s.keepsClock (t.tryRetire c) := h.freeRecs.returnSlots.setCtx.printCheck.ite h
theorem lose : s.keepsClock (t.lose c v) :=
  h.ite (h.setCtx.frameEvent.tryRetire.printCheck.ite (h.setCtx.ite h))
theorem loseAll : s.keepsClock (t.loseAll v) := h.forAll fun _ _ hu => hu.lose
theorem stopFrame : s.keepsClock (t.stopFrame c) := h.clockStart.ite h
theorem stopAll : s.keepsClock t.stopAll := h.forAll fun _ _ hu => hu.stopFrame
theorem transportStops : s.keepsClock (t.transportStops v) := h.stopAll.loseAll
theorem spoilAll : s.keepsClock (t.spoilAll v src) := (h.forAll fun _ _ hu => hu.spoilRun).stopAll

/-! Lasers -/

theorem setStn {q : Stn} : s.keepsClock (t.setStn n q) := h
theorem cutFacet : s.keepsClock (t.cutFacet n v) := by
  unfold State.cutFacet
  dsimp only
  split
  · exact h
  · exact h.setStn
  · exact h.draw.setStn
theorem keepSeq : s.keepsClock (t.keepSeq n).2 := by
  unfold State.keepSeq
  split
  · exact h
  · exact h.draw
theorem sendKeep : s.keepsClock (t.sendKeep n) := h.setFlag.keepSeq.emit.ite h.setFlag
theorem laserDark : s.keepsClock (t.laserDark n v) := h.setStn.cutFacet.event.sendKeep.ite h.setStn
theorem darkAll : s.keepsClock (t.darkAll v) := h.forAll fun _ _ hu => hu.laserDark
theorem stopFrames : s.keepsClock (t.stopFrames v src a) := h.darkAll.spoilAll.loseAll

/-! Motors and encoders -/

theorem motorFail : s.keepsClock (t.motorFail a x src) :=
  (h.forAll fun _ _ hu => hu.spoilAt.cutFacet.ite hu.spoilAt).transportStops.ite
    (h.forAll fun _ _ hu => hu.spoilAt.cutFacet.ite hu.spoilAt)
theorem moFail : s.keepsClock (t.moFail m src) := h.motorFail
theorem setMot {q : Mot} : s.keepsClock (t.setMot m q) := h
theorem setMoState : s.keepsClock (t.setMoState m v) := h.setFld.setMot.ite h.setFld.setMot.setFlag
theorem motEncError : s.keepsClock (motEncError m t) :=
  h.ite (h.setMoState.setFld.event.raiseFault.moFail.ite h.setMoState.setFld.event.raiseFault)
theorem encAngle : s.keepsClock (t.encAngle m) := by
  unfold State.encAngle
  dsimp only
  split
  · exact h.setFld
  · exact h.draw.setFld
theorem encCount : s.keepsClock (t.encCount m z) := h.ite h.draw.draw.setMot.setReg.setPair64.setReg
theorem indexPulse : s.keepsClock (t.indexPulse m).1 := by
  unfold State.indexPulse
  dsimp only
  split <;> exact h.setMot
omit h in
theorem iteFst {p q : State × Bool} {e : Prop} [Decidable e] (hp : s.keepsClock p.1) (hq : s.keepsClock q.1) :
    s.keepsClock (if e then p else q).1 := by
  split <;> assumption
theorem encMove {q : Mot} {e : Prop} [Decidable e] :
    s.keepsClock (if e then t.setMot m q else ((t.setMot m q).encCount m z).encAngle m) :=
  h.setMot.ite h.setMot.encCount.encAngle
theorem encSample : s.keepsClock (t.encSample m) :=
  (iteFst h.draw.encMove.indexPulse h.draw.encMove).motEncError.ite (iteFst h.draw.encMove.indexPulse h.draw.encMove)
theorem resolverPeriod : s.keepsClock (t.resolverPeriod m) :=
  h.draw.setMot.encCount.setFld.setMot.motEncError.ite h.draw.setMot.encCount.setFld
theorem encTick : s.keepsClock (t.encTick a m) := h.ite (h.encSample.ite (h.resolverPeriod.ite h))
theorem encTickAll : s.keepsClock (t.encTickAll a) := (h.forAll fun _ _ hu => hu.encTick).ite h

/-! High voltage, heaters, the random source and steppers -/

theorem setHvo {q : Hvo} : s.keepsClock (t.setHvo o q) := h
theorem hvCarrierAll : s.keepsClock (t.hvCarrierAll a) := h.forAll fun _ _ hu => hu.setHvo
theorem thrEval : s.keepsClock t.thrEval := by
  have hclear : ∀ {q}, s.keepsClock { t.setFld F.HTR_THR_STAT_CAUSE 8 t.thrCause with sched := q } := h.setFld.withSched
  exact hclear.withSched.setFld.event.ite (hclear.setFld.event.ite hclear)
theorem thrTick : s.keepsClock t.thrTick := h.thrEval.ite h
theorem drbgSound : s.keepsClock t.drbgSound := h.withAtt.setFlag.dropFault
theorem drbgTest : s.keepsClock t.drbgTest := (h.draw.drbgSound.ite h.draw).ite h
theorem setStp {q : Stp} : s.keepsClock (t.setStp m q) := h
theorem stpAdapt : s.keepsClock (t.stpAdapt m) := h.draw.setStp.setFld.setFld.setFld.setFld.ite h
theorem stpAdaptAll : s.keepsClock t.stpAdaptAll := (h.forAll fun _ _ hu => hu.stpAdapt).ite h

/-! Profile generators -/

theorem setPgn {q : Pgn} : s.keepsClock (t.setPgn g q) := h
theorem setPgPosQ : s.keepsClock (t.setPgPosQ g z) := h.setPair64
theorem setPgState : s.keepsClock (t.setPgState g v) := h.setFld
omit h in
theorem iteSnd {p q : Int × State} {e : Prop} [Decidable e] (hp : s.keepsClock p.2) (hq : s.keepsClock q.2) :
    s.keepsClock (if e then p else q).2 := by
  split <;> assumption
theorem pgNextVel : s.keepsClock (t.pgNextVel g).2 := by
  unfold State.pgNextVel
  dsimp only
  split
  · exact h
  · exact h
  · exact h
  · exact iteSnd h (iteSnd h h.draw)
theorem pgMove : s.keepsClock (t.pgMove g z) := h.setPgPosQ.setPgn.setReg.setReg
theorem atLimits : s.keepsClock (t.atLimits g) :=
  (h.forAll fun _ _ hu => hu.setFlag).forAll fun _ _ hu => hu.setFlag.event.ite hu.setFlag
theorem pgStart : s.keepsClock (t.pgStart g z) := h.setPgn.setPgState
theorem pgRest : s.keepsClock (t.pgRest g) :=
  h.setPgn.setPgState.setReg.setReg.setFlag.pgStart.ite h.setPgn.setPgState.setReg.setReg
theorem homeNext : s.keepsClock (t.homeNext m g) := by
  unfold State.homeNext
  dsimp only
  split
  · exact h.setFld.setPgn.pgStart
  · exact h.setFld.setPgState.setPgn
  · exact h.setFld.setFld.setFlag.setFld.setPgn.event
  · exact h
theorem pgStands : s.keepsClock (t.pgStands g) :=
  (h.transportStops.ite h).forAll fun _ _ hu => hu.setFld.setFlag.ite (hu.setFld.setFlag.ite hu.setFld)
theorem pgEnd : s.keepsClock (t.pgEnd g) :=
  (h.pgRest.forAll fun _ _ hu => hu.homeNext).ite (h.pgRest.forAll fun _ _ hu => hu.homeNext).pgStands
theorem pgDone : s.keepsClock (t.pgDone g) := h.setPgPosQ.setPgn.setFlag.event.pgEnd
theorem pgFinish {q q' : Pgn} {d e k l : Prop} [Decidable d] [Decidable e] [Decidable k] [Decidable l] :
    s.keepsClock (if d then t else if e then (if k then (t.setPgn g q).pgDone g else t)
      else if l then (t.setPgn g q').pgEnd g else t) :=
  h.ite ((h.setPgn.pgDone.ite h).ite (h.setPgn.pgEnd.ite h))
theorem pgUpdate : s.keepsClock (t.pgUpdate g) :=
  h.ite ((h.pgNextVel.pgMove.ite h.pgNextVel.pgMove.setPgState).forAll fun _ _ hu =>
    hu.setFld.ite hu.setFld.setFlag).atLimits.pgFinish
theorem pgUpdateAll : s.keepsClock t.pgUpdateAll := (h.forAll fun _ _ hu => hu.pgUpdate).ite h

end
end State.keepsClock

end Sys2Proof.Machine
end

section
/-! PROOFS. A step: the command at the front of the queue, or one clock edge (R20, R21). -/

namespace Sys2Proof.Machine

/-! ### A clock edge (R20, R21) -/

/-- What else an edge of KCLK does it does at the press time that the edge has reached. -/
theorem State.kclkEdge_keepsClock (s : State) :
    ({ s with cas := { s.cas with slew := s.cas.slew - s.slewNow } }.advance
      (4 * 65536 + s.slewNow).toNat).keepsClock s.kclkEdge := by
  have hedge := (keepsClock.refl ({ s with cas := { s.cas with slew := s.cas.slew - s.slewNow } }.advance
    (4 * 65536 + s.slewNow).toNat)).encTickAll (a := s.now) |>.hvCarrierAll (a := s.now)
  exact hedge.ite hedge.pgUpdateAll.stpAdaptAll.drbgTest.thrTick

/-- With no slew owed an edge of KCLK is 4 ns, and leaves the fraction of a ns. -/
theorem State.kclkEdge_time (s : State) (hs : s.cas.slew = 0) (hf : s.timeFrac < 65536) :
    s.kclkEdge.time = s.time + 4 ∧ s.kclkEdge.timeFrac = s.timeFrac := by
  obtain ⟨-, htime, hfrac⟩ := s.kclkEdge_keepsClock
  have hslew : s.slewNow = 0 := by unfold State.slewNow; rw [hs]; rfl
  have hdiv : (s.timeFrac + 4 * 65536) / 65536 = 4 := by omega
  rw [hslew] at htime hfrac
  constructor
  · rw [htime]
    show s.time + BitVec.ofNat 64 ((s.timeFrac + 4 * 65536) / 65536) = s.time + 4
    rw [hdiv]; rfl
  · rw [hfrac]
    show (s.timeFrac + 4 * 65536) % 65536 = s.timeFrac
    omega

theorem State.tick_kclk {s : State} (hv : s.balls.vstby = true) (hk : s.kclkOn = true) : s.tick = s.finish s.kclkEdge := by
  simp [State.tick, hv, hk]

theorem State.tick_aclk {s : State} (hv : s.balls.vstby = true) (hk : s.kclkOn = false) : s.tick = s.finish s.aclkEdge := by
  simp [State.tick, hv, hk]

theorem State.tick_dead {s : State} (hv : s.balls.vstby = false) : s.tick = s := by simp [State.tick, hv]

theorem step_command {s : State} {c : Instr} {rest : List Instr} (h : s.pending = c :: rest) :
    step s = exec c { s with pending := rest } := by
  unfold step; rw [h]

theorem step_idle {s : State} (h : s.pending = []) : step s = .next s.tick := by unfold step; rw [h]

/-- Settles O58: with no command waiting an edge of the clock that runs moves press time, and nothing else that the edge
does moves it. -/
theorem queueFront : Obligations.QueueFront := by
  unfold Obligations.QueueFront
  refine ⟨fun s c rest hq => step_command hq, fun s hq hv hoff hhib hslew hfrac => ?kclk,
    fun s hq hv hmode hwake htrans => ?aclk, fun s hq hv => ?dead⟩
  case kclk =>
    have hk : s.kclkOn = true := by simp [State.kclkOn, hoff, hhib]
    exact ⟨_, (step_idle hq).trans (congrArg _ (State.tick_kclk hv hk)), s.kclkEdge_time hslew hfrac⟩
  case aclk =>
    have hk : s.kclkOn = false := by simp [State.kclkOn, hmode, hwake, htrans]
    exact ⟨_, (step_idle hq).trans (congrArg _ (State.tick_aclk hv hk)), rfl, rfl, rfl⟩
  case dead => rw [step_idle hq, State.tick_dead hv]

end Sys2Proof.Machine
end

section
/-! PROOFS. Host requests for a mode (R25, R26, R27, R291). -/

namespace Sys2Proof.Machine

/-! ### A request arrives (R26, R27) -/

/-- SYS_MODE_REQ holds the request written. -/
def State.asked (s : State) (v : Word) : State := s.setReg (F.SYS_MODE_REQ.addr 0) (v &&& 0xF)

theorem rowLocked_modeReq : rowLocked B.SYS 0 F.SYS_MODE_REQ.off = false := by decide

/-- A host's write of SYS_MODE_REQ arrives over an open link. -/
theorem State.onPage_modeReq {s : State} (hp : s.openPage B.SYS 0) (hh : s.hostPath = true) (v : Word) :
    (s.onPage B.SYS 0 F.SYS_MODE_REQ.off fun s => s.hostModeReq v) = s.writeModeReq v := by
  obtain ⟨hm, he, ho⟩ := hp
  rw [State.onPage_open _ _ _ _ _ hm he ho rowLocked_modeReq]
  simp [State.hostModeReq, hh, hm]

theorem reqTarget_ne_zero {v : Nat} {m : Mode} (h : reqTarget v = some m) : v % 16 ≠ 0 := by
  intro h0
  simp [reqTarget, h0] at h

/-- A request judged at once is acted on from the mode that the device is in. -/
theorem State.writeModeReq_requestable {s : State} (h : s.requestable) {v : Word} {m : Mode}
    (hv : reqTarget v.toNat = some m) : s.writeModeReq v = (s.asked v).actOn m := by
  obtain ⟨-, -, htrans, hboot, hdev⟩ := h
  have hreq : (s.asked v).modeReq m = (s.asked v).actOn m := by
    unfold State.modeReq
    rw [if_neg (show ¬ (s.asked v).sys.devAt = some (s.asked v).now from hdev),
      if_neg (show ¬ (s.asked v).inBoot = true from by rw [show (s.asked v).inBoot = s.inBoot from rfl, hboot]; decide),
      show (s.asked v).sys.trans = none from htrans]
  unfold State.writeModeReq
  simp only [if_neg (reqTarget_ne_zero hv), hv]
  exact hreq

theorem State.writeModeReq_badTarget (s : State) {v : Word} (ht : reqTarget v.toNat = none) (hv : v.toNat % 16 ≠ 0) :
    s.writeModeReq v = (s.asked v).refuse refBadTarget := by
  unfold State.writeModeReq
  simp only [if_neg hv, ht]
  rfl

theorem exec_modeReq {s : State} (h : s.requestable) {v : Word} {m : Mode} (hv : reqTarget v.toNat = some m) :
    (.next (s.finish (s.onPage B.SYS 0 F.SYS_MODE_REQ.off fun s => s.hostModeReq v)) : Host.Outcome State Fault Refusal) =
      .next (s.finish ((s.asked v).actOn m)) :=
  next_finish ((State.onPage_modeReq h.1 h.2.1 v).trans (State.writeModeReq_requestable h hv))

/-! ### How a request ends -/

/-- Only SYS_MODE_REQ and SYS's events move of the registers, and nothing of LMEM. -/
def State.movesRequest (s t : State) : Prop := s.regsBut t [F.SYS_MODE_REQ.addr 0, evtAddr B.SYS 0] ∧ t.lmem = s.lmem

theorem State.regsBut_asked (s : State) (v : Word) : s.regsBut (s.asked v) [F.SYS_MODE_REQ.addr 0] :=
  State.regsBut_setReg _ _ _

theorem State.movesRequest_asked (s : State) (v : Word) : s.movesRequest (s.asked v) :=
  ⟨fun a ha => s.regsBut_asked v a fun hm => ha (by simp_all), rfl⟩

theorem State.movesRequest.refuse {s t : State} (h : s.movesRequest t) (code : Nat) :
    s.movesRequest (t.refuse code) := by
  obtain ⟨hregs, hlmem⟩ := h
  refine ⟨hregs.trans (bs := [evtAddr B.SYS 0]) (fun a ha => ?_) (by simp) (by simp), ?_⟩
  · exact State.regsBut_event { t with sys := { t.sys with refuse := code } } B.SYS 0 1 a ha
  · exact (State.event_lmem ..).trans hlmem

/-- A request refused shows its code and raises SYS.REQ_REFUSED (R27). -/
theorem State.refused_refuse (s : State) (code : Nat) : (s.refuse code).refused code := by
  refine ⟨?_, State.event_bit _ _ _ _ (by decide)⟩
  unfold State.refuse
  rw [State.event_sys]

/-- A request taken begins its change from the mode and at the time that it finds (R26). -/
theorem State.hostChange_beginMode {s u : State} (h : s.keepsClock u) (m : Mode) :
    (u.beginMode m true causeHost).hostChange s m := by
  obtain ⟨hmode, htime, -⟩ := h
  refine ⟨?_, hmode⟩
  unfold State.beginMode State.now
  rw [htime]

theorem State.hostChange_congr {s t u : State} {m : Mode} (hs : t.sys = u.sys) (h : u.hostChange s m) :
    t.hostChange s m := by
  obtain ⟨htrans, hmode⟩ := h
  exact ⟨hs ▸ htrans, hs ▸ hmode⟩

theorem State.keepsClock_asked (s : State) (v : Word) : s.keepsClock (s.asked v) := (keepsClock.refl s).setReg

/-! ### Entry to HIBERNATE (R163, R283, R288) -/

/-- `t` stands in the mode machine of `s`. -/
def State.keepsSys (s t : State) : Prop := t.sys = s.sys

namespace State.keepsSys

section
variable {s t u : State} (h : s.keepsSys t)
include h

theorem ite {c : Prop} [Decidable c] (hu : s.keepsSys u) : s.keepsSys (if c then t else u) := by
  split <;> assumption

theorem forAll {xs : List Nat} {f : State → Nat → State} (hf : ∀ u x, s.keepsSys u → s.keepsSys (f u x)) :
    s.keepsSys (forAll xs t f) :=
  forAll_keeps (s.keepsSys ·) (fun u x _ => hf u x) h

end

section
variable {s t : State} (h : s.keepsSys t) {a c i k n g r v w : Nat} {x : Word} {b : Bool} {f : Field}
include h

theorem setReg : s.keepsSys (t.setReg a x) := h
theorem setFlag : s.keepsSys (t.setFlag f i b) := h.setReg
theorem hwSet : s.keepsSys (t.hwSet a x) := h
theorem event : s.keepsSys (t.event a i n) := h.hwSet
theorem withFlt {q : Flt} : s.keepsSys { t with flt := q } := h
theorem raiseFault : s.keepsSys (t.raiseFault n) := h.ite h.withFlt
theorem withKeep {q : Keep} : s.keepsSys { t with keep := q } := h
theorem withAtt {q : Att} : s.keepsSys { t with att := q } := h

/-! Writes of the keep store, and the rail logs -/

theorem keepLast : s.keepsSys (t.keepLast w v) := h.setReg
theorem keepUnread : s.keepsSys (t.keepUnread w) := h.raiseFault.event.keepLast
theorem keepWearUp : s.keepsSys (t.keepWearUp w) :=
  (h.withKeep.withKeep.event.raiseFault.ite h.withKeep).event.raiseFault.keepLast.ite
    (h.withKeep.withKeep.event.raiseFault.ite h.withKeep)
theorem keepProgram {b' : Bool} : s.keepsSys (t.keepProgram w x b b') := by
  have hfail : s.keepsSys (((t.raiseFault 379).event B.KPS 0 2).keepLast w 3) := h.raiseFault.event.keepLast
  exact h.raiseFault.event.ite (h.ite (h.withKeep.keepWearUp.ite
    ((hfail.ite hfail.withKeep).ite (hfail.ite hfail.withKeep).keepUnread).keepWearUp))
theorem keepStores {vs : List Word} : s.keepsSys (t.keepStores w vs) :=
  List.foldlRecOn (motive := (s.keepsSys ·)) _ _ h fun _ hu _ _ => hu.keepProgram
theorem writeLog {w0 w1 w2 : Word} : s.keepsSys (t.writeLog r k g w0 w1 w2) := h.keepStores
theorem setRail {q : Rail} : s.keepsSys (t.setRail r q) := h
theorem commitRail : s.keepsSys (t.commitRail r) := by
  unfold State.commitRail
  dsimp only
  split
  · exact h.writeLog.setRail
  · exact h.writeLog.setRail
theorem commitRails : s.keepsSys t.commitRails := h.forAll fun _ _ hu => hu.commitRail.ite hu

/-! Programs run down, and the checkpoint -/

theorem setSeq {q : Seq} : s.keepsSys (t.setSeq q) := h
theorem setScopePend : s.keepsSys (t.setScopePend c v) := h.setReg
theorem setScopeState : s.keepsSys (t.setScopeState c v) := h.setReg
theorem runDown {q : SeqAfter} : s.keepsSys (t.runDown q) :=
  h.setSeq.forAll fun _ _ hu => hu.setScopePend.ite (hu.setScopeState.setScopePend.ite hu.setScopePend)
theorem startCkpt {q : Ckpt} : s.keepsSys (t.startCkpt q) := h.withAtt.setFlag
theorem ckptDown : s.keepsSys t.ckptDown := h.startCkpt.ite h.startCkpt

end
end State.keepsSys

/-- Entry to HIBERNATE by request changes of the mode machine the change that runs alone. -/
theorem State.goHibernate_sys (s : State) : s.goHibernate.sys = (s.beginMode .hibernate true causeHost).sys :=
  have h : (s.beginMode .hibernate true causeHost).keepsSys (s.beginMode .hibernate true causeHost) := rfl
  h.runDown.commitRails.ckptDown

/-! ### What each request does -/

/-- A register of another block is not SYS_MODE_REQ. -/
theorem State.fld_asked (s : State) (v : Word) (f : Field) (i : Nat) (hb : 0 < f.blk) : (s.asked v).fld f i = s.fld f i := by
  refine State.fld_congr (State.reg_setReg_ne _ _ _ _ ?_)
  simp only [Field.addr, regAddr]
  omega

theorem State.severeActive_asked (s : State) (v : Word) : (s.asked v).severeActive = s.severeActive := by
  have hfld : ∀ (f : Field) (k i : Nat), 0 < f.blk → (s.asked v).fld (f.at k) i = s.fld (f.at k) i :=
    fun f k i hb => s.fld_asked v (f.at k) i hb
  unfold State.severeActive State.srcLive State.srcClass State.bitOf
  simp only [hfld F.FLT_LIVE _ _ (by decide), hfld F.FLT_ESCD _ _ (by decide), hfld F.FLT_CFG_CLASS _ _ (by decide),
    hfld F.FLT_ESC_ECLASS _ _ (by decide)]

theorem State.seqRuns_asked (s : State) (v : Word) : (s.asked v).seqRuns = s.seqRuns :=
  congrArg (· == 1) (s.fld_asked v F.SEQ_STAT_RUN 0 (by decide))

section
variable {s : State} (h : s.requestable)
include h

theorem exec_modeReqWarmup : ∃ t, exec .modeReqWarmup s = .next t ∧
    (if s.sys.mode = .idle then t.hostChange s .warmup else t.refused refUnreachable) ∧ s.movesRequest t := by
  have hact : (s.asked 5).actOn .warmup = if s.sys.mode = .idle then (s.asked 5).beginMode .warmup true causeHost
    else (s.asked 5).refuse refUnreachable := rfl
  refine ⟨_, exec_modeReq h rfl, ?_⟩
  rw [hact]
  split_ifs
  · exact ⟨State.hostChange_beginMode (s.keepsClock_asked 5) .warmup, s.movesRequest_asked 5⟩
  · exact ⟨State.refused_refuse _ _, (s.movesRequest_asked 5).refuse _⟩

theorem exec_modeReqDrain : ∃ t, exec .modeReqDrain s = .next t ∧
    (if s.sys.mode = .print then t.hostChange s .drain else t.refused refUnreachable) ∧ s.movesRequest t := by
  have hact : (s.asked 8).actOn .drain = if s.sys.mode = .print then (s.asked 8).beginMode .drain true causeHost
    else (s.asked 8).refuse refUnreachable := rfl
  refine ⟨_, exec_modeReq h rfl, ?_⟩
  rw [hact]
  split_ifs
  · exact ⟨State.hostChange_beginMode (s.keepsClock_asked 8) .drain, s.movesRequest_asked 8⟩
  · exact ⟨State.refused_refuse _ _, (s.movesRequest_asked 8).refuse _⟩

/-- CALIBRATE notes the mode that it is entered from (R25). -/
theorem exec_modeReqCalibrate : ∃ t, exec .modeReqCalibrate s = .next t ∧
    (if s.sys.mode = .idle ∨ s.sys.mode = .ready then t.hostChange s .calibrate ∧ t.sys.calFrom = s.sys.mode
      else t.refused refUnreachable) ∧ s.movesRequest t := by
  have hact : (s.asked 9).actOn .calibrate = if s.sys.mode = .idle ∨ s.sys.mode = .ready then
      { s.asked 9 with sys := { s.sys with calFrom := s.sys.mode } }.beginMode .calibrate true causeHost
    else (s.asked 9).refuse refUnreachable := rfl
  refine ⟨_, exec_modeReq h rfl, ?_⟩
  rw [hact]
  split_ifs
  · exact ⟨⟨State.hostChange_beginMode (s.keepsClock_asked 9) .calibrate, rfl⟩, s.movesRequest_asked 9⟩
  · exact ⟨State.refused_refuse _ _, (s.movesRequest_asked 9).refuse _⟩

theorem exec_modeReqIdle : ∃ t, exec .modeReqIdle s = .next t ∧
    (if s.sys.mode = .config then (if s.bundle.ok then t.hostChange s .idle else t.refused refNoBundle)
      else if s.sys.mode = .warmup ∨ s.sys.mode = .ready then t.hostChange s .idle
      else if s.sys.mode = .print then t.hostChange s .drain ∧ t.sys.drainIdle = true
      else if s.sys.mode = .drain then t.sys.drainIdle = true ∧ t.sys.trans = none
      else if s.sys.mode = .safehold then
        (if s.severeActive then t.refused refFaultActive else t.hostChange s .idle)
      else t.refused refUnreachable) ∧ s.movesRequest t := by
  have htrans : s.sys.trans = none := h.2.2.1
  have hasked := s.movesRequest_asked 4
  have hclock := s.keepsClock_asked 4
  have hsevere := s.severeActive_asked 4
  refine ⟨_, exec_modeReq h rfl, ?_⟩
  unfold State.actOn
  simp only [hsevere, show (s.asked 4).sys = s.sys from rfl, show (s.asked 4).bundle = s.bundle from rfl]
  split_ifs
  · exact ⟨State.hostChange_beginMode hclock .idle, hasked⟩
  · exact ⟨State.refused_refuse _ _, hasked.refuse _⟩
  · exact ⟨State.hostChange_beginMode hclock .idle, hasked⟩
  · exact ⟨⟨State.hostChange_beginMode hclock .drain, rfl⟩, hasked⟩
  · exact ⟨⟨rfl, htrans⟩, hasked⟩
  · exact ⟨State.refused_refuse _ _, hasked.refuse _⟩
  · exact ⟨State.hostChange_beginMode hclock .idle, hasked⟩
  · exact ⟨State.refused_refuse _ _, hasked.refuse _⟩

/-- A request for HIBERNATE that meets a running program is held (R291). -/
theorem exec_modeReqHibernate : ∃ t, exec .modeReqHibernate s = .next t ∧
    (if s.sys.mode ≠ .idle then t.refused refUnreachable
      else if s.seqRuns then t.sys.pend = some .hibernate ∧ t.sys.trans = none
      else t.hostChange s .hibernate) := by
  have hact : (s.asked 1).actOn .hibernate = if s.sys.mode ≠ .idle then (s.asked 1).refuse refUnreachable
      else if s.seqRuns then { s.asked 1 with sys := { s.sys with pend := some .hibernate } }
      else (s.asked 1).goHibernate := by
    rw [← s.seqRuns_asked 1]; rfl
  have hgo : (s.asked 1).goHibernate.hostChange s .hibernate :=
    State.hostChange_congr (State.goHibernate_sys _) (State.hostChange_beginMode (s.keepsClock_asked 1) .hibernate)
  refine ⟨_, exec_modeReq h rfl, ?_⟩
  rw [hact]
  split_ifs
  · exact State.refused_refuse _ _
  · exact ⟨rfl, h.2.2.1⟩
  · exact State.hostChange_congr (State.finish_sys _ _) hgo

theorem exec_modeReqSafehold : ∃ t, exec .modeReqSafehold s = .next t ∧
    (if s.sys.mode.running then t.hostChange s .safehold else t.refused refUnreachable) := by
  have hact : (s.asked 10).actOn .safehold =
      if s.sys.mode.running then (s.asked 10).hostSafehold else (s.asked 10).refuse refUnreachable := rfl
  have hgo : (s.asked 10).hostSafehold.hostChange s .safehold :=
    State.hostChange_beginMode (s.keepsClock_asked 10).preempt.stopFrames .safehold
  refine ⟨_, exec_modeReq h rfl, ?_⟩
  rw [hact]
  split_ifs
  · exact State.hostChange_congr (State.finish_sys _ _) hgo
  · exact State.refused_refuse _ _

end

section
variable {s : State} (hp : s.openPage B.SYS 0) (hh : s.hostPath = true)
include hp hh

/-- TARGET 0 cancels what is held, in every mode outside LOCKDOWN (R27). -/
theorem exec_modeReqCancel : ∃ t, exec .modeReqCancel s = .next t ∧
    t.sys = { s.sys with pend := none, drainIdle := false } ∧ s.regsBut t [F.SYS_MODE_REQ.addr 0] ∧ t.lmem = s.lmem :=
  ⟨s.finish (s.asked 0).cancelReq, next_finish (State.onPage_modeReq hp hh 0), rfl,
    fun a ha => s.regsBut_asked 0 a ha, rfl⟩

theorem exec_modeReqInvalid {v : Nat} (hn : (reqTarget v).isNone = true) (hv : v % 16 ≠ 0) :
    ∃ t, exec (.modeReqInvalid v) s = .next t ∧ t.refused refBadTarget ∧ s.movesRequest t := by
  obtain ⟨w, hw⟩ : ∃ w : Word, w = BitVec.ofNat 32 (v % 16) := ⟨_, rfl⟩
  have hlow : w.toNat % 16 = v % 16 := by rw [hw, BitVec.toNat_ofNat]; omega
  have htarget : reqTarget w.toNat = none := by
    rw [← Option.isNone_iff_eq_none, ← hn]
    unfold reqTarget
    rw [hlow]
  have hwrite := (State.onPage_modeReq hp hh w).trans (s.writeModeReq_badTarget htarget (hlow ▸ hv))
  refine ⟨s.finish ((s.asked w).refuse refBadTarget), next_finish ?_, State.refused_refuse (s.asked w) refBadTarget,
    (s.movesRequest_asked w).refuse refBadTarget⟩
  rw [← hwrite, hw]
  simp only [hn, hv, ne_eq, not_false_eq_true, and_self, if_true]

end

/-- Settles O4: each clause is what the request's own lemma says of a state in which it is judged at once. -/
theorem modeRequests : Obligations.ModeRequests := by
  unfold Obligations.ModeRequests
  exact ⟨fun s hp hh => exec_modeReqCancel hp hh, fun s h => exec_modeReqWarmup h, fun s h => exec_modeReqDrain h,
    fun s h => exec_modeReqCalibrate h, fun s h => exec_modeReqIdle h, fun s h => exec_modeReqHibernate h,
    fun s h => exec_modeReqSafehold h, fun s v hp hh hn hv => exec_modeReqInvalid hp hh hn hv⟩

end Sys2Proof.Machine
end

section
/-! PROOFS. A host write of a ring's tail while a message waits on ring 28 (R38, R375). -/

namespace Sys2Proof.Machine

/-- The device in IDLE with every domain on, LMEM filled and the node in UP on an enabled cascade, and one entry between the
head and the tail of the enabled ring 28: it was entered before the fill was complete, whose end sends nothing. -/
def messageWaits : State :=
  { State.reset with
    sys := { State.reset.sys with mode := .idle, trans := none }
    aon := { State.reset.aon with fillDone := true }
    regs := [(F.CAS_STAT.addr 0, 0x00030040), (F.RING_CTRL.addr (ringInst 28), 1), (F.RING_TAIL.addr (ringInst 28), 1),
      (F.PWR_DOM_STAT.addr 0x40, 0x0FC00FFF)] }

/-- The host may move the tail of ring 0, by one. -/
theorem messageWaits_tailAdvance :
    messageWaits.openPage B.APR (ringInst 0) ∧ messageWaits.tailAdvance 0 1 = some 1 := by
  decide +kernel

/-- The head of ring 28 is another register than the tail of ring 0. -/
theorem ringHead28_not_ringTail0 : F.RING_HEAD.addr (ringInst 28) ∉ [F.RING_TAIL.addr (ringInst 0)] := by decide

/-- A host write of ring 0's tail that arrives moves it, and sends what waits on the message rings (R38, R375). -/
theorem exec_ringTailWrite_zero {s : State} (h : s.openPage B.APR (ringInst 0)) (v : Nat) :
    exec (.ringTailWrite 0 v) s = .next (s.finish (s.writeTail 0 v).msgPump) := by
  obtain ⟨hm, he, ho⟩ := h
  exact next_finish ((State.onPage_open _ _ _ _ _ hm he ho (by decide)).trans (if_pos (by decide)))

/-- The write takes ring 28's entry too. -/
theorem messageWaits_ringHead : messageWaits.reg (F.RING_HEAD.addr (ringInst 28)) = 0 ∧
    (messageWaits.writeTail 0 1).msgPump.reg (F.RING_HEAD.addr (ringInst 28)) = 1 := by
  decide +kernel

/-- Refutes O11, in its clause on RING_TAIL of rings 0 to 15: the statement speaks of every state, and in one a message may
wait on ring 28. A write of any ring's tail that the host owns then sends that message, and the head of ring 28 moves beside
the tail written. -/
theorem not_ringPointers : ¬ Obligations.RingPointers := by
  unfold Obligations.RingPointers
  rintro ⟨htail, -⟩
  obtain ⟨hpage, hadv⟩ := messageWaits_tailAdvance
  obtain ⟨hbefore, hafter⟩ := messageWaits_ringHead
  obtain ⟨t, he, -, hregs, -⟩ := htail messageWaits 0 1 1 (by decide) hpage hadv
  obtain rfl := Host.Outcome.next.inj ((exec_ringTailWrite_zero hpage 1).symm.trans he)
  have hhead := hregs _ ringHead28_not_ringTail0
  rw [State.finish_reg, hafter, hbefore] at hhead
  exact absurd hhead (by decide)

end Sys2Proof.Machine
end

section
/-! SUPPORT. The cascade's ports: what sending a packet leaves alone, and a packet heard in order (R369, R371). -/

namespace Sys2Proof.Machine

/-! ### Packets sent -/

/-- `t` differs from `s` in the two ports, and in the packets that have left besides, alone. -/
def State.movesPackets (s t : State) : Prop :=
  ∃ p q es, t = { s with cas := { s.cas with portA := p, portB := q }, emitted := s.emitted ++ es }

namespace State.movesPackets

protected theorem refl (s : State) : s.movesPackets s := ⟨_, _, [], by rw [List.append_nil]⟩

section
variable {s t : State} (h : s.movesPackets t)
include h

theorem regs : t.regs = s.regs := by obtain ⟨p, q, es, rfl⟩ := h; rfl
theorem lmem : t.lmem = s.lmem := by obtain ⟨p, q, es, rfl⟩ := h; rfl
theorem flt : t.flt = s.flt := by obtain ⟨p, q, es, rfl⟩ := h; rfl
theorem ctxs : t.ctxs = s.ctxs := by obtain ⟨p, q, es, rfl⟩ := h; rfl
theorem fst : t.fst = s.fst := by obtain ⟨p, q, es, rfl⟩ := h; rfl
theorem seen : t.cas.seen = s.cas.seen := by obtain ⟨p, q, es, rfl⟩ := h; rfl
theorem nodeId : t.nodeId = s.nodeId := by obtain ⟨p, q, es, rfl⟩ := h; rfl

theorem trans {u : State} (h' : t.movesPackets u) : s.movesPackets u := by
  obtain ⟨p, q, es, rfl⟩ := h
  obtain ⟨p', q', es', rfl⟩ := h'
  exact ⟨p', q', es ++ es', by simp only [List.append_assoc]⟩

variable {b : Bool} {p : Packet} {typ tag : Nat}

theorem setPort {q : Port} : s.movesPackets (t.setPort b q) := by
  obtain ⟨pa, pb, es, rfl⟩ := h
  cases b
  · exact ⟨q, pb, es, rfl⟩
  · exact ⟨pa, q, es, rfl⟩

theorem emit {e : Emit} : s.movesPackets (t.emit e) := by
  obtain ⟨pa, pb, es, rfl⟩ := h
  exact ⟨pa, pb, es ++ [e], by simp only [State.emit, List.append_assoc]⟩

theorem ite {c : Prop} [Decidable c] {u : State} (hu : s.movesPackets u) : s.movesPackets (if c then t else u) := by
  split <;> assumption

theorem pumpPort (n : Nat) : s.movesPackets (t.pumpPort b n) := by
  induction n generalizing t with
  | zero => exact h
  | succ n ih =>
    unfold State.pumpPort
    dsimp only
    split
    · exact h
    · exact (ih h.setPort.emit).ite h

theorem putOut : s.movesPackets (t.putOut b p) := (h.setPort.pumpPort 33).ite (h.ite (h.setPort.pumpPort 33))
theorem sendTo : s.movesPackets (t.sendTo p) := h.putOut
theorem broadcast : s.movesPackets (t.broadcast p) := ((h.putOut.ite h).putOut).ite (h.putOut.ite h)
theorem sendNeighbour : s.movesPackets (t.sendNeighbour b p) := h.emit.ite h
theorem hop : s.movesPackets (t.hop b typ tag) := h.sendNeighbour
theorem passOn {x : RxPacket} : s.movesPackets (t.passOn typ x) := h.ite h.putOut

end
end State.movesPackets

/-- A neighbour packet over a link that is up is all that leaves, and nothing else changes. -/
theorem State.hop_up (s : State) (b : Bool) (typ tag : Nat) (h : s.portUp b = true) :
    s.hop b typ tag = s.emit (.packet b (s.mkPacket typ 0xFE tag [])) := if_pos h

/-- A packet of this node that leaves is among those sent. -/
theorem State.sends_emit {s t : State} (h : s.movesPackets t) (b : Bool) (typ dst tag hseq : Nat) (data : List Byte)
    (q : Port) : s.sends ((t.setPort b q).emit (.packet b { t.mkPacket typ dst tag data with hseq := hseq })) typ dst tag
      data = true := by
  obtain ⟨pa, pb, es, rfl⟩ := h
  have hdrop : (s.emitted ++ es ++ [Emit.packet b { s.mkPacket typ dst tag data with hseq := hseq }]).drop
      s.emitted.length = es ++ [Emit.packet b { s.mkPacket typ dst tag data with hseq := hseq }] := by
    rw [List.append_assoc, List.drop_left]
  refine (congrArg (List.any · _) hdrop).trans ?_
  simp [State.mkPacket]

/-- A neighbour packet over a link that is up is among those sent. -/
theorem State.sends_hop (s : State) (b : Bool) (typ tag : Nat) (h : s.portUp b = true) :
    s.sends (s.hop b typ tag) typ 0xFE tag [] = true := by
  have hport : s.setPort b (s.cas.port b) = s := by cases b <;> rfl
  rw [State.hop_up _ _ _ _ h]
  have := State.sends_emit (State.movesPackets.refl s) b typ 0xFE tag 0 [] (s.cas.port b)
  rwa [hport] at this

/-! ### A packet heard (R371) -/

theorem State.portUp_of_canHear {s : State} {b : Bool} (h : s.canHear b = true) : s.portUp b = true := by
  unfold State.canHear at h
  simp only [Bool.and_eq_true] at h
  exact h.2

/-- A packet taken is acknowledged, and the port awaits the next. -/
def State.acknowledged (s : State) (x : RxPacket) : State :=
  (s.setPort x.portB { s.cas.port x.portB with hseqRx := ((s.cas.port x.portB).hseqRx + 1) % 256 }).hop x.portB 0x14 x.hseq

/-- The state in which a packet is delivered: it is acknowledged, and passed on where it is for others too. -/
def State.delivering (s : State) (typ : Nat) (x : RxPacket) : State :=
  if x.dst = s.nodeId then s.acknowledged x else (s.acknowledged x).passOn typ x

theorem State.acknowledged_movesPackets (s : State) (x : RxPacket) : s.movesPackets (s.acknowledged x) :=
  (State.movesPackets.refl s).setPort.hop

theorem State.delivering_movesPackets (s : State) (typ : Nat) (x : RxPacket) : s.movesPackets (s.delivering typ x) :=
  (s.acknowledged_movesPackets x).ite (s.acknowledged_movesPackets x).passOn

/-- A packet that this node hears in order has its effect here. -/
theorem State.receive_heard {s : State} {x : RxPacket} (h : s.heard x) (typ : Nat) (home deliver : State → State) :
    s.receive typ x home deliver = deliver (s.delivering typ x) := by
  obtain ⟨hear, hseq, hrefl, hsrc, hdst, hstate⟩ := h
  have hm := s.acknowledged_movesPackets x
  have hid : (s.acknowledged x).nodeId = s.nodeId := hm.nodeId
  have hst : (s.acknowledged x).casState = s.casState := State.fld_congr (State.reg_congr hm.regs _)
  have hdid : (s.delivering typ x).nodeId = s.nodeId := (s.delivering_movesPackets typ x).nodeId
  unfold State.receive
  unfold State.delivering State.acknowledged at *
  dsimp only
  rw [if_neg (by simp [hear]), if_neg (not_not.mpr hseq), hrefl, if_neg Bool.false_ne_true]
  dsimp only at hid hst hdid
  simp only [hid, hst, hsrc, hstate, false_and, if_false, decide_true, and_true, hdid, hdst, if_true]

/-- A port that awaits another packet holds what it held. -/
theorem Cas.port_setPort_hseqRx (c : Cas) (b b' : Bool) (n : Nat) :
    ((c.setPort b { c.port b with hseqRx := n }).port b').queue = (c.port b').queue ∧
      ((c.setPort b { c.port b with hseqRx := n }).port b').unacked = (c.port b').unacked := by
  cases b <;> cases b' <;> exact ⟨rfl, rfl⟩

/-- The state in which a packet for this node alone is delivered can send to whom it could before. -/
theorem State.delivering_clearTo {s : State} {x : RxPacket} (hdst : x.dst = s.nodeId) (typ k : Nat) (h : s.clearTo k) :
    (s.delivering typ x).clearTo k := by
  obtain ⟨hup, hqueue, hlen⟩ := h
  obtain ⟨p, hack⟩ : ∃ es, s.acknowledged x = { s.setPort x.portB { s.cas.port x.portB with
      hseqRx := ((s.cas.port x.portB).hseqRx + 1) % 256 } with emitted := es } := by
    unfold State.acknowledged State.hop State.sendNeighbour
    split <;> exact ⟨_, rfl⟩
  have hroute : (s.acknowledged x).routeB k = s.routeB k := by rw [hack]; cases x.portB <;> rfl
  obtain ⟨hq, hu⟩ := s.cas.port_setPort_hseqRx x.portB (s.routeB k) (((s.cas.port x.portB).hseqRx + 1) % 256)
  unfold State.delivering
  rw [if_pos hdst]
  unfold State.clearTo
  rw [hroute, hack]
  exact ⟨hup, hq.trans hqueue, (congrArg List.length hu).trans_lt hlen⟩

end Sys2Proof.Machine
end

section
/-! SUPPORT. The page of a ring, and a record written at its tail (R39, R40, R56). -/

namespace Sys2Proof.Machine

/-- A register of another block is none of a page's. -/
theorem ne_regAddr_of_blkOf {a blk inst off : Nat} (h : blkOf a ≠ blk) (hb : blk < 128) (hi : inst < 256)
    (ho : off < 4096) : a ≠ regAddr blk inst off :=
  fun e => h (e ▸ blkOf_regAddr blk inst off hb hi ho)

theorem State.ringSize_le (s : State) (r : Nat) : 0 < s.ringSize r ∧ s.ringSize r ≤ 2 ^ 16 := by
  unfold State.ringSize
  dsimp only
  exact ⟨by positivity, Nat.pow_le_pow_right (by decide) (by split <;> omega)⟩

/-- An index of a ring fits RING_HEAD and RING_TAIL. -/
theorem State.ringIndex_mod (s : State) (r n : Nat) : n % s.ringSize r % 2 ^ 16 = n % s.ringSize r := by
  obtain ⟨hpos, hle⟩ := s.ringSize_le r
  exact Nat.mod_eq_of_lt ((Nat.mod_lt _ hpos).trans_le hle)

/-- The registers of a ring's page are apart. -/
theorem ringAddr_ne {r q : Nat} {f g : Field} (hf : f.off < 4096) (hg : g.off < 4096) (h : f.off ≠ g.off ∨ r ≠ q)
    (hb : f.blk = g.blk) : f.addr (ringInst r) ≠ g.addr (ringInst q) := by
  unfold Field.addr regAddr ringInst
  omega

theorem State.ringTail_setTail (s : State) (r n : Nat) :
    (s.setFld F.RING_TAIL_INDEX (ringInst r) (n % s.ringSize r)).ringTail r = n % s.ringSize r :=
  (State.fld_setFld_same _ _ _ _ (by decide)).trans (s.ringIndex_mod r n)

/-- A tail without a shadow copy is a register alone. -/
theorem State.setTail_unshadowed (s : State) (r n : Nat) (h : s.flag F.RING_CTRL_SHADOW_EN (ringInst r) = false) :
    s.setTail r n = s.setFld F.RING_TAIL_INDEX (ringInst r) n := by
  have hctrl : F.RING_CTRL_SHADOW_EN.addr (ringInst r) ≠ F.RING_TAIL_INDEX.addr (ringInst r) :=
    ringAddr_ne (by decide) (by decide) (.inl (by decide)) rfl
  have hflag : (s.setFld F.RING_TAIL_INDEX (ringInst r) n).flag F.RING_CTRL_SHADOW_EN (ringInst r) = false :=
    (State.flag_congr (State.reg_setFld_ne _ _ _ _ _ hctrl)).trans h
  unfold State.setTail
  simp only [hflag, Bool.false_eq_true, false_and, if_false]

/-- A record stands at the tail of a ring in LMEM, and the tail has moved past it (R39). -/
structure State.recordWritten (s t : State) (r : Nat) (bs : List Byte) : Prop where
  lmem : t.lmem = s.lmem.setList lmemDefault (s.ringAddr r (s.ringTail r)) bs
  tail : t.ringTail r = (s.ringTail r + 1) % s.ringSize r
  regs : s.regsBut t [F.RING_TAIL.addr (ringInst r)]
  ringq : t.ringq = s.ringq

theorem State.ringPut_written (s : State) (r : Nat) (bs : List Byte) (hin : s.ringInHost r = false)
    (hsh : s.flag F.RING_CTRL_SHADOW_EN (ringInst r) = false) : s.recordWritten (s.ringPut r bs) r bs := by
  have hput : s.ringPut r bs = (s.storeLmem (s.ringAddr r (s.ringTail r)) bs).setFld F.RING_TAIL_INDEX (ringInst r)
      ((s.ringTail r + 1) % s.ringSize r) := by
    unfold State.ringPut
    simp only [hin, Bool.false_eq_true, if_false]
    exact State.setTail_unshadowed _ _ _ hsh
  rw [hput]
  exact ⟨State.setFld_lmem .., State.ringTail_setTail (s.storeLmem (s.ringAddr r (s.ringTail r)) bs) r _,
    State.regsBut_setReg (s.storeLmem (s.ringAddr r (s.ringTail r)) bs) _ _, State.setFld_ringq ..⟩

/-- Only rings 16 to 19 and 24 to 27 may lie in host memory (R36). -/
theorem State.ringInHost_late (s : State) {r : Nat} (h : 28 ≤ r) : s.ringInHost r = false := by
  unfold State.ringInHost
  simp [show ¬ r ≤ 19 by omega, show ¬ r ≤ 27 by omega]

/-- Ring 30 or 31 takes a record as it comes: it is enabled, nothing waits for it, it has room, and LMEM serves. -/
structure State.ringTakes (s : State) (r : Nat) : Prop where
  late : 28 ≤ r
  en : s.ringEn r = true
  waiting : s.ringWaiting r = 0
  room : 0 < s.ringRoom r
  ready : s.lmemReady = true
  shadow : s.flag F.RING_CTRL_SHADOW_EN (ringInst r) = false

theorem State.ringTakes.writable {s : State} {r : Nat} (h : s.ringTakes r) : s.ringWritable r = true := by
  unfold State.ringWritable
  rw [s.ringInHost_late h.late]
  exact h.ready

theorem State.ringTakes.putUnreserved {s : State} {r : Nat} (h : s.ringTakes r) (bs : List Byte) :
    s.recordWritten (s.putUnreserved r bs) r bs := by
  unfold State.putUnreserved
  rw [if_neg (by simp [h.en]), if_pos ⟨h.waiting, h.room, h.writable⟩]
  exact s.ringPut_written r bs (s.ringInHost_late h.late) h.shadow

theorem State.ringTakes.takeMsg {s : State} {r : Nat} (h : s.ringTakes r) (bs : List Byte) :
    s.takeMsg r bs = (s.putUnreserved r bs, true) := by
  unfold State.takeMsg
  simp [h.en, h.waiting, h.room, h.writable]

/-- A disabled ring drops what comes (R40). -/
theorem State.takeMsg_disabled {s : State} {r : Nat} (h : s.ringEn r = false) (bs : List Byte) :
    s.takeMsg r bs = (s.ringDrop r, false) := by
  unfold State.takeMsg State.putUnreserved
  simp [h]

end Sys2Proof.Machine
end

section
/-! SUPPORT. A cascade trigger at the Loupe buffers (R233, R240, R376). -/

namespace Sys2Proof.Machine

/-- A buffer has been triggered, and has said so. -/
def State.lupFired (s : State) (b : Nat) : Prop := s.luState b = luTriggered ∧ s.raised B.LUP b 0 = true

/-- What triggers leave alone: every register of another block, LMEM, and of the buffer `b` all but that it may fire. -/
structure State.lupMoves (b : Nat) (s t : State) : Prop where
  outside : ∀ a, blkOf a ≠ B.LUP → t.reg a = s.reg a
  lmem : t.lmem = s.lmem
  armed : s.luState b = luArmed → t.luState b = luArmed ∨ t.lupFired b
  fired : s.lupFired b → t.lupFired b

namespace State.lupMoves

protected theorem refl (b : Nat) (s : State) : s.lupMoves b s := ⟨fun _ _ => rfl, rfl, .inl, id⟩

variable {b : Nat} {s t u : State}

theorem trans (h : s.lupMoves b t) (h' : t.lupMoves b u) : s.lupMoves b u :=
  ⟨fun a ha => (h'.outside a ha).trans (h.outside a ha), h'.lmem.trans h.lmem,
    fun hs => (h.armed hs).elim h'.armed fun ht => .inr (h'.fired ht), fun hs => h'.fired (h.fired hs)⟩

/-- What moves neither registers nor LMEM. -/
theorem of_regs (hr : t.regs = s.regs) (hl : t.lmem = s.lmem) : s.lupMoves b t := by
  have hreg := State.reg_congr hr
  have hst : t.luState b = s.luState b := State.fld_congr (hreg _)
  have hev : t.raised B.LUP b 0 = s.raised B.LUP b 0 := by unfold State.raised; rw [hreg]
  refine ⟨fun a _ => hreg a, hl, fun hs => .inl (hst.trans hs), fun hs => ?_⟩
  unfold State.lupFired
  rw [hst, hev]
  exact hs

theorem foldl {cs : List Nat} {f : State → Nat → State} (h : s.lupMoves b t)
    (hf : ∀ v : State, ∀ c ∈ cs, v.lupMoves b (f v c)) : s.lupMoves b (cs.foldl f t) :=
  List.foldlRecOn cs f h fun _ hu c hc => hu.trans (hf _ c hc)

end State.lupMoves

/-- A buffer's own part of a trigger. -/
def State.lupFire (s : State) (c : Nat) : State :=
  ((s.setLup c { s.lup c with trigNow := true }).setLuState c luTriggered).event B.LUP c 0

theorem State.lupFire_fired (s : State) (c : Nat) : (s.lupFire c).lupFired c := by
  refine ⟨?_, State.event_bit _ _ _ _ (by decide)⟩
  unfold State.lupFire State.luState
  rw [State.fld_congr (State.reg_event_ne _ _ _ _ _ ?_)]
  · exact State.fld_setFld_same _ F.LUP_STAT_STATE _ _ (by decide)
  · simp only [Field.addr, regAddr]; omega

/-- A trigger of an armed buffer touches that buffer's registers alone. -/
theorem State.lupFire_moves (s : State) {b c : Nat} (hc : c < 4) (h : s.luState c = luArmed) :
    s.lupMoves b (s.lupFire c) := by
  have hreg : ∀ a, a ≠ F.LUP_STAT_STATE.addr c → a ≠ evtAddr B.LUP c → (s.lupFire c).reg a = s.reg a := fun a hs he => by
    unfold State.lupFire
    rw [State.reg_event_ne _ _ _ _ _ he]
    exact State.reg_setFld_ne _ F.LUP_STAT_STATE _ _ _ hs
  have hblk : ∀ off, off < 4096 → blkOf (regAddr B.LUP c off) = B.LUP := fun off ho =>
    blkOf_regAddr _ _ _ (by decide) (by omega) ho
  have hown : b ≠ c → (s.lupFire c).luState b = s.luState b ∧ (s.lupFire c).raised B.LUP b 0 = s.raised B.LUP b 0 := by
    intro hne
    refine ⟨State.fld_congr (hreg _ ?_ ?_), ?_⟩
    · simp only [Field.addr, regAddr]; omega
    · simp only [Field.addr, evtAddr, regAddr]; omega
    · unfold State.raised
      rw [hreg]
      · simp only [evtAddr, Field.addr, regAddr]; omega
      · simp only [evtAddr, regAddr]; omega
  refine ⟨fun a ha => hreg a (fun e => ha (e ▸ hblk _ (by decide))) (fun e => ha (e ▸ hblk _ (by decide))), rfl,
    fun hs => ?_, fun hs => ?_⟩
  · rcases eq_or_ne b c with rfl | hne
    · exact .inr (s.lupFire_fired b)
    · exact .inl ((hown hne).1.trans hs)
  · rcases eq_or_ne b c with rfl | hne
    · exact s.lupFire_fired b
    · unfold State.lupFired
      rw [(hown hne).1, (hown hne).2]
      exact hs

theorem State.sendTrig_moves (s : State) (b c : Nat) : s.lupMoves b (s.sendTrig c) := by
  unfold State.sendTrig
  dsimp only
  split
  · exact .of_regs ((State.movesPackets.refl _).broadcast.regs.trans rfl)
      ((State.movesPackets.refl _).broadcast.lmem.trans rfl)
  · exact .refl _ _

theorem State.lupTrigger_notArmed (s : State) (c : Nat) (w : Option Nat) (n : Nat) (h : s.luState c ≠ luArmed) :
    s.lupTrigger c w n = s := by
  cases n with
  | zero => rfl
  | succ n => unfold State.lupTrigger; exact if_pos h

/-- The buffers that a trigger of buffer `c` reaches. -/
def State.lupNext (s : State) (c : Nat) (cast : Bool) : List Nat :=
  (List.range 4).filter fun d => (s.tsrc d == 7 && s.fld F.LUP_TRIG_ARG d == c) || (s.tsrc d == 8 && cast)

theorem State.lupTrigger_armed (s : State) (c n : Nat) (h : s.luState c = luArmed) : ∃ cast,
    s.lupTrigger c none (n + 1) = (((s.lupFire c).sendTrig c).lupNext c cast).foldl (fun s d => s.lupTrigger d none n)
      ((s.lupFire c).sendTrig c) :=
  ⟨_, by conv_lhs => unfold State.lupTrigger
         exact if_neg (not_not.mpr h)⟩

theorem State.lupTrigger_moves (b n : Nat) :
    ∀ (s : State) (c : Nat), c < 4 → s.lupMoves b (s.lupTrigger c none n) := by
  induction n with
  | zero => exact fun s _ _ => .refl b s
  | succ n ih =>
    intro s c hc
    by_cases h : s.luState c = luArmed
    · obtain ⟨cast, e⟩ := s.lupTrigger_armed c n h
      rw [e]
      refine ((s.lupFire_moves hc h).trans (State.sendTrig_moves _ b c)).foldl fun u d hd => ih u d ?_
      exact List.mem_range.mp (List.mem_filter.mp hd).1
    · rw [s.lupTrigger_notArmed c none _ h]
      exact .refl b s

/-- A buffer that waits for a trigger fires. -/
theorem State.lupTrigger_fires {s : State} {b : Nat} (n : Nat) (h : s.luState b = luArmed) :
    (s.lupTrigger b none (n + 1)).lupFired b := by
  obtain ⟨cast, e⟩ := s.lupTrigger_armed b n h
  rw [e]
  refine ((State.sendTrig_moves _ b b).foldl fun u d hd => State.lupTrigger_moves b n u d ?_).fired (s.lupFire_fired b)
  exact List.mem_range.mp (List.mem_filter.mp hd).1

/-- Of the buffers triggered in turn an armed one fires, unless one before it has fired it already. -/
theorem State.lupTriggers_fire {b n : Nat} (hb : b < 4) {cs : List Nat} (hcs : ∀ c ∈ cs, c < 4) (hmem : b ∈ cs)
    {s : State} (h : s.luState b = luArmed) : (forAll cs s fun s c => s.lupTrigger c none (n + 1)).lupFired b := by
  obtain ⟨before, after, rfl⟩ := List.append_of_mem hmem
  have hstep : ∀ (u : State) (ds : List Nat), (∀ d ∈ ds, d < 4) →
      u.lupMoves b (ds.foldl (fun s c => s.lupTrigger c none (n + 1)) u) := fun u ds hds =>
    (State.lupMoves.refl b u).foldl fun v d hd => State.lupTrigger_moves b _ v d (hds d hd)
  unfold forAll
  rw [List.foldl_append, List.foldl_cons]
  refine (hstep _ after fun d hd => hcs d (by simp [hd])).fired ?_
  rcases (hstep s before fun d hd => hcs d (by simp [hd])).armed h with harm | hfired
  · exact State.lupTrigger_fires n harm
  · exact (State.lupTrigger_moves b _ _ b hb).fired hfired

/-- A cascade trigger fires an armed buffer of TSRC 8, and touches the buffers' registers alone. -/
theorem State.lupCascade_fires {s : State} {b : Nat} (hb : b < 4) (hc : s.domOn .ctl = true) (ht : s.tsrc b = 8)
    (h : s.luState b = luArmed) : s.lupCascade.lupFired b ∧ s.lupMoves b s.lupCascade := by
  have hlt : ∀ c ∈ (List.range 4).filter fun c => s.tsrc c == 8, c < 4 := fun c hm =>
    List.mem_range.mp (List.mem_filter.mp hm).1
  unfold State.lupCascade
  rw [if_pos hc]
  refine ⟨State.lupTriggers_fire hb hlt (List.mem_filter.mpr ⟨List.mem_range.mpr hb, by simp [ht]⟩) h, ?_⟩
  exact (State.lupMoves.refl b s).foldl fun u c hm => State.lupTrigger_moves b _ u c (hlt c hm)

end Sys2Proof.Machine
end

section
/-! PROOFS. Messages, records and triggers received on the cascade, and the packets of the hop itself (R370, R371, R375,
R376, R379). -/

namespace Sys2Proof.Machine

/-! ### Messages and records (R375, R376) -/

/-- A packet delivered for the first time is noted as seen (R371). -/
def State.noteSeen (s : State) (key : Nat × Nat × Nat) : State :=
  { s with cas := { s.cas with seen := s.cas.seen ++ [key] } }

theorem State.once_first {s u : State} {key : Nat × Nat × Nat} (h : s.movesPackets u) (hk : key ∉ s.cas.seen)
    (f : State → State) : u.once key f = f (u.noteSeen key) := by
  unfold State.once
  rw [if_neg (h.seen ▸ hk)]
  rfl

/-- What differs in what the cascade holds and in what has left the device alone takes a record as before. -/
theorem State.recordWritten_beside {s t : State} {r : Nat} {bs : List Byte} (c : Cas) (es : List Emit)
    (h : ({ s with cas := c, emitted := es } : State).recordWritten t r bs) : s.recordWritten t r bs :=
  ⟨h.lmem, h.tail, h.regs, h.ringq⟩

section
variable {s : State} {x : RxPacket} (h : s.heard x)
include h

/-- A message heard for the first time is written to a ring that takes it. -/
theorem exec_casRxMsg_written (htag : x.tag ≤ 1) (hkey : (0x06 + 256 * x.tag, x.src, fieldAt x.data 4 4) ∉ s.cas.seen)
    (hr : s.ringTakes (30 + x.tag)) :
    ∃ t, exec (.casRxMsg x) s = .next (s.finish t) ∧ s.recordWritten t (30 + x.tag) (takeAt x.data 0 32) := by
  have hm := s.delivering_movesPackets 0x06 x
  refine ⟨_, next_finish ((State.receive_heard h _ _ _).trans ((if_neg (by omega)).trans (State.once_first hm hkey _))), ?_⟩
  obtain ⟨p, q, es, e⟩ := hm
  rw [e]
  have hu : (({ s with cas := { s.cas with portA := p, portB := q }, emitted := s.emitted ++ es } : State).noteSeen
      (0x06 + 256 * x.tag, x.src, fieldAt x.data 4 4)).ringTakes (30 + x.tag) :=
    ⟨hr.late, hr.en, hr.waiting, hr.room, hr.ready, hr.shadow⟩
  simp only [hu.takeMsg, if_true]
  exact State.recordWritten_beside _ _ (hu.putUnreserved _)

/-- An EVT is written to ring 31 as an EVENT of its source. -/
theorem exec_casRxEvt_written (hr : s.ringTakes 31) :
    ∃ t, exec (.casRxEvt x) s = .next (s.finish t) ∧ s.recordWritten t 31 (eventEntry x.src 0 x.data) := by
  refine ⟨_, next_finish (State.receive_heard h _ _ _), ?_⟩
  obtain ⟨p, q, es, e⟩ := s.delivering_movesPackets 0x09 x
  rw [e]
  have hu : ({ s with cas := { s.cas with portA := p, portB := q }, emitted := s.emitted ++ es } : State).ringTakes 31 :=
    ⟨hr.late, hr.en, hr.waiting, hr.room, hr.ready, hr.shadow⟩
  exact State.recordWritten_beside _ _ (hu.putUnreserved _)

end

/-- A packet to a node whose port can take it is among those sent. -/
theorem State.sends_sendTo {s t : State} (hid : t.nodeId = s.nodeId) (hes : ∃ es, t.emitted = s.emitted ++ es)
    {dst : Nat} (h : t.clearTo dst) (typ tag : Nat) (data : List Byte) :
    s.sends (t.sendTo (t.mkPacket typ dst tag data)) typ dst tag data = true := by
  obtain ⟨q, hseq, e⟩ := t.sendTo_clear (t.mkPacket typ dst tag data) h
  obtain ⟨es, hes⟩ := hes
  unfold State.sends
  rw [e]
  simp [State.emit, State.setPort, hes, State.mkPacket, hid]

/-- Whether a packet can leave at once stands in the ports and CAS_STAT. -/
theorem State.clearTo.congr {s t : State} {k : Nat} (h : s.clearTo k) (hcas : t.cas = s.cas)
    (hstat : t.reg (F.CAS_STAT.addr 0) = s.reg (F.CAS_STAT.addr 0)) : t.clearTo k := by
  obtain ⟨hup, hqueue, hlen⟩ := h
  have hroute : t.routeB k = s.routeB k := by unfold State.routeB; rw [hcas]
  have hport : ∀ b, t.portUp b = s.portUp b := fun b => by
    unfold State.portUp
    rw [State.flag_congr (f := F.CAS_STAT_B_UP) hstat, State.flag_congr (f := F.CAS_STAT_A_UP) hstat]
  unfold State.clearTo
  rw [hroute, hport, hcas]
  exact ⟨hup, hqueue, hlen⟩

/-- A record dropped moves registers of its ring's page alone, and none that is not its count or its events. -/
theorem State.ringDrop_reg_ne (s : State) (r a : Nat) (ho : a ≠ F.RING_OVF.addr (ringInst r))
    (he : a ≠ evtAddr B.APR (ringInst r)) : (s.ringDrop r).reg a = s.reg a := by
  unfold State.ringDrop
  rw [State.reg_event_ne _ _ _ _ _ he, State.reg_bump_ne _ _ _ _ ho]

theorem State.ringDrop_movesRegs (s : State) (r : Nat) : s.movesRegs (s.ringDrop r) :=
  (State.movesRegs_bump _ _ _).trans (State.movesRegs_event _ _ _ _)

theorem State.ringDrop_regsOutside (s : State) {r : Nat} (h : r < 32) {a : Nat} (ha : blkOf a ≠ B.APR) :
    (s.ringDrop r).reg a = s.reg a := by
  have hinst : ringInst r < 256 := by unfold ringInst; omega
  exact s.ringDrop_reg_ne r a (ne_regAddr_of_blkOf ha (by decide) hinst (by decide))
    (ne_regAddr_of_blkOf ha (by decide) hinst (by decide))

theorem State.ringDrop_ringTail (s : State) (r : Nat) : (s.ringDrop r).ringTail r = s.ringTail r :=
  State.fld_congr (s.ringDrop_reg_ne r _ (ringAddr_ne (by decide) (by decide) (.inl (by decide)) rfl)
    (by simp only [Field.addr, evtAddr, regAddr]; omega))

/-- A message for this node alone that meets a disabled ring is dropped, and answered NACK. -/
theorem exec_casRxMsg_refused {s : State} {x : RxPacket} (h : s.heard x) (hdst : x.dst = s.nodeId) (htag : x.tag ≤ 1)
    (hkey : (0x06 + 256 * x.tag, x.src, fieldAt x.data 4 4) ∉ s.cas.seen) (hen : s.ringEn (30 + x.tag) = false)
    (hc : s.clearTo x.src) :
    ∃ t, exec (.casRxMsg x) s = .next t ∧ s.regsOutside t [B.APR, B.CAS] ∧
      s.sends t 0x07 x.src 0 (takeAt x.data 0 8) = true ∧ t.ringTail (30 + x.tag) = s.ringTail (30 + x.tag) ∧
      t.lmem = s.lmem := by
  have hm := s.delivering_movesPackets 0x06 x
  have hclear := State.delivering_clearTo hdst 0x06 x.src hc
  obtain ⟨u, hu⟩ : ∃ u, u = (s.delivering 0x06 x).noteSeen (0x06 + 256 * x.tag, x.src, fieldAt x.data 4 4) := ⟨_, rfl⟩
  have hregs : u.regs = s.regs := hu ▸ hm.regs
  have hclear' : u.clearTo x.src := hu ▸ hclear
  have hrun : casRxMsg x s = (u.ringDrop (30 + x.tag)).sendTo ((u.ringDrop (30 + x.tag)).mkPacket 0x07 x.src 0
      (takeAt x.data 0 8)) := by
    have hen' : u.ringEn (30 + x.tag) = false := (State.flag_congr (State.reg_congr hregs _)).trans hen
    refine (State.receive_heard h _ _ _).trans ((if_neg (by omega)).trans ((State.once_first hm hkey _).trans ?_))
    rw [← hu]
    simp only [State.takeMsg_disabled hen', Bool.false_eq_true, if_false]
  have hstat : ∀ a, blkOf a ≠ B.APR → (u.ringDrop (30 + x.tag)).reg a = s.reg a := fun a ha =>
    (u.ringDrop_regsOutside (by omega) ha).trans (State.reg_congr hregs a)
  have hsend := State.sendTo_frame (u.ringDrop (30 + x.tag)) ((u.ringDrop (30 + x.tag)).mkPacket 0x07 x.src 0
    (takeAt x.data 0 8))
  obtain ⟨r, w, hdrop⟩ := u.ringDrop_movesRegs (30 + x.tag)
  refine ⟨_, next_finish hrun, fun a ha => ?_, ?_, ?_, ?_⟩
  · rw [State.finish_reg, State.reg_congr hsend.1]
    exact hstat a fun e => ha (by simp [e])
  · refine State.sends_sendTo (State.fld_congr (hstat _ (by decide))) ?_ ?_ _ _ _
    · obtain ⟨p, q, es, e⟩ := hm
      exact ⟨es, by rw [hdrop, hu, e]; rfl⟩
    · exact State.clearTo.congr hclear' (by rw [hdrop]) (u.ringDrop_regsOutside (by omega) (by decide))
  · refine (State.fld_congr (State.reg_congr hsend.1 _)).trans ((u.ringDrop_ringTail _).trans ?_)
    exact State.fld_congr (State.reg_congr hregs _)
  · rw [State.finish_lmem, hsend.2, hdrop, hu]
    exact hm.lmem

/-! ### Refusals, fault records and triggers (R338, R375, R376) -/

section
variable {s : State} {x : RxPacket} (h : s.heard x)
include h

/-- A NACK is counted, and raises CAS.NACK and F_328. -/
theorem exec_casRxNack_counted : ∃ t, exec (.casRxNack x) s = .next t ∧
    t.fld F.CAS_NACK_CNT 0 = min (s.fld F.CAS_NACK_CNT 0 + 1) 0xFFFFFFFF ∧ t.raised B.CAS 0 5 = true ∧
    328 ∈ t.flt.pair ∧ s.regsOutside t [B.CAS] ∧ t.lmem = s.lmem := by
  have hm := s.delivering_movesPackets 0x07 x
  have hreg := State.reg_congr hm.regs
  refine ⟨_, next_finish (State.receive_heard h _ _ _), ?_, ?_, ?_, fun a ha => ?_, ?_⟩
  · unfold State.msgRefused
    rw [State.finish_fld, State.raiseFault_fld, State.fld_congr (State.reg_event_ne _ _ _ _ _ (by decide)),
      State.fld_bump_same _ _ _ (by decide), State.fld_congr (hreg _)]
    rfl
  · unfold State.msgRefused
    rw [State.finish_raised]
    unfold State.raised
    rw [State.raiseFault_reg]
    exact State.event_bit _ _ _ _ (by decide)
  · rw [State.finish_flt]; exact State.raiseFault_mem _ _
  · have hne : ∀ off, off < 4096 → a ≠ regAddr B.CAS 0 off := fun _ =>
      ne_regAddr_of_blkOf (by simpa using ha) (by decide) (by decide)
    unfold State.msgRefused
    rw [State.finish_reg, State.raiseFault_reg, State.reg_event_ne _ _ _ _ _ (hne 0x010 (by decide)),
      State.reg_bump_ne _ F.CAS_NACK_CNT _ _ (hne F.CAS_NACK_CNT.off (by decide)), hreg]
  · unfold State.msgRefused
    rw [State.finish_lmem, State.raiseFault_lmem, State.event_lmem, State.bump_lmem, hm.lmem]

/-- A tagged record whose tag has no window opens one (R338). -/
theorem exec_casRxFlt_opens (hd : s.domOn .ctl = true) (htag : (FltRec.ofBytes x.data).tag ≠ 0)
    (hpin : bit (FltRec.ofBytes x.data).react 4 = false)
    (hnew : (s.flt.storms.any fun w => w.tag == (FltRec.ofBytes x.data).tag) = false) :
    ∃ t, exec (.casRxFlt x) s = .next t ∧ t.flt.storms = s.flt.storms ++
        [Storm.mk (FltRec.ofBytes x.data).tag (FltRec.ofBytes x.data).tFirst [FltRec.ofBytes x.data]] ∧
      t.regs = s.regs ∧ t.lmem = s.lmem := by
  generalize hrec : FltRec.ofBytes x.data = r at *
  have hm := s.delivering_movesPackets 0x08 x
  generalize hu : s.delivering 0x08 x = u at hm
  have hdom : u.domOn .ctl = true := (State.domOn_congr (State.reg_congr hm.regs _) _).trans hd
  have hno : (s.flt.storms.any fun w => u.stormTakes w r.tag r) = false := by
    refine List.any_eq_false.mpr fun w hw htake => ?_
    have := List.any_eq_false.mp hnew w hw
    simp only [State.stormTakes, Bool.and_eq_true] at htake
    exact this htake.1
  have hrun : casRxFlt x s = u.stormTag r.tag r := by
    refine (State.receive_heard h _ _ _).trans ?_
    rw [hu, hrec]
    simp [State.stormAdd, hdom, htag, hpin]
  refine ⟨_, next_finish hrun, ?_, hm.regs, hm.lmem⟩
  unfold State.stormTag
  rw [State.finish_flt]
  simp only [hm.flt, hno, Bool.false_eq_true, if_false]

/-- A TRIG heard for the first time fires an armed buffer of TSRC 8 (R376). -/
theorem exec_casRxTrig_fires {b : Nat} (hkey : (0x0A, x.src, fieldAt x.data 8 4) ∉ s.cas.seen) (hb : b < 4)
    (hd : s.domOn .ctl = true) (ht : s.tsrc b = 8) (harm : s.luState b = luArmed) :
    ∃ t, exec (.casRxTrig x) s = .next t ∧ s.regsOutside t [B.CAS, B.LUP] ∧ t.luState b = luTriggered ∧
      t.raised B.LUP b 0 = true ∧ t.lmem = s.lmem := by
  have hm := s.delivering_movesPackets 0x0A x
  have hreg := State.reg_congr hm.regs
  obtain ⟨⟨hstate, hraised⟩, hmoves⟩ := State.lupCascade_fires
    (s := (s.delivering 0x0A x).noteSeen (0x0A, x.src, fieldAt x.data 8 4)) hb
    ((State.domOn_congr (hreg _) _).trans hd) ((State.fld_congr (hreg _)).trans ht) ((State.fld_congr (hreg _)).trans harm)
  refine ⟨_, next_finish ((State.receive_heard h _ _ _).trans (State.once_first hm hkey _)), fun a ha => ?_, hstate,
    hraised, hmoves.lmem.trans hm.lmem⟩
  exact (hmoves.outside a fun e => ha (by simp [e])).trans (hreg a)

end

/-! ### The packets of the hop (R371, R379) -/

/-- The other port is as it was. -/
theorem Cas.port_setPort_other (c : Cas) (b : Bool) (p : Port) : (c.setPort b p).port (!b) = c.port (!b) := by
  cases b <;> rfl

/-- LACK takes the packets up to the one named off the port's list. -/
theorem exec_casRxLack_takes {s : State} {b : Bool} (h : Nat) (hear : s.canHear b = true)
    (hq : (s.cas.port b).queue = []) :
    ∃ t, exec (.casRxLack b h) s = .next t ∧
      (t.cas.port b).unacked = (s.cas.port b).unacked.filter (fun x => !ackedBy (h % 256) x.hseq) ∧
      t.cas.port (!b) = s.cas.port (!b) ∧ t.regs = s.regs ∧ t.lmem = s.lmem ∧ t.emitted = s.emitted := by
  obtain ⟨p, hp⟩ : ∃ p, p = { s.cas.port b with
    unacked := (s.cas.port b).unacked.filter fun x => !ackedBy (h % 256) x.hseq } := ⟨_, rfl⟩
  have hrun : casRxLack b h s = s.setPort b p := by
    unfold casRxLack
    rw [if_pos hear]
    refine (State.pumpPort_empty _ _ _ ?_).trans (hp ▸ rfl)
    exact (congrArg Port.queue (Cas.port_setPort _ _ _)).trans hq
  refine ⟨_, next_finish hrun, ?_, Cas.port_setPort_other _ _ _, rfl, rfl, rfl⟩
  exact (congrArg Port.unacked (Cas.port_setPort _ _ _)).trans (hp ▸ rfl)

section
variable (s : State) (b : Bool) (p : Port)

theorem State.reg_setPort (a : Nat) : (s.setPort b p).reg a = s.reg a := rfl
theorem State.fld_setPort (f : Field) (i : Nat) : (s.setPort b p).fld f i = s.fld f i := rfl
theorem State.setPort_lmem : (s.setPort b p).lmem = s.lmem := rfl
theorem State.setPort_emitted : (s.setPort b p).emitted = s.emitted := rfl
theorem State.bumpBy_time (f : Field) (i n : Nat) : (s.bumpBy f i n).time = s.time := by rw [State.bumpBy, State.setFld_time]
theorem State.bumpBy_cas (f : Field) (i n : Nat) : (s.bumpBy f i n).cas = s.cas := by rw [State.bumpBy, State.setFld_cas]
theorem State.bumpBy_lmem (f : Field) (i n : Nat) : (s.bumpBy f i n).lmem = s.lmem := by rw [State.bumpBy, State.setFld_lmem]
theorem State.bumpBy_emitted (f : Field) (i n : Nat) : (s.bumpBy f i n).emitted = s.emitted := by
  rw [State.bumpBy, State.setFld_emitted]
theorem State.port_setPort : (s.setPort b p).cas.port b = p := Cas.port_setPort _ _ _

end

/-- Packets sent again leave in order. -/
theorem State.foldl_emit (s : State) (b : Bool) (ps : List Packet) :
    ps.foldl (fun s x => s.emit (.packet b x)) s = { s with emitted := s.emitted ++ ps.map (Emit.packet b) } := by
  induction ps generalizing s with
  | nil => simp
  | cons p ps ih => rw [List.foldl_cons, ih]; simp [State.emit]

theorem State.regsBut_raiseFault {s t : State} {as : List Nat} (h : s.regsBut t as) (n : Nat) :
    s.regsBut (t.raiseFault n) as := fun a ha => (State.raiseFault_reg _ _ _).trans (h a ha)

/-- Resends are counted on the port's half of CAS_LINK_CNT, and raise F_329 as they pass 1,000 in a second. -/
structure State.resendsCounted (s t : State) (b : Bool) (n : Nat) : Prop where
  count : t.fld (if b then F.CAS_LINK_CNT_B else F.CAS_LINK_CNT_A) 0 =
    min (s.fld (if b then F.CAS_LINK_CNT_B else F.CAS_LINK_CNT_A) 0 + n) 0xFFFF
  fault : s.resentLast b ≤ 1000 → 1000 < s.resentLast b + n → 329 ∈ t.flt.pair
  regs : s.regsBut t [F.CAS_LINK_CNT.addr 0]
  lmem : t.lmem = s.lmem
  emitted : t.emitted = s.emitted
  unacked : (t.cas.port b).unacked = (s.cas.port b).unacked
  queue : (t.cas.port b).queue = (s.cas.port b).queue

/-- The port once `n` resends of the present time are noted. -/
def State.resendNoted (s : State) (b : Bool) (n : Nat) : Port :=
  let recent := (s.cas.port b).resends.filter fun e => decide (s.now < e.1 + 1000000000)
  { s.cas.port b with resends := if n = 0 then recent else recent ++ [(s.now, n)] }

theorem State.resendNoted_kept (s : State) (b : Bool) (n : Nat) :
    (s.resendNoted b n).unacked = (s.cas.port b).unacked ∧ (s.resendNoted b n).queue = (s.cas.port b).queue := ⟨rfl, rfl⟩

theorem State.countResends_counted (s : State) (b : Bool) (n : Nat) : s.resendsCounted (s.countResends b n) b n := by
  have hf : ∃ f : Field, f = (if b then F.CAS_LINK_CNT_B else F.CAS_LINK_CNT_A) ∧ f.lo + f.len ≤ 32 ∧ f.len = 16 ∧
      f.addr 0 = F.CAS_LINK_CNT.addr 0 := by cases b <;> exact ⟨_, rfl, by decide, rfl, rfl⟩
  obtain ⟨f, hf, hlen, h16, haddr⟩ := hf
  have hrun : s.countResends b n = if s.resentLast b ≤ 1000 ∧ 1000 < s.resentLast b + n then
      ((s.bumpBy f 0 n).setPort b (s.resendNoted b n)).raiseFault 329
    else (s.bumpBy f 0 n).setPort b (s.resendNoted b n) := by
    have hnow : (s.bumpBy f 0 n).now = s.now := congrArg BitVec.toNat (State.bumpBy_time ..)
    have hcas : (s.bumpBy f 0 n).cas = s.cas := State.bumpBy_cas ..
    unfold State.countResends State.resentLast State.resendNoted
    rw [← hf]
    simp only [hnow, hcas]
  have hport : ((s.bumpBy f 0 n).setPort b (s.resendNoted b n)).cas.port b = s.resendNoted b n := State.port_setPort ..
  have hkept := s.resendNoted_kept b n
  have hcount : (s.bumpBy f 0 n).fld f 0 = min (s.fld f 0 + n) 0xFFFF := by
    unfold State.bumpBy
    rw [State.fld_setFld_same _ _ _ _ hlen, h16]
    exact (Nat.mod_eq_of_lt (by omega)).trans (by norm_num)
  have hregs : s.regsBut ((s.bumpBy f 0 n).setPort b (s.resendNoted b n)) [F.CAS_LINK_CNT.addr 0] := fun a ha =>
    (State.reg_setPort ..).trans (State.reg_setFld_ne _ _ _ _ _ fun e => ha (by simp [e, haddr]))
  have hlmem : ((s.bumpBy f 0 n).setPort b (s.resendNoted b n)).lmem = s.lmem :=
    (State.setPort_lmem ..).trans (State.bumpBy_lmem ..)
  have hemitted : ((s.bumpBy f 0 n).setPort b (s.resendNoted b n)).emitted = s.emitted :=
    (State.setPort_emitted ..).trans (State.bumpBy_emitted ..)
  rw [hrun]
  split
  case isTrue hover =>
    refine ⟨?_, fun _ _ => State.raiseFault_mem _ _, State.regsBut_raiseFault hregs _, ?_, ?_, ?_, ?_⟩
    · rw [← hf, State.raiseFault_fld, State.fld_setPort, hcount]
    · rw [State.raiseFault_lmem, hlmem]
    · rw [State.raiseFault_emitted, hemitted]
    · rw [State.raiseFault_cas, hport, hkept.1]
    · rw [State.raiseFault_cas, hport, hkept.2]
  case isFalse hover =>
    refine ⟨?_, fun hle hgt => absurd ⟨hle, hgt⟩ hover, hregs, hlmem, hemitted, by rw [hport, hkept.1], by rw [hport, hkept.2]⟩
    rw [← hf, State.fld_setPort, hcount]

/-- LNAK takes the packets before the one named off the list, and the others are sent again. -/
theorem exec_casRxLnak_resends {s : State} {b : Bool} (h : Nat) {again : List Packet} (hear : s.canHear b = true)
    (hq : (s.cas.port b).queue = [])
    (hagain : (s.cas.port b).unacked.filter (fun x => !ackedBy ((h + 255) % 256) x.hseq) = again) :
    ∃ t, exec (.casRxLnak b h) s = .next t ∧ (t.cas.port b).unacked = again ∧
      t.emitted = s.emitted ++ again.map (Emit.packet b) ∧
      t.fld (if b then F.CAS_LINK_CNT_B else F.CAS_LINK_CNT_A) 0 =
        min (s.fld (if b then F.CAS_LINK_CNT_B else F.CAS_LINK_CNT_A) 0 + again.length) 0xFFFF ∧
      (s.resentLast b ≤ 1000 → 1000 < s.resentLast b + again.length → 329 ∈ t.flt.pair) ∧
      s.regsBut t [F.CAS_LINK_CNT.addr 0] ∧ t.lmem = s.lmem := by
  obtain ⟨u, hu⟩ : ∃ u, u = s.setPort b { s.cas.port b with unacked := again } := ⟨_, rfl⟩
  have hport : u.cas.port b = { s.cas.port b with unacked := again } := by rw [hu]; exact Cas.port_setPort _ _ _
  have hc := u.countResends_counted b again.length
  have hrun : casRxLnak b h s = { u.countResends b again.length with
      emitted := (u.countResends b again.length).emitted ++ again.map (Emit.packet b) } := by
    unfold casRxLnak
    rw [if_pos hear]
    simp only [hagain, ← hu, State.foldl_emit]
    exact State.pumpPort_empty _ _ _ (hc.queue.trans (by rw [hport]; exact hq))
  have hlast : u.resentLast b = s.resentLast b := by unfold State.resentLast; rw [hport, hu]; rfl
  refine ⟨_, next_finish hrun, hc.unacked.trans (by rw [hport]), ?_, ?_, ?_, fun a ha => ?_, ?_⟩
  · exact congrArg (· ++ again.map (Emit.packet b)) (hc.emitted.trans (by rw [hu]; rfl))
  · exact hc.count.trans (by rw [hu]; rfl)
  · exact fun hle hgt => hc.fault (hlast ▸ hle) (hlast ▸ hgt)
  · exact (hc.regs a ha).trans (by rw [hu]; rfl)
  · exact hc.lmem.trans (by rw [hu]; rfl)

/-- An answer over the hop leaves at once, and nothing else changes. -/
theorem State.hop_answers {s : State} {b : Bool} (hear : s.canHear b = true) (typ tag : Nat) :
    s.sends (s.finish (s.hop b typ tag)) typ 0xFE tag [] = true ∧ (s.finish (s.hop b typ tag)).cas = s.cas ∧
      (s.finish (s.hop b typ tag)).regs = s.regs ∧ (s.finish (s.hop b typ tag)).lmem = s.lmem := by
  have hup := State.portUp_of_canHear hear
  refine ⟨s.sends_hop b typ tag hup, ?_⟩
  rw [s.hop_up b typ tag hup]
  exact ⟨rfl, rfl, rfl⟩

theorem exec_casRxBadPacket_answers {s : State} {b : Bool} (hear : s.canHear b = true) :
    ∃ t, exec (.casRxBadPacket b) s = .next t ∧ s.sends t 0x15 0xFE (s.cas.port b).hseqRx [] = true ∧ t.cas = s.cas ∧
      t.regs = s.regs ∧ t.lmem = s.lmem :=
  ⟨_, next_finish (if_pos hear), State.hop_answers hear _ _⟩

/-- A packet one ahead of the one awaited is not delivered. -/
theorem State.receive_ahead {s : State} {x : RxPacket} (hear : s.canHear x.portB = true)
    (hseq : x.hseq = ((s.cas.port x.portB).hseqRx + 1) % 256) (typ : Nat)
    (home deliver : State → State) :
    s.receive typ x home deliver = s.hop x.portB 0x15 (s.cas.port x.portB).hseqRx := by
  unfold State.receive
  dsimp only
  rw [if_neg (by simp [hear]), if_pos (by omega), if_neg (by omega)]

theorem exec_casRxWr_ahead {s : State} {x : RxPacket} (hear : s.canHear x.portB = true)
    (hseq : x.hseq = ((s.cas.port x.portB).hseqRx + 1) % 256) :
    ∃ t, exec (.casRxWr x) s = .next t ∧ s.sends t 0x15 0xFE (s.cas.port x.portB).hseqRx [] = true ∧ t.cas = s.cas ∧
      t.regs = s.regs ∧ t.lmem = s.lmem :=
  ⟨_, next_finish (State.receive_ahead hear hseq _ _ _), State.hop_answers hear _ _⟩

/-- Settles O55: each clause is what the packet's own lemma says of a node that hears it. -/
theorem cascadeMessages : Obligations.CascadeMessages := by
  unfold Obligations.CascadeMessages
  refine ⟨fun s x h htag hkey hen hw hroom hready hsh => ?msg,
    fun s x h hdst htag hkey hen hc => exec_casRxMsg_refused h hdst htag hkey hen hc,
    fun s x h => exec_casRxNack_counted h,
    fun s x h hd htag hpin hnew => exec_casRxFlt_opens h hd htag hpin hnew,
    fun s x h hen hw hroom hready hsh => ?evt,
    fun s x b h hkey hb hd ht harm => exec_casRxTrig_fires h hkey hb hd ht harm,
    fun s b h hear hq => exec_casRxLack_takes h hear hq,
    fun s b h again hear hq hagain => exec_casRxLnak_resends h hear hq hagain,
    fun s b => ⟨_, rfl, rfl⟩,
    fun s b hear => exec_casRxBadPacket_answers hear,
    fun s x hear hseq _ => exec_casRxWr_ahead hear hseq⟩
  case msg =>
    obtain ⟨t, he, hlmem, htail, hregs, -⟩ := exec_casRxMsg_written h htag hkey ⟨by omega, hen, hw, hroom, hready, hsh⟩
    exact ⟨_, he, hlmem, htail, hregs⟩
  case evt =>
    obtain ⟨t, he, hlmem, htail, hregs, -⟩ := exec_casRxEvt_written h ⟨by omega, hen, hw, hroom, hready, hsh⟩
    have hbytes : eventEntry x.src 0 x.data = leBytes 1 2 ++ leBytes 1 x.src ++ leBytes 6 0 ++ takeAt x.data 0 24 := rfl
    exact ⟨_, he, hbytes ▸ hlmem, htail, hregs⟩

end Sys2Proof.Machine
end

section
/-! SUPPORT. What the rings, and the course of one frame, leave alone (R28, R29, R39, R40, R52, R54). A proof follows the
operation's own steps and branches, and says of each register written that `W` allows it. -/

namespace Sys2Proof.Machine

/-! ### Registers of the rings -/

/-- A register of a ring's page, but for its head: the head is the host's, or moves as an entry is taken. -/
def ringReg (a : Nat) : Prop := blkOf a = B.APR ∧ 0x20 ≤ instOf a ∧ offOf a ≠ F.RING_HEAD.off

theorem ringReg_page {r off : Nat} (hr : r < 32) (ho : off < 4096) (h : off ≠ F.RING_HEAD.off) :
    ringReg (regAddr B.APR (ringInst r) off) := by
  have hi : ringInst r < 256 := by unfold ringInst; omega
  refine ⟨blkOf_regAddr _ _ _ (by decide) hi ho, ?_, ?_⟩
  · rw [instOf_regAddr _ _ _ hi ho]; exact Nat.le_add_right _ _
  · rwa [offOf_regAddr _ _ _ ho]

theorem ringReg_field {f : Field} {r : Nat} (hr : r < 32) (hb : f.blk = B.APR) (ho : f.off < 4096)
    (hh : f.off ≠ F.RING_HEAD.off) : ringReg (f.addr (ringInst r)) := by
  unfold Field.addr
  rw [hb]
  exact ringReg_page hr ho hh

theorem ringReg_evt {r : Nat} (hr : r < 32) : ringReg (evtAddr B.APR (ringInst r)) :=
  ringReg_page hr (by decide) (by decide)

theorem Ctx.evRing_lt (x : Ctx) : x.evRing < 32 := by
  have := bits_lt (fieldAt x.desc 0x1B 1) 0 2
  unfold Ctx.evRing; omega

theorem Ctx.audRing_lt (x : Ctx) : x.audRing < 32 := by
  have := bits_lt (fieldAt x.desc 0x1B 1) 2 2
  unfold Ctx.audRing; omega

/-! ### Contexts read and written -/

section
variable (s : State) (c d : Nat) (x : Ctx)

theorem State.ctx_setCtx_same : (s.setCtx c x).ctx c = x := Sparse.get_set_same _ _ _ _

theorem State.ctx_setCtx_ne (h : d ≠ c) : (s.setCtx c x).ctx d = s.ctx d := Sparse.get_set_ne _ _ _ _ _ h

theorem State.ctx_congr {t : State} (h : t.ctxs = s.ctxs) : t.ctx d = s.ctx d := by unfold State.ctx; rw [h]

/-- A write lists nothing but the entry written and what was listed under other numbers. -/
theorem Sparse.mem_set {α : Type} [DecidableEq α] {f : Nat → α} {m : Sparse α} {a : Nat} {v : α} {e : Nat × α}
    (h : e ∈ m.set f a v) : e = (a, v) ∨ (e ∈ m ∧ e.1 ≠ a) := by
  have herase : e ∈ m.erase a → e ∈ m ∧ e.1 ≠ a := fun he => ⟨List.mem_of_mem_filter he, Sparse.erase_keys a m e he⟩
  unfold Sparse.set at h
  split at h
  · exact .inr (herase h)
  · exact ((Sparse.mem_insert a v _ e).mp h).imp_right herase

end

/-! ### Updates beside the contexts -/

/-- Outside `W` no register of `t` differs from that of `s`, and no context; nor do the hits of a poison resolution. -/
structure State.moves (W : Nat → Prop) (s t : State) : Prop where
  regs : ∀ a, ¬ W a → t.reg a = s.reg a
  ctxs : t.ctxs = s.ctxs
  hits : t.fst.hits = s.fst.hits

namespace State.moves

protected theorem refl (W : Nat → Prop) (s : State) : s.moves W s := ⟨fun _ _ => rfl, rfl, rfl⟩

section
variable {W : Nat → Prop} {s t u : State} (h : s.moves W t)
include h

theorem trans (h' : t.moves W u) : s.moves W u :=
  ⟨fun a ha => (h'.regs a ha).trans (h.regs a ha), h'.ctxs.trans h.ctxs, h'.hits.trans h.hits⟩

theorem ite {c : Prop} [Decidable c] (hu : s.moves W u) : s.moves W (if c then t else u) := by split <;> assumption

theorem forAll {xs : List Nat} {f : State → Nat → State} (hf : ∀ u x, s.moves W u → s.moves W (f u x)) :
    s.moves W (forAll xs t f) := forAll_keeps (s.moves W ·) (fun u x _ => hf u x) h

/-- What stands beside registers, contexts and FST may change freely. -/
theorem beside (hr : u.regs = t.regs) (hc : u.ctxs = t.ctxs) (hf : u.fst = t.fst) : s.moves W u :=
  ⟨fun a ha => (State.reg_congr hr a).trans (h.regs a ha), hc.trans h.ctxs, (congrArg Fst.hits hf).trans h.hits⟩

theorem packets (hu : t.movesPackets u) : s.moves W u := h.beside hu.regs hu.ctxs hu.fst

end

section
variable {W : Nat → Prop} {s t : State} (h : s.moves W t) {a b c i n r v : Nat} {w : Word} {f : Field} {x : Bool}
  {bs : List Byte} {p : Packet} {m : Mode}
include h

theorem setReg (ha : W a) : s.moves W (t.setReg a w) :=
  ⟨fun b hb => (State.reg_setReg_ne _ _ _ _ fun e => hb (by rwa [e])).trans (h.regs b hb), h.ctxs, h.hits⟩
theorem setFld (ha : W (f.addr i)) : s.moves W (t.setFld f i v) := h.setReg ha
theorem setFlag (ha : W (f.addr i)) : s.moves W (t.setFlag f i x) := h.setFld ha
theorem setPair64 (ha : W (f.addr i)) (hb : W (f.addr i + 4)) : s.moves W (t.setPair64 f i v) := (h.setReg ha).setReg hb
theorem event (ha : W (evtAddr b i)) : s.moves W (t.event b i n) :=
  ⟨fun a hna => (State.reg_event_ne _ _ _ _ _ fun e => hna (by rw [e]; exact ha)).trans (h.regs a hna),
    (State.event_ctxs ..).trans h.ctxs, (congrArg Fst.hits (State.event_fst ..)).trans h.hits⟩
theorem bump (ha : W (f.addr i)) : s.moves W (t.bump f i) := (h.setFld ha).ite h

theorem withSys {q : Sys} : s.moves W { t with sys := q } :=
  ⟨h.regs, h.ctxs, h.hits⟩
theorem withRingq {q : RingQ} : s.moves W { t with ringq := q } :=
  ⟨h.regs, h.ctxs, h.hits⟩
theorem withAtt {q : Att} : s.moves W { t with att := q } :=
  ⟨h.regs, h.ctxs, h.hits⟩
theorem withApr {q : Apr} : s.moves W { t with apr := q } :=
  ⟨h.regs, h.ctxs, h.hits⟩
theorem withFst {q : Fst} (hq : q.hits = t.fst.hits) : s.moves W { t with fst := q } := ⟨h.regs, h.ctxs, hq.trans h.hits⟩
theorem withSched {q : Sched} : s.moves W { t with sched := q } :=
  ⟨h.regs, h.ctxs, h.hits⟩
theorem storeHost : s.moves W (t.storeHost n bs) := ⟨h.regs, h.ctxs, h.hits⟩
theorem storeLmem : s.moves W (t.storeLmem n bs) := ⟨h.regs, h.ctxs, h.hits⟩
theorem sendTo : s.moves W (t.sendTo p) := h.packets (State.movesPackets.refl t).sendTo

/-! Rings -/

section
variable (hring : ∀ a, ringReg a → W a)
include hring

theorem ringDrop (hr : r < 32) : s.moves W (t.ringDrop r) :=
  (h.bump (hring _ (ringReg_field hr rfl (by decide) (by decide)))).event (hring _ (ringReg_evt hr))
theorem setTail (hr : r < 32) : s.moves W (t.setTail r n) :=
  have ht := h.setFld (f := F.RING_TAIL_INDEX) (v := n) (hring _ (ringReg_field hr rfl (by decide) (by decide)))
  ht.storeHost.ite ht
theorem ringPut (hr : r < 32) : s.moves W (t.ringPut r bs) := (h.storeHost.ite h.storeLmem).setTail hring hr
theorem ringRelease (hr : r < 32) : s.moves W (t.ringRelease r n) :=
  h.setFld (f := F.RING_RSV_COUNT) (hring _ (ringReg_field hr rfl (by decide) (by decide)))
theorem ringReserve (hr : r < 32) : s.moves W (t.ringReserve r n) :=
  h.setFld (f := F.RING_RSV_COUNT) (hring _ (ringReg_field hr rfl (by decide) (by decide)))
theorem putUnreserved (hr : r < 32) : s.moves W (t.putUnreserved r bs) :=
  (h.ringDrop hring hr).ite ((h.ringPut hring hr).ite (h.withRingq.ite (h.ringDrop hring hr)))
theorem putReserved (hr : r < 32) : s.moves W (t.putReserved r bs) :=
  ((h.ringRelease hring hr).ringPut hring hr).ite (h.ringRelease hring hr).withRingq
theorem forwardEvent : s.moves W (t.forwardEvent r bs) :=
  ((h.putUnreserved hring (by decide)).ite h.sendTo).ite h
theorem writeEvent {e : EvRec} (hr : r < 32) : s.moves W (t.writeEvent r x e) :=
  ((h.putReserved hring hr).ite (h.putUnreserved hring hr)).forwardEvent hring

end

/-! Changes of mode -/

theorem beginMode : s.moves W (t.beginMode m x c) := ⟨h.regs, h.ctxs, h.hits⟩

section
variable (hsys : W (evtAddr B.SYS 0))
include hsys

theorem refuse : s.moves W (t.refuse c) := h.withSys.event hsys
theorem deviceMode : s.moves W (t.deviceMode m) := by
  unfold State.deviceMode
  split
  · exact h.beginMode
  · exact (h.withSys.refuse hsys).beginMode.ite h
theorem printCheck : s.moves W t.printCheck :=
  h.ite ((h.deviceMode hsys).ite ((h.deviceMode hsys).ite h))

end

/-! Plane records -/

section
variable (hfst : W (F.FST_STAT.addr 0))
include hfst

theorem fstStat : s.moves W t.fstStat :=
  ((h.setFld (f := F.FST_STAT_N_REC) hfst).setFlag (f := F.FST_STAT_OPENING) hfst).setFlag (f := F.FST_STAT_OWNCHK) hfst
theorem setRec {q : Option PlaneRec} : s.moves W (t.setRec i q) := fstStat (withFst h rfl) hfst
theorem freeRecs : s.moves W (t.freeRecs c) :=
  have hall := h.forAll (xs := t.recsOf c) (f := fun s i => s.setRec i none) fun _ _ hu => hu.setRec hfst
  fstStat (withFst hall rfl) hfst

end

end
end State.moves

end Sys2Proof.Machine
end

section
/-! SUPPORT. The course of one frame: how each operation leaves its context, and that it leaves every other one alone
(R29, R40, R50, R51, R52, R157). -/

namespace Sys2Proof.Machine

/-- Context `c` of `t` reads `x`; every other one is as in `s`, as is every register outside `W`. -/
structure State.framed (W : Nat → Prop) (c : Nat) (x : Ctx) (s t : State) : Prop where
  regs : ∀ a, ¬ W a → t.reg a = s.reg a
  own : t.ctx c = x
  others : ∀ d, d ≠ c → t.ctx d = s.ctx d
  listed : ∀ e ∈ t.ctxs, e ∈ s.ctxs ∨ e = (c, x)
  hits : t.fst.hits = s.fst.hits

namespace State.framed

protected theorem refl (W : Nat → Prop) (c : Nat) (s : State) : s.framed W c (s.ctx c) s :=
  ⟨fun _ _ => rfl, rfl, fun _ _ => rfl, fun _ he => .inl he, rfl⟩

variable {W : Nat → Prop} {c : Nat} {x y : Ctx} {s t u : State}

/-- Updates beside the contexts. -/
theorem beside (h : s.framed W c x t) (h' : t.moves W u) : s.framed W c x u :=
  ⟨fun a ha => (h'.regs a ha).trans (h.regs a ha), (t.ctx_congr c h'.ctxs).trans h.own,
    fun d hd => (t.ctx_congr d h'.ctxs).trans (h.others d hd), fun e he => h.listed e (h'.ctxs ▸ he), h'.hits.trans h.hits⟩

theorem setCtx (h : s.framed W c x t) (y : Ctx) : s.framed W c y (t.setCtx c y) where
  regs := h.regs
  own := t.ctx_setCtx_same c y
  others := fun d hd => (t.ctx_setCtx_ne c d y hd).trans (h.others d hd)
  hits := h.hits
  listed := fun e he => by
    rcases Sparse.mem_set (show e ∈ t.ctxs.set (fun _ => Ctx.init) c y from he) with hy | ⟨hmem, hne⟩
    · exact .inr hy
    · exact (h.listed e hmem).imp_right fun hx => absurd (congrArg Prod.fst hx) hne

section
variable (hring : ∀ a, ringReg a → W a)
include hring

theorem returnSlots (h : s.framed W c x t) : s.framed W c { x with evRsv := 0 } (t.returnSlots c) := by
  unfold State.returnSlots
  rw [h.own]
  exact (h.beside ((State.moves.refl W t).ringRelease hring x.evRing_lt)).setCtx _

variable (hapr : W (evtAddr B.APR 0))
include hapr

/-- An event record uses up a reserved slot where it may, and leaves the rest of the context. -/
theorem frameEvent (h : s.framed W c x t) (ev cause reason arg : Nat) (res : Bool) :
    ∃ n, s.framed W c { x with evRsv := n } (t.frameEvent c ev cause reason arg res) := by
  obtain ⟨n, u, hu, e⟩ : ∃ n u, s.framed W c { x with evRsv := n } u ∧ t.frameEvent c ev cause reason arg res =
      (u.event B.APR 0 ev).writeEvent (t.ctx c).evRing (res && decide (0 < (t.ctx c).evRsv))
        { blk := B.APR, ev := ev, ctx := c, cause := cause, reason := reason, serial := (t.ctx c).serial, arg := arg } := by
    unfold State.frameEvent
    rw [h.own]
    dsimp only
    split
    · exact ⟨_, _, h.setCtx { x with evRsv := x.evRsv - 1 }, rfl⟩
    · exact ⟨x.evRsv, _, h, rfl⟩
  refine ⟨n, hu.beside ?_⟩
  rw [e]
  exact ((State.moves.refl W u).event hapr).writeEvent hring (t.ctx c).evRing_lt

end

section
variable (hatt : W (F.ATT_STAT.addr 0))
include hatt

/-- A counter assigned changes neither the state of a frame nor its cause. -/
theorem assignCounter (h : s.framed W c x t) :
    ∃ y, s.framed W c y (t.assignCounter c) ∧ y.st = x.st ∧ y.cause = x.cause := by
  unfold State.assignCounter
  rw [h.own]
  dsimp only
  split
  · exact ⟨x, h, rfl, rfl⟩
  · refine ⟨{ x with counter := some t.att.next, gap := t.att.gapNext, genesis := t.att.genNext }, ?_, rfl, rfl⟩
    exact (h.setCtx _).beside ((State.moves.refl W _).withAtt.setFld (f := F.ATT_STAT_PEND) hatt)

/-- R51's clock changes neither the state of a frame nor its cause. -/
theorem clockStart (hring : ∀ a, ringReg a → W a) (h : s.framed W c x t) :
    ∃ y, s.framed W c y (t.clockStart c) ∧ y.st = x.st ∧ y.cause = x.cause := by
  unfold State.clockStart
  rw [h.own]
  dsimp only
  split
  · obtain ⟨y, hy, hst, hcause⟩ := (h.setCtx { x with tEnd := t.now, stopped := true }).assignCounter hatt
    split
    · exact ⟨y, hy, hst, hcause⟩
    · exact ⟨_, hy.returnSlots hring, hst, hcause⟩
  · exact ⟨x, h, rfl, rfl⟩

end

section
variable (hring : ∀ a, ringReg a → W a) (hsys : W (evtAddr B.SYS 0))
include hring hsys

/-- A cause that strikes an ADMITTED or EXPOSING frame spoils it (R50). -/
theorem spoil (hapr : W (evtAddr B.APR 0)) (hatt : W (F.ATT_STAT.addr 0)) (h : s.framed W c x t)
    (hst : x.st = .admitted ∨ x.st = .exposing) (cause src : Nat) :
    ∃ y, s.framed W c y (t.spoil c cause src) ∧ y.st = .spoiled ∧ y.cause = cause := by
  unfold State.spoil State.spoilWith
  rw [h.own]
  dsimp only
  rw [if_pos hst]
  have hspoilt := h.setCtx { x with st := .spoiled, cause := cause, causeSrc := src, causeFacets := t.facetsNow }
  obtain ⟨n, hev⟩ := hspoilt.frameEvent hring hapr evSpoil cause 0 (t.plainArg x) true
  split
  · obtain ⟨y, hy, hst', hcause⟩ := hev.clockStart hatt hring
    exact ⟨y, hy.beside ((State.moves.refl W _).printCheck hsys), hst', hcause⟩
  · exact ⟨_, hev.beside ((State.moves.refl W _).printCheck hsys), rfl, rfl⟩

/-- A DELIVERED frame retires as soon as its receipt is passed (R29). -/
theorem tryRetire_delivered (hfst : W (F.FST_STAT.addr 0)) (h : s.framed W c x t) (hst : x.st = .delivered) :
    ∃ y, s.framed W c y (t.tryRetire c) ∧ y.st = if x.passed = true then .retired else .delivered := by
  unfold State.tryRetire
  rw [h.own]
  by_cases hp : x.passed = true
  · have hret := (h.beside ((State.moves.refl W t).freeRecs hfst (c := c))).returnSlots hring
    rw [if_pos (by simp [hp, hst]), if_pos hp]
    dsimp only
    rw [hret.own]
    exact ⟨_, (hret.setCtx { x with evRsv := 0, st := .retired }).beside ((State.moves.refl W _).printCheck hsys), rfl⟩
  · rw [if_neg (by simp [hp]), if_neg hp]
    exact ⟨x, h, hst⟩

end
end State.framed

/-- The record of an event of the Aperture leaves the event raised. -/
theorem State.writeEvent_raised (s : State) {n r : Nat} (hn : n < 32) (hr : r < 32) (res : Bool) (e : EvRec) :
    ((s.event B.APR 0 n).writeEvent r res e).raised B.APR 0 n = true := by
  have hkeep := ((State.moves.refl ringReg (s.event B.APR 0 n)).writeEvent (fun _ ha => ha) hr (x := res) (e := e)).regs
    (evtAddr B.APR 0) (fun ha => by obtain ⟨-, hinst, -⟩ := ha; exact absurd hinst (by decide))
  unfold State.raised
  rw [hkeep]
  exact State.event_bit _ _ _ _ hn

theorem State.frameEvent_raised (s : State) (c ev cause reason arg : Nat) (res : Bool) (h : ev < 32) :
    (s.frameEvent c ev cause reason arg res).raised B.APR 0 ev = true :=
  State.writeEvent_raised _ h (s.ctx c).evRing_lt _ _

end Sys2Proof.Machine
end

section
/-! PROOFS. Frames on the transport, poison resolutions, and the records that wait for a ring (R29, R40, R52, R68). -/

namespace Sys2Proof.Machine

/-! ### Fusing and delivery -/

theorem exec_frameFused_fuses {s : State} {c : Nat}
    (h : s.passedBy .exposed ((s.reg (F.APR_FUSE_DIST.addr 0)).toNat) = some c) :
    ∃ t, exec .frameFused s = .next t ∧ (t.ctx c).st = .fused ∧ (∀ d, d ≠ c → t.ctx d = s.ctx d) ∧ t.regs = s.regs ∧
      t.lmem = s.lmem ∧ t.emitted = s.emitted := by
  obtain ⟨x, hrun, hx⟩ : ∃ x : Ctx, frameFused s = s.setCtx c x ∧ x.st = .fused := by
    unfold frameFused
    rw [h]
    exact ⟨_, rfl, rfl⟩
  exact ⟨_, next_finish hrun, (congrArg Ctx.st (s.ctx_setCtx_same c x)).trans hx, fun d hd => s.ctx_setCtx_ne c d x hd,
    rfl, rfl, rfl⟩

/-- A register of APR, FST or SYS. -/
abbrev framePage (a : Nat) : Prop := blkOf a ∈ [B.APR, B.FST, B.SYS]

theorem framePage_ring : ∀ a, ringReg a → framePage a := fun _ h => by simp [framePage, h.1]
theorem framePage_apr : framePage (evtAddr B.APR 0) := by decide
theorem framePage_sys : framePage (evtAddr B.SYS 0) := by decide
theorem framePage_fst : framePage (F.FST_STAT.addr 0) := by decide

/-- What the end of a frame writes beside raising its event: registers of its rings, of FST and of SYS. -/
def frameEndReg (a : Nat) : Prop := ringReg a ∨ blkOf a = B.FST ∨ blkOf a = B.SYS

theorem not_frameEndReg_evt : ¬ frameEndReg (evtAddr B.APR 0) := by
  rintro (⟨-, hinst, -⟩ | hblk)
  · exact absurd hinst (by decide)
  · exact absurd hblk (by decide)

/-- Where no entry of the list is SPOILED, none is found. -/
theorem State.ctxsWith_spoiled_nil {s : State} (h : ∀ e ∈ s.ctxs, e.2.st ≠ .spoiled) :
    s.ctxsWith (fun x => decide (x.st = .spoiled)) = [] := by
  unfold State.ctxsWith
  rw [List.map_eq_nil_iff, List.filter_eq_nil_iff]
  simpa using h

theorem State.not_spoiled_of_ctxsWith_nil {s : State} (h : s.ctxsWith (fun x => decide (x.st = .spoiled)) = []) :
    ∀ e ∈ s.ctxs, e.2.st ≠ .spoiled := by
  unfold State.ctxsWith at h
  rw [List.map_eq_nil_iff, List.filter_eq_nil_iff] at h
  simpa using h

theorem exec_frameDelivered_delivers {s : State} {c : Nat}
    (h : s.passedBy .fused ((s.reg (F.APR_DLV_DIST.addr 0)).toNat) = some c)
    (hspoilt : s.ctxsWith (fun x => decide (x.st = .spoiled)) = []) :
    ∃ t, exec .frameDelivered s = .next t ∧ s.regsOutside t [B.APR, B.FST, B.SYS] ∧ t.raised B.APR 0 4 = true ∧
      (t.ctx c).st = (if (s.ctx c).passed = true then .retired else .delivered) ∧ (∀ d, d ≠ c → t.ctx d = s.ctx d) := by
  obtain ⟨u, arg, hu, hrun⟩ : ∃ u arg,
      u = (s.setCtx c { s.ctx c with st := .delivered }).frameEvent c evDelivered 0 0 arg true ∧
      frameDelivered s = forAll (((u.tryRetire c).printCheck).ctxsWith fun x => x.st = .spoiled)
        (u.tryRetire c).printCheck State.tryRetire := by
    unfold frameDelivered
    rw [h]
    exact ⟨_, _, rfl, rfl⟩
  obtain ⟨n, hev⟩ := ((State.framed.refl framePage c s).setCtx { s.ctx c with st := .delivered }).frameEvent framePage_ring
    framePage_apr evDelivered 0 0 arg true
  rw [← hu] at hev
  obtain ⟨y, hret, hst⟩ := hev.tryRetire_delivered framePage_ring framePage_sys framePage_fst rfl
  have hend := hret.beside ((State.moves.refl _ _).printCheck framePage_sys)
  have hlisted : ∀ e ∈ ((u.tryRetire c).printCheck).ctxs, e.2.st ≠ .spoiled := fun e he => by
    rcases hend.listed e he with hs | rfl
    · exact State.not_spoiled_of_ctxsWith_nil hspoilt e hs
    · rw [hst]; split <;> decide
  rw [State.ctxsWith_spoiled_nil hlisted] at hrun
  refine ⟨_, next_finish hrun, hend.regs, ?_, (congrArg Ctx.st hend.own).trans hst, hend.others⟩
  obtain ⟨z, hz, -⟩ := (State.framed.refl frameEndReg c u).tryRetire_delivered (fun _ ha => .inl ha) (.inr (.inr (by decide)))
    (.inr (.inl (by decide))) (by rw [hev.own])
  have hkept := (hz.beside ((State.moves.refl _ _).printCheck (.inr (.inr (by decide))))).regs _ not_frameEndReg_evt
  show bit _ 4 = true
  rw [State.finish_reg]
  exact (congrArg (fun w : Word => bit w.toNat 4) (hkept.trans (by rw [hu]))).trans
    (State.frameEvent_raised _ c evDelivered 0 0 arg true (by decide))

/-! ### Poison marked -/

theorem State.planeRec_congr {s t : State} (h : t.fst.recs = s.fst.recs) (i : Nat) : t.planeRec i = s.planeRec i := by
  unfold State.planeRec; rw [h]

/-- The registers of FST apart, `t` reads as `s`; so do its contexts, its list of marked addresses, and the records of the
slots in `K`. -/
structure State.recMoves (K : Nat → Prop) (s t : State) : Prop where
  regs : ∀ a, blkOf a ≠ B.FST → t.reg a = s.reg a
  handed : t.ecc.handed = s.ecc.handed
  ctxs : t.ctxs = s.ctxs
  recs : ∀ i, K i → t.planeRec i = s.planeRec i

theorem State.fstStat_moves (s : State) : s.moves (fun a => blkOf a = B.FST) s.fstStat :=
  (State.moves.refl _ s).fstStat (by decide)

theorem State.fstStat_fst (s : State) : s.fstStat.fst = s.fst := by simp [State.fstStat]
theorem State.fstStat_ecc (s : State) : s.fstStat.ecc = s.ecc := by simp [State.fstStat]
theorem State.fstStat_lmem (s : State) : s.fstStat.lmem = s.lmem := by simp [State.fstStat]
theorem State.fstStat_poison (s : State) : s.fstStat.poison = s.poison := by simp [State.fstStat]

namespace State.recMoves

variable {K : Nat → Prop} {s t : State}

theorem fstStat (h : s.recMoves K t) : s.recMoves K t.fstStat where
  regs := fun a ha => (t.fstStat_moves.regs a ha).trans (h.regs a ha)
  handed := (congrArg Ecc.handed t.fstStat_ecc).trans h.handed
  ctxs := t.fstStat_moves.ctxs.trans h.ctxs
  recs := fun i hi => (State.planeRec_congr (congrArg Fst.recs t.fstStat_fst) i).trans (h.recs i hi)

theorem setRec (h : s.recMoves K t) {j : Nat} (hj : ¬ K j) (q : Option PlaneRec) : s.recMoves K (t.setRec j q) := by
  have hset : s.recMoves K { t with fst := { t.fst with recs := t.fst.recs.set (fun _ => none) j q } } :=
    ⟨h.regs, h.handed, h.ctxs, fun i hi => (Sparse.get_set_ne _ _ _ _ _ fun e => hj (by rwa [← e])).trans (h.recs i hi)⟩
  exact hset.fstStat

theorem event (h : s.recMoves K t) (n : Nat) : s.recMoves K (t.event B.FST 0 n) where
  regs := fun a ha =>
    have hne : a ≠ evtAddr B.FST 0 := ne_regAddr_of_blkOf ha (by decide) (by decide) (by decide)
    (State.reg_event_ne _ _ _ _ _ hne).trans (h.regs a ha)
  handed := (congrArg Ecc.handed (State.event_ecc ..)).trans h.handed
  ctxs := (State.event_ctxs ..).trans h.ctxs
  recs := fun i hi => (State.planeRec_congr (congrArg Fst.recs (State.event_fst ..)) i).trans (h.recs i hi)

theorem setStatus (h : s.recMoves K t) {j : Nat} (hj : ¬ K j) (i st : Nat) : s.recMoves K (t.setStatus j i st) := by
  unfold State.setStatus
  split
  next r _ => exact State.recMoves.setRec (t := t.storeLmem _ _) ⟨h.regs, h.handed, h.ctxs, h.recs⟩ hj _
  · exact h

/-- A resolution touches no record but its own, and that only where the mark meets it. -/
theorem resolveRec (h : s.recMoves K t) {a j : Nat} (hK : K j → (s.planeRec j).any (fun p => p.meets a 128) = false) :
    s.recMoves K (t.resolveRec a j) := by
  unfold State.resolveRec
  split
  next r hr =>
    split
    · exact h
    · next hmeets =>
      have hj : ¬ K j := fun hk => hmeets (by
        have hnone := hK hk
        rw [← h.recs j hk, hr] at hnone
        simpa using hnone)
      have hev := h.event 4
      refine forAll_keeps (s.recMoves K ·) (fun u i _ hu => ?_) ?_
      · dsimp only
        split
        · obtain ⟨hregs, hhanded, hctxs, hrecs⟩ := hu.setStatus hj i
            (entStatus (u.entryBytes r.addr i) - bits (entStatus (u.entryBytes r.addr i)) 1 1 * 2 + 2)
          exact ⟨hregs, hhanded, hctxs, hrecs⟩
        · exact hu
      · split
        · exact hev.setRec hj _
        · exact hev
  · exact h

end State.recMoves

/-- `u` is `s` with the next marked address taken off the list. -/
structure State.markTaken (s u : State) (rest : List Nat) : Prop where
  handed : u.ecc.handed = rest
  reg : ∀ a, u.reg a = s.reg a
  poison : u.poison = s.poison
  lmem : u.lmem = s.lmem
  ctxs : u.ctxs = s.ctxs
  fst : u.fst = s.fst

/-- POISON_MARK takes its address off the list and goes through the records. -/
theorem poisonMark_cons {s : State} {a : Nat} {rest : List Nat} (h : s.ecc.handed = a :: rest) :
    ∃ u, s.markTaken u rest ∧ poisonMark s = (forAll (s.fst.recs.map Prod.fst) u fun s i => s.resolveRec a i).fstStat := by
  unfold poisonMark
  rw [h]
  exact ⟨{ s with ecc := { s.ecc with handed := rest } }, ⟨rfl, fun _ => rfl, rfl, rfl, rfl, rfl⟩, rfl⟩

theorem exec_poisonMark_noRecord {s : State} {a : Nat} {rest : List Nat} (h : s.ecc.handed = a :: rest)
    (hrecs : s.fst.recs = []) :
    ∃ t, exec .poisonMark s = .next t ∧ s.regsOutside t [B.FST] ∧ t.ecc.handed = rest ∧ t.poison = s.poison ∧
      t.lmem = s.lmem ∧ t.fst.hits = s.fst.hits := by
  obtain ⟨u, hu, hrun⟩ := poisonMark_cons h
  rw [hrecs] at hrun
  obtain ⟨v, hv, hreg, hecc, hpoison, hlmem, hfst⟩ : ∃ v, poisonMark s = v ∧
      (∀ b, blkOf b ≠ B.FST → v.reg b = u.reg b) ∧
      v.ecc = u.ecc ∧ v.poison = u.poison ∧ v.lmem = u.lmem ∧ v.fst = u.fst :=
    ⟨_, hrun, u.fstStat_moves.regs, u.fstStat_ecc, u.fstStat_poison, u.fstStat_lmem, u.fstStat_fst⟩
  exact ⟨_, next_finish hv, fun b hb => (hreg b (by simpa using hb)).trans (hu.reg b),
    (congrArg Ecc.handed hecc).trans hu.handed, hpoison.trans hu.poison, hlmem.trans hu.lmem,
    congrArg Fst.hits (hfst.trans hu.fst)⟩

theorem exec_poisonMark_others {s : State} {a : Nat} {rest : List Nat} (h : s.ecc.handed = a :: rest) :
    ∃ t, exec .poisonMark s = .next t ∧ s.regsOutside t [B.FST] ∧ t.ecc.handed = rest ∧ t.ctxs = s.ctxs ∧
      (∀ i, (s.planeRec i).any (fun p => p.meets a 128) = false → t.planeRec i = s.planeRec i) := by
  obtain ⟨u, hu, hrun⟩ := poisonMark_cons h
  have hstart : u.recMoves (fun i => (u.planeRec i).any (fun p => p.meets a 128) = false) u :=
    ⟨fun _ _ => rfl, rfl, rfl, fun _ _ => rfl⟩
  obtain ⟨v, hv, hmoves⟩ : ∃ v, poisonMark s = v ∧
      u.recMoves (fun i => (u.planeRec i).any (fun p => p.meets a 128) = false) v :=
    ⟨_, hrun, (forAll_keeps (f := fun s i => s.resolveRec a i) _ (fun t i _ ht => ht.resolveRec id) hstart).fstStat⟩
  have hrec : ∀ i, u.planeRec i = s.planeRec i := State.planeRec_congr (congrArg Fst.recs hu.fst)
  refine ⟨_, next_finish hv, fun b hb => (hmoves.regs b (by simpa using hb)).trans (hu.reg b),
    hmoves.handed.trans hu.handed, hmoves.ctxs.trans hu.ctxs, fun i hi => ?_⟩
  exact (hmoves.recs i (by rw [hrec, hi])).trans (hrec i)

/-! ### Poison handed over -/

/-- An ADMITTED frame revoked is STAGED again, with the reason given; the event is raised (R52). -/
theorem State.framed.revoke {s t : State} {c : Nat} {x : Ctx} (h : s.framed framePage c x t) (hst : x.st = .admitted)
    (reason arg : Nat) :
    (∃ y, s.framed framePage c y (t.revoke c reason arg) ∧ y.st = .staged ∧ y.reason = reason) ∧
      (t.revoke c reason arg).raised B.APR 0 evRevoke = true := by
  obtain ⟨u, hu, hrun⟩ : ∃ u, s.framed framePage c
      { x with evRsv := 0, st := .staged, reason := reason, begun := 0, order := 0 } u ∧
      t.revoke c reason arg = (u.frameEvent c evRevoke 0 reason arg false).printCheck := by
    unfold State.revoke
    rw [h.own]
    dsimp only
    rw [if_pos hst]
    have hslots := (h.returnSlots framePage_ring).beside ((State.moves.refl _ _).ringRelease framePage_ring x.audRing_lt (n := 1))
    rw [hslots.own]
    refine ⟨_, (hslots.setCtx _).beside ?_, rfl⟩
    exact (State.moves.refl _ _).withApr.setPair64 (by decide) (by decide)
  obtain ⟨n, hev⟩ := hu.frameEvent framePage_ring framePage_apr evRevoke 0 reason arg false
  have hcheck := State.moves.printCheck (State.moves.refl (fun a => blkOf a = B.SYS)
    (u.frameEvent c evRevoke 0 reason arg false)) (by decide)
  rw [hrun]
  refine ⟨⟨_, hev.beside ((State.moves.refl _ _).printCheck framePage_sys), rfl, rfl⟩, ?_⟩
  unfold State.raised
  rw [hcheck.regs (evtAddr B.APR 0) (by decide)]
  exact State.frameEvent_raised _ _ _ _ _ _ _ (by decide)

theorem exec_poisonHandover_revokes {s : State} {c a : Nat} (h : s.fst.hits = [Hit.mk (some c) a])
    (hst : (s.ctx c).st = .admitted) (hbegun : (s.ctx c).begun = 0) :
    ∃ t, exec .poisonHandover s = .next t ∧ s.regsOutside t [B.APR, B.FST, B.SYS] ∧ t.fst.hits = [] ∧
      (t.ctx c).st = .staged ∧ (t.ctx c).reason = 2 ^ 12 ∧ t.raised B.APR 0 2 = true ∧
      (∀ d, d ≠ c → t.ctx d = s.ctx d) := by
  obtain ⟨u, hu, hstat⟩ : ∃ u, u = { s with fst := { s.fst with hits := [] } }.fstStat ∧
      State.moves (fun a => blkOf a = B.FST) { s with fst := { s.fst with hits := [] } } u := ⟨_, rfl, State.fstStat_moves _⟩
  have hctx : ∀ d, u.ctx d = s.ctx d := fun d => s.ctx_congr d hstat.ctxs
  have hrun : poisonHandover s = u.revoke c rPoison a := by
    unfold poisonHandover
    rw [h, ← hu]
    exact if_pos ⟨(hctx c).symm ▸ hst, (hctx c).symm ▸ hbegun⟩
  obtain ⟨⟨y, hy, hstaged, hreason⟩, hraised⟩ := (State.framed.refl framePage c u).revoke (by rw [hctx, hst]) rPoison a
  refine ⟨_, next_finish hrun, fun b hb => ?_, hy.hits.trans hstat.hits, (congrArg Ctx.st hy.own).trans hstaged,
    (congrArg Ctx.reason hy.own).trans hreason, hraised, fun d hd => (hy.others d hd).trans (hctx d)⟩
  exact (hy.regs b hb).trans (hstat.regs b fun hf => hb (by simp [hf]))

/-! ### Records that wait -/

/-- The one record that waits is written where its ring has room. -/
theorem State.drainRings_one {s : State} {r : Nat} {bs : List Byte} (hstore : s.ringq.store = [])
    (hqueue : s.ringq.queue = [(r, bs)]) (hw : s.ringWritable r = true) (hroom : 0 < s.ringRoom r) :
    s.drainRings = { s.ringPut r bs with ringq := { (s.ringPut r bs).ringq with queue := [] } } := by
  have hfirst : s.drainList false s.ringq.store [] = (s, s.ringq.store) := by rw [hstore]; rfl
  have hthen : s.drainList true s.ringq.queue [] = (s.ringPut r bs, []) := by
    rw [hqueue]
    exact if_pos ⟨List.not_mem_nil, hw, .inr ⟨hroom, by rw [hstore]; rfl⟩⟩
  unfold State.drainRings
  rw [hfirst]
  show (let (s, q) := s.drainList true s.ringq.queue []; { s with ringq := { s.ringq with queue := q } }) = _
  rw [hthen]

theorem exec_eventQueueDrain_writes {s : State} {r : Nat} {bs : List Byte} (hr : r < 32) (hstore : s.ringq.store = [])
    (hqueue : s.ringq.queue = [(r, bs)]) (hw : s.ringWritable r = true) (hroom : 0 < s.ringRoom r)
    (hin : s.ringInHost r = false) (hsh : s.flag F.RING_CTRL_SHADOW_EN (ringInst r) = false) :
    ∃ t, exec .eventQueueDrain s = .next t ∧ s.regsOutside t [B.APR] ∧ t.ringq.queue = [] ∧ t.ringq.store = [] ∧
      t.lmem = s.lmem.setList lmemDefault (s.ringAddr r (s.ringTail r)) bs ∧
      t.ringTail r = (s.ringTail r + 1) % s.ringSize r := by
  obtain ⟨hlmem, htail, hregs, hringq⟩ := s.ringPut_written r bs hin hsh
  refine ⟨_, next_finish (State.drainRings_one hstore hqueue hw hroom), fun a ha => hregs a ?_, rfl,
    (congrArg RingQ.store hringq).trans hstore, hlmem, htail⟩
  rw [List.mem_singleton]
  exact ne_regAddr_of_blkOf (by simpa using ha) (by decide) (by unfold ringInst; omega) (by decide)

/-- Settles O10: each clause is what its command's lemma says. -/
theorem framesAlongTheTransport : Obligations.FramesAlongTheTransport := by
  unfold Obligations.FramesAlongTheTransport
  exact ⟨fun s c h => exec_frameFused_fuses h, fun s c h hspoilt => exec_frameDelivered_delivers h hspoilt,
    fun s a rest h hrecs => exec_poisonMark_noRecord h hrecs, fun s a rest h => exec_poisonMark_others h,
    fun s c a h hst hbegun => exec_poisonHandover_revokes h hst hbegun,
    fun s r bs hr hstore hqueue hw hroom hin hsh => exec_eventQueueDrain_writes hr hstore hqueue hw hroom hin hsh⟩

end Sys2Proof.Machine
end

section
/-! SUPPORT. What a read through ECC leaves alone (R299, R303 to R312). -/

namespace Sys2Proof.Machine

/-- A register of ECC's pages. -/
abbrev eccReg (a : Nat) : Prop := blkOf a = B.ECC

theorem eccReg_field {f : Field} {ch : Nat} (hb : f.blk = B.ECC) (hch : ch < 256) (ho : f.off < 4096) : eccReg (f.addr ch) := by
  show blkOf (regAddr f.blk ch f.off) = _
  rw [hb]
  exact blkOf_regAddr _ _ _ (by decide) hch ho

theorem eccReg_evt {ch : Nat} (hch : ch < 256) : eccReg (evtAddr B.ECC ch) :=
  blkOf_regAddr _ _ _ (by decide) hch (by decide)

theorem State.channelOf_lt (s : State) (a : Nat) : s.channelOf a < 256 := by
  unfold State.channelOf
  split
  · exact (Nat.xor_lt_two_pow (Nat.xor_lt_two_pow (n := 2) (bits_lt ..) (bits_lt ..)) (bits_lt ..)).trans (by decide)
  · exact (Nat.xor_lt_two_pow (Nat.xor_lt_two_pow (n := 1) (bits_lt ..) (bits_lt ..)) (bits_lt ..)).trans (by decide)
  · decide

namespace State.moves

variable {s t : State}

theorem raiseFault {W : Nat → Prop} (h : s.moves W t) (n : Nat) : s.moves W (t.raiseFault n) :=
  h.beside (State.raiseFault_regs ..) (State.raiseFault_ctxs ..) (State.raiseFault_fst ..)

section
variable (h : s.moves eccReg t)
include h

theorem withEcc {e : Ecc} : s.moves eccReg { t with ecc := e } := ⟨h.regs, h.ctxs, h.hits⟩

theorem withFree {n : Nat} : s.moves eccReg { t with freeCtr := n } := ⟨h.regs, h.ctxs, h.hits⟩

theorem countDev {ch : Nat} (hch : ch < 256) (rank dev : Nat) : s.moves eccReg (t.countDev ch rank dev) := by
  unfold State.countDev
  dsimp only
  split
  · split
    · split
      · exact (((h.withEcc.event (eccReg_evt hch)).raiseFault _).setFld (eccReg_field rfl hch (by decide))).setFlag
          (eccReg_field rfl hch (by decide))
      · exact (((h.withEcc.event (eccReg_evt hch)).raiseFault _).setFld (eccReg_field rfl hch (by decide))).setFlag
          (eccReg_field rfl hch (by decide))
    · exact (h.withEcc.event (eccReg_evt hch)).raiseFault _
  · exact h.withEcc

theorem tableHit (a ch rank dev : Nat) : s.moves eccReg (t.tableHit a ch rank dev) := by
  have hovf : eccReg (F.ECC_TBL_OVF.addr 0x10) := by decide
  have hfull : eccReg (evtAddr B.ECC 0x10) := by decide
  unfold State.tableHit
  dsimp only
  split
  · exact ((h.withEcc.bump hovf).withEcc.event hfull).ite (h.withEcc.bump hovf)
  · exact (h.withEcc.withEcc.event hfull).ite h.withEcc

theorem corrected (a : Nat) (devs : List Nat) : s.moves eccReg (t.corrected a devs) := by
  have hch := t.channelOf_lt a
  have hraised := (h.bump (f := F.ECC_CE_CNT) (eccReg_field rfl hch (by decide))).event (eccReg_evt hch) (n := 0)
  exact (hraised.forAll (xs := devs) fun u d hu => hu.countDev hch (t.rankAt a) d).tableHit _ _ _ _

theorem markPoison (a : Nat) : s.moves eccReg (t.markPoison a) := by
  unfold State.markPoison State.setPoison
  split
  · exact h.withEcc
  · exact ⟨h.regs, h.ctxs, h.hits⟩

theorem uncorrectable (a : Nat) (syms : List (Nat × Byte)) (scrub : Bool) :
    s.moves eccReg (t.uncorrectable a syms scrub) := by
  obtain ⟨u, hu, hrun⟩ : ∃ u, s.moves eccReg u ∧ t.uncorrectable a syms scrub =
      (if scrub then (State.event (((u.setPair64 F.ECC_UE_ADDR_LO 0x10 a).bump F.ECC_UE_CNT (u.channelOf a)).event B.ECC
        (u.channelOf a) 1) B.ECC 0x10 0).raiseFault 301 else
        (((u.setPair64 F.ECC_UE_ADDR_LO 0x10 a).bump F.ECC_UE_CNT (u.channelOf a)).event B.ECC
          (u.channelOf a) 1).raiseFault 300).markPoison a :=
    ⟨{ t with lmem := t.lmem.setList lmemDefault a (t.received a syms) }, ⟨h.regs, h.ctxs, h.hits⟩, rfl⟩
  have hch := u.channelOf_lt a
  have hraised := ((hu.setPair64 (f := F.ECC_UE_ADDR_LO) (i := 0x10) (v := a) (by decide) (by decide)).bump
    (f := F.ECC_UE_CNT) (eccReg_field rfl hch (by decide))).event (eccReg_evt hch) (n := 1)
  rw [hrun]
  exact (((hraised.event (b := B.ECC) (i := 0x10) (n := 0) (by decide)).raiseFault 301).ite
    (hraised.raiseFault 300)).markPoison a

theorem readCw (a : Nat) (errs : List CwErr) (scrub : Bool) : s.moves eccReg (t.readCw a errs scrub) := by
  unfold State.readCw
  split
  · exact h
  next e _ =>
    split
    · exact h
    · exact h.corrected a _
    · exact h.uncorrectable a e.syms scrub
    · dsimp only [State.draw]
      split
      · exact h.withFree.uncorrectable a e.syms scrub
      · refine corrected (withFree (h.withFree.forAll fun u i hu => ?_)) a _
        exact ⟨hu.regs, hu.ctxs, hu.hits⟩

theorem demand (a n : Nat) (errs : List CwErr) : s.moves eccReg (t.demand a n errs) :=
  h.withEcc.forAll fun _ c hu => hu.readCw c errs false

end
end State.moves
end Sys2Proof.Machine
end

section
/-! PROOFS. The commands of the Aperture's rings (R32 to R35, R40, R42, R45, R65). -/

namespace Sys2Proof.Machine

/-! ### An entry taken -/

/-- Any register but the head of a ring. -/
abbrev notHead (a : Nat) : Prop := ¬ (blkOf a = B.APR ∧ 0x20 ≤ instOf a ∧ offOf a = F.RING_HEAD.off)

theorem notHead_ring : ∀ a, ringReg a → notHead a := fun _ ⟨_, _, hoff⟩ ⟨_, _, hhead⟩ => hoff hhead

theorem not_notHead {r : Nat} (hr : r < 32) : ¬ notHead (F.RING_HEAD.addr (ringInst r)) := by
  have hi : ringInst r < 256 := by unfold ringInst; omega
  refine not_not_intro ⟨blkOf_regAddr _ _ _ (by decide) hi (by decide), ?_, offOf_regAddr _ _ _ (by decide)⟩
  unfold Field.addr
  rw [instOf_regAddr _ _ _ hi (by decide)]
  exact Nat.le_add_right _ _

theorem State.ringHead_kept {s t : State} {r : Nat} (hr : r < 32) (h : ∀ a, ¬ notHead a → t.reg a = s.reg a) :
    t.ringHead r = s.ringHead r :=
  State.fld_congr (h _ (not_notHead hr))

/-- `u` is `s` with the entry at the head of ring `r` read through ECC and taken (R38). -/
structure State.entryTaken (s u : State) (r : Nat) (errs : List CwErr) : Prop where
  ring : r < 32
  head : u.ringHead r = (s.ringHead r + 1) % s.ringSize r
  ctxs : u.ctxs = s.ctxs
  inRange : ∀ x, u.inRange x = (s.entryRead r errs).inRange x
  heldElsewhere : ∀ c x, u.heldElsewhere c x = (s.entryRead r errs).heldElsewhere c x

theorem State.commandRing_lt {s : State} {r : Nat} (h : s.commandRing = some r) : r < 32 := by
  unfold State.commandRing at h
  split at h
  · have hmem := List.mem_of_find?_eq_some h
    have hlt : ∀ q ∈ [12, 13, 14, 15], q < 32 := by decide
    exact hlt r hmem
  · cases h

/-- Once an entry has been read through ECC, its ring's head moves on by one. -/
theorem State.entryTaken_head {s v : State} {r : Nat} {errs : List CwErr} (hr : r < 32) (hv : v = s.entryRead r errs) :
    s.entryTaken (v.setFld F.RING_HEAD_INDEX (ringInst r) ((v.ringHead r + 1) % v.ringSize r)) r errs := by
  have hread : s.moves eccReg v := hv ▸ (State.moves.refl eccReg s).demand _ _ _
  have hfield : ∀ f : Field, f.blk = B.APR → f.off < 4096 → v.fld f (ringInst r) = s.fld f (ringInst r) :=
    fun f hb ho => State.fld_congr (hread.regs _ (by
      show ¬ blkOf (regAddr f.blk (ringInst r) f.off) = _
      rw [hb, blkOf_regAddr _ _ _ (by decide) (by unfold ringInst; omega) ho]
      decide))
  have hhead : v.ringHead r = s.ringHead r := hfield F.RING_HEAD_INDEX rfl (by decide)
  have hsize : v.ringSize r = s.ringSize r := by
    unfold State.ringSize
    rw [hfield F.RING_SIZE_LOG2 rfl (by decide)]
  have hmem : ∀ n, (v.setFld F.RING_HEAD_INDEX (ringInst r) n).lmemSize = v.lmemSize := fun n => by
    unfold State.lmemSize
    rw [State.fld_congr (State.reg_setFld_ne _ _ _ _ _ (ne_regAddr_of_blkOf (by decide) (by decide)
      (by unfold ringInst; omega) (by decide)))]
  refine ⟨hr, ?_, (State.setFld_ctxs ..).trans hread.ctxs, fun x => ?_, fun c x => ?_⟩
  · rw [← hhead, ← hsize]
    exact (State.fld_setFld_same _ _ _ _ (by decide)).trans (v.ringIndex_mod r _)
  · rw [← hv]
    unfold State.inRange
    simp only [hmem]
  · rw [← hv]
    unfold State.heldElsewhere State.findRec
    simp only [State.setFld_fst]

/-- A well-formed entry is taken, and its command run. -/
theorem State.offers.runs {s : State} {r op : Nat} {bs : List Byte} {errs : List CwErr} (h : s.offers r op bs errs)
    (hop : 1 ≤ op ∧ op ≤ 4) :
    ∃ u, s.entryTaken u r errs ∧ s.command op errs = u.runCommand { Ctx.init with desc := bs } := by
  obtain ⟨hring, hcode, hbytes, hclean, hcrc, hentry, hres1, hres2, hres3⟩ := h
  refine ⟨_, State.entryTaken_head (s.commandRing_lt hring) rfl, ?_⟩
  unfold State.entryRead at hbytes hclean
  unfold State.command State.entryRead
  rw [hring]
  dsimp only
  rw [if_neg (by omega), hbytes, hclean, if_neg (by simp [hcrc]), if_neg (by simp [hres1, hres2, hres3]; omega)]

/-- What the command's own frame and the head of the ring read once the command has run. -/
theorem State.entryTaken.after {s u t : State} {r c : Nat} {errs : List CwErr} {y : Ctx} (hu : s.entryTaken u r errs)
    (h : u.framed notHead c y t) :
    t.ringHead r = (s.ringHead r + 1) % s.ringSize r ∧ t.ctx c = y ∧ ∀ d, d ≠ c → t.ctx d = s.ctx d :=
  ⟨(State.ringHead_kept hu.ring h.regs).trans hu.head, h.own, fun d hd => (h.others d hd).trans (s.ctx_congr d hu.ctxs)⟩

/-! ### An examination -/

namespace State.moves

variable {W : Nat → Prop} {s t : State}

theorem thrEval (h : s.moves W t) (hstat : W (F.HTR_THR_STAT.addr 8)) (hevt : W (evtAddr B.HTR 8)) :
    s.moves W t.thrEval := by
  unfold State.thrEval
  dsimp only
  split
  · exact (((h.setFld (f := F.HTR_THR_STAT_CAUSE) hstat).withSched).setFld (f := F.HTR_THR_STAT_STATE) hstat).event hevt
  · split
    · exact (((h.setFld (f := F.HTR_THR_STAT_CAUSE) hstat).withSched).setFld (f := F.HTR_THR_STAT_STATE) hstat).event hevt
    · exact (h.setFld (f := F.HTR_THR_STAT_CAUSE) hstat).withSched

end State.moves

namespace State.framed

variable {c : Nat} {x : Ctx} {s t : State}

/-- An admission keeps the frame's description. -/
theorem commitAdmit (h : s.framed notHead c x t) :
    ∃ y, s.framed notHead c y (t.commitAdmit c) ∧ y.desc = x.desc ∧ y.st = .admitted := by
  obtain ⟨y, u, arg, hu, hdesc, hst, hrun⟩ : ∃ y u arg, s.framed notHead c y u ∧ y.desc = x.desc ∧ y.st = .admitted ∧
      t.commitAdmit c = (if (u.frameEvent c evAdmit 0 0 arg false).sys.mode = .ready
        then (u.frameEvent c evAdmit 0 0 arg false).deviceMode .print
        else u.frameEvent c evAdmit 0 0 arg false).thrEval := by
    unfold State.commitAdmit
    rw [h.own]
    have hslots := ((State.moves.refl notHead t).ringReserve notHead_ring x.audRing_lt (n := 1)).ringReserve notHead_ring
      x.evRing_lt (n := 3)
    have hctx := (h.beside hslots).setCtx
      { x with st := .admitted, evRsv := 3, order := ((t.ringReserve x.audRing 1).ringReserve x.evRing 3).apr.order, begun := 0 }
    refine ⟨_, _, _, hctx.beside ?_, rfl, rfl, rfl⟩
    exact (State.moves.refl _ _).withApr.setPair64 (f := F.APR_LAST_SERIAL_LO) (i := 0) (by decide) (by decide)
  obtain ⟨n, hev⟩ := hu.frameEvent notHead_ring (by decide) evAdmit 0 0 arg false
  have hstarted := (State.moves.refl notHead (u.frameEvent c evAdmit 0 0 arg false)).deviceMode (m := .print) (by decide)
  refine ⟨{ y with evRsv := n }, ?_, hdesc, hst⟩
  rw [hrun]
  exact hev.beside ((hstarted.ite (State.moves.refl _ _)).thrEval (by decide) (by decide))

/-- A STAGED frame examined stays so, or is ADMITTED. -/
theorem examine (h : s.framed notHead c x t) (hst : x.st = .staged) :
    ∃ y, s.framed notHead c y (t.examine c) ∧ y.desc = x.desc ∧ (y.st = .staged ∨ y.st = .admitted) := by
  unfold State.examine
  rw [h.own]
  dsimp only
  split
  · obtain ⟨y, hy, hdesc, hadm⟩ := h.commitAdmit
    exact ⟨y, hy, hdesc, .inr hadm⟩
  · obtain ⟨n, hev⟩ := (h.setCtx { x with reason := t.examMask x }).frameEvent notHead_ring (by decide) evDeny 0
      (t.examMask x) (t.earliest x (t.examMask x)) false
    exact ⟨_, hev, rfl, .inl hst⟩

end State.framed

/-! ### The commands -/

/-- A STAGED frame's records are held, which no context shows (R65). -/
theorem State.moves.holdPlanes {W : Nat → Prop} {s t : State} (h : s.moves W t) (hfst : W (F.FST_STAT.addr 0)) (c : Nat)
    (x : Ctx) : s.moves W (t.holdPlanes c x) := by
  unfold State.holdPlanes
  refine State.moves.fstStat (List.foldlRecOn _ _ h fun u hu p _ => ?_) hfst
  dsimp only
  split
  · exact hu.setRec hfst
  · exact hu.ite (hu.withFst rfl)

theorem takeAt_length (bs : List Byte) (o n : Nat) : (takeAt bs o n).length = n := by
  unfold takeAt
  simp

theorem takeAt_append_left {xs ys : List Byte} {o n : Nat} (h : o + n ≤ xs.length) :
    takeAt (xs ++ ys) o n = takeAt xs o n := by
  unfold takeAt
  rw [List.drop_append_of_le_length (by omega), List.take_append_of_le_length (by rw [List.length_drop]; omega)]

theorem takeAt_append_right {xs ys : List Byte} {o n : Nat} (hx : xs.length = o) (hy : ys.length = n) :
    takeAt (xs ++ ys) o n = ys := by
  subst hx hy
  simp [takeAt]

section
variable {u : State} {bs : List Byte} (hc : fieldAt bs 2 2 < 160)
include hc

theorem State.runCommand_stage (hop : fieldAt bs 0 1 = 1)
    (hst : (u.ctx (fieldAt bs 2 2)).st = .free ∨ (u.ctx (fieldAt bs 2 2)).st = .retired)
    (hin : u.inRange { Ctx.init with desc := bs } = true)
    (hheld : u.heldElsewhere (fieldAt bs 2 2) { Ctx.init with desc := bs } = false) :
    ∃ y, u.framed notHead (fieldAt bs 2 2) y (u.runCommand { Ctx.init with desc := bs }) ∧ y.desc = bs ∧
      (y.st = .staged ∨ y.st = .admitted) := by
  have hstaged := (State.framed.refl notHead (fieldAt bs 2 2) u).setCtx
    { Ctx.init with st := .staged, desc := bs, reason := (u.ctx (fieldAt bs 2 2)).reason }
  have hfree : ¬ ((u.ctx (fieldAt bs 2 2)).st ≠ .free ∧ (u.ctx (fieldAt bs 2 2)).st ≠ .retired) := by tauto
  unfold State.runCommand
  dsimp only
  rw [if_neg (by omega)]
  simp only [hop]
  rw [if_neg hfree, if_neg (by simp [hin]), if_neg (by simp [hheld])]
  exact (hstaged.beside ((State.moves.refl _ _).holdPlanes (by decide) _ _)).examine rfl

theorem State.runCommand_restage (hop : fieldAt bs 0 1 = 2) (hst : (u.ctx (fieldAt bs 2 2)).st = .staged)
    (hkey : restageKey bs = restageKey (u.ctx (fieldAt bs 2 2)).desc)
    (hin : u.inRange { Ctx.init with desc := bs } = true) :
    ∃ y, u.framed notHead (fieldAt bs 2 2) y (u.runCommand { Ctx.init with desc := bs }) ∧
      takeAt y.desc 0x10 8 = takeAt bs 0x10 8 ∧ (y.st = .staged ∨ y.st = .admitted) := by
  obtain ⟨d, hd, hrun⟩ : ∃ d, takeAt d 0x10 8 = takeAt bs 0x10 8 ∧ u.runCommand { Ctx.init with desc := bs } =
      (u.setCtx (fieldAt bs 2 2) { u.ctx (fieldAt bs 2 2) with desc := d }).examine (fieldAt bs 2 2) := by
    unfold State.runCommand
    dsimp only
    rw [if_neg (by omega)]
    simp only [hop]
    rw [if_neg (by simp [hst, hkey]), if_neg (by simp [hin])]
    refine ⟨_, ?_, rfl⟩
    rw [takeAt_append_left (by simp [takeAt_length]), takeAt_append_left (by simp [takeAt_length]),
      takeAt_append_left (by simp [takeAt_length]), takeAt_append_right (by simp [takeAt_length]) (takeAt_length ..)]
  obtain ⟨y, hy, hdesc, hst⟩ := ((State.framed.refl notHead (fieldAt bs 2 2) u).setCtx
    { u.ctx (fieldAt bs 2 2) with desc := d }).examine hst
  exact ⟨y, hrun ▸ hy, by rw [hdesc, hd], hst⟩

theorem State.runCommand_abort (hop : fieldAt bs 0 1 = 3)
    (hst : (u.ctx (fieldAt bs 2 2)).st = .admitted ∨ (u.ctx (fieldAt bs 2 2)).st = .exposing)
    (hin : u.inRange { Ctx.init with desc := bs } = true) :
    ∃ y, u.framed notHead (fieldAt bs 2 2) y (u.runCommand { Ctx.init with desc := bs }) ∧ y.st = .spoiled ∧
      y.cause = cHostAbort := by
  have hdark := (State.framed.refl notHead (fieldAt bs 2 2) u).setCtx { u.ctx (fieldAt bs 2 2) with dark := 0x3F }
  have hlive : ¬ ((u.ctx (fieldAt bs 2 2)).st ≠ .admitted ∧ (u.ctx (fieldAt bs 2 2)).st ≠ .exposing) := by tauto
  unfold State.runCommand
  dsimp only
  rw [if_neg (by omega)]
  simp only [hop]
  rw [if_neg hlive, if_neg (by simp [hin])]
  exact hdark.spoil notHead_ring (by decide) (by decide) (by decide) hst _ _

theorem State.runCommand_release (hop : fieldAt bs 0 1 = 4) (hst : (u.ctx (fieldAt bs 2 2)).st = .staged)
    (hin : u.inRange { Ctx.init with desc := bs } = true) :
    u.framed notHead (fieldAt bs 2 2) { Ctx.init with reason := (u.ctx (fieldAt bs 2 2)).reason }
      (u.runCommand { Ctx.init with desc := bs }) := by
  unfold State.runCommand
  dsimp only
  rw [if_neg (by omega)]
  simp only [hop]
  rw [if_neg (by simp [hst]), if_neg (by simp [hin])]
  exact ((State.framed.refl notHead _ u).beside ((State.moves.refl _ u).freeRecs (by decide))).setCtx _

theorem State.runCommand_release_rejected (hop : fieldAt bs 0 1 = 4) (hst : (u.ctx (fieldAt bs 2 2)).st ≠ .staged) :
    u.runCommand { Ctx.init with desc := bs } = u.reject { Ctx.init with desc := bs } 4 := by
  unfold State.runCommand
  dsimp only
  rw [if_neg (by omega)]
  simp only [hop]
  exact if_pos hst

end

/-- A rejection moves no head and no context, and raises APR.REJECT (R34). -/
theorem State.reject_raises (u : State) (x : Ctx) (code : Nat) :
    u.moves notHead (u.reject x code) ∧ (u.reject x code).raised B.APR 0 evReject = true := by
  obtain ⟨r, e, hr, hrun⟩ : ∃ r e, r < 32 ∧ u.reject x code = (u.event B.APR 0 evReject).writeEvent r false e :=
    ⟨_, _, x.evRing_lt, rfl⟩
  rw [hrun]
  exact ⟨((State.moves.refl notHead u).event (by decide)).writeEvent notHead_ring hr, u.writeEvent_raised (by decide) hr _ _⟩

/-- Settles O8: a well-formed entry is taken, and each command acts on its context as its own lemma says. -/
theorem apertureCommands : Obligations.ApertureCommands := by
  unfold Obligations.ApertureCommands
  refine ⟨fun s r bs errs h hc hst hin hheld => ?stage, fun s r bs errs h hc hst hkey hin => ?restage,
    fun s r bs errs h hc hst hin => ?abort, fun s r bs errs h hc hst hin => ?release, fun s r bs errs h hc hst => ?rejected⟩
  all_goals
    obtain ⟨u, hu, hrun⟩ := h.runs (by decide)
    obtain ⟨-, -, -, -, -, hop, -⟩ := h
    have hctx := s.ctx_congr (fieldAt bs 2 2) hu.ctxs
    rw [← hctx] at hst
  case stage =>
    obtain ⟨y, hy, hdesc, hend⟩ :=
      State.runCommand_stage hc hop hst (by rw [hu.inRange, hin]) (by rw [hu.heldElsewhere, hheld])
    obtain ⟨hhead, hown, hothers⟩ := hu.after hy
    exact ⟨_, next_finish hrun, hhead, (congrArg Ctx.desc hown).trans hdesc, hown ▸ hend, hothers⟩
  case restage =>
    obtain ⟨y, hy, hdesc, hend⟩ := State.runCommand_restage hc hop hst (by rw [hctx, hkey]) (by rw [hu.inRange, hin])
    obtain ⟨hhead, hown, hothers⟩ := hu.after hy
    exact ⟨_, next_finish hrun, hhead, by rw [← hdesc, ← hown]; rfl, hown ▸ hend, hothers⟩
  case abort =>
    obtain ⟨y, hy, hend, hcause⟩ := State.runCommand_abort hc hop hst (by rw [hu.inRange, hin])
    obtain ⟨hhead, hown, hothers⟩ := hu.after hy
    exact ⟨_, next_finish hrun, hhead, hown ▸ hend, hown ▸ hcause, hothers⟩
  case release =>
    obtain ⟨hhead, hown, hothers⟩ := hu.after (State.runCommand_release hc hop hst (by rw [hu.inRange, hin]))
    exact ⟨_, next_finish hrun, hhead, by rw [← hctx, ← hown]; rfl, hothers⟩
  case rejected =>
    obtain ⟨hmoves, hraised⟩ := u.reject_raises { Ctx.init with desc := bs } 4
    have hhead := (State.ringHead_kept hu.ring hmoves.regs).trans hu.head
    exact ⟨_, next_finish (hrun.trans (State.runCommand_release_rejected hc hop hst)), hhead, hraised,
      hmoves.ctxs.trans hu.ctxs⟩

end Sys2Proof.Machine
end

section
/-! SUPPORT. A run of consecutive values of a sparse map, written and read. -/

namespace Sys2Proof.Machine

variable {α : Type} [DecidableEq α]

/-- A run of writes leaves every key outside it alone. -/
theorem Sparse.get_setList_outside (d : Nat → α) (m : Sparse α) (a b : Nat) (vs : List α) (h : b < a ∨ a + vs.length ≤ b) :
    Sparse.get d (m.setList d a vs) b = Sparse.get d m b := by
  induction vs generalizing m a with
  | nil => rfl
  | cons v vs ih =>
    rw [List.length_cons] at h
    exact (ih (m.set d a v) (a + 1) (by omega)).trans (Sparse.get_set_ne d m a b v (by omega))

/-- Within a run of writes a key reads the value written there. -/
theorem Sparse.get_setList_inside (d : Nat → α) (m : Sparse α) (a i : Nat) (vs : List α) (h : i < vs.length) :
    Sparse.get d (m.setList d a vs) (a + i) = vs[i] := by
  induction vs generalizing m a i with
  | nil => exact absurd h (Nat.not_lt_zero i)
  | cons v vs ih =>
    cases i with
    | zero =>
      exact (Sparse.get_setList_outside d (m.set d a v) (a + 1) a vs (.inl (Nat.lt_succ_self a))).trans
        (Sparse.get_set_same d m a v)
    | succ i =>
      rw [show a + (i + 1) = a + 1 + i by omega]
      exact ih (m.set d a v) (a + 1) i (Nat.lt_of_succ_lt_succ h)

end Sys2Proof.Machine
end

section
/-! PROOFS. The encoder's state record, where a history line is longer than a line (R91, R92). -/

namespace Sys2Proof.Machine

/-- A host write that arrives at ENC's page finds the domain of the image path on (R17). -/
theorem State.domOn_img_of_openEnc {s : State} (h : s.openPage B.ENC 0) : s.domOn .img = true := h.2.2

/-- ENC_SAVE, idle once a job has run, stores of the state record what lies below the capacity (R91, R307). -/
theorem exec_encSave_idle {s : State} (h : s.openPage B.ENC 0) (hen : s.pageEn B.ENC 0 = true) (hidle : s.encBusy = false)
    (hran : s.enc.ran = true) (hready : s.lmemReady = true) :
    ∃ t, exec .encSave s = .next t ∧ t.lmem = s.lmem.setList lmemDefault (s.pair64 F.ENC_SAVE_LO 0)
      (s.encRecord.take (s.lmemSize - s.pair64 F.ENC_SAVE_LO 0)) := by
  obtain ⟨hmode, hexists, hon⟩ := h
  have hrun : encSave s = (s.storeLmem (s.pair64 F.ENC_SAVE_LO 0)
      (s.encRecord.take (s.lmemSize - s.pair64 F.ENC_SAVE_LO 0))).event B.ENC 0 3 := by
    unfold encSave State.encSaveNow State.devStore
    simp only [hen, hidle, hran, hready, not_true_eq_false, Bool.false_eq_true, if_true, if_false]
  exact ⟨_, next_finish ((State.onPage_open _ _ _ _ _ hmode hexists hon (by decide)).trans
    ((if_pos (State.domOn_img_of_openEnc ⟨hmode, hexists, hon⟩)).trans hrun)), rfl⟩

/-- A line of one value throughout packs into bytes that are all the same. -/
theorem packLine_replicate (k v : Nat) :
    packLine 4 (List.replicate (2 * k) v) = List.replicate k (BitVec.ofNat 8 (v % 16 + v % 16 * 16)) := by
  have key : ∀ fuel k, k ≤ fuel → chunks 2 fuel (List.replicate (2 * k) v) = List.replicate k [v, v] := by
    intro fuel
    induction fuel with
    | zero => intro k hk; rw [Nat.le_zero.mp hk]; rfl
    | succ fuel ih =>
      intro k hk
      cases k with
      | zero => rfl
      | succ k =>
        have hline : List.replicate (2 * (k + 1)) v = v :: v :: List.replicate (2 * k) v := rfl
        rw [hline, List.replicate_succ, ← ih k (by omega)]
        rfl
  unfold packLine
  rw [List.length_replicate, show 8 / 4 = 2 from rfl, key _ k (by omega), List.map_replicate]
  congr 1
  simp [List.zipIdx_cons]

/-- The device in IDLE with every domain on and 1 GiB of LMEM filled, where ENC_SAVE names the last place that holds a state
record; the history line of column 0 has 49,410 pixels. No run reaches it: a job and a RESTORE leave lines of 4,096. -/
def longHistory : State :=
  { State.reset with
    sys := { State.reset.sys with mode := .idle, trans := none }
    aon := { State.reset.aon with fillDone := true }
    regs := [(F.ENC_SAVE_LO.addr 0, 0x3FFF9F80), (F.PWR_DOM_STAT.addr 0x40, 0x0FC00FFF), (F.MEM_SIZE.addr 0, 1)]
    enc := { Enc.init with ran := true, hist := [(0, List.replicate (2 * 24705) 15)] } }

/-- ENC takes a SAVE there at once. -/
theorem longHistory_takesSave : longHistory.openPage B.ENC 0 ∧ longHistory.pageEn B.ENC 0 = true ∧
    longHistory.encBusy = false ∧ longHistory.enc.ran = true ∧ longHistory.lmemReady = true := by
  decide +kernel

/-- The place ends where LMEM ends. -/
theorem longHistory_place :
    longHistory.pair64 F.ENC_SAVE_LO 0 = 0x3FFF9F80 ∧ longHistory.lmemSize = 0x3FFF9F80 + 24704 := by
  decide +kernel

/-- The record goes on beyond its 24,704 bytes, with a byte that is not zero. -/
theorem longHistory_record : longHistory.encRecord[24704]? = some 0xFF := by
  have hhist : longHistory.enc.histOf 0 = List.replicate (2 * 24705) 15 := rfl
  unfold State.encRecord
  rw [show List.range 12 = 0 :: (List.range 11).map (· + 1) from rfl, List.flatMap_cons, hhist, packLine_replicate]
  simp only [List.append_assoc]
  rw [List.getElem?_append_left (by rw [List.length_replicate]; decide), List.getElem?_replicate_of_lt (by decide)]
  rfl

/-- Refutes O17, in its clause on an idle ENC_SAVE: the statement speaks of every state, and in one a history line is longer
than a line of a band. The record is then longer than the 24,704 bytes the statement leaves room for, and what lies beyond
the capacity is not stored. -/
theorem not_encoderJobs : ¬ Obligations.EncoderJobs := by
  unfold Obligations.EncoderJobs
  rintro ⟨-, -, -, hsave, -⟩
  obtain ⟨hpage, hen, hidle, hran, hready⟩ := longHistory_takesSave
  obtain ⟨hplace, hsize⟩ := longHistory_place
  obtain ⟨hlong, hbyte⟩ := List.getElem?_eq_some_iff.mp longHistory_record
  obtain ⟨t, he, hclaim, -⟩ := hsave longHistory hpage hen hidle hran hready (by rw [hplace, hsize])
  obtain ⟨u, hrun, hstored⟩ := exec_encSave_idle hpage hen hidle hran hready
  obtain rfl := Host.Outcome.next.inj (hrun.symm.trans he)
  rw [hplace] at hclaim
  rw [hplace, hsize] at hstored
  have hzero : Sparse.get lmemDefault u.lmem (0x3FFF9F80 + 24704) = 0 := by
    rw [hstored]
    exact Sparse.get_setList_outside _ _ _ _ _ (.inr (by rw [List.length_take]; omega))
  have hff : Sparse.get lmemDefault u.lmem (0x3FFF9F80 + 24704) = 0xFF := by
    rw [hclaim]
    exact (Sparse.get_setList_inside _ _ _ _ _ hlong).trans hbyte
  exact absurd (hzero.symm.trans hff) (by decide)

end Sys2Proof.Machine
end

section
/-! SUPPORT. What reads through ECC and the spoiling of a frame leave alone: the stations, the frame store, and the faults
presented before (R50, R54, R303 to R312). A proof follows the operation's own steps and branches. -/

namespace Sys2Proof.Machine

/-- `t` holds the stations and the frame store of `s`, and no fault source presented in `s` is withdrawn. -/
def State.spares (s t : State) : Prop := t.stns = s.stns ∧ t.fst = s.fst ∧ s.flt.pair ⊆ t.flt.pair

namespace State.spares

protected theorem refl (s : State) : s.spares s := ⟨rfl, rfl, List.Subset.refl _⟩

section
variable {s t u : State} (h : s.spares t)
include h

theorem stns : t.stns = s.stns := h.1
theorem fst : t.fst = s.fst := h.2.1
theorem pair : s.flt.pair ⊆ t.flt.pair := h.2.2

theorem ite {c : Prop} [Decidable c] (hu : s.spares u) : s.spares (if c then t else u) := by split <;> assumption

theorem forAll {xs : List Nat} {f : State → Nat → State} (hf : ∀ u x, s.spares u → s.spares (f u x)) :
    s.spares (forAll xs t f) :=
  forAll_keeps (s.spares ·) (fun u x _ => hf u x) h

end

section
variable {s t : State} (h : s.spares t) {a b c i n r v : Nat} {w : Word} {f : Field} {x : Bool} {bs : List Byte}
  {p : Packet} {m : Mode}
include h

/-! Registers, events and fault sources -/

theorem setReg : s.spares (t.setReg a w) := h
theorem setFld : s.spares (t.setFld f i v) := h.setReg
theorem setFlag : s.spares (t.setFlag f i x) := h.setFld
theorem setPair64 : s.spares (t.setPair64 f i v) := h.setReg.setReg
theorem hwSet : s.spares (t.hwSet a w) := h
theorem event : s.spares (t.event a i n) := h.hwSet
theorem bump : s.spares (t.bump f i) := h.setFld.ite h
theorem raiseFault : s.spares (t.raiseFault n) :=
  h.ite ⟨h.stns, h.fst, List.Subset.trans h.pair (List.subset_append_left _ _)⟩
theorem withSys {q : Sys} : s.spares { t with sys := q } := h
theorem withRingq {q : RingQ} : s.spares { t with ringq := q } := h
theorem withEcc {q : Ecc} : s.spares { t with ecc := q } := h
theorem withFree : s.spares { t with freeCtr := n } := h
theorem withLmem {q : Sparse Byte} : s.spares { t with lmem := q } := h
theorem withPoison {q : List Nat} : s.spares { t with poison := q } := h

/-! Rings and packets -/

theorem ringDrop : s.spares (t.ringDrop r) := h.bump.event
theorem storeHost : s.spares (t.storeHost a bs) := h
theorem storeLmem : s.spares (t.storeLmem a bs) := h
theorem setTail : s.spares (t.setTail r n) := h.setFld.storeHost.ite h.setFld
theorem ringPut : s.spares (t.ringPut r bs) := (h.storeHost.ite h.storeLmem).setTail
theorem putUnreserved : s.spares (t.putUnreserved r bs) := h.ringDrop.ite (h.ringPut.ite (h.withRingq.ite h.ringDrop))
theorem ringRelease : s.spares (t.ringRelease r n) := h.setFld
theorem putReserved : s.spares (t.putReserved r bs) := h.ringRelease.ringPut.ite h.ringRelease.withRingq
theorem sendTo : s.spares (t.sendTo p) := by
  obtain ⟨_, _, _, hp⟩ := (State.movesPackets.refl t).sendTo (p := p)
  rw [hp]
  exact h
theorem forwardEvent : s.spares (t.forwardEvent r bs) := (h.putUnreserved.ite h.sendTo).ite h
theorem writeEvent {e : EvRec} : s.spares (t.writeEvent r x e) := (h.putReserved.ite h.putUnreserved).forwardEvent

/-! Frames, and the modes that follow them -/

theorem beginMode : s.spares (t.beginMode m x c) := h
theorem refuse : s.spares (t.refuse c) := h.withSys.event
theorem deviceMode : s.spares (t.deviceMode m) := by
  unfold State.deviceMode
  split
  · exact h.beginMode
  · exact h.withSys.refuse.beginMode.ite h
theorem printCheck : s.spares t.printCheck := h.ite (h.deviceMode.ite (h.deviceMode.ite h))
theorem setCtx {q : Ctx} : s.spares (t.setCtx c q) := h
theorem frameEvent : s.spares (t.frameEvent c a v r n x) := (h.setCtx.ite h).event.writeEvent
theorem spoilRun : s.spares (t.spoilRun c v n) := by
  unfold State.spoilRun State.spoilWith
  dsimp only
  split
  · rw [if_neg (by simp)]
    exact h.setCtx.frameEvent.printCheck
  · exact ((h.setCtx.ite h).ite (h.setCtx.ite h).frameEvent).ite h

/-! Reads through ECC -/

theorem countDev : s.spares (t.countDev a r v) :=
  ((h.withEcc.event.raiseFault.setFld.setFlag.ite h.withEcc.event.raiseFault.setFld.setFlag).ite
    h.withEcc.event.raiseFault).ite h.withEcc
theorem tableHit : s.spares (t.tableHit a b r v) := by
  unfold State.tableHit
  dsimp only
  exact (State.spares.ite h.withEcc.bump h.withEcc).withEcc.event.ite (h.withEcc.bump.ite h.withEcc)
theorem corrected {devs : List Nat} : s.spares (t.corrected a devs) :=
  (h.bump.event.forAll fun _ _ hu => hu.countDev).tableHit
theorem markPoison : s.spares (t.markPoison a) := (h.ite h.withPoison).withEcc
theorem uncorrectable {syms : List (Nat × Byte)} : s.spares (t.uncorrectable a syms x) :=
  (h.withLmem.setPair64.bump.event.event.raiseFault.ite h.withLmem.setPair64.bump.event.raiseFault).markPoison
theorem readCw {errs : List CwErr} : s.spares (t.readCw a errs x) := by
  unfold State.readCw
  split
  · exact h
  · split
    · exact h
    · exact h.corrected
    · exact h.uncorrectable
    · exact h.withFree.uncorrectable.ite (h.withFree.forAll fun _ _ hu => hu.withFree.withLmem).withFree.corrected
theorem demand {errs : List CwErr} : s.spares (t.demand a n errs) := h.withEcc.forAll fun _ _ hu => hu.readCw

end
end State.spares

end Sys2Proof.Machine
end

section
/-! PROOFS. The bands at work at a station (R50, R82 to R87, R94, R96). -/

namespace Sys2Proof.Machine

/-! ### What decoding keeps of the bands at work -/

section
variable (s : State) (n : Nat)

theorem State.fmt_setFmt (x : Fmt) : ((s.setFmt n x).stn n).fmt = x :=
  congrArg Stn.fmt (Sparse.get_set_same _ _ _ _)

theorem State.setFmt_reg (x : Fmt) (a : Nat) : (s.setFmt n x).reg a = s.reg a := rfl

theorem State.stn_congr {t : State} (h : t.stns = s.stns) : t.stn n = s.stn n := by unfold State.stn; rw [h]

end

/-- The decoder of station `n` has the same bands at work. -/
def State.keepsWork (n : Nat) (s t : State) : Prop := (t.stn n).fmt.decoding = (s.stn n).fmt.decoding

namespace State.keepsWork

variable {n : Nat} {s t u : State}

theorem trans (h : s.keepsWork n t) (h' : t.keepsWork n u) : s.keepsWork n u := Eq.trans h' h

theorem of_stns (h : t.stns = s.stns) : s.keepsWork n t := congrArg (fun x : Stn => x.fmt.decoding) (s.stn_congr n h)

theorem spares (h : s.keepsWork n t) (h' : t.spares u) : s.keepsWork n u := h.trans (of_stns h'.stns)

theorem ite {c : Prop} [Decidable c] (h : s.keepsWork n t) (hu : s.keepsWork n u) :
    s.keepsWork n (if c then t else u) := by split <;> assumption

section
variable (h : s.keepsWork n t) {slot i ctx b why a : Nat} {errs : List CwErr}
include h

theorem demand : s.keepsWork n (t.demand a i errs) := h.spares (State.spares.refl t).demand
theorem bump {f : Field} : s.keepsWork n (t.bump f i) := h.spares (State.spares.refl t).bump
theorem event : s.keepsWork n (t.event a i b) := h.spares (State.spares.refl t).event
theorem draw : s.keepsWork n t.draw.2 := h

theorem setHist {frame plane c : Nat} {px : List Nat} : s.keepsWork n (t.setHist n frame plane b c px) :=
  h.trans ((congrArg Fmt.decoding (State.fmt_setFmt t n { (t.stn n).fmt with hist := _ })).trans rfl)

theorem setStatus : s.keepsWork n (t.setStatus slot i a) := by
  unfold State.setStatus
  split
  · exact h.trans (of_stns (by simp [State.setRec, State.fstStat, State.storeLmem]))
  · exact h

theorem badBlock : s.keepsWork n (t.badBlock n ctx slot i why a) := by
  have hmark : ∀ v, t.keepsWork n v → s.keepsWork n (State.spoilRun (State.raiseFault (State.event (State.setFld
      ((v.bump F.DEC_BAD_CNT n).setPair64 F.DEC_BAD_ADDR_LO n a) F.DEC_BAD_WHY n why) B.DEC n 0) (82 + n)) ctx cPoison
        (82 + n)) := fun v hv =>
    (h.trans hv).spares (State.spares.refl v).bump.setPair64.setFld.event.raiseFault.spoilRun
  unfold State.badBlock
  split
  · exact hmark _ (setStatus rfl)
  · exact hmark _ rfl

theorem decodeOne {r : PlaneRec} : s.keepsWork n (t.decodeOne n ctx b slot i r errs).1 := by
  unfold State.decodeOne
  dsimp only
  split
  · split
    · exact State.keepsWork.ite h.demand.demand.setHist.bump.event h.demand.demand.setHist
    · exact (State.keepsWork.ite h.demand.demand.setHist.bump.event h.demand.demand.setHist).badBlock
  · dsimp only
    exact h.demand.demand.draw.setHist.badBlock

/-- A plane's blocks are decoded one after the other. -/
theorem decodePlane : s.keepsWork n (t.decodePlane n ctx b a errs).1 := by
  unfold State.decodePlane
  split
  next k r _ =>
    exact List.foldlRecOn (motive := fun x : State × List (Nat × Option (List (List Nat))) => s.keepsWork n x.1) _ _ h
      fun x hx i _ => hx.decodeOne
  · exact h

end
end State.keepsWork

/-! ### The next band (R94) -/

/-- The first band at work at a station is taken off. -/
def State.bandTaken (s : State) (n : Nat) (rest : List (Nat × Nat)) : State :=
  s.setFmt n { (s.stn n).fmt with decoding := rest }

theorem State.bandTaken_fmt (s : State) (n : Nat) (rest : List (Nat × Nat)) :
    ((s.bandTaken n rest).stn n).fmt.decoding = rest ∧ ((s.bandTaken n rest).stn n).fmt.slots = (s.stn n).fmt.slots :=
  have h : ((s.bandTaken n rest).stn n).fmt = { (s.stn n).fmt with decoding := rest } := s.fmt_setFmt n _
  ⟨congrArg Fmt.decoding h, (congrArg Fmt.slots h).trans rfl⟩

section
variable (s : State) (n : Nat)

theorem State.decNext_ctxs (rest : List (Nat × Nat)) : (s.decNext n rest).ctxs = s.ctxs := by
  cases rest with
  | nil => exact State.setFld_ctxs ..
  | cons x rest => exact (State.setFld_ctxs ..).trans (State.setFld_ctxs ..)

/-- Going on frees the lanes at most: the bands at work and the line store stand. -/
theorem State.decNext_fmt (rest : List (Nat × Nat)) :
    ((s.decNext n rest).stn n).fmt.decoding = (s.stn n).fmt.decoding ∧
      ((s.decNext n rest).stn n).fmt.slots = (s.stn n).fmt.slots := by
  cases rest with
  | nil =>
    have h : ((s.decNext n []).stn n).fmt = { (s.stn n).fmt with lanes := [] } :=
      (congrArg Stn.fmt (State.stn_congr _ n (State.setFld_stns ..))).trans (s.fmt_setFmt n _)
    rw [h]
    exact ⟨rfl, rfl⟩
  | cons x rest =>
    have h : (s.decNext n (x :: rest)).stn n = s.stn n := s.stn_congr n ((State.setFld_stns ..).trans (State.setFld_stns ..))
    rw [h]
    exact ⟨rfl, rfl⟩

/-- DEC_STAT.CTX shows the context of the next band, or none. -/
theorem State.decNext_shown (rest : List (Nat × Nat)) :
    (s.decNext n rest).fld F.DEC_STAT_CTX n = match rest.head? with | none => 0xFF | some x => x.1 % 256 := by
  cases rest with
  | nil => exact (State.fld_setFld_same _ _ _ _ (by decide)).trans (Nat.mod_eq_of_lt (by decide))
  | cons x rest =>
    have hband : F.DEC_STAT_CTX.addr n ≠ F.DEC_BAND_BAND.addr n := by simp [Field.addr, regAddr]
    exact (State.fld_setFld_addr _ _ _ _ _ _ hband).trans (State.fld_setFld_same _ _ _ _ (by decide))

/-- It touches two registers of the station's page, and no fault source. -/
theorem State.decNext_beside (rest : List (Nat × Nat)) :
    s.regsBut (s.decNext n rest) [F.DEC_STAT.addr n, F.DEC_BAND.addr n] := by
  intro a ha
  have hstat : a ≠ F.DEC_STAT_CTX.addr n := fun e => ha (e ▸ .head _)
  have hband : a ≠ F.DEC_BAND_BAND.addr n := fun e => ha (e ▸ .tail _ (.head _))
  unfold State.decNext
  cases rest with
  | nil => rw [State.reg_setFld_ne _ _ _ _ _ hstat, State.setFmt_reg]
  | cons x rest =>
    dsimp only
    rw [State.reg_setFld_ne _ _ _ _ _ hband, State.reg_setFld_ne _ _ _ _ _ hstat]

/-! ### A band lands (R96) -/

/-- The frame's lines of the band are those that landed, one for each line coordinate. -/
theorem State.landBand_lines (ctx : Nat) (line : Int) (lines : List (List Nat)) (h : lines.length = 48) :
    (((((s.landBand n ctx line lines).stn n).fmt.slots.filter fun x => x.frame == (s.ctx ctx).order &&
        decide (line ≤ x.line ∧ x.line < line + 48))).map fun x => (x.line, x.ctx)) =
      (List.range 48).map fun y : Nat => (line + y, ctx) := by
  have hslots : ((s.landBand n ctx line lines).stn n).fmt.slots =
      ((s.stn n).fmt.slots.filter fun x =>
        !(x.frame == (s.ctx ctx).order && decide (line ≤ x.line ∧ x.line < line + 48))) ++
        lines.zipIdx.map fun l => Slot.mk (line + l.2) ctx (s.ctx ctx).order false l.1 :=
    congrArg Fmt.slots (s.fmt_setFmt n _)
  have hnew : ∀ x ∈ lines.zipIdx.map fun l => Slot.mk (line + l.2) ctx (s.ctx ctx).order false l.1,
      (x.frame == (s.ctx ctx).order && decide (line ≤ x.line ∧ x.line < line + 48)) = true := by
    intro x hx
    obtain ⟨l, hl, rfl⟩ := List.mem_map.mp hx
    have hlt := List.snd_lt_of_mem_zipIdx hl
    simp
    omega
  rw [hslots, List.filter_append, List.filter_filter, List.filter_eq_self.mpr hnew, List.filter_eq_nil_iff.mpr (by simp),
    List.nil_append, List.map_map, List.range_eq_range', ← h, ← List.zipIdx_map_snd, List.map_map]
  rfl

end

/-- The first band at work is decoded and lands where its frame is still live (R83 to R86, R96, R101). -/
theorem decBandDelivered_cons {s : State} {n ctx b : Nat} {rest : List (Nat × Nat)} (errs : List CwErr)
    (h : (s.stn n).fmt.decoding = (ctx, b) :: rest) :
    ∃ (u : State) (lines : List (List Nat)), (u.stn n).fmt.decoding = rest ∧ lines.length = 48 ∧
      decBandDelivered n errs s = (if (u.ctx ctx).live n then u.landBand n ctx ((s.ctx ctx).origin n + 48 * b) lines
        else u).decNext n rest := by
  unfold decBandDelivered
  rw [h]
  dsimp only
  obtain ⟨w, hw⟩ : ∃ w, w = s.bandTaken n rest := ⟨_, rfl⟩
  have htaken : (w.stn n).fmt.decoding = rest := hw ▸ (s.bandTaken_fmt n rest).1
  have hctx : w.ctx ctx = s.ctx ctx := by rw [hw]; rfl
  rw [← State.bandTaken, ← hw, hctx]
  have hbase : w.keepsWork n (w.decodePlane n ctx b ((s.ctx ctx).planeAddr n 0) errs).1 := State.keepsWork.decodePlane rfl
  generalize w.decodePlane n ctx b ((s.ctx ctx).planeAddr n 0) errs = base at hbase ⊢
  obtain ⟨v, blocks, d⟩ := base
  have hovl : w.keepsWork n (if (s.ctx ctx).planeAddr n 1 = 0 then (v, [], 1)
      else v.decodePlane n ctx b ((s.ctx ctx).planeAddr n 1) errs).1 := by
    split
    · exact hbase
    · exact hbase.decodePlane
  generalize (if (s.ctx ctx).planeAddr n 1 = 0 then (v, [], 1)
      else v.decodePlane n ctx b ((s.ctx ctx).planeAddr n 1) errs) = ovl at hovl ⊢
  obtain ⟨u, overlay, k⟩ := ovl
  exact ⟨u, _, Eq.trans hovl htaken, by simp, rfl⟩

theorem exec_decBandDelivered_delivers {s : State} {n ctx b : Nat} {rest : List (Nat × Nat)} (errs : List CwErr)
    (hn : n < 6) (h : (s.stn n).fmt.decoding = (ctx, b) :: rest) :
    ∃ t, exec (.decBandDelivered n errs) s = .next t ∧ (t.stn n).fmt.decoding = rest ∧
      ((t.ctx ctx).live n = true → (((t.stn n).fmt.slots.filter fun x => x.frame == (t.ctx ctx).order &&
          decide ((s.ctx ctx).origin n + 48 * b ≤ x.line ∧ x.line < (s.ctx ctx).origin n + 48 * b + 48)).map
          fun x => (x.line, x.ctx))
        = (List.range 48).map fun y : Nat => ((s.ctx ctx).origin n + 48 * b + y, ctx)) ∧
      t.fld F.DEC_STAT_CTX n = (match rest.head? with | none => 0xFF | some x => x.1 % 256) := by
  obtain ⟨u, lines, hwork, hlines, hrun⟩ := decBandDelivered_cons errs h
  obtain ⟨v, hv, hctxs, hfmt, hland⟩ : ∃ v : State, decBandDelivered n errs s = v.decNext n rest ∧
      v.ctxs = u.ctxs ∧ (v.stn n).fmt.decoding = rest ∧
      ((u.ctx ctx).live n = true → v = u.landBand n ctx ((s.ctx ctx).origin n + 48 * b) lines) := by
    refine ⟨_, hrun, ?_⟩
    split
    · exact ⟨rfl, (congrArg Fmt.decoding (u.fmt_setFmt n _)).trans hwork, fun _ => rfl⟩
    · next hdead => exact ⟨rfl, hwork, fun hlive => absurd hlive hdead⟩
  obtain ⟨hdecoding, hslots⟩ := v.decNext_fmt n rest
  have hctx : (v.decNext n rest).ctx ctx = u.ctx ctx := State.ctx_congr _ _ ((v.decNext_ctxs n rest).trans hctxs)
  refine ⟨_, next_finish ((if_pos hn).trans hv), hdecoding.trans hfmt, fun hlive => ?_, v.decNext_shown n rest⟩
  change ((v.decNext n rest).ctx ctx).live n = true at hlive
  change ((((v.decNext n rest).stn n).fmt.slots.filter fun x =>
    x.frame == ((v.decNext n rest).ctx ctx).order && _).map _) = _
  rw [hctx] at hlive ⊢
  rw [hslots, hland hlive]
  exact u.landBand_lines n ctx _ lines hlines

/-! ### A late band (R87) -/

/-- A cause met while a frame's bands are read spoils it and no other, and the frame runs on (R50, R85, R87). -/
theorem State.framed.spoilRun {W : Nat → Prop} {c : Nat} {x : Ctx} {s t : State} (hring : ∀ a, ringReg a → W a)
    (hsys : W (evtAddr B.SYS 0)) (hapr : W (evtAddr B.APR 0)) (h : s.framed W c x t)
    (hst : x.st = .admitted ∨ x.st = .exposing) (cause src : Nat) :
    ∃ y, s.framed W c y (t.spoilRun c cause src) ∧ y.st = .spoiled ∧ y.cause = cause ∧ y.causeSrc = src := by
  unfold State.spoilRun State.spoilWith
  rw [h.own]
  dsimp only
  rw [if_pos hst, if_neg (by simp)]
  have hspoilt := h.setCtx { x with st := .spoiled, cause := cause, causeSrc := src, causeFacets := t.facetsNow }
  obtain ⟨k, hev⟩ := hspoilt.frameEvent hring hapr evSpoil cause 0 (t.plainArg x) true
  exact ⟨_, hev.beside ((State.moves.refl W _).printCheck hsys), rfl, rfl, rfl⟩

/-- The first band at work is taken off undelivered, counted and raised (R87). -/
theorem decBandLate_cons {s : State} {n ctx b : Nat} {rest : List (Nat × Nat)}
    (h : (s.stn n).fmt.decoding = (ctx, b) :: rest) :
    ∃ u : State, decBandLate n s = u.spoilRun ctx cFault (76 + n) ∧ (u.stn n).fmt.decoding = rest ∧
      (u.stn n).fmt.slots = (s.stn n).fmt.slots ∧ u.raised B.DEC n 2 = true ∧ 76 + n ∈ u.flt.pair ∧
      u.fld F.DEC_LATE_CNT n = min (s.fld F.DEC_LATE_CNT n + 1) (2 ^ F.DEC_LATE_CNT.len - 1) ∧ u.ctx ctx = s.ctx ctx := by
  obtain ⟨w, hw⟩ : ∃ w, w = (s.bandTaken n rest).decNext n rest := ⟨_, rfl⟩
  have hcount : w.fld F.DEC_LATE_CNT n = s.fld F.DEC_LATE_CNT n := by
    rw [hw]
    exact State.fld_congr ((State.decNext_beside _ n rest _ (by simp [Field.addr, regAddr])).trans (s.setFmt_reg n _ _))
  have hctxs : w.ctxs = s.ctxs := by
    rw [hw]
    exact (State.decNext_ctxs _ n rest).trans rfl
  obtain ⟨htaken, hslots⟩ := s.bandTaken_fmt n rest
  obtain ⟨hdecoding', hslots'⟩ := (s.bandTaken n rest).decNext_fmt n rest
  rw [← hw] at hdecoding' hslots'
  have hstn : (((w.bump F.DEC_LATE_CNT n).event B.DEC n 2).raiseFault (76 + n)).stn n = w.stn n :=
    State.stn_congr _ _ (by simp)
  refine ⟨((w.bump F.DEC_LATE_CNT n).event B.DEC n 2).raiseFault (76 + n), ?_, ?_, ?_, ?_, State.raiseFault_mem _ _,
    ?_, ?_⟩
  · unfold decBandLate
    rw [h, hw]
    rfl
  · rw [hstn, hdecoding', htaken]
  · rw [hstn, hslots', hslots]
  · unfold State.raised
    rw [State.raiseFault_reg]
    exact State.event_bit _ _ _ _ (by decide)
  · have hne : F.DEC_LATE_CNT.addr n ≠ regAddr B.DEC n 0x010 := by simp [Field.addr, regAddr, B.DEC]
    rw [State.raiseFault_fld, State.fld_congr (State.reg_event_ne _ _ _ _ _ hne), State.fld_bump_same _ _ _ (by decide),
      hcount]
  · exact State.ctx_congr _ _ (by simp [hctxs])

/-- A register of DEC is none that the spoiling of a frame writes. -/
theorem not_framePage_dec {n off : Nat} (hn : n < 6) (ho : off < 4096) : ¬ framePage (regAddr B.DEC n off) := by
  unfold framePage
  rw [blkOf_regAddr _ _ _ (by decide) (by omega) ho]
  decide

theorem exec_decBandLate_spoils {s : State} {n ctx b : Nat} {rest : List (Nat × Nat)} (hn : n < 6)
    (h : (s.stn n).fmt.decoding = (ctx, b) :: rest) (hst : (s.ctx ctx).st = .admitted ∨ (s.ctx ctx).st = .exposing) :
    ∃ t, exec (.decBandLate n) s = .next t ∧ (t.stn n).fmt.decoding = rest ∧
      (t.stn n).fmt.slots = (s.stn n).fmt.slots ∧ t.raised B.DEC n 2 = true ∧ 76 + n ∈ t.flt.pair ∧
      t.fld F.DEC_LATE_CNT n = min (s.fld F.DEC_LATE_CNT n + 1) (2 ^ F.DEC_LATE_CNT.len - 1) ∧
      (t.ctx ctx).st = .spoiled ∧ (t.ctx ctx).cause = 9 ∧ (t.ctx ctx).causeSrc = 76 + n := by
  obtain ⟨u, hrun, hwork, hslots, hraised, hpair, hcount, hctx⟩ := decBandLate_cons h
  obtain ⟨y, hy, hspoilt, hcause, hsrc⟩ := (State.framed.refl framePage ctx u).spoilRun framePage_ring framePage_sys
    framePage_apr (hctx ▸ hst) cFault (76 + n)
  have hspares : u.spares (u.spoilRun ctx cFault (76 + n)) := (State.spares.refl u).spoilRun
  have hstn : (u.spoilRun ctx cFault (76 + n)).stn n = u.stn n := u.stn_congr n hspares.stns
  have hevt := hy.regs (evtAddr B.DEC n) (not_framePage_dec hn (by decide))
  have hcnt := hy.regs (F.DEC_LATE_CNT.addr n) (not_framePage_dec hn (by decide))
  exact ⟨_, next_finish ((if_pos hn).trans hrun), (congrArg (fun x : Stn => x.fmt.decoding) hstn).trans hwork,
    (congrArg (fun x : Stn => x.fmt.slots) hstn).trans hslots,
    (congrArg (fun w : Word => bit w.toNat 2) hevt).trans hraised, hspares.pair hpair, (State.fld_congr hcnt).trans hcount,
    (congrArg Ctx.st hy.own).trans hspoilt, (congrArg Ctx.cause hy.own).trans hcause,
    (congrArg Ctx.causeSrc hy.own).trans hsrc⟩

/-- Settles O16: each clause is what its command's lemma says. -/
theorem decoderBands : Obligations.DecoderBands := by
  unfold Obligations.DecoderBands
  exact ⟨fun s n ctx b rest errs hn h => exec_decBandDelivered_delivers errs hn h,
    fun s n ctx b rest hn h hst => exec_decBandLate_spoils hn h hst⟩

end Sys2Proof.Machine
end

section
/-! SUPPORT. What a read through ECC gives rests on the memory alone: on LMEM, its marks and its correction record, and on
the registers of MEM and ECC (R297, R299, R302 to R312). -/

namespace Sys2Proof.Machine

/-- A register of MEM or ECC. -/
abbrev memReg (a : Nat) : Prop := blkOf a ∈ [B.MEM, B.ECC]

theorem memReg_ecc {a : Nat} (h : eccReg a) : memReg a := by simp [memReg, h]

/-- `t` holds the memory of `s`: a read of the one gives what a read of the other gives. -/
structure State.sameMemory (s t : State) : Prop where
  lmem : t.lmem = s.lmem
  poison : t.poison = s.poison
  ecc : t.ecc = s.ecc
  freeCtr : t.freeCtr = s.freeCtr
  regs : ∀ a, memReg a → t.reg a = s.reg a

namespace State.sameMemory

theorem ite {c d : Prop} [Decidable c] [Decidable d] {s t u v : State} (hcd : c ↔ d) (hs : s.sameMemory u)
    (ht : t.sameMemory v) : (if c then s else t).sameMemory (if d then u else v) := by
  by_cases hc : c
  · rw [if_pos hc, if_pos (hcd.mp hc)]; exact hs
  · rw [if_neg hc, if_neg (mt hcd.mpr hc)]; exact ht

section
variable {s t : State} (h : s.sameMemory t)
include h

theorem forAll {xs : List Nat} {f : State → Nat → State}
    (hf : ∀ u v x, u.sameMemory v → (f u x).sameMemory (f v x)) :
    (forAll xs s f).sameMemory (forAll xs t f) := by
  unfold Machine.forAll
  induction xs generalizing s t with
  | nil => exact h
  | cons x xs ih => exact ih (hf s t x h)

/-! ### What is read -/

theorem fld {f : Field} {i : Nat} (hf : memReg (f.addr i)) : t.fld f i = s.fld f i := State.fld_congr (h.regs _ hf)
theorem flag {f : Field} {i : Nat} (hf : memReg (f.addr i)) : t.flag f i = s.flag f i := State.flag_congr (h.regs _ hf)
theorem lmemBytes (a n : Nat) : t.lmemBytes a n = s.lmemBytes a n := by unfold State.lmemBytes; rw [h.lmem]
theorem entryBytes (a i : Nat) : t.entryBytes a i = s.entryBytes a i := h.lmemBytes _ _
theorem poisoned (a n : Nat) : t.poisoned a n = s.poisoned a n := by unfold State.poisoned; rw [h.poison, h.ecc]
theorem received (a : Nat) (syms : List (Nat × Byte)) : t.received a syms = s.received a syms := by
  unfold State.received; rw [h.lmemBytes]
theorem channelOf (a : Nat) : t.channelOf a = s.channelOf a := by
  unfold State.channelOf; rw [h.fld (by decide)]
theorem rankAt (a : Nat) : t.rankAt a = s.rankAt a := by unfold State.rankAt; rw [h.flag (by decide)]
theorem erased {ch : Nat} (hch : ch < 256) (rank : Nat) : t.erased ch rank = s.erased ch rank := by
  have hreg : ∀ f : Field, f.blk = B.ECC → f.off < 4096 → memReg (f.addr ch) :=
    fun f hb ho => memReg_ecc (eccReg_field hb hch ho)
  unfold State.erased
  rw [h.flag (hreg _ rfl (by decide)), h.flag (hreg _ rfl (by decide)), h.fld (hreg _ rfl (by decide)),
    h.fld (hreg _ rfl (by decide))]

/-- Opening an index reads LMEM and its marks alone (R62). -/
theorem readIndex (a : Nat) : t.readIndex a = s.readIndex a := by
  unfold State.readIndex
  simp only [h.lmemBytes, h.entryBytes, h.poisoned]

/-! ### What is written -/

theorem setReg (a : Nat) (w : Word) : (s.setReg a w).sameMemory (t.setReg a w) where
  lmem := h.lmem
  poison := h.poison
  ecc := h.ecc
  freeCtr := h.freeCtr
  regs := fun b hb => by rw [State.reg_setReg, State.reg_setReg, h.regs b hb]

/-- A register whose old value goes into the new one. -/
theorem updReg (a : Nat) (g : Word → Word) : (s.setReg a (g (s.reg a))).sameMemory (t.setReg a (g (t.reg a))) where
  lmem := h.lmem
  poison := h.poison
  ecc := h.ecc
  freeCtr := h.freeCtr
  regs := fun b hb => by
    rw [State.reg_setReg, State.reg_setReg]
    split
    next e => rw [← e, h.regs b hb]
    · exact h.regs b hb

theorem setFld (f : Field) (i v : Nat) : (s.setFld f i v).sameMemory (t.setFld f i v) :=
  h.updReg (f.addr i) fun w => putBits w f.lo f.len v
theorem setFlag (f : Field) (i : Nat) (b : Bool) : (s.setFlag f i b).sameMemory (t.setFlag f i b) := h.setFld ..
theorem setPair64 (f : Field) (i v : Nat) : (s.setPair64 f i v).sameMemory (t.setPair64 f i v) :=
  (h.setReg _ _).setReg _ _
theorem hwSet (a : Nat) (m : Word) : (s.hwSet a m).sameMemory (t.hwSet a m) where
  lmem := h.lmem
  poison := h.poison
  ecc := h.ecc
  freeCtr := h.freeCtr
  regs := fun b hb => by
    rw [State.reg_hwSet, State.reg_hwSet]
    exact (h.updReg a (· ||| m)).regs b hb
theorem event (blk inst n : Nat) : (s.event blk inst n).sameMemory (t.event blk inst n) := h.hwSet _ _
theorem bump {f : Field} {i : Nat} (hf : memReg (f.addr i)) : (s.bump f i).sameMemory (t.bump f i) := by
  unfold State.bump
  rw [h.fld hf]
  exact ite Iff.rfl (h.setFld _ _ _) h
theorem raiseFault (n : Nat) : (s.raiseFault n).sameMemory (t.raiseFault n) where
  lmem := by simp [h.lmem]
  poison := by simp [h.poison]
  ecc := by simp [h.ecc]
  freeCtr := by simp [h.freeCtr]
  regs := fun a ha => by simp [h.regs a ha]
theorem withEcc (e : Ecc) : ({ s with ecc := e } : State).sameMemory { t with ecc := e } :=
  ⟨h.lmem, h.poison, rfl, h.freeCtr, h.regs⟩
theorem withLmem (m : Sparse Byte) : ({ s with lmem := m } : State).sameMemory { t with lmem := m } :=
  ⟨rfl, h.poison, h.ecc, h.freeCtr, h.regs⟩
theorem withPoison (m : List Nat) : ({ s with poison := m } : State).sameMemory { t with poison := m } :=
  ⟨h.lmem, rfl, h.ecc, h.freeCtr, h.regs⟩
theorem draw : s.draw.1 = t.draw.1 ∧ s.draw.2.sameMemory t.draw.2 :=
  ⟨congrArg Config.free h.freeCtr.symm, h.lmem, h.poison, h.ecc, congrArg (· + 1) h.freeCtr, h.regs⟩

/-! ### Reads through ECC -/

theorem countDev {ch : Nat} (hch : ch < 256) (rank dev : Nat) :
    (s.countDev ch rank dev).sameMemory (t.countDev ch rank dev) := by
  unfold State.countDev
  rw [h.ecc]
  dsimp only
  have hcount := h.withEcc { s.ecc with
    total := s.ecc.total.set (fun _ => 0) ((ch * 2 + rank) * 32 + dev)
      (min (s.ecc.total.get (fun _ => 0) ((ch * 2 + rank) * 32 + dev) + 1) 65535)
    window := s.ecc.window.set (fun _ => 0) ((ch * 2 + rank) * 32 + dev)
      (min (s.ecc.window.get (fun _ => 0) ((ch * 2 + rank) * 32 + dev) + 1) 65535) }
  have hraised := (hcount.event B.ECC ch 2).raiseFault 302
  refine ite (by rw [hcount.fld (by decide)]) (ite ?_ (ite Iff.rfl ?_ ?_) hraised) hcount
  · rw [hraised.flag (by decide), hraised.erased hch]
  · exact (hraised.setFld _ _ _).setFlag _ _ _
  · exact (hraised.setFld _ _ _).setFlag _ _ _

theorem tableHit (a ch rank dev : Nat) : (s.tableHit a ch rank dev).sameMemory (t.tableHit a ch rank dev) := by
  unfold State.tableHit
  rw [h.ecc]
  generalize s.ecc.slotFor a = p
  obtain ⟨i, repl⟩ := p
  dsimp only
  have hcount := fun e => ite (c := repl) (d := repl) Iff.rfl
    ((h.withEcc e).bump (f := F.ECC_TBL_OVF) (i := 0x10) (by decide))
    (h.withEcc e)
  refine ite ?_ (event ?_ _ _ _) (hcount _)
  · rw [(hcount _).ecc]
  · rw [(hcount _).ecc]
    exact (hcount _).withEcc _

theorem corrected (a : Nat) (devs : List Nat) : (s.corrected a devs).sameMemory (t.corrected a devs) := by
  unfold State.corrected
  rw [h.channelOf, h.rankAt]
  have hch := s.channelOf_lt a
  have hraised := (h.bump (memReg_ecc (eccReg_field (f := F.ECC_CE_CNT) rfl hch (by decide)))).event B.ECC (s.channelOf a) 0
  exact (hraised.forAll fun u v d huv => huv.countDev hch _ d).tableHit _ _ _ _

theorem markPoison (a : Nat) : (s.markPoison a).sameMemory (t.markPoison a) := by
  have hset : (s.setPoison a).sameMemory (t.setPoison a) := by
    unfold State.setPoison
    rw [h.poison]
    exact ite Iff.rfl h (h.withPoison _)
  unfold State.markPoison
  dsimp only
  rw [hset.ecc]
  exact hset.withEcc _

theorem uncorrectable (a : Nat) (syms : List (Nat × Byte)) (scrub : Bool) :
    (s.uncorrectable a syms scrub).sameMemory (t.uncorrectable a syms scrub) := by
  unfold State.uncorrectable
  rw [h.received, h.lmem]
  dsimp only
  obtain ⟨u, hu⟩ : ∃ u, u = { s with lmem := s.lmem.setList lmemDefault a (s.received a syms) } := ⟨_, rfl⟩
  obtain ⟨v, hv⟩ : ∃ v, v = { t with lmem := s.lmem.setList lmemDefault a (s.received a syms) } := ⟨_, rfl⟩
  have huv : u.sameMemory v := by rw [hu, hv]; exact h.withLmem _
  rw [← hu, ← hv, huv.channelOf]
  have hch := u.channelOf_lt a
  have hraised := ((huv.setPair64 F.ECC_UE_ADDR_LO 0x10 a).bump (memReg_ecc (eccReg_field (f := F.ECC_UE_CNT) rfl hch
    (by decide)))).event B.ECC (u.channelOf a) 1
  exact (ite Iff.rfl ((hraised.event _ _ _).raiseFault _) (hraised.raiseFault _)).markPoison _

theorem readCw (a : Nat) (errs : List CwErr) (scrub : Bool) :
    (s.readCw a errs scrub).sameMemory (t.readCw a errs scrub) := by
  unfold State.readCw
  rw [h.channelOf, h.rankAt, h.erased (s.channelOf_lt a)]
  split
  · exact h
  next e _ =>
    split
    · exact h
    · exact h.corrected _ _
    · exact h.uncorrectable _ _ _
    · obtain ⟨hfree, hdrawn⟩ := h.draw
      dsimp only
      rw [hfree]
      refine ite Iff.rfl (hdrawn.uncorrectable _ _ _) ?_
      have hmis := hdrawn.forAll (xs := List.range 128)
        (f := fun s i => { s.draw.2 with lmem := s.draw.2.lmem.set lmemDefault (a + i) (BitVec.ofNat 8 s.draw.1) })
        fun u v i huv => by
          obtain ⟨hfree', hdrawn'⟩ := huv.draw
          rw [hfree', hdrawn'.lmem]
          exact hdrawn'.withLmem _
      obtain ⟨hfree', hdrawn'⟩ := hmis.draw
      have hdone := hdrawn'.corrected a
      rw [hfree']
      exact hdone _

theorem demand (a n : Nat) (errs : List CwErr) : (s.demand a n errs).sameMemory (t.demand a n errs) := by
  unfold State.demand
  rw [h.ecc]
  exact (h.withEcc _).forAll fun u v c huv => huv.readCw c errs false

theorem demandAlso (a n : Nat) (errs : List CwErr) : (s.demandAlso a n errs).sameMemory (t.demandAlso a n errs) := by
  have hread := h.demand a n errs
  unfold State.demandAlso
  rw [h.ecc]
  dsimp only
  rw [hread.ecc]
  exact hread.withEcc _

theorem indexRead (a : Nat) (errs : List CwErr) : (s.indexRead a errs).sameMemory (t.indexRead a errs) := by
  have hhead := h.demand a 128 errs
  unfold State.indexRead
  dsimp only
  rw [hhead.lmemBytes]
  have hent := hhead.demandAlso (a + 0x80) (16 * fieldAt ((s.demand a 128 errs).lmemBytes a 128) 12 4) errs
  rw [hent.lmemBytes]
  exact ite Iff.rfl hent (hent.demandAlso _ _ _)

end
end State.sameMemory

end Sys2Proof.Machine
end

section
/-! PROOFS. Postings of the image rings, and an index claimed (R38, R61 to R65, R69). -/

namespace Sys2Proof.Machine

/-! ### What a posting writes -/

/-- A register of FST or ECC. -/
abbrev storeReg (a : Nat) : Prop := blkOf a ∈ [B.ECC, B.FST]

theorem storeReg_stat : storeReg (F.FST_STAT.addr 0) := by decide
theorem storeReg_badPost : storeReg (F.FST_BADPOST.addr 0) := by decide
theorem storeReg_evt : storeReg (evtAddr B.FST 0) := by decide

namespace State.moves

theorem mono {W V : Nat → Prop} {s t : State} (h : s.moves W t) (hWV : ∀ a, W a → V a) : s.moves V t :=
  ⟨fun a ha => h.regs a (mt (hWV a) ha), h.ctxs, h.hits⟩

variable {s t : State} (h : s.moves storeReg t) {a n i st : Nat} {errs : List CwErr}
include h

theorem readStore : s.moves storeReg (t.demand a n errs) :=
  h.trans (((State.moves.refl eccReg t).demand a n errs).mono fun _ ha => by simp [storeReg, ha])

theorem demandAlso : s.moves storeReg (t.demandAlso a n errs) := by
  obtain ⟨hregs, hctxs, hhits⟩ := h.readStore (a := a) (n := n) (errs := errs)
  exact ⟨hregs, hctxs, hhits⟩

theorem indexRead : s.moves storeReg (t.indexRead a errs) := by
  unfold State.indexRead
  dsimp only
  exact State.moves.ite h.readStore.demandAlso h.readStore.demandAlso.demandAlso

theorem badPost : s.moves storeReg t.badPost := (h.bump storeReg_badPost).event storeReg_evt

theorem setStatus : s.moves storeReg (t.setStatus n i st) := by
  unfold State.setStatus
  split
  · exact h.storeLmem.setRec storeReg_stat
  · exact h

end State.moves

namespace State.spares

variable {s t : State} (h : s.spares t) {a n : Nat} {errs : List CwErr}
include h

theorem demandAlso : s.spares (t.demandAlso a n errs) := by
  unfold State.demandAlso
  exact h.demand.withEcc

theorem indexRead : s.spares (t.indexRead a errs) := by
  unfold State.indexRead
  dsimp only
  exact State.spares.ite h.demand.demandAlso h.demand.demandAlso.demandAlso

end State.spares

/-! ### Records -/

section
variable (s : State) (i : Nat)

theorem State.planeRec_setRec (q : Option PlaneRec) : (s.setRec i q).planeRec i = q := by
  unfold State.setRec
  rw [State.planeRec_congr (congrArg Fst.recs (State.fstStat_fst _))]
  exact Sparse.get_set_same _ _ _ _

theorem State.setRec_lmem (q : Option PlaneRec) : (s.setRec i q).lmem = s.lmem := State.fstStat_lmem _

theorem State.badPost_fst : s.badPost.fst = s.fst := by simp [State.badPost]
theorem State.badPost_lmem : s.badPost.lmem = s.lmem := by simp [State.badPost]
theorem State.badPost_raised : s.badPost.raised B.FST 0 2 = true := State.event_bit _ _ _ _ (by decide)

end

/-- The byte of STATUS in an entry is the one at its offset 11 (R59). -/
theorem State.entStatus_entryBytes (s : State) (a j : Nat) :
    entStatus (s.entryBytes a j) = (s.lmemByte (a + 0x80 + 16 * j + 11)).toNat := by
  simp [entStatus, fieldAt, takeAt, leNat, State.entryBytes, State.lmemBytes, State.lmemByte, Sparse.getList, Nat.add_assoc]

/-- STATUS of an entry reads as it has been written. -/
theorem State.entStatus_setStatus {s : State} {i j st : Nat} {p : PlaneRec} (hp : s.planeRec i = some p) (hst : st < 256) :
    entStatus ((s.setStatus i j st).entryBytes p.addr j) = st := by
  rw [State.entStatus_entryBytes]
  unfold State.setStatus State.lmemByte
  rw [hp]
  dsimp only
  rw [State.setRec_lmem]
  have hbyte : Sparse.get lmemDefault (s.lmem.setList lmemDefault (p.addr + 0x80 + 16 * j + 11) (leBytes 1 st))
      (p.addr + 0x80 + 16 * j + 11) = BitVec.ofNat 8 st := Sparse.get_set_same _ _ _ _
  exact (congrArg BitVec.toNat hbyte).trans ((BitVec.toNat_ofNat ..).trans (Nat.mod_eq_of_lt hst))

/-- The result of a header's test, and whether the header reads poisoned (R63, R311). -/
def State.headerStatus (s : State) (p : PlaneRec) (e : List Byte) : Nat :=
  (if headerOk (s.lmemBytes (entAddr e) 32) p.bpp p.nTables (entComp e) = true then 1 else 4)
    + (if s.poisoned (entAddr e) 32 = true then 2 else 0)

/-- A POST's test leaves its result in STATUS of the entry (R63). -/
theorem State.testHeader_marks {s : State} {i : Nat} {p : PlaneRec} (hp : s.planeRec i = some p)
    (errs : List CwErr) (j : Nat) :
    s.moves storeReg (s.testHeader i errs j) ∧ entStatus ((s.testHeader i errs j).entryBytes p.addr j)
      = (s.demand (entAddr (s.entryBytes p.addr j)) 32 errs).headerStatus p (s.entryBytes p.addr j) := by
  obtain ⟨e, he⟩ : ∃ e, e = s.entryBytes p.addr j := ⟨_, rfl⟩
  obtain ⟨w, hw⟩ : ∃ w, w = s.demand (entAddr e) 32 errs := ⟨_, rfl⟩
  have hread : s.moves storeReg w := hw ▸ (State.moves.refl storeReg s).readStore
  have hrec : w.planeRec i = some p := by
    rw [hw, State.planeRec_congr (congrArg Fst.recs (State.spares.refl s).demand.fst), hp]
  have hlt : w.headerStatus p e < 256 := by unfold State.headerStatus; split <;> split <;> decide
  have hrun : s.testHeader i errs j = if headerOk (w.lmemBytes (entAddr e) 32) p.bpp p.nTables (entComp e)
      then w.setStatus i j (w.headerStatus p e) else (w.setStatus i j (w.headerStatus p e)).event B.FST 0 1 := by
    unfold State.testHeader
    rw [hp, hw, he]
    rfl
  rw [← he, ← hw, hrun]
  split
  · exact ⟨hread.setStatus, State.entStatus_setStatus hrec hlt⟩
  · exact ⟨hread.setStatus.event storeReg_evt, State.entStatus_setStatus hrec hlt⟩

/-- The record of an index is put in its slot, and the claims of the index are dropped (R62, R65). -/
def State.placeRec (s : State) (a i : Nat) (p : PlaneRec) : State :=
  let t := { s with fst := { s.fst with claims := s.fst.claims.filter fun x => decide (x.addr ≠ a) } }.setRec i (some p)
  (if p.bad then t.event B.FST 0 0 else t).fstStat

/-- An index opened is read, and its record is held by the first context that has claimed it (R62, R64, R65). -/
theorem State.openIndex_placeRec (s : State) (a i : Nat) (errs : List CwErr) :
    s.openIndex a i errs = (s.indexRead a errs).placeRec a i { (s.indexRead a errs).readIndex a with
      ctx := ((s.indexRead a errs).fst.claims.find? (·.addr == a)).map (·.ctx) } := rfl

/-- No context holds a record as its index is read. -/
theorem State.readIndex_unheld (s : State) (a : Nat) : (s.readIndex a).ctx = none := by
  unfold State.readIndex
  rfl

theorem PlaneRec.with_ctx {p : PlaneRec} {c : Option Nat} (h : p.ctx = c) : { p with ctx := c } = p := by rw [← h]

section
variable {s : State} (a i : Nat) (p : PlaneRec)

theorem State.moves.placeRec {t : State} (h : s.moves storeReg t) : s.moves storeReg (t.placeRec a i p) := by
  have hrec := (h.withFst (q := { t.fst with claims := t.fst.claims.filter fun x => decide (x.addr ≠ a) }) rfl).setRec
    (i := i) (q := some p) storeReg_stat
  exact State.moves.fstStat ((hrec.event storeReg_evt).ite hrec) storeReg_stat

theorem State.placeRec_lmem : (s.placeRec a i p).lmem = s.lmem := by
  unfold State.placeRec
  rw [State.fstStat_lmem]
  split
  · rw [State.event_lmem, State.setRec_lmem]
  · rw [State.setRec_lmem]

theorem State.placeRec_fst : (s.placeRec a i p).fst = { s.fst with
    recs := s.fst.recs.set (fun _ => none) i (some p), claims := s.fst.claims.filter fun x => decide (x.addr ≠ a) } := by
  unfold State.placeRec State.setRec
  rw [State.fstStat_fst]
  split
  · rw [State.event_fst, State.fstStat_fst]
  · rw [State.fstStat_fst]

theorem State.planeRec_placeRec : (s.placeRec a i p).planeRec i = some p := by
  have hrecs : (s.placeRec a i p).fst.recs = s.fst.recs.set (fun _ => none) i (some p) := by rw [State.placeRec_fst]
  unfold State.planeRec
  rw [hrecs]
  exact Sparse.get_set_same _ _ _ _

theorem State.placeRec_claims :
    (s.placeRec a i p).fst.claims = s.fst.claims.filter fun x => decide (x.addr ≠ a) := by rw [State.placeRec_fst]

end

/-! ### A posting taken -/

/-- `u` is `s` with the posting at the head of image ring `r` read through ECC and taken (R38, R62). -/
structure State.postingTaken (s u : State) (r : Nat) (errs : List CwErr) : Prop where
  ring : r < 32
  head : u.ringHead r = (s.ringHead r + 1) % s.ringSize r
  regs : s.regsOutside u [B.APR, B.ECC, B.FST]
  memory : (s.entryRead r errs).sameMemory u
  recs : u.fst.recs = s.fst.recs
  claims : u.fst.claims = s.fst.claims
  ctxs : u.ctxs = s.ctxs

theorem State.nextImageRing_lt {s : State} {r : Nat} (h : s.nextImageRing = some r) : r < 32 := by
  unfold State.nextImageRing at h
  split at h
  · cases h
  · obtain ⟨i, -, rfl⟩ := List.mem_map.mp (List.mem_of_find?_eq_some h)
    exact (Nat.mod_lt _ (by decide)).trans (by decide)

/-- The ring served last is noted beside the entry taken (R62). -/
theorem State.entryTaken.noted {s w : State} {r : Nat} {errs : List CwErr} (h : s.entryTaken w r errs) {q : Fst}
    (hregs : s.regsOutside w [B.APR, B.ECC, B.FST]) (hmem : (s.entryRead r errs).sameMemory w)
    (hrecs : q.recs = s.fst.recs) (hclaims : q.claims = s.fst.claims) : s.postingTaken { w with fst := q } r errs :=
  ⟨h.ring, h.head, hregs, ⟨hmem.lmem, hmem.poison, hmem.ecc, hmem.freeCtr, hmem.regs⟩, hrecs, hclaims, h.ctxs⟩

/-- A posting is read through ECC; the head of its ring then moves on, and the ring is the one served last (R38, R62). -/
theorem State.takePosting_read (s : State) (r : Nat) (errs : List CwErr) : ∃ v w, v = s.entryRead r errs ∧
    w = v.setFld F.RING_HEAD_INDEX (ringInst r) ((v.ringHead r + 1) % v.ringSize r) ∧
    s.takePosting r errs = ({ w with fst := { w.fst with lastRing := r } }, v.lmemBytes (s.ringAddr r (s.ringHead r)) 256,
      v.poisoned (s.ringAddr r (s.ringHead r)) 256) := by
  unfold State.takePosting
  exact ⟨_, _, rfl, rfl, rfl⟩

/-- A posting taken, with its bytes and its mark as the read through ECC gives them (R38, R311). -/
theorem State.takePosting_taken {s : State} {r : Nat} (hr : r < 32) (errs : List CwErr) : ∃ u, s.postingTaken u r errs ∧
    s.takePosting r errs = (u, (s.entryRead r errs).lmemBytes (s.ringAddr r (s.ringHead r)) 256,
      (s.entryRead r errs).poisoned (s.ringAddr r (s.ringHead r)) 256) := by
  obtain ⟨v, w, hv, hw, htake⟩ := s.takePosting_read r errs
  have htaken : s.entryTaken w r errs := hw ▸ State.entryTaken_head hr hv
  have hread : s.moves eccReg v := hv ▸ (State.moves.refl eccReg s).demand _ _ _
  have hfst : w.fst = s.fst := by
    rw [hw, State.setFld_fst, hv]
    exact (State.spares.refl s).demand.fst
  have hreg : ∀ a, blkOf a ≠ B.APR → w.reg a = v.reg a := fun a ha => by
    rw [hw]
    exact State.reg_setFld_ne _ _ _ _ _ (ne_regAddr_of_blkOf ha (by decide) (by unfold ringInst; omega) (by decide))
  have hmem : v.sameMemory w := by
    refine ⟨?_, ?_, ?_, ?_, fun a ha => hreg a fun e => absurd ha (by simp [memReg, e])⟩
    all_goals rw [hw]; simp
  refine ⟨_, htaken.noted (fun a ha => ?_) (hv ▸ hmem) ?_ ?_, hv ▸ htake⟩
  · exact (hreg a fun e => ha (by simp [e])).trans (hread.regs a fun e => ha (by simp [e]))
  · rw [hfst]
  · rw [hfst]

/-- A well-formed posting is taken, and what its opcode asks for is done (R61, R62, R69). -/
theorem State.posts.served {s : State} {r op : Nat} {bs : List Byte} {errs : List CwErr} (h : s.posts r op bs errs) :
    ∃ u, s.postingTaken u r errs ∧
      (op = 1 → ∀ i p, u.findRec (fieldAt bs 8 8) = some (i, p) →
        s.posting op errs = u.postTo r i (fieldAt bs 0x10 4) (fieldAt bs 0x14 4) (u.beyondStaged i) errs) ∧
      (op = 1 → ∀ i, u.findRec (fieldAt bs 8 8) = none → u.freeSlot = some i →
        s.posting op errs = (u.openIndex (fieldAt bs 8 8) i errs).postTo r i (fieldAt bs 0x10 4) (fieldAt bs 0x14 4)
          ((u.openIndex (fieldAt bs 8 8) i errs).beyondStaged i) errs) ∧
      (op = 2 → s.posting op errs = u.dropRec (fieldAt bs 8 8)) := by
  obtain ⟨hring, hcode, hbytes, hclean, hentry, hok⟩ := h
  obtain ⟨u, hu, htake⟩ := State.takePosting_taken (s.nextImageRing_lt hring) errs
  rw [hbytes, hclean] at htake
  refine ⟨u, hu, ?_⟩
  unfold State.posting
  simp only [hring, htake, hcode, hok, hentry]
  refine ⟨?_, ?_, ?_⟩
  · rintro rfl i p hfound
    simp only [hfound]
    rw [if_neg (fun hmiss => hmiss.1 rfl), if_neg (by decide)]
  · rintro rfl i hnone hfree
    simp only [hnone, hfree]
    rw [if_neg (fun hmiss => hmiss.1 rfl), if_neg (by decide)]
  · rintro rfl
    rw [if_neg (fun hmiss => hmiss.1 rfl), if_neg (by decide)]
    rfl

/-- What the posting then writes beside the rings leaves the head where the taking has put it. -/
theorem State.postingTaken.after {s u t : State} {r : Nat} {errs : List CwErr} (hu : s.postingTaken u r errs)
    (h : u.moves storeReg t) :
    s.regsOutside t [B.APR, B.ECC, B.FST] ∧ t.ringHead r = (s.ringHead r + 1) % s.ringSize r := by
  refine ⟨fun a ha => (h.regs a ?_).trans (hu.regs a ha), (State.fld_congr (h.regs _ ?_)).trans hu.head⟩
  · exact fun hs => ha (by simp [storeReg] at hs ⊢; tauto)
  · have hi : ringInst r < 256 := by have := hu.ring; unfold ringInst; omega
    show blkOf (regAddr B.APR (ringInst r) F.RING_HEAD.off) ∉ [B.ECC, B.FST]
    rw [blkOf_regAddr _ _ _ (by decide) hi (by decide)]
    decide

theorem State.postingTaken.findRec {s u : State} {r : Nat} {errs : List CwErr} (hu : s.postingTaken u r errs) (a : Nat) :
    u.findRec a = s.findRec a := by
  unfold State.findRec; rw [hu.recs]

theorem State.postingTaken.freeSlot {s u : State} {r : Nat} {errs : List CwErr} (hu : s.postingTaken u r errs) :
    u.freeSlot = s.freeSlot := by
  unfold State.freeSlot; simp only [State.planeRec_congr hu.recs]

theorem State.postingTaken.beyondStaged {s u : State} {r : Nat} {errs : List CwErr} (hu : s.postingTaken u r errs)
    (i : Nat) : u.beyondStaged i = s.beyondStaged i := by
  unfold State.beyondStaged
  simp only [State.planeRec_congr hu.recs, State.ctx_congr _ _ hu.ctxs]

/-! ### The commands -/

/-- A POST of one block to an open record tests that block's header (R63). -/
theorem State.postTo_one {u : State} {r i j : Nat} {p : PlaneRec} {errs : List CwErr} (hp : u.planeRec i = some p)
    (hbad : p.bad = false) (hstn : p.station = r / 2) (hplane : p.plane = r % 2) (hj : j < p.nBlocks) :
    u.postTo r i j 1 false errs = u.testHeader i errs j := by
  unfold State.postTo
  rw [hp]
  dsimp only
  rw [if_neg (by simp [hbad, hstn, hplane]; omega)]
  rfl

theorem State.postTo_none {u : State} {r i j : Nat} {p : PlaneRec} {beyond : Bool} {errs : List CwErr}
    (hp : u.planeRec i = some p) : u.postTo r i j 0 beyond errs = u.badPost := by
  unfold State.postTo
  rw [hp]
  exact if_pos (by simp)

theorem exec_post_tests {s : State} {r i j : Nat} {bs : List Byte} {p : PlaneRec} {errs : List CwErr}
    (h : s.posts r 1 bs errs) (hfound : s.findRec (fieldAt bs 8 8) = some (i, p)) (hp : s.planeRec i = some p)
    (hbad : p.bad = false) (hbeyond : s.beyondStaged i = false) (hstn : p.station = r / 2) (hplane : p.plane = r % 2)
    (hcount : fieldAt bs 0x14 4 = 1) (hfirst : fieldAt bs 0x10 4 = j) (hj : j < p.nBlocks) :
    ∃ t, exec (.post errs) s = .next t ∧ s.regsOutside t [B.APR, B.ECC, B.FST] ∧
      t.ringHead r = (s.ringHead r + 1) % s.ringSize r ∧
      entStatus (t.entryBytes p.addr j) = ((s.entryRead r errs).demand (entAddr ((s.entryRead r errs).entryBytes p.addr j))
        32 errs).headerStatus p ((s.entryRead r errs).entryBytes p.addr j) := by
  obtain ⟨u, hu, hserve, -⟩ := h.served
  have hrun := hserve rfl i p ((hu.findRec _).trans hfound)
  have hrec : u.planeRec i = some p := (State.planeRec_congr hu.recs i).trans hp
  rw [hu.beyondStaged, hbeyond, hcount, hfirst, State.postTo_one hrec hbad hstn hplane hj] at hrun
  obtain ⟨hmoves, hstatus⟩ := State.testHeader_marks hrec errs j
  obtain ⟨hregs, hhead⟩ := hu.after hmoves
  refine ⟨_, next_finish hrun, hregs, hhead, hstatus.trans ?_⟩
  rw [hu.memory.entryBytes]
  have hread := hu.memory.demand (entAddr ((s.entryRead r errs).entryBytes p.addr j)) 32 errs
  unfold State.headerStatus
  rw [hread.lmemBytes, hread.poisoned]

theorem exec_post_opens {s : State} {r i : Nat} {bs : List Byte} {errs : List CwErr} (h : s.posts r 1 bs errs)
    (hnone : s.findRec (fieldAt bs 8 8) = none) (hfree : s.freeSlot = some i) (hclaims : s.fst.claims = [])
    (hcount : fieldAt bs 0x14 4 = 0) :
    ∃ t, exec (.post errs) s = .next t ∧ s.regsOutside t [B.APR, B.ECC, B.FST] ∧
      t.ringHead r = (s.ringHead r + 1) % s.ringSize r ∧
      t.planeRec i = some (((s.entryRead r errs).indexRead (fieldAt bs 8 8) errs).readIndex (fieldAt bs 8 8)) ∧
      t.raised B.FST 0 2 = true ∧ t.lmem = ((s.entryRead r errs).indexRead (fieldAt bs 8 8) errs).lmem := by
  obtain ⟨u, hu, -, hserve, -⟩ := h.served
  have hrun := hserve rfl i ((hu.findRec _).trans hnone) (hu.freeSlot.trans hfree)
  have hread := hu.memory.indexRead (fieldAt bs 8 8) errs
  have hnoClaim : (u.indexRead (fieldAt bs 8 8) errs).fst.claims = [] :=
    (congrArg Fst.claims (State.spares.refl u).indexRead.fst).trans (hu.claims.trans hclaims)
  obtain ⟨w, hw, hmoves, hlmem, hrec⟩ : ∃ w, u.openIndex (fieldAt bs 8 8) i errs = w ∧ u.moves storeReg w ∧
      w.lmem = ((s.entryRead r errs).indexRead (fieldAt bs 8 8) errs).lmem ∧
      w.planeRec i = some (((s.entryRead r errs).indexRead (fieldAt bs 8 8) errs).readIndex (fieldAt bs 8 8)) := by
    have hfree : ({ (u.indexRead (fieldAt bs 8 8) errs).readIndex (fieldAt bs 8 8) with
        ctx := (([] : List Claim).find? (·.addr == fieldAt bs 8 8)).map (·.ctx) } : PlaneRec) = _ :=
      PlaneRec.with_ctx (State.readIndex_unheld _ _)
    rw [State.openIndex_placeRec, hnoClaim, hfree, hread.readIndex]
    exact ⟨_, rfl, (State.moves.refl storeReg u).indexRead.placeRec _ i _, (State.placeRec_lmem ..).trans hread.lmem,
      State.planeRec_placeRec ..⟩
  rw [hw, hcount, State.postTo_none hrec] at hrun
  obtain ⟨hregs, hhead⟩ := hu.after hmoves.badPost
  exact ⟨_, next_finish hrun, hregs, hhead, (State.planeRec_congr (congrArg Fst.recs w.badPost_fst) i).trans hrec,
    w.badPost_raised, w.badPost_lmem.trans hlmem⟩

theorem exec_drop_drops {s : State} {r i : Nat} {bs : List Byte} {p : PlaneRec} {errs : List CwErr} (h : s.posts r 2 bs errs)
    (hfound : s.findRec (fieldAt bs 8 8) = some (i, p)) :
    ∃ t, exec (.drop errs) s = .next t ∧ s.regsOutside t [B.APR, B.ECC, B.FST] ∧
      t.ringHead r = (s.ringHead r + 1) % s.ringSize r ∧ t.lmem = (s.entryRead r errs).lmem ∧
      (if p.ctx.isNone = true then t.planeRec i = none else t.fst.recs = s.fst.recs ∧ t.raised B.FST 0 2 = true) := by
  obtain ⟨u, hu, -, -, hserve⟩ := h.served
  have hrun : s.posting 2 errs = if p.ctx.isNone then u.setRec i none else u.badPost := by
    rw [hserve rfl]
    unfold State.dropRec
    rw [hu.findRec, hfound]
  obtain ⟨v, hv, hmoves, hlmem, hend⟩ : ∃ v, s.posting 2 errs = v ∧ u.moves storeReg v ∧ v.lmem = u.lmem ∧
      (if p.ctx.isNone = true then v.planeRec i = none else v.fst.recs = u.fst.recs ∧ v.raised B.FST 0 2 = true) := by
    refine ⟨_, hrun, ?_⟩
    split
    · exact ⟨(State.moves.refl storeReg u).setRec storeReg_stat, u.setRec_lmem i none, u.planeRec_setRec i none⟩
    · exact ⟨(State.moves.refl storeReg u).badPost, u.badPost_lmem, congrArg Fst.recs u.badPost_fst, u.badPost_raised⟩
  obtain ⟨hregs, hhead⟩ := hu.after hmoves
  rw [hu.recs] at hend
  exact ⟨_, next_finish hv, hregs, hhead, hlmem.trans hu.memory.lmem, hend⟩

theorem exec_indexOpenDone_opens {s : State} {i a c : Nat} {rest : List Claim} (errs : List CwErr)
    (hclaims : s.fst.claims = Claim.mk a c :: rest) (hfree : s.freeSlot = some i) :
    ∃ t, exec (.indexOpenDone errs) s = .next t ∧ s.regsOutside t [B.ECC, B.FST] ∧
      t.lmem = (s.indexRead a errs).lmem ∧
      t.planeRec i = some { (s.indexRead a errs).readIndex a with ctx := some c } ∧
      t.fst.claims = s.fst.claims.filter (fun x => decide (x.addr ≠ a)) := by
  have hfst : (s.indexRead a errs).fst.claims = s.fst.claims := congrArg Fst.claims (State.spares.refl s).indexRead.fst
  have hctx : ((s.indexRead a errs).fst.claims.find? (·.addr == a)).map (·.ctx) = some c := by
    rw [hfst, hclaims]
    simp
  have hrun : indexOpenDone errs s
      = (s.indexRead a errs).placeRec a i { (s.indexRead a errs).readIndex a with ctx := some c } := by
    rw [← hctx, ← State.openIndex_placeRec]
    unfold indexOpenDone
    rw [hclaims, hfree]
  obtain ⟨v, hv, hmoves, hlmem, hrec, hrest⟩ : ∃ v, indexOpenDone errs s = v ∧ s.moves storeReg v ∧
      v.lmem = (s.indexRead a errs).lmem ∧
      v.planeRec i = some { (s.indexRead a errs).readIndex a with ctx := some c } ∧
      v.fst.claims = s.fst.claims.filter (fun x => decide (x.addr ≠ a)) :=
    ⟨_, hrun, (State.moves.refl storeReg s).indexRead.placeRec a i _, State.placeRec_lmem .., State.planeRec_placeRec ..,
      (State.placeRec_claims ..).trans (by rw [hfst])⟩
  exact ⟨_, next_finish hv, hmoves.regs, hlmem, hrec, hrest⟩

/-- Settles O9: each clause is what its command's lemma says. -/
theorem postings : Obligations.Postings := by
  unfold Obligations.Postings
  refine ⟨?tests, fun s r i bs errs h hnone hfree hclaims hcount => exec_post_opens h hnone hfree hclaims hcount,
    fun s r i bs p errs h hfound => exec_drop_drops h hfound,
    fun s i a c rest errs hclaims hfree => exec_indexOpenDone_opens errs hclaims hfree⟩
  case tests =>
    rintro s _ _ r i j bs _ p errs h hfound hp hbad hbeyond hstn hplane hcount hfirst hj rfl rfl rfl
    exact exec_post_tests h hfound hp hbad hbeyond hstn hplane hcount hfirst hj

end Sys2Proof.Machine
end

section
/-! PROOFS. A facet boundary while a write is held for the station's FAC page (R135, R139). -/

namespace Sys2Proof.Machine

/-- The device in IDLE with every domain on, station 0 with a pixel clock of 200 MHz in force, and a write of 0 held for
FAC_STAT. No run reaches it: writes are held of FAC_START and FAC_FACET alone. -/
def statusHeld : State :=
  { State.reset with
    sys := { State.reset.sys with mode := .idle, trans := none }
    regs := [(F.CLK_STAT.addr 0, 0x1001), ((F.CLK_FREQ.at 1).addr 0, BitVec.ofNat 32 (200 * 2 ^ 23)),
      (F.PWR_DOM_STAT.addr 0x40, 0x0FC00FFF)]
    stns := [(0, { Stn.init with fac := { Fac.init with held := [(F.FAC_STAT.off, 0)] } })] }

/-- The boundary of a powered station with a pixel clock takes place (R420). -/
theorem exec_facetBoundary_clocked {s : State} {n : Nat} (hon : s.stnOn n = true) (hfreq : s.freqNow n ≠ 0) :
    exec (.facetBoundary n) s = .next (s.finish (facetBoundary n s)) :=
  next_finish (if_pos ⟨hon, hfreq⟩)

/-- Station 0 takes its boundaries there. -/
theorem statusHeld_takesBoundary : statusHeld.stnOn 0 = true ∧ statusHeld.freqNow 0 ≠ 0 := by decide +kernel

/-- The boundary counts SEQ up and then applies the held write, which puts SEQ back to 0. -/
theorem statusHeld_seq : statusHeld.fld F.FAC_STAT_SEQ 0 = 0 ∧ (facetBoundary 0 statusHeld).fld F.FAC_STAT_SEQ 0 = 0 := by
  decide +kernel

/-- Refutes O18, in its clause on FACET_BOUNDARY: the statement speaks of every state, and in one a write is held for a
register of the FAC page other than those that R135 holds. At a boundary before a facet of no frame the write held for
FAC_STAT is applied after SEQ has counted, and SEQ does not read one up. -/
theorem not_facetBoundaries : ¬ Obligations.FacetBoundaries := by
  unfold Obligations.FacetBoundaries
  rintro ⟨hboundary, -⟩
  obtain ⟨hon, hfreq⟩ := statusHeld_takesBoundary
  obtain ⟨hbefore, hafter⟩ := statusHeld_seq
  obtain ⟨t, he, hclaim⟩ := hboundary statusHeld 0 (by decide) hon
  obtain rfl := Host.Outcome.next.inj ((exec_facetBoundary_clocked hon hfreq).symm.trans he)
  rw [if_neg hfreq] at hclaim
  obtain ⟨hseq, -⟩ := hclaim
  rw [State.finish_fld, hbefore, hafter] at hseq
  exact absurd hseq (by decide)

end Sys2Proof.Machine
end

section
/-! SUPPORT. A station's COR state, and its banks as COR_STAT shows them (R110, R114, R124). -/

namespace Sys2Proof.Machine

/-! ### Updates of registers, and the rest of the state -/

theorem State.fld_event_ne (s : State) {f : Field} {i blk inst : Nat} (h : f.addr i ≠ evtAddr blk inst) (k : Nat) :
    (s.event blk inst k).fld f i = s.fld f i :=
  State.fld_congr (State.reg_event_ne _ _ _ _ _ h)

section
variable {s t : State} (h : s.movesRegs t)
include h

theorem State.movesRegs.stns : t.stns = s.stns := by obtain ⟨r, w, rfl⟩ := h; rfl
theorem State.movesRegs.ctxs : t.ctxs = s.ctxs := by obtain ⟨r, w, rfl⟩ := h; rfl
theorem State.movesRegs.lmem : t.lmem = s.lmem := by obtain ⟨r, w, rfl⟩ := h; rfl

end

theorem State.cor_setCor (s : State) (n : Nat) (x : Cor) : ((s.setCor n x).stn n).cor = x :=
  congrArg Stn.cor (Sparse.get_set_same _ _ _ _)

/-! ### The registers of a COR page -/

section
variable (n : Nat)

theorem corStat_ne_evt : F.COR_STAT.addr n ≠ evtAddr B.COR n := by
  simp only [Field.addr, evtAddr, regAddr, ne_eq]; omega

theorem corStat_ne_ctrl : F.COR_STAT.addr n ≠ F.COR_CTRL.addr n := by
  simp only [Field.addr, regAddr, ne_eq]; omega

theorem corEvt_ne_ctrl : evtAddr B.COR n ≠ F.COR_CTRL_LOAD.addr n := by
  simp only [Field.addr, evtAddr, regAddr, ne_eq]; omega

/-- The host writes COR_CTRL of a locked page too. -/
theorem rowLocked_corCtrl {n : Nat} (hn : n < 6) : rowLocked B.COR n F.COR_CTRL.off = false :=
  (by decide : ∀ n < 6, rowLocked B.COR n F.COR_CTRL.off = false) n hn

end

/-! ### A bank written -/

section
variable (s : State) (n b set : Nat) (ver : Bool)

theorem State.setBank_movesRegs : s.movesRegs (s.setBank n b set ver) := by
  unfold State.setBank
  split <;> exact (State.movesRegs_setReg _ _ _).trans (State.movesRegs_setFlag _ _ _ _)

theorem State.setBank_regsBut : s.regsBut (s.setBank n b set ver) [F.COR_STAT.addr n] := by
  unfold State.setBank
  split <;> exact (State.regsBut_setReg _ _ _).trans (State.regsBut_setFlag _ _ _ _) (fun _ h => h) fun _ h => h

theorem State.bankVer_setBank : (s.setBank n b set ver).bankVer n b = ver := by
  unfold State.setBank State.bankVer
  split <;> exact State.flag_setFlag_same _ _ _ _ rfl (by decide)

theorem State.bankSet_setBank (h : set < 2 ^ 8) : (s.setBank n b set ver).bankSet n b = set := by
  unfold State.setBank State.bankSet
  split <;>
    exact (State.fld_setFld_bits _ _ _ _ _ _ (by decide) (by decide)).trans
      ((State.fld_setFld_same _ _ _ _ (by decide)).trans (Nat.mod_eq_of_lt h))

/-- ACTIVE, BUSY and ERR stand above the banks' fields. -/
theorem State.fld_setBank {f : Field} (hf : 18 ≤ f.lo) : (s.setBank n b set ver).fld f n = s.fld f n := by
  have hset (g : Field) (v : Nat) (hg : g.lo + g.len ≤ 18) (u : State) : (u.setFld g n v).fld f n = u.fld f n :=
    State.fld_setFld_bits _ _ _ _ _ _ (by omega) (.inr (by omega))
  unfold State.setBank
  split <;> exact (hset _ _ (by decide) _).trans (hset _ _ (by decide) _)

theorem State.fld_setErr {err : Nat} (h : err < 2 ^ 4) : (s.setFld F.COR_STAT_ERR n err).fld F.COR_STAT_ERR n = err :=
  (State.fld_setFld_same _ _ _ _ (by decide)).trans (Nat.mod_eq_of_lt h)

/-! ### What leaves a bank alone -/

variable {t : State} {n b}

theorem State.bankVer_congr (h : t.reg (F.COR_STAT.addr n) = s.reg (F.COR_STAT.addr n)) :
    t.bankVer n b = s.bankVer n b := by
  unfold State.bankVer
  rw [State.flag_congr (f := F.COR_STAT_VER_0) h, State.flag_congr (f := F.COR_STAT_VER_1) h]

theorem State.bankSet_congr (h : t.reg (F.COR_STAT.addr n) = s.reg (F.COR_STAT.addr n)) :
    t.bankSet n b = s.bankSet n b := by
  unfold State.bankSet
  rw [State.fld_congr (f := F.COR_STAT_SET_0) h, State.fld_congr (f := F.COR_STAT_SET_1) h]

theorem State.bankVer_setErr (err : Nat) : (s.setFld F.COR_STAT_ERR n err).bankVer n b = s.bankVer n b := by
  unfold State.bankVer State.flag
  rw [State.fld_setFld_bits _ _ _ _ _ _ (by decide) (by decide), State.fld_setFld_bits _ _ _ _ _ _ (by decide) (by decide)]

theorem State.bankSet_setErr (err : Nat) : (s.setFld F.COR_STAT_ERR n err).bankSet n b = s.bankSet n b := by
  unfold State.bankSet
  rw [State.fld_setFld_bits _ _ _ _ _ _ (by decide) (by decide), State.fld_setFld_bits _ _ _ _ _ _ (by decide) (by decide)]

end

end Sys2Proof.Machine
end

section
/-! PROOFS. Loads of correction banks (R110, R111, R114, R124). -/

namespace Sys2Proof.Machine

/-! ### COR_LOAD -/

/-- LOAD arrives at an open page (R9, R11). -/
theorem exec_corLoad_open {s : State} {n : Nat} (hn : n < 6) (hpage : s.openPage B.COR n) :
    exec (.corLoad n) s = .next (s.finish (corLoad n s)) := by
  obtain ⟨hmode, hexists, hon⟩ := hpage
  exact next_finish ((State.onPage_open _ _ _ _ _ hmode hexists hon (rowLocked_corCtrl hn)).trans (if_pos ⟨hn, hon⟩))

/-- The bank that LOAD names while a load begins: labelled with its set, not verified, the station BUSY. -/
def State.busyBank (s : State) (n b set : Nat) : State :=
  ((s.setFlag F.COR_CTRL_LOAD n true).setFlag F.COR_STAT_BUSY n true).setBank n b set false

/-- A load has begun. -/
def State.beginLoad (s : State) (n b set : Nat) : State :=
  (s.busyBank n b set).setCor n
    { (((s.setFlag F.COR_CTRL_LOAD n true).setFlag F.COR_STAT_BUSY n true).stn n).cor with loading := some (b, set) }

section
variable {s : State} {n : Nat}

theorem corLoad_running (hen : s.pageEn B.COR n = true) (hload : (s.stn n).cor.loading.isSome = true) :
    corLoad n s = s.setFld F.COR_STAT_ERR n 5 := by
  unfold corLoad
  rw [if_neg (not_not.mpr hen), if_pos hload]

/-- A bank that no frame relies on is neither the active one, verified, nor the only one with the set of a frame (R114). -/
theorem corLoad_unrelied {b : Nat} (hen : s.pageEn B.COR n = true) (hload : (s.stn n).cor.loading = none)
    (hb : s.fld F.COR_LOAD_CFG_BANK n = b) (hactive : s.activeBank n ≠ b ∨ s.bankVer n b = false)
    (hrelied : s.bankVer n b = false ∨ s.holdsSet n (1 - b) (s.bankSet n b) = true ∨
      s.ctxsWith (fun x => (x.st = .admitted || x.st = .exposing) && x.uses n && x.corSet == s.bankSet n b) = []) :
    corLoad n s = if (s.corSection n (s.fld F.COR_LOAD_CFG_SET n)).isNone then s.corRefuse n 1
      else s.beginLoad n b (s.fld F.COR_LOAD_CFG_SET n) := by
  subst hb
  unfold corLoad
  rw [if_neg (not_not.mpr hen), if_neg (by rw [hload]; decide), if_neg]
  · rfl
  · rintro (⟨ha, hv⟩ | hr)
    · rcases hactive with h | h
      · exact h ha
      · rw [h] at hv; exact Bool.false_ne_true hv
    · rcases hrelied with h | h | h <;> rw [h] at hr <;> simp at hr

end

section
variable (s : State) (n b set : Nat)

theorem State.busyBank_movesRegs : s.movesRegs (s.busyBank n b set) :=
  ((State.movesRegs_setFlag _ _ _ _).trans (State.movesRegs_setFlag _ _ _ _)).trans (State.setBank_movesRegs ..)

theorem State.beginLoad_loading : ((s.beginLoad n b set).stn n).cor.loading = some (b, set) :=
  congrArg Cor.loading (State.cor_setCor _ _ _)

theorem State.beginLoad_busy : (s.beginLoad n b set).flag F.COR_STAT_BUSY n = true :=
  (congrArg (· == 1) (State.fld_setBank _ _ _ _ _ (by decide))).trans (State.flag_setFlag_same _ _ _ _ rfl (by decide))

theorem State.beginLoad_bankVer : (s.beginLoad n b set).bankVer n b = false := State.bankVer_setBank ..

theorem State.beginLoad_bankSet (h : set < 2 ^ 8) : (s.beginLoad n b set).bankSet n b = set :=
  State.bankSet_setBank _ _ _ _ _ h

theorem State.beginLoad_regsBut : s.regsBut (s.beginLoad n b set) [F.COR_STAT_BUSY.addr n, F.COR_CTRL_LOAD.addr n] :=
  ((State.regsBut_setFlag _ _ _ _).trans (State.regsBut_setFlag _ _ _ _) (by simp) (by simp)).trans
    (State.setBank_regsBut _ _ _ _ _) (fun _ h => h) (by simp [Field.addr])

theorem State.beginLoad_ctxs : (s.beginLoad n b set).ctxs = s.ctxs := (State.busyBank_movesRegs ..).ctxs
theorem State.beginLoad_lmem : (s.beginLoad n b set).lmem = s.lmem := (State.busyBank_movesRegs ..).lmem

/-! ### LOAD refused -/

theorem State.corRefuse_movesRegs (err : Nat) : s.movesRegs (s.corRefuse n err) :=
  ((State.movesRegs_setReg _ _ _).trans (State.movesRegs_event _ _ _ _)).trans (State.movesRegs_setFlag _ _ _ _)

theorem State.corRefuse_regsBut (err : Nat) :
    s.regsBut (s.corRefuse n err) [F.COR_STAT_ERR.addr n, evtAddr B.COR n, F.COR_CTRL_LOAD.addr n] :=
  ((State.regsBut_setReg _ _ _).trans (State.regsBut_event _ _ _ _) (cs := [F.COR_STAT_ERR.addr n, evtAddr B.COR n])
    (by simp) (by simp)).trans (State.regsBut_setFlag _ _ _ _) (by simp) (by simp)

theorem State.corRefuse_err {err : Nat} (h : err < 2 ^ 4) : (s.corRefuse n err).fld F.COR_STAT_ERR n = err := by
  unfold State.corRefuse State.setFlag
  rw [State.fld_setFld_addr _ F.COR_CTRL_LOAD F.COR_STAT_ERR _ _ _ (corStat_ne_ctrl n),
    State.fld_event_ne _ (f := F.COR_STAT_ERR) (corStat_ne_evt n), State.fld_setErr _ _ h]

theorem State.corRefuse_raised (err : Nat) : (s.corRefuse n err).raised B.COR n 1 = true := by
  unfold State.raised State.corRefuse
  rw [State.reg_setFlag_ne _ _ _ _ _ (corEvt_ne_ctrl n)]
  exact State.event_bit _ _ _ _ (by decide)

end

/-! ### COR_LOAD_DONE -/

/-- The load of a station is over. -/
def State.endLoad (s : State) (n : Nat) : State :=
  ((s.setCor n { (s.stn n).cor with loading := none }).setFlag F.COR_STAT_BUSY n false).setFlag F.COR_CTRL_LOAD n false

/-- The image at an LMEM address put into a bank, with its digest (R110). -/
def State.imageInto (s : State) (n b a : Nat) : State :=
  s.setCor n { (s.stn n).cor with
    nodes := Sparse.setList (fun _ => (0 : Word)) ((s.stn n).cor.nodes.filter fun e => decide (e.1 / 65536 ≠ b)) (b * 65536)
      ((chunks 4 49152 (s.lmemBytes a 196608)).map fun w => BitVec.ofNat 32 (leNat w))
    dig0 := if b = 0 then sha384 (s.lmemBytes a 196608) else (s.stn n).cor.dig0
    dig1 := if b = 0 then (s.stn n).cor.dig1 else sha384 (s.lmemBytes a 196608) }

/-- A load judged: its bank with the set and VERIFIED, ERR, and the event. -/
def State.judgeLoad (s : State) (n b set : Nat) (ver : Bool) (err ev : Nat) : State :=
  ((s.setBank n b set ver).setFld F.COR_STAT_ERR n err).event B.COR n ev

/-- The load that ends leaves the bundle alone. -/
theorem State.endLoad_corSection (s : State) (n m set : Nat) : (s.endLoad n).corSection m set = s.corSection m set := by
  have hbundle : (s.endLoad n).bundle = s.bundle := (State.setFlag_bundle ..).trans (State.setFlag_bundle ..)
  unfold State.corSection
  rw [hbundle]

theorem State.sameMemory.bundleBase {s t : State} (h : s.sameMemory t) : t.bundleBase = s.bundleBase := by
  unfold State.bundleBase State.lmemSize
  rw [h.fld (by decide)]

/-- The image is read through ECC, judged by its poison and then by its digest (R111, R114, R311). -/
theorem corLoadDone_judged {s : State} {n b set : Nat} {x : Section} (errs : List CwErr)
    (hload : (s.stn n).cor.loading = some (b, set)) (hsec : s.corSection n set = some x) {a : Nat} {u : State}
    (ha : (s.endLoad n).bundleBase + x.offset = a) (hu : (s.endLoad n).demand a 196608 errs = u) :
    corLoadDone n errs s =
      if u.poisoned a 196608 then u.judgeLoad n b set false 4 1
      else if sha384 (u.lmemBytes a 196608) = x.digest then (u.imageInto n b a).judgeLoad n b set true 0 0
      else (u.imageInto n b a).judgeLoad n b set false 2 1 := by
  have hsec' : (s.endLoad n).corSection n set = some x := (State.endLoad_corSection ..).trans hsec
  subst hu ha
  unfold State.endLoad at *
  unfold corLoadDone
  rw [hload]
  dsimp only
  rw [hsec']
  dsimp only
  rfl

/-! What the end of a load leaves alone -/

/-- A register of COR's pages. -/
abbrev corReg (a : Nat) : Prop := blkOf a = B.COR

theorem corReg_field {f : Field} {n : Nat} (hb : f.blk = B.COR) (hn : n < 6) (ho : f.off < 4096) : corReg (f.addr n) := by
  show blkOf (regAddr f.blk n f.off) = _
  rw [hb]
  exact blkOf_regAddr _ _ _ (by decide) (by omega) ho

theorem corReg_evt {n : Nat} (hn : n < 6) : corReg (evtAddr B.COR n) :=
  blkOf_regAddr _ _ _ (by decide) (by omega) (by decide)

section
variable (s : State) {n : Nat}

theorem State.endLoad_moves (hn : n < 6) : s.moves corReg (s.endLoad n) :=
  have hcor : s.moves corReg (s.setCor n { (s.stn n).cor with loading := none }) := ⟨fun _ _ => rfl, rfl, rfl⟩
  (hcor.setFlag (f := F.COR_STAT_BUSY) (corReg_field rfl hn (by decide))).setFlag (f := F.COR_CTRL_LOAD)
    (corReg_field rfl hn (by decide))

theorem State.endLoad_loading : ((s.endLoad n).stn n).cor.loading = none := by
  have hstns : (s.endLoad n).stns = (s.setCor n { (s.stn n).cor with loading := none }).stns :=
    (State.setFlag_stns ..).trans (State.setFlag_stns ..)
  rw [State.stn_congr _ n hstns, State.cor_setCor]

theorem State.endLoad_busy : (s.endLoad n).flag F.COR_STAT_BUSY n = false :=
  (State.flag_setFlag_ne _ F.COR_CTRL_LOAD F.COR_STAT_BUSY _ _ _ (by decide) (.inl (corStat_ne_ctrl n))).trans
    (State.flag_setFlag_same _ F.COR_STAT_BUSY _ _ rfl (by decide))

theorem State.endLoad_lmem : (s.endLoad n).lmem = s.lmem := (State.setFlag_lmem ..).trans (State.setFlag_lmem ..)
theorem State.endLoad_poison : (s.endLoad n).poison = s.poison := (State.setFlag_poison ..).trans (State.setFlag_poison ..)
theorem State.endLoad_ecc : (s.endLoad n).ecc = s.ecc := (State.setFlag_ecc ..).trans (State.setFlag_ecc ..)
theorem State.endLoad_freeCtr : (s.endLoad n).freeCtr = s.freeCtr :=
  (State.setFlag_freeCtr ..).trans (State.setFlag_freeCtr ..)

/-- A read through ECC gives the same once the load is over. -/
theorem State.endLoad_sameMemory (hn : n < 6) : s.sameMemory (s.endLoad n) where
  lmem := s.endLoad_lmem
  poison := s.endLoad_poison
  ecc := s.endLoad_ecc
  freeCtr := s.endLoad_freeCtr
  regs := fun a ha => (s.endLoad_moves hn).regs a fun hcor => by
    rw [memReg, hcor] at ha
    exact absurd ha (by decide)

end

/-! A load that is over -/

/-- In `t` the load of station `n` that ran in `s` is over, and LMEM is that of `d`. -/
structure State.loadOver (n : Nat) (s d t : State) : Prop where
  regs : s.regsOutside t [B.COR, B.ECC]
  loading : (t.stn n).cor.loading = none
  busy : t.flag F.COR_STAT_BUSY n = false
  lmem : t.lmem = d.lmem

theorem State.loadOver.imageInto {s d u : State} {n : Nat} (h : s.loadOver n d u) (b a : Nat) :
    s.loadOver n d (u.imageInto n b a) where
  regs := h.regs
  loading := (congrArg Cor.loading (State.cor_setCor ..)).trans h.loading
  busy := h.busy
  lmem := h.lmem

section
variable {s d u : State} {n : Nat} (hn : n < 6)
include hn

/-- The image is read once the load is over. -/
theorem State.loadOver_demand (s : State) (a k : Nat) (errs : List CwErr) :
    s.loadOver n (s.demand a k errs) ((s.endLoad n).demand a k errs) := by
  have hread := (State.moves.refl eccReg (s.endLoad n)).demand a k errs
  refine ⟨fun b hb => ?_, ?_, ?_, ((s.endLoad_sameMemory hn).demand a k errs).lmem⟩
  · simp only [List.mem_cons, List.not_mem_nil, or_false, not_or] at hb
    obtain ⟨hcor, hecc⟩ := hb
    exact (hread.regs b hecc).trans ((s.endLoad_moves hn).regs b hcor)
  · rw [State.stn_congr _ n (State.spares.refl (s.endLoad n)).demand.stns]
    exact s.endLoad_loading
  · have hstat : ¬ eccReg (F.COR_STAT.addr n) := by
      rw [eccReg, corReg_field (f := F.COR_STAT) rfl hn (by decide)]
      decide
    exact (State.flag_congr (f := F.COR_STAT_BUSY) (hread.regs _ hstat)).trans s.endLoad_busy

theorem State.loadOver.judgeLoad (h : s.loadOver n d u) (b set : Nat) (ver : Bool) (err ev : Nat) :
    s.loadOver n d (u.judgeLoad n b set ver err ev) := by
  have hmoves : u.movesRegs (u.judgeLoad n b set ver err ev) :=
    ((State.setBank_movesRegs ..).trans (State.movesRegs_setReg ..)).trans (State.movesRegs_event ..)
  have hregs : u.regsBut (u.judgeLoad n b set ver err ev) [F.COR_STAT.addr n, evtAddr B.COR n] :=
    ((State.setBank_regsBut _ _ _ _ _).trans (State.regsBut_setReg _ _ _) (fun _ h => h) fun _ h => h).trans
      (State.regsBut_event _ _ _ _) (by simp) (by simp)
  refine ⟨fun a ha => (hregs a ?_).trans (h.regs a ha), ?_, ?_, hmoves.lmem.trans h.lmem⟩
  · intro hmem
    have hcor : corReg a := by
      rcases List.mem_pair.mp hmem with rfl | rfl
      · exact corReg_field (f := F.COR_STAT) rfl hn (by decide)
      · exact corReg_evt hn
    exact ha (by rw [hcor]; decide)
  · rw [State.stn_congr _ n hmoves.stns]
    exact h.loading
  · refine Eq.trans (congrArg (· == 1) ?_) h.busy
    unfold State.judgeLoad
    rw [State.fld_event_ne _ (f := F.COR_STAT_BUSY) (corStat_ne_evt n),
      State.fld_setFld_bits _ F.COR_STAT_ERR F.COR_STAT_BUSY _ _ _ (by decide) (by decide), State.fld_setBank _ _ _ _ _ (by decide)]

end

section
variable (s : State) (n b : Nat) {set err ev : Nat} (ver : Bool)

theorem State.judgeLoad_bankSet (hset : set < 2 ^ 8) : (s.judgeLoad n b set ver err ev).bankSet n b = set :=
  (State.bankSet_congr _ (State.reg_event_ne _ _ _ _ _ (corStat_ne_evt n))).trans
    ((State.bankSet_setErr _ _).trans (State.bankSet_setBank _ _ _ _ _ hset))

/-- VERIFIED, ERR and the event of a load judged. -/
theorem State.judgeLoad_verdict (set : Nat) (herr : err < 2 ^ 4) (hev : ev < 32) :
    (s.judgeLoad n b set ver err ev).bankVer n b = ver ∧ (s.judgeLoad n b set ver err ev).fld F.COR_STAT_ERR n = err ∧
      (s.judgeLoad n b set ver err ev).raised B.COR n ev = true := by
  refine ⟨?_, ?_, State.event_bit _ _ _ _ hev⟩
  · exact (State.bankVer_congr _ (State.reg_event_ne _ _ _ _ _ (corStat_ne_evt n))).trans
      ((State.bankVer_setErr _ _).trans (State.bankVer_setBank ..))
  · unfold State.judgeLoad
    rw [State.fld_event_ne _ (f := F.COR_STAT_ERR) (corStat_ne_evt n), State.fld_setErr _ _ herr]

end

/-! What the end of a command shows of a station's banks -/

section
variable (s t : State) (n : Nat)

theorem State.finish_stn : (s.finish t).stn n = t.stn n := rfl
theorem State.finish_bankVer (b : Nat) : (s.finish t).bankVer n b = t.bankVer n b := rfl
theorem State.finish_bankSet (b : Nat) : (s.finish t).bankSet n b = t.bankSet n b := rfl

end

theorem State.loadOver.finish {s d t : State} {n : Nat} (h : s.loadOver n d t) : s.loadOver n d (s.finish t) :=
  ⟨h.regs, h.loading, h.busy, h.lmem⟩

/-! ### The commands -/

theorem exec_corLoad_begins {s : State} {n b : Nat} (hn : n < 6) (hpage : s.openPage B.COR n) (hen : s.pageEn B.COR n = true)
    (hload : (s.stn n).cor.loading = none) (hb : s.fld F.COR_LOAD_CFG_BANK n = b)
    (hactive : s.activeBank n ≠ b ∨ s.bankVer n b = false)
    (hrelied : s.bankVer n b = false ∨ s.holdsSet n (1 - b) (s.bankSet n b) = true ∨
      s.ctxsWith (fun x => (x.st = .admitted || x.st = .exposing) && x.uses n && x.corSet == s.bankSet n b) = [])
    (hsec : (s.corSection n (s.fld F.COR_LOAD_CFG_SET n)).isSome = true) :
    ∃ t, exec (.corLoad n) s = .next t ∧ t.flag F.COR_STAT_BUSY n = true ∧
      (t.stn n).cor.loading = some (b, s.fld F.COR_LOAD_CFG_SET n) ∧ t.bankVer n b = false ∧
      t.bankSet n b = s.fld F.COR_LOAD_CFG_SET n ∧ s.regsBut t [F.COR_STAT_BUSY.addr n, F.COR_CTRL_LOAD.addr n] ∧
      t.ctxs = s.ctxs ∧ t.lmem = s.lmem := by
  have hrun : corLoad n s = s.beginLoad n b (s.fld F.COR_LOAD_CFG_SET n) := by
    rw [corLoad_unrelied hen hload hb hactive hrelied, if_neg (by simp [Option.isSome_iff_ne_none.mp hsec])]
  refine ⟨_, (exec_corLoad_open hn hpage).trans (next_finish hrun), ?_⟩
  rw [State.finish_flag, State.finish_stn, State.finish_bankVer, State.finish_bankSet, State.finish_ctxs, State.finish_lmem]
  exact ⟨State.beginLoad_busy _ _ _ _, State.beginLoad_loading _ _ _ _, State.beginLoad_bankVer _ _ _ _,
    State.beginLoad_bankSet _ _ _ _ (bits_lt _ _ _), (State.beginLoad_regsBut _ _ _ _).finish,
    State.beginLoad_ctxs _ _ _ _, State.beginLoad_lmem _ _ _ _⟩

theorem exec_corLoad_busy {s : State} {n : Nat} (hn : n < 6) (hpage : s.openPage B.COR n) (hen : s.pageEn B.COR n = true)
    (hload : (s.stn n).cor.loading.isSome = true) :
    ∃ t, exec (.corLoad n) s = .next t ∧ t.fld F.COR_STAT_ERR n = 5 ∧ s.onlyRegs t ∧
      s.regsBut t [F.COR_STAT_ERR.addr n] := by
  refine ⟨_, (exec_corLoad_open hn hpage).trans (next_finish (corLoad_running hen hload)), ?_,
    (State.movesRegs_setReg _ _ _).onlyRegs, (State.regsBut_setReg _ _ _).finish⟩
  rw [State.finish_fld, State.fld_setErr _ _ (by decide)]

theorem exec_corLoad_noset {s : State} {n : Nat} (hn : n < 6) (hpage : s.openPage B.COR n) (hen : s.pageEn B.COR n = true)
    (hload : (s.stn n).cor.loading = none) (hver : s.bankVer n (s.fld F.COR_LOAD_CFG_BANK n) = false)
    (hsec : s.corSection n (s.fld F.COR_LOAD_CFG_SET n) = none) :
    ∃ t, exec (.corLoad n) s = .next t ∧ t.fld F.COR_STAT_ERR n = 1 ∧ t.raised B.COR n 1 = true ∧ s.onlyRegs t ∧
      s.regsBut t [F.COR_STAT_ERR.addr n, evtAddr B.COR n, F.COR_CTRL_LOAD.addr n] := by
  have hrun : corLoad n s = s.corRefuse n 1 := by
    rw [corLoad_unrelied hen hload rfl (.inr hver) (.inl hver), hsec]
    rfl
  refine ⟨_, (exec_corLoad_open hn hpage).trans (next_finish hrun), ?_, ?_, (State.corRefuse_movesRegs _ _ _).onlyRegs,
    (State.corRefuse_regsBut _ _ _).finish⟩
  · rw [State.finish_fld, State.corRefuse_err _ _ (by decide)]
  · rw [State.finish_raised, State.corRefuse_raised]

/-- A load that is judged ends with its verdict. -/
theorem exec_corLoadDone_verdict {s d v : State} {n b set err ev : Nat} {ver : Bool} {errs : List CwErr} (hn : n < 6)
    (hset : set < 2 ^ 8) (herr : err < 2 ^ 4) (hev : ev < 32) (hv : s.loadOver n d v)
    (hrun : corLoadDone n errs s = v.judgeLoad n b set ver err ev) :
    ∃ t, exec (.corLoadDone n errs) s = .next t ∧ s.loadOver n d t ∧ t.bankSet n b = set ∧
      t.bankVer n b = ver ∧ t.fld F.COR_STAT_ERR n = err ∧ t.raised B.COR n ev = true := by
  refine ⟨_, next_finish ((if_pos hn).trans hrun), (hv.judgeLoad hn b set ver err ev).finish, ?_⟩
  rw [State.finish_bankSet, State.finish_bankVer, State.finish_fld, State.finish_raised]
  exact ⟨State.judgeLoad_bankSet _ _ _ _ hset, State.judgeLoad_verdict _ _ _ _ _ herr hev⟩

theorem exec_corLoadDone_judges {s : State} {n b set : Nat} {x : Section} (errs : List CwErr) (hn : n < 6)
    (hset : set < 2 ^ 8) (hload : (s.stn n).cor.loading = some (b, set)) (hsec : s.corSection n set = some x) {a : Nat}
    {d : State} (ha : s.bundleBase + x.offset = a) (hd : s.demand a 196608 errs = d) :
    ∃ t, exec (.corLoadDone n errs) s = .next t ∧ s.loadOver n d t ∧ t.bankSet n b = set ∧
      (if d.poisoned a 196608 = true then t.bankVer n b = false ∧ t.fld F.COR_STAT_ERR n = 4 ∧ t.raised B.COR n 1 = true
      else if sha384 (d.lmemBytes a 196608) = x.digest then
        t.bankVer n b = true ∧ t.fld F.COR_STAT_ERR n = 0 ∧ t.raised B.COR n 0 = true
      else t.bankVer n b = false ∧ t.fld F.COR_STAT_ERR n = 2 ∧ t.raised B.COR n 1 = true) := by
  obtain ⟨u, hu⟩ : ∃ u, (s.endLoad n).demand a 196608 errs = u := ⟨_, rfl⟩
  have hmem : d.sameMemory u := by
    rw [← hd, ← hu]
    exact (s.endLoad_sameMemory hn).demand a 196608 errs
  have hover : s.loadOver n d u := by
    rw [← hd, ← hu]
    exact State.loadOver_demand hn s a 196608 errs
  have hrun := corLoadDone_judged errs hload hsec (by rw [(s.endLoad_sameMemory hn).bundleBase, ha]) hu
  rw [hmem.poisoned, hmem.lmemBytes] at hrun
  by_cases hpoison : d.poisoned a 196608 = true
  · simp only [if_pos hpoison] at hrun ⊢
    exact exec_corLoadDone_verdict hn hset (by decide) (by decide) hover hrun
  · by_cases hdigest : sha384 (d.lmemBytes a 196608) = x.digest
    · simp only [if_neg hpoison, if_pos hdigest] at hrun ⊢
      exact exec_corLoadDone_verdict hn hset (by decide) (by decide) (hover.imageInto b a) hrun
    · simp only [if_neg hpoison, if_neg hdigest] at hrun ⊢
      exact exec_corLoadDone_verdict hn hset (by decide) (by decide) (hover.imageInto b a) hrun

/-- Settles O19: each clause is what its command's lemma says. -/
theorem correctionLoads : Obligations.CorrectionLoads := by
  unfold Obligations.CorrectionLoads
  refine ⟨fun s n b hn hpage hen hload hb hactive hrelied hsec =>
      exec_corLoad_begins hn hpage hen hload hb hactive hrelied hsec,
    fun s n hn hpage hen hload => exec_corLoad_busy hn hpage hen hload,
    fun s n hn hpage hen hload hver hsec => exec_corLoad_noset hn hpage hen hload hver hsec, ?done⟩
  case done =>
    intro s d n b set a x errs hn _ hset hload hsec ha hd
    obtain ⟨t, he, ⟨hregs, hend, hbusy, hlmem⟩, hlabel, hverdict⟩ := exec_corLoadDone_judges errs hn hset hload hsec ha hd
    exact ⟨t, he, hregs, hend, hbusy, hlabel, hlmem, hverdict⟩

end Sys2Proof.Machine
end

section
/-! SUPPORT. Fields of one page: what a field reads after another register of the page, or of one beside it, is written. -/

namespace Sys2Proof.Machine

section
variable (s : State) {f g : Field} (i v : Nat)

/-- Registers at different places of two blocks' pages differ, whichever pair of pages it is. -/
theorem regAddr_ne {blk off blk' off' : Nat} (h : blk * 0x100000 + off ≠ blk' * 0x100000 + off') :
    regAddr blk i off ≠ regAddr blk' i off' :=
  fun e => h (Nat.add_right_cancel (m := i * 0x1000) (by
    rw [Nat.add_right_comm, Nat.add_right_comm (blk' * 0x100000)]
    exact e))

theorem blkOf_page_notMem {bs : List Nat} {blk i off : Nat} (h : blk ∉ bs) (hb : blk < 128) (hi : i < 256)
    (ho : off < 4096) : blkOf (regAddr blk i off) ∉ bs := by rwa [blkOf_regAddr _ _ _ hb hi ho]

theorem State.fld_setFld_off (h : g.blk * 0x100000 + g.off ≠ f.blk * 0x100000 + f.off) :
    (s.setFld f i v).fld g i = s.fld g i :=
  State.fld_setFld_addr _ _ _ _ _ _ (regAddr_ne i h)

theorem State.fld_bump_off (h : g.blk * 0x100000 + g.off ≠ f.blk * 0x100000 + f.off) :
    (s.bump f i).fld g i = s.fld g i :=
  State.fld_congr (State.reg_bump_ne _ _ _ _ (regAddr_ne i h))

theorem State.fld_event_off {blk : Nat} (h : g.blk * 0x100000 + g.off ≠ blk * 0x100000 + 0x010) :
    (s.event blk i v).fld g i = s.fld g i :=
  s.fld_event_ne (regAddr_ne i h) v

theorem State.raised_setFld_off {blk b : Nat} (h : blk * 0x100000 + 0x010 ≠ f.blk * 0x100000 + f.off) :
    (s.setFld f i v).raised blk i b = s.raised blk i b :=
  congrArg (fun w : Word => bit w.toNat b) (State.reg_setFld_ne _ _ _ _ _ (regAddr_ne i h))

end

end Sys2Proof.Machine
end

section
/-! SUPPORT. Frames spoiled or revoked: which registers that writes, and that it leaves the stations alone and withdraws no
fault source (R48 to R54, R157). -/

namespace Sys2Proof.Machine

/-- Outside the pages of `bs` no register of `t` differs from that of `s`; and the stations are those of `s`. -/
structure State.sparesBut (bs : List Nat) (s t : State) : Prop where
  regs : s.regsOutside t bs
  spares : s.spares t

namespace State.sparesBut

variable {bs : List Nat} {s t u : State}

protected theorem refl (bs : List Nat) (s : State) : s.sparesBut bs s := ⟨fun _ _ => rfl, State.spares.refl s⟩

theorem ite {c : Prop} [Decidable c] (h : s.sparesBut bs t) (hu : s.sparesBut bs u) :
    s.sparesBut bs (if c then t else u) := by split <;> assumption

theorem forAll (h : s.sparesBut bs t) {xs : List Nat} {f : State → Nat → State}
    (hf : ∀ u x, s.sparesBut bs u → s.sparesBut bs (f u x)) : s.sparesBut bs (forAll xs t f) :=
  forAll_keeps (s.sparesBut bs ·) (fun u x _ => hf u x) h

/-- Updates of which both halves are known. -/
theorem moved (h : s.sparesBut bs t) (hm : t.moves (fun a => blkOf a ∈ bs) u) (hs : s.spares u) : s.sparesBut bs u :=
  ⟨fun a ha => (hm.regs a ha).trans (h.regs a ha), hs⟩

theorem setCtx (h : s.sparesBut bs t) {c : Nat} {x : Ctx} : s.sparesBut bs (t.setCtx c x) := ⟨h.regs, h.spares.setCtx⟩

section
variable (hapr : B.APR ∈ bs)
include hapr

theorem ring : ∀ a, ringReg a → blkOf a ∈ bs := fun _ ⟨hblk, _⟩ => hblk ▸ hapr

theorem frameEvent (h : s.sparesBut bs t) {c ev cause reason arg : Nat} {res : Bool} :
    s.sparesBut bs (t.frameEvent c ev cause reason arg res) := by
  have hrecord : ∀ {v : State}, s.sparesBut bs v → ∀ {x e}, s.sparesBut bs
      ((v.event B.APR 0 ev).writeEvent (t.ctx c).evRing x e) := fun {_} hv {x e} =>
    hv.moved (((State.moves.refl _ _).event hapr).writeEvent (ring hapr)
      (t.ctx c).evRing_lt) hv.spares.event.writeEvent
  exact hrecord (h.setCtx.ite h)

theorem returnSlots (h : s.sparesBut bs t) {c : Nat} : s.sparesBut bs (t.returnSlots c) :=
  setCtx (h.moved ((State.moves.refl _ _).ringRelease (ring hapr) (t.ctx c).evRing_lt) h.spares.ringRelease)

end

theorem printCheck (hsys : B.SYS ∈ bs) (h : s.sparesBut bs t) : s.sparesBut bs t.printCheck :=
  h.moved ((State.moves.refl _ _).printCheck hsys) h.spares.printCheck

theorem assignCounter (hatt : B.ATT ∈ bs) (h : s.sparesBut bs t) {c : Nat} : s.sparesBut bs (t.assignCounter c) := by
  have hcount : ∀ {v : State}, s.sparesBut bs v → ∀ {q n}, s.sparesBut bs
      (({ v with att := q } : State).setFld F.ATT_STAT_PEND 0 n) := fun {_} hv {q n} =>
    hv.moved ((State.moves.refl _ _).withAtt.setFld hatt) hv.spares
  exact h.ite (hcount h.setCtx)

section
variable (hapr : B.APR ∈ bs) (hatt : B.ATT ∈ bs) (hsys : B.SYS ∈ bs)
include hapr hatt

theorem clockStart (h : s.sparesBut bs t) {c : Nat} : s.sparesBut bs (t.clockStart c) :=
  have hassign := assignCounter hatt (h.setCtx (c := c) (x := { t.ctx c with tEnd := t.now, stopped := true })) (c := c)
  (hassign.ite (hassign.returnSlots hapr)).ite h

include hsys

/-- A spoil cause, whether its frame runs on or not (R50, R54). -/
theorem spoilWith (h : s.sparesBut bs t) {runOn : Bool} {c cause src : Nat} :
    s.sparesBut bs (t.spoilWith runOn c cause src) := by
  unfold State.spoilWith
  dsimp only
  split
  · exact printCheck hsys (((h.setCtx.frameEvent hapr).clockStart hapr hatt).ite (h.setCtx.frameEvent hapr))
  · exact ((h.setCtx.ite h).ite ((h.setCtx.ite h).frameEvent hapr)).ite h

theorem spoilAt (h : s.sparesBut bs t) {n cause src : Nat} {dark : Bool} :
    s.sparesBut bs (t.spoilAt n cause src dark) :=
  h.forAll fun _ _ hu => (hu.setCtx.ite hu).spoilWith hapr hatt hsys

end

/-- An ADMITTED frame revoked (R52). -/
theorem revoke (hapr : B.APR ∈ bs) (hsys : B.SYS ∈ bs) (h : s.sparesBut bs t) {c reason arg : Nat} :
    s.sparesBut bs (t.revoke c reason arg) := by
  have hrelease : ∀ {v : State}, s.sparesBut bs v → s.sparesBut bs (v.ringRelease (t.ctx c).audRing 1) := fun {_} hv =>
    hv.moved ((State.moves.refl _ _).ringRelease (ring hapr) (t.ctx c).audRing_lt) hv.spares.ringRelease
  have hserial : ∀ {v : State}, s.sparesBut bs v → ∀ {q : Apr},
      s.sparesBut bs ({ v with apr := q } : State).lastSerial :=
    fun {_} hv {q} => hv.moved ((State.moves.refl _ _).withApr.setPair64 hapr hapr)
      hv.spares
  exact (printCheck hsys ((hserial (hrelease (h.returnSlots hapr)).setCtx).frameEvent hapr)).ite h

/-- A field of a page outside `bs`. -/
theorem fld (h : s.sparesBut bs t) {f : Field} {i : Nat} (hf : f.blk ∉ bs) (hb : f.blk < 128) (hi : i < 256)
    (ho : f.off < 4096) : t.fld f i = s.fld f i :=
  State.fld_congr (h.regs _ (blkOf_page_notMem hf hb hi ho))

theorem raised (h : s.sparesBut bs t) {blk i n : Nat} (hf : blk ∉ bs) (hb : blk < 128) (hi : i < 256) :
    t.raised blk i n = s.raised blk i n :=
  congrArg (fun w : Word => bit w.toNat n) (h.regs _ (blkOf_page_notMem hf hb hi (by decide)))

end State.sparesBut

end Sys2Proof.Machine
end

section
/-! SUPPORT. A station's parts written and read, the facet cut short, and the fields of an identity memory. -/

namespace Sys2Proof.Machine

section
variable (s : State) (n : Nat)

theorem State.bln_setBln (x : Bln) : ((s.setBln n x).stn n).bln = x := congrArg Stn.bln (Sparse.get_set_same _ _ _ _)
theorem State.fac_setFac (x : Fac) : ((s.setFac n x).stn n).fac = x := congrArg Stn.fac (Sparse.get_set_same _ _ _ _)

theorem State.setFac_regs (x : Fac) : (s.setFac n x).regs = s.regs := rfl
theorem State.setFac_ctxs (x : Fac) : (s.setFac n x).ctxs = s.ctxs := rfl
theorem State.setFac_lmem (x : Fac) : (s.setFac n x).lmem = s.lmem := rfl

theorem State.stn_setStn_ne {m : Nat} (h : m ≠ n) (x : Stn) : (s.setStn n x).stn m = s.stn m :=
  Sparse.get_set_ne _ _ _ _ _ h

/-- A cut moves the station's part of FMT, and may draw a free value. -/
theorem State.cutFacet_eq (ns : Nat) : ∃ k q, s.cutFacet n ns = { s with freeCtr := k, stns := q } ∧
    ∀ m, m ≠ n → (s.cutFacet n ns).stn m = s.stn m := by
  unfold State.cutFacet
  dsimp only
  split
  · exact ⟨_, _, rfl, fun _ _ => rfl⟩
  · exact ⟨_, _, rfl, fun _ hm => s.stn_setStn_ne n hm _⟩
  · exact ⟨_, _, rfl, fun _ hm => s.draw.2.stn_setStn_ne n hm _⟩

end

theorem leBytes_length (n v : Nat) : (leBytes n v).length = n := by
  induction n generalizing v with
  | zero => rfl
  | succ n ih => exact congrArg (· + 1) (ih _)

/-- A number read back from its bytes. -/
theorem leNat_leBytes (n v : Nat) : leNat (leBytes n v) = v % 256 ^ n := by
  induction n generalizing v with
  | zero => rw [pow_zero, Nat.mod_one]; rfl
  | succ n ih =>
    have hbyte : (BitVec.ofNat 8 v).toNat = v % 256 := BitVec.toNat_ofNat ..
    rw [leBytes, leNat, ih, hbyte, Nat.pow_succ', Nat.mod_mul]

/-- A field put into bytes reads back. -/
theorem fieldAt_put (bs cs : List Byte) (a n v : Nat) :
    fieldAt (takeAt bs 0 a ++ leBytes n v ++ cs) a n = v % 256 ^ n := by
  have hlen : (takeAt bs 0 a ++ leBytes n v).length = a + n := by
    rw [List.length_append, takeAt_length, leBytes_length]
  unfold fieldAt
  rw [takeAt_append_left (Nat.le_of_eq hlen.symm), takeAt_append_right (takeAt_length _ _ _) (leBytes_length _ _),
    leNat_leBytes]

end Sys2Proof.Machine
end

section
/-! PROOFS. The blocks of the back channel, and how a link fails (R147, R148, R150, R154). -/

namespace Sys2Proof.Machine

theorem State.hears_iff {s : State} {n : Nat} :
    s.hears n = true ↔ n < 6 ∧ s.domOn (.bln n) = true ∧ 1 ≤ s.link n ∧ s.link n ≤ 3 := by
  simp [State.hears, and_assoc]

theorem State.finish_link (s t : State) (n : Nat) : (s.finish t).link n = t.link n := rfl

/-! ### A link in FAULT -/

/-- BLN_STAT as the link fails, the fault counted, and BLN.FAULT. -/
def State.faultShown (s : State) (n cause : Nat) : State :=
  ((((s.setFld F.BLN_STAT_LSTATE n 4).setFld F.BLN_STAT_FCAUSE n cause).setFlag F.BLN_STAT_DARK n true).bump
    F.BLN_FAULT_CNT n).event B.BLN n 1

section
variable (s : State) {n : Nat} (cause : Nat) (hn : n < 6)

/-- Beside what it shows, a link that fails spoils frames alone. -/
theorem State.linkFault_spoils (n : Nat) :
    ∃ u : State, s.linkFault n cause = u.spoilAt n cLink (64 + n) true ∧ u.regs = (s.faultShown n cause).regs ∧
      64 + n ∈ u.flt.pair := by
  obtain ⟨k, q, hcut, -⟩ := ((s.faultShown n cause).raiseFault (64 + n)).cutFacet_eq n leadMax
  refine ⟨((s.faultShown n cause).raiseFault (64 + n)).cutFacet n leadMax, rfl, ?_, ?_⟩ <;> rw [hcut]
  · exact State.raiseFault_regs ..
  · exact State.raiseFault_mem ..

theorem State.linkFault_pair (n : Nat) : 64 + n ∈ (s.linkFault n cause).flt.pair := by
  obtain ⟨u, hu, -, hpair⟩ := s.linkFault_spoils cause n
  rw [hu]
  exact ((State.sparesBut.refl [B.APR, B.ATT, B.SYS] u).spoilAt (by decide) (by decide) (by decide)).spares.pair hpair

theorem State.linkFault_reg (n : Nat) {a : Nat} (ha : blkOf a ∉ [B.APR, B.ATT, B.SYS]) :
    (s.linkFault n cause).reg a = (s.faultShown n cause).reg a := by
  obtain ⟨u, hu, hregs, -⟩ := s.linkFault_spoils cause n
  rw [hu, ((State.sparesBut.refl [B.APR, B.ATT, B.SYS] u).spoilAt (by decide) (by decide) (by decide)).regs a ha]
  exact State.reg_congr hregs a

include hn

theorem State.linkFault_fld {f : Field} (hf : f.blk = B.BLN) (ho : f.off < 4096) :
    (s.linkFault n cause).fld f n = (s.faultShown n cause).fld f n :=
  State.fld_congr (s.linkFault_reg cause n (blkOf_page_notMem (by rw [hf]; decide) (by rw [hf]; decide) (by omega) ho))

/-- What every link failure shows (R150, R154). -/
theorem State.linkFault_shows (hc : cause < 16) : (s.linkFault n cause).link n = 4 ∧
    (s.linkFault n cause).fld F.BLN_STAT_FCAUSE n = cause ∧ (s.linkFault n cause).raised B.BLN n 1 = true := by
  refine ⟨?_, ?_, ?_⟩
  · unfold State.link
    rw [s.linkFault_fld cause hn rfl (by decide)]
    simp (disch := decide) only [State.faultShown, State.setFlag, State.fld_event_off, State.fld_bump_off,
      State.fld_setFld_bits, State.fld_setFld_same]
    rfl
  · rw [s.linkFault_fld cause hn rfl (by decide)]
    simp (disch := decide) only [State.faultShown, State.setFlag, State.fld_event_off, State.fld_bump_off,
      State.fld_setFld_bits, State.fld_setFld_same]
    exact Nat.mod_eq_of_lt hc
  · unfold State.raised
    rw [s.linkFault_reg cause n (a := evtAddr B.BLN n)
      (blkOf_page_notMem (by decide) (by decide) (by omega) (by decide))]
    exact State.event_bit _ _ _ _ (by decide)

/-- Lane lock stands beside LSTATE and FCAUSE; and DRV_STAT and BCERR_CNT are other registers. -/
theorem State.linkFault_keeps : (s.linkFault n cause).fld F.BLN_STAT_LANE_LOCK n = s.fld F.BLN_STAT_LANE_LOCK n ∧
    (s.linkFault n cause).fld F.BLN_DRV_STAT_SEQ n = s.fld F.BLN_DRV_STAT_SEQ n ∧
    (s.linkFault n cause).fld F.BLN_BCERR_CNT n = s.fld F.BLN_BCERR_CNT n := by
  refine ⟨?_, ?_, ?_⟩ <;> rw [s.linkFault_fld cause hn rfl (by decide)] <;>
    simp (disch := decide) only [State.faultShown, State.setFlag, State.fld_event_off, State.fld_bump_off,
      State.fld_setFld_bits, State.fld_setFld_off]

end

/-! ### STATUS -/

/-- What a STATUS block shows: byte 1, SEQ and lane lock. -/
def State.statusShown (s : State) (n flags seq lanes : Nat) : State :=
  (((s.setFld F.BLN_DRV_STAT_SEQ n seq).setFld F.BLN_DRV_STAT_LANE_LOCK n lanes).setFld F.BLN_DRV_STAT_FLAGS n flags).setFld
    F.BLN_STAT_LANE_LOCK n lanes

/-- A CRC flag of the block is counted, and spoils the frames whose lines the facet it names carried. -/
def State.statusStrikes (s : State) (n flags : Nat) (cs : List Nat) : State :=
  if bit flags 3 ∨ bit flags 4 then
    if cs = [] then s.bump F.BLN_CRC_CNT n
    else forAll cs ((s.bump F.BLN_CRC_CNT n).event B.BLN n 2) fun s c => s.spoilRun c cLink (64 + n)
  else s

section
variable (s : State) {n : Nat} (flags seq lanes : Nat)

theorem State.statusShown_fields : (s.statusShown n flags seq lanes).fld F.BLN_DRV_STAT_SEQ n = seq % 2 ^ 16 ∧
    (s.statusShown n flags seq lanes).fld F.BLN_STAT_LANE_LOCK n = lanes % 2 ^ 6 ∧
    (s.statusShown n flags seq lanes).link n = s.link n := by
  unfold State.link
  refine ⟨?_, ?_, ?_⟩ <;>
    simp (disch := decide) only [State.statusShown, State.fld_setFld_bits, State.fld_setFld_off, State.fld_setFld_same]

/-- Frames struck leave the fields of the station's page alone, but for the counter. -/
theorem State.statusStrikes_fld (hn : n < 6) (cs : List Nat) {f : Field} (hf : f.blk = B.BLN) (ho : f.off < 4096)
    (hcnt : f.off ≠ F.BLN_CRC_CNT.off) (hevt : f.off ≠ 0x010) : (s.statusStrikes n flags cs).fld f n = s.fld f n := by
  have hbump : (s.bump F.BLN_CRC_CNT n).fld f n = s.fld f n :=
    s.fld_bump_off n (by rw [hf]; exact fun e => hcnt (Nat.add_left_cancel e))
  have hevent : ((s.bump F.BLN_CRC_CNT n).event B.BLN n 2).fld f n = s.fld f n :=
    (State.fld_event_off _ n 2 (by rw [hf]; exact fun e => hevt (Nat.add_left_cancel e))).trans hbump
  unfold State.statusStrikes
  split
  · split
    · exact hbump
    · refine Eq.trans ?_ hevent
      exact (State.sparesBut.forAll (bs := [B.APR, B.ATT, B.SYS]) (.refl _ _) fun _ _ hu =>
        hu.spoilWith (by decide) (by decide) (by decide)).fld (by rw [hf]; decide) (by rw [hf]; decide) (by omega) ho
  · rfl

end

/-- The newest facet sent is the head of the list, where there is one. -/
theorem sent_head_any (sent : List (Nat × List Nat)) (p : Nat → Bool) :
    (match sent with | (k, _) :: _ => p k | [] => false) = sent.head?.any fun k => p k.1 := by
  cases sent <;> rfl

/-- What the block's flags do to a link that is UP. -/
def State.statusFault (s : State) (n flags lanes : Nat) : State :=
  if s.link n = lkUp ∧ bit flags 1 then s.linkFault n 2
  else if s.link n = lkUp ∧ bit flags 2 then s.linkFault n 3
  else if s.link n = lkUp ∧ lanes % 64 ≠ 0x3F then s.linkFault n 4
  else s

theorem State.statusFault_watchdog {s : State} {n flags : Nat} (lanes : Nat) (hlink : s.link n = 3)
    (hflag : bit flags 1 = true) : s.statusFault n flags lanes = s.linkFault n 2 := if_pos ⟨hlink, hflag⟩

theorem State.statusFault_notUp {s : State} {n : Nat} (flags lanes : Nat) (hlink : s.link n ≠ 3) :
    s.statusFault n flags lanes = s :=
  (if_neg fun h => hlink h.1).trans ((if_neg fun h => hlink h.1).trans (if_neg fun h => hlink h.1))

theorem bcStatus_eq (s : State) (n flags seq lanes : Nat) :
    ∃ b cs, b = ((s.stn n).bln.sent.head?.any fun k => decide (1 < (k.1 + 65536 - seq % 65536) % 65536)) ∧
      bcStatus n flags seq lanes s = if b then s
        else ((s.statusShown n flags seq lanes).statusStrikes n flags cs).statusFault n flags lanes :=
  ⟨_, _, sent_head_any (s.stn n).bln.sent fun k => decide (1 < (k + 65536 - seq % 65536) % 65536), rfl⟩

/-- A block no more than a facet behind shows its fields before its flags are judged. -/
theorem bcStatus_timely {s : State} {n : Nat} (hn : n < 6) (flags : Nat) {seq : Nat} (lanes : Nat)
    (hseq : ((s.stn n).bln.sent.head?.any fun k => decide (1 < (k.1 + 65536 - seq % 65536) % 65536)) = false) :
    ∃ u : State, bcStatus n flags seq lanes s = u.statusFault n flags lanes ∧
      u.fld F.BLN_DRV_STAT_SEQ n = seq % 2 ^ 16 ∧ u.fld F.BLN_STAT_LANE_LOCK n = lanes % 2 ^ 6 ∧ u.link n = s.link n ∧
      (bit flags 3 = false → bit flags 4 = false → u = s.statusShown n flags seq lanes) := by
  obtain ⟨hshownSeq, hshownLanes, hshownLink⟩ := s.statusShown_fields (n := n) flags seq lanes
  obtain ⟨b, cs, hb, hrun⟩ := bcStatus_eq s n flags seq lanes
  obtain rfl := hb.trans hseq
  refine ⟨_, hrun, ?_, ?_, ?_, fun hlocal hremote => ?_⟩
  · exact (State.statusStrikes_fld _ flags hn _ rfl (by decide) (by decide) (by decide)).trans hshownSeq
  · exact (State.statusStrikes_fld _ flags hn _ rfl (by decide) (by decide) (by decide)).trans hshownLanes
  · exact (State.statusStrikes_fld _ flags hn _ rfl (by decide) (by decide) (by decide)).trans hshownLink
  · exact if_neg (by simp [hlocal, hremote])

/-! ### A bad block -/

/-- A block whose CRC-8 fails, counted for the facet period too. -/
def State.badCounted (s : State) (n : Nat) : State :=
  (s.bump F.BLN_BCERR_CNT n).setBln n { (s.stn n).bln with bcErrs := (s.stn n).bln.bcErrs + 1 }

theorem bcBadBlock_crc (s : State) (n : Nat) : bcBadBlock n true s =
    if s.fld F.BLN_CFG_BC_ERR_MAX n < (s.stn n).bln.bcErrs + 1 then (s.badCounted n).linkFault n 5 else s.badCounted n := by
  have hstn : (s.bump F.BLN_BCERR_CNT n).stn n = s.stn n := s.stn_congr n (State.bump_stns ..)
  have hmax : (s.badCounted n).fld F.BLN_CFG_BC_ERR_MAX n = s.fld F.BLN_CFG_BC_ERR_MAX n := s.fld_bump_off n (by decide)
  rw [← hmax]
  unfold bcBadBlock State.badCounted
  dsimp only
  rw [hstn, if_pos rfl]

/-- A block that fails no link is counted, and moves no other register. -/
theorem bcBadBlock_within {s : State} {n : Nat} {crc : Bool}
    (h : ¬ (crc = true ∧ s.fld F.BLN_CFG_BC_ERR_MAX n < (s.stn n).bln.bcErrs + 1)) :
    (bcBadBlock n crc s).regs = (s.bump F.BLN_BCERR_CNT n).regs ∧ (bcBadBlock n crc s).flt = s.flt := by
  cases crc with
  | false => exact ⟨rfl, State.bump_flt ..⟩
  | true =>
    rw [bcBadBlock_crc, if_neg fun hover => h ⟨rfl, hover⟩]
    exact ⟨rfl, State.bump_flt ..⟩

/-! ### The blocks -/

section
variable {s : State} {n : Nat} (h : s.hears n = true)
include h

theorem exec_bcTemp_stores {i : Nat} (hi : i < 4) (v : BitVec 16) :
    ∃ t, exec (.bcTemp n i v) s = .next t ∧
      t.reg ((F.BLN_TEMP.at i).addr n) = BitVec.ofNat 32 ((if s.link n = 3 then 2 ^ 31 else 0) + v.toNat) ∧
      s.onlyRegs t ∧ s.regsBut t [(F.BLN_TEMP.at i).addr n] :=
  ⟨_, next_finish (if_pos ⟨h, hi⟩), State.reg_setReg_same _ _ _, (State.movesRegs_setReg _ _ _).onlyRegs,
    (State.regsBut_setReg _ _ _).finish⟩

theorem exec_bcApc_stores {e : Nat} (he : e < 48) (ps power : Nat) :
    ∃ t, exec (.bcApc n e ps power) s = .next t ∧
      (t.stn n).bln.apc.get (fun _ => 0) e =
        BitVec.ofNat 32 ((if s.link n = 3 then 2 ^ 31 else 0) + ps % 8 * 2 ^ 16 + power % 65536) ∧
      (∀ d, d ≠ e → (t.stn n).bln.apc.get (fun _ => (0 : Word)) d = (s.stn n).bln.apc.get (fun _ => 0) d) ∧
      (∀ m, m ≠ n → t.stn m = s.stn m) ∧ t.regs = s.regs ∧ t.lmem = s.lmem := by
  refine ⟨_, next_finish (if_pos ⟨h, he⟩), ?_, fun d hd => ?_, fun m hm => s.stn_setStn_ne n hm _, rfl, rfl⟩
  · rw [State.finish_stn, State.bln_setBln]
    exact Sparse.get_set_same _ _ _ _
  · rw [State.finish_stn, State.bln_setBln]
    exact Sparse.get_set_ne _ _ _ _ _ hd

theorem exec_bcIddata_stores (hlink : s.link n = 2) {a : Nat} (ha : a + 4 ≤ 0xC54) (w : Word) :
    ∃ t, exec (.bcIddata n a w) s = .next t ∧ fieldAt (t.stn n).bln.idMem a 4 = w.toNat ∧ t.regs = s.regs ∧
      (∀ m, m ≠ n → t.stn m = s.stn m) ∧ t.lmem = s.lmem := by
  refine ⟨_, next_finish (if_pos ⟨h, hlink, ha⟩), ?_, rfl, fun m hm => s.stn_setStn_ne n hm _, rfl⟩
  rw [State.finish_stn, State.bln_setBln, fieldAt_put]
  exact Nat.mod_eq_of_lt w.isLt

theorem exec_bcStatus_run (flags seq lanes : Nat) :
    exec (.bcStatus n flags seq lanes) s = .next (s.finish (bcStatus n flags seq lanes s)) :=
  next_finish (if_pos h)

theorem exec_bcStatus_watchdog {flags seq : Nat} (lanes : Nat)
    (hseq : ((s.stn n).bln.sent.head?.any fun k => decide (1 < (k.1 + 65536 - seq % 65536) % 65536)) = false)
    (hlink : s.link n = 3) (hflag : bit flags 1 = true) :
    ∃ t, exec (.bcStatus n flags seq lanes) s = .next t ∧
      t.fld F.BLN_DRV_STAT_SEQ n = seq % 2 ^ 16 ∧ t.fld F.BLN_STAT_LANE_LOCK n = lanes % 2 ^ 6 ∧ t.link n = 4 ∧
      t.fld F.BLN_STAT_FCAUSE n = 2 ∧ 64 + n ∈ t.flt.pair ∧ t.raised B.BLN n 1 = true := by
  obtain ⟨hn, -⟩ := State.hears_iff.mp h
  obtain ⟨u, hrun, huSeq, huLanes, huLink, -⟩ := bcStatus_timely hn flags lanes hseq
  obtain ⟨hfault, hcause, hraised⟩ := u.linkFault_shows 2 hn (by decide)
  obtain ⟨hlanes, hkept, -⟩ := u.linkFault_keeps 2 hn
  rw [State.statusFault_watchdog lanes (huLink.trans hlink) hflag] at hrun
  refine ⟨_, (exec_bcStatus_run h flags seq lanes).trans (next_finish hrun), ?_⟩
  rw [State.finish_fld, State.finish_fld, State.finish_fld, State.finish_link, State.finish_flt, State.finish_raised]
  exact ⟨hkept.trans huSeq, hlanes.trans huLanes, hfault, hcause, u.linkFault_pair 2 n, hraised⟩

/-- A block without a CRC flag shows its fields, and while the link is not UP does no more. -/
theorem exec_bcStatus_notUp {flags seq : Nat} (lanes : Nat)
    (hseq : ((s.stn n).bln.sent.head?.any fun k => decide (1 < (k.1 + 65536 - seq % 65536) % 65536)) = false)
    (hlink : s.link n ≠ 3) (hlocal : bit flags 3 = false) (hremote : bit flags 4 = false) :
    ∃ t, exec (.bcStatus n flags seq lanes) s = .next t ∧
      t.fld F.BLN_DRV_STAT_SEQ n = seq % 2 ^ 16 ∧ t.fld F.BLN_STAT_LANE_LOCK n = lanes % 2 ^ 6 ∧ s.onlyRegs t ∧
      s.regsBut t [F.BLN_DRV_STAT_SEQ.addr n, F.BLN_STAT_LANE_LOCK.addr n] := by
  obtain ⟨hn, -⟩ := State.hears_iff.mp h
  obtain ⟨u, hrun, huSeq, huLanes, huLink, hshown⟩ := bcStatus_timely hn flags lanes hseq
  rw [State.statusFault_notUp flags lanes (huLink ▸ hlink)] at hrun
  obtain rfl := hshown hlocal hremote
  refine ⟨_, (exec_bcStatus_run h flags seq lanes).trans (next_finish hrun), huSeq, huLanes,
    State.movesRegs.onlyRegs ?_, State.regsBut.finish ?_⟩
  · exact (((State.movesRegs_setReg _ _ _).trans (State.movesRegs_setReg _ _ _)).trans (State.movesRegs_setReg _ _ _)).trans
      (State.movesRegs_setReg _ _ _)
  · refine State.regsBut.trans (as := [F.BLN_DRV_STAT_SEQ.addr n]) ?_ (State.regsBut_setReg _ _ _) (by simp) (by simp)
    exact ((State.regsBut_setReg _ _ _).trans (State.regsBut_setReg _ _ _) (fun _ ha => ha) fun _ ha => ha).trans
      (State.regsBut_setReg _ _ _) (fun _ ha => ha) fun _ ha => ha

theorem exec_bcBadBlock_counts (crc : Bool) :
    ∃ t, exec (.bcBadBlock n crc) s = .next t ∧
      t.fld F.BLN_BCERR_CNT n = min (s.fld F.BLN_BCERR_CNT n + 1) (2 ^ F.BLN_BCERR_CNT.len - 1) ∧
      (if crc = true ∧ s.fld F.BLN_CFG_BC_ERR_MAX n < (s.stn n).bln.bcErrs + 1 then t.link n = 4 ∧
        t.fld F.BLN_STAT_FCAUSE n = 5 ∧ 64 + n ∈ t.flt.pair
      else t.link n = s.link n ∧ t.flt = s.flt ∧ s.regsBut t [F.BLN_BCERR_CNT.addr n]) := by
  obtain ⟨hn, -⟩ := State.hears_iff.mp h
  have hcount := s.fld_bump_same F.BLN_BCERR_CNT n (by decide)
  refine ⟨_, next_finish (if_pos h), ?_⟩
  rw [State.finish_fld, State.finish_fld, State.finish_link, State.finish_flt]
  split
  next hover =>
    obtain ⟨rfl, hmax⟩ := hover
    obtain ⟨hfault, hcause, -⟩ := (s.badCounted n).linkFault_shows 5 hn (by decide)
    obtain ⟨-, -, hkept⟩ := (s.badCounted n).linkFault_keeps 5 hn
    rw [bcBadBlock_crc, if_pos hmax]
    exact ⟨hkept.trans hcount, hfault, hcause, (s.badCounted n).linkFault_pair 5 n⟩
  next hwithin =>
    obtain ⟨hregs, hflt⟩ := bcBadBlock_within hwithin
    have hreg (a : Nat) := State.reg_congr hregs a
    refine ⟨(State.fld_congr (hreg _)).trans hcount, (State.fld_congr (hreg _)).trans (s.fld_bump_off n (by decide)), hflt,
      fun a ha => (hreg a).trans (State.reg_bump_ne _ _ _ _ (by simpa using ha))⟩

theorem exec_bcloss_fails (hlink : s.link n ≠ 1) : ∃ t, exec (.bcloss n) s = .next t ∧ t.link n = 4 ∧
    t.fld F.BLN_STAT_FCAUSE n = 1 ∧ 64 + n ∈ t.flt.pair ∧ t.raised B.BLN n 1 = true := by
  obtain ⟨hn, -⟩ := State.hears_iff.mp h
  obtain ⟨hfault, hcause, hraised⟩ := s.linkFault_shows 1 hn (by decide)
  refine ⟨_, next_finish (if_pos ⟨h, hlink⟩), ?_⟩
  rw [State.finish_link, State.finish_fld, State.finish_flt, State.finish_raised]
  exact ⟨hfault, hcause, s.linkFault_pair 1 n, hraised⟩

end

/-- Settles O23: each clause is what the block's own lemma says. -/
theorem linkBackChannel : Obligations.LinkBackChannel := by
  unfold Obligations.LinkBackChannel
  exact ⟨fun s n i v h hi => exec_bcTemp_stores h hi v, fun s n e ps power h he => exec_bcApc_stores h he ps power,
    fun s n a w h hlink ha => exec_bcIddata_stores h hlink ha w, fun s n => ⟨_, rfl, rfl⟩,
    fun s n flags seq lanes h hseq hlink hflag => exec_bcStatus_watchdog h lanes hseq hlink hflag,
    fun s n flags seq lanes h hseq hlink hlocal hremote => exec_bcStatus_notUp h lanes hseq hlink hlocal hremote,
    fun s n crc h => exec_bcBadBlock_counts h crc, fun s n h hlink => exec_bcloss_fails h hlink⟩

end Sys2Proof.Machine
end

section
/-! SUPPORT. Lock gained and lost: what each leaves of the clock's flags and of the other stations (R128, R130, R134). -/

namespace Sys2Proof.Machine

/-! ### Lock gained -/

/-- A station that becomes LOCKED shows it in FAC_STAT and raises FAC.LOCKED. -/
theorem State.tryLock_moves (s : State) (n : Nat) : (s.tryLock n).lmem = s.lmem ∧ (s.tryLock n).ctxs = s.ctxs ∧
    s.regsBut (s.tryLock n) [F.FAC_STAT_LOCKED.addr n, evtAddr B.FAC n] := by
  unfold State.tryLock
  dsimp only
  split
  · have hmoves := ((State.movesRegs_setFlag s F.FAC_STAT_LOCKED n true).trans
      (State.movesRegs_setFlag _ F.FAC_STAT_RETUNE n false)).trans (State.movesRegs_event _ B.FAC n 2)
    have hregs := ((State.regsBut_setFlag s F.FAC_STAT_LOCKED n true).trans
      (State.regsBut_setFlag _ F.FAC_STAT_RETUNE n false) (fun _ ha => ha) fun _ ha => ha).trans (State.regsBut_event _ B.FAC n 2)
      (cs := [F.FAC_STAT_LOCKED.addr n, evtAddr B.FAC n]) (by simp) (by simp)
    generalize ((s.setFlag F.FAC_STAT_LOCKED n true).setFlag F.FAC_STAT_RETUNE n false).event B.FAC n 2 = u at *
    exact ⟨hmoves.lmem, hmoves.ctxs, hregs⟩
  · exact ⟨rfl, rfl, fun _ _ => rfl⟩

/-- A field of a station's CLK page stays as the station becomes LOCKED. -/
theorem State.tryLock_fld (s : State) (n : Nat) {f : Field} (hf : f.blk = B.CLK) : (s.tryLock n).fld f n = s.fld f n := by
  obtain ⟨-, -, hregs⟩ := s.tryLock_moves n
  have hne {off : Nat} (ho : off < 4096) : f.addr n ≠ regAddr B.FAC n off := regAddr_ne n (by
    rw [hf]
    show 0x1900000 + f.off ≠ 0x1800000 + off
    omega)
  refine State.fld_congr (hregs _ fun hmem => ?_)
  rcases List.mem_pair.mp hmem with h | h
  · exact hne (by decide) h
  · exact hne (by decide) h

/-! ### PXO_n gated -/

section
variable (s : State) (n : Nat)

theorem State.gate_movesRegs : s.movesRegs (s.gate n) := by
  unfold State.gate
  split
  · exact State.movesRegs_refl s
  · exact ((State.movesRegs_setFlag _ _ _ _).trans (State.movesRegs_event _ _ _ _)).trans (State.movesRegs_bump _ _ _)

theorem State.gate_regsBut : s.regsBut (s.gate n) [F.CLK_STAT_GATED.addr n, F.CLK_GATE_CNT.addr n, evtAddr B.CLK n] := by
  unfold State.gate
  split
  · exact fun _ _ => rfl
  · exact ((State.regsBut_setFlag s F.CLK_STAT_GATED n true).trans (State.regsBut_event _ B.CLK n 2)
      (cs := [F.CLK_STAT_GATED.addr n, evtAddr B.CLK n]) (by simp) (by simp)).trans
      (fun a ha => State.reg_bump_ne _ F.CLK_GATE_CNT _ _ (by simpa using ha)) (bs := [F.CLK_GATE_CNT.addr n])
      (by simp) (by simp)

theorem State.gate_gated : (s.gate n).flag F.CLK_STAT_GATED n = true := by
  unfold State.gate
  split
  next h => exact h
  · exact (congrArg (· == 1) ((State.fld_bump_off _ n (by decide)).trans (State.fld_event_off _ n 2 (by decide)))).trans
      (State.flag_setFlag_same _ _ _ _ rfl (by decide))

/-- The synthesizer's and the delay line's flags stand beside GATED. -/
theorem State.gate_fld {f : Field} (hf : f = F.CLK_STAT_SYN_LOCK ∨ f = F.CLK_STAT_DLL_LOCK ∨ f = F.FAC_STAT_LOCKED) :
    (s.gate n).fld f n = s.fld f n := by
  unfold State.gate
  split
  · rfl
  · rcases hf with rfl | rfl | rfl <;>
      simp (disch := decide) only [State.setFlag, State.fld_bump_off, State.fld_event_off, State.fld_setFld_bits,
        State.fld_setFld_off]

/-- An event raised stays raised as others of its page are. -/
theorem State.raised_event_keeps {blk inst k b : Nat} (h : s.raised blk inst b = true) :
    (s.event blk inst k).raised blk inst b = true := by
  unfold State.raised State.event evtAddr at *
  rw [State.reg_hwSet, State.reg_setReg_same, bit_eq_testBit, BitVec.toNat_or, Nat.testBit_or]
  rw [bit_eq_testBit] at h
  rw [h, Bool.true_or]

theorem State.gate_raised {b : Nat} (h : s.raised B.CLK n b = true) : (s.gate n).raised B.CLK n b = true := by
  unfold State.gate
  split
  · exact h
  · have hset : (s.setFlag F.CLK_STAT_GATED n true).raised B.CLK n b = true :=
      (State.raised_setFld_off _ _ _ (by decide)).trans h
    exact (congrArg (fun w : Word => bit w.toNat b) (State.reg_bump_ne _ _ _ _ (regAddr_ne n (by decide)))).trans
      (State.raised_event_keeps _ hset)

end

/-! ### Lock lost -/

/-- The registers of a station that show its lock and its clock. -/
def lockRegs (n : Nat) : List Nat := [F.FAC_STAT.addr n, F.CLK_STAT.addr n, evtAddr B.CLK n]

theorem ne_of_lockRegs {n a blk off : Nat} (ha : a ∈ lockRegs n) (h : blk * 0x100000 + off ∉
    [B.FAC * 0x100000 + F.FAC_STAT.off, B.CLK * 0x100000 + F.CLK_STAT.off, B.CLK * 0x100000 + 0x010]) :
    a ≠ regAddr blk n off := by
  simp only [List.mem_cons, List.not_mem_nil, or_false, not_or] at h
  obtain ⟨hstat, hclk, hevt⟩ := h
  simp only [lockRegs, List.mem_cons, List.not_mem_nil, or_false] at ha
  rcases ha with rfl | rfl | rfl
  · exact regAddr_ne n (Ne.symm hstat)
  · exact regAddr_ne n (Ne.symm hclk)
  · exact regAddr_ne n (Ne.symm hevt)

theorem blkOf_lockRegs {n a : Nat} (hn : n < 6) (ha : a ∈ lockRegs n) : blkOf a ∉ [B.APR, B.ATT, B.SYS] := by
  simp only [lockRegs, List.mem_cons, List.not_mem_nil, or_false] at ha
  rcases ha with rfl | rfl | rfl <;> exact blkOf_page_notMem (by decide) (by decide) (by omega) (by decide)

/-- `t` shows the lock and the clock of station `n` as `s` does, and holds the other stations as they were. -/
structure State.besideLock (n : Nat) (s t : State) : Prop where
  regs : ∀ a ∈ lockRegs n, t.reg a = s.reg a
  others : ∀ m, m ≠ n → t.stn m = s.stn m

namespace State.besideLock

variable {n : Nat} {s t : State}

protected theorem refl (n : Nat) (s : State) : s.besideLock n s := ⟨fun _ _ => rfl, fun _ _ => rfl⟩

theorem ite {u : State} {c : Prop} [Decidable c] (h : s.besideLock n t) (hu : s.besideLock n u) :
    s.besideLock n (if c then t else u) := by split <;> assumption

section
variable (h : s.besideLock n t)
include h

theorem event {blk k : Nat} (hb : blk * 0x100000 + 0x010 ∉
    [B.FAC * 0x100000 + F.FAC_STAT.off, B.CLK * 0x100000 + F.CLK_STAT.off, B.CLK * 0x100000 + 0x010]) :
    s.besideLock n (t.event blk n k) :=
  ⟨fun a ha => (State.reg_event_ne _ _ _ _ _ (ne_of_lockRegs ha hb)).trans (h.regs a ha),
    fun m hm => (t.stn_congr m (State.event_stns ..)).trans (h.others m hm)⟩
theorem setStn {q : Stn} : s.besideLock n (t.setStn n q) :=
  ⟨h.regs, fun m hm => (t.stn_setStn_ne n hm q).trans (h.others m hm)⟩
theorem emit {e : Emit} : s.besideLock n (t.emit e) := ⟨h.regs, h.others⟩
theorem raiseFault {k : Nat} : s.besideLock n (t.raiseFault k) := h.ite ⟨h.regs, h.others⟩
theorem cutFacet {ns : Nat} : s.besideLock n (t.cutFacet n ns) := by
  obtain ⟨k, q, hcut, hothers⟩ := t.cutFacet_eq n ns
  refine ⟨fun a ha => ?_, fun m hm => (hothers m hm).trans (h.others m hm)⟩
  rw [hcut]
  exact h.regs a ha
theorem sendKeep : s.besideLock n (t.sendKeep n) := by
  have hdark : s.besideLock n (t.setFlag F.BLN_STAT_DARK n (!t.mayLight n)) :=
    ⟨fun a ha => (State.reg_setFlag_ne _ _ _ _ _ (ne_of_lockRegs ha (by decide))).trans (h.regs a ha), h.others⟩
  have hseq : s.besideLock n ((t.setFlag F.BLN_STAT_DARK n (!t.mayLight n)).keepSeq n).2 := by
    unfold State.keepSeq
    split
    · exact hdark
    · exact ⟨hdark.regs, hdark.others⟩
  exact hseq.emit.ite hdark
theorem laserDark {why : Nat} : s.besideLock n (t.laserDark n why) :=
  (h.setStn.cutFacet.event (by decide)).sendKeep.ite h.setStn
theorem spoilAt (hn : n < 6) {cause src : Nat} {dark : Bool} : s.besideLock n (t.spoilAt n cause src dark) :=
  have hspoil := (State.sparesBut.refl [B.APR, B.ATT, B.SYS] t).spoilAt (n := n) (cause := cause) (src := src)
    (dark := dark) (by decide) (by decide) (by decide)
  ⟨fun a ha => (hspoil.regs a (blkOf_lockRegs hn ha)).trans (h.regs a ha),
    fun m hm => (t.stn_congr m hspoil.spares.stns).trans (h.others m hm)⟩
theorem searchLight : s.besideLock n (t.searchLight n) := h.emit.ite h

end
end State.besideLock

/-- In `t` station `n` is not LOCKED; the flags of its clock and the events raised at CLK stand as in `s`, and so do the
other stations. -/
structure State.unlocked (n : Nat) (s t : State) : Prop where
  locked : t.flag F.FAC_STAT_LOCKED n = false
  syn : t.flag F.CLK_STAT_SYN_LOCK n = s.flag F.CLK_STAT_SYN_LOCK n
  dll : t.flag F.CLK_STAT_DLL_LOCK n = s.flag F.CLK_STAT_DLL_LOCK n
  raised : ∀ b, s.raised B.CLK n b = true → t.raised B.CLK n b = true
  others : ∀ m, m ≠ n → t.stn m = s.stn m

namespace State.unlocked

variable {n : Nat} {s t u : State}

theorem of_clear (s : State) (n : Nat) : s.unlocked n (s.setFlag F.FAC_STAT_LOCKED n false) where
  locked := State.flag_setFlag_same _ _ _ _ rfl (by decide)
  syn := congrArg (· == 1) (State.fld_setFld_off _ _ _ (by decide))
  dll := congrArg (· == 1) (State.fld_setFld_off _ _ _ (by decide))
  raised := fun b h => (State.raised_setFld_off _ _ _ (by decide)).trans h
  others := fun _ _ => rfl

theorem gate (h : s.unlocked n t) : s.unlocked n (t.gate n) where
  locked := (congrArg (· == 1) (t.gate_fld n (.inr (.inr rfl)))).trans h.locked
  syn := (congrArg (· == 1) (t.gate_fld n (.inl rfl))).trans h.syn
  dll := (congrArg (· == 1) (t.gate_fld n (.inr (.inl rfl)))).trans h.dll
  raised := fun b hb => t.gate_raised n (h.raised b hb)
  others := fun m hm => (t.stn_congr m (t.gate_movesRegs n).stns).trans (h.others m hm)

theorem beside (h : s.unlocked n t) (h' : t.besideLock n u) : s.unlocked n u where
  locked := (State.flag_congr (h'.regs _ (by simp [lockRegs, Field.addr]))).trans h.locked
  syn := (State.flag_congr (h'.regs _ (by simp [lockRegs, Field.addr]))).trans h.syn
  dll := (State.flag_congr (h'.regs _ (by simp [lockRegs, Field.addr]))).trans h.dll
  raised := fun b hb =>
    (congrArg (fun w : Word => bit w.toNat b) (h'.regs _ (by simp [lockRegs]))).trans (h.raised b hb)
  others := fun m hm => (h'.others m hm).trans (h.others m hm)

end State.unlocked

/-- A station that loses lock is gated outside RETUNE; its frames spoil and it darkens (R134). -/
theorem State.loseLock_unlocks (s : State) {n : Nat} (hn : n < 6) : s.unlocked n (s.loseLock n) := by
  have hclear := State.unlocked.of_clear s n
  unfold State.loseLock
  split
  · exact hclear.gate.beside
      (((State.besideLock.refl n _).event (by decide)).cutFacet.raiseFault.laserDark.spoilAt hn).searchLight
  · exact hclear

/-- Where something that LOCKED needs is gone the station is not LOCKED. -/
theorem State.checkLock_unlocks {s : State} {n : Nat} (hn : n < 6) (hbase : s.lockBase n = false) :
    s.unlocked n (s.checkLock n) := by
  unfold State.checkLock
  split
  · exact s.loseLock_unlocks hn
  next h =>
    have hlocked : s.locked n = false := by simpa [hbase] using h
    exact ⟨hlocked, rfl, rfl, fun _ hb => hb, fun _ _ => rfl⟩

end Sys2Proof.Machine
end

section
/-! PROOFS. The pixel clock: synthesizer and delay line, class changes and the relock deadline (R128, R130, R133, R134,
R52). -/

namespace Sys2Proof.Machine

/-! ### Synthesizer and delay line -/

/-- A flag of CLK_STAT set, and lock tried: what a station shows of its clock. -/
theorem State.tryLock_setFlag {s u : State} (hregs : u.regs = s.regs) (n : Nat) {f : Field} (hf : f.len = 1)
    (hlo : f.lo < 32) (hblk : f.blk = B.CLK) :
    ((u.setFlag f n true).tryLock n).flag f n = true ∧
      s.regsBut ((u.setFlag f n true).tryLock n) [f.addr n, F.FAC_STAT_LOCKED.addr n, evtAddr B.FAC n] := by
  obtain ⟨-, -, htry⟩ := (u.setFlag f n true).tryLock_moves n
  refine ⟨?_, fun a ha => ?_⟩
  · exact (congrArg (· == 1) (State.tryLock_fld _ n hblk)).trans (State.flag_setFlag_same _ _ _ _ hf hlo)
  · simp only [List.mem_cons, not_or] at ha
    obtain ⟨hown, hstat, hevt⟩ := ha
    exact (htry a (by simp [hstat, hevt])).trans ((State.reg_setFlag_ne _ _ _ _ _ hown).trans (State.reg_congr hregs a))

/-- The synthesizer locks in a phase of its own. -/
theorem synLock_eq (s : State) (n : Nat) : ∃ u : State, synLock n s = (u.setFlag F.CLK_STAT_SYN_LOCK n true).tryLock n ∧
    u.regs = s.regs ∧ u.lmem = s.lmem ∧ u.ctxs = s.ctxs := ⟨_, rfl, rfl, rfl, rfl⟩

theorem exec_synLock_locks {s : State} {n : Nat} (hn : n < 6) (hon : s.domOn (.bln n) = true)
    (hfreq : s.pixFreq n (s.fld F.CLK_STAT_CLASS n) ≠ 0) :
    ∃ t, exec (.synLock n) s = .next t ∧ t.flag F.CLK_STAT_SYN_LOCK n = true ∧
      t.flag F.CLK_STAT_DLL_LOCK n = s.flag F.CLK_STAT_DLL_LOCK n ∧ t.lmem = s.lmem ∧ t.ctxs = s.ctxs ∧
      s.regsBut t [F.CLK_STAT_SYN_LOCK.addr n, F.FAC_STAT_LOCKED.addr n, evtAddr B.FAC n] := by
  obtain ⟨u, hrun, hregs, hlmem, hctxs⟩ := synLock_eq s n
  obtain ⟨hlock, hbut⟩ := State.tryLock_setFlag hregs n (f := F.CLK_STAT_SYN_LOCK) rfl (by decide) rfl
  obtain ⟨hlmem', hctxs', -⟩ := (u.setFlag F.CLK_STAT_SYN_LOCK n true).tryLock_moves n
  refine ⟨_, next_finish ((if_pos ⟨hn, hon, hfreq⟩).trans hrun), ?_⟩
  rw [State.finish_flag, State.finish_flag, State.finish_lmem, State.finish_ctxs]
  refine ⟨hlock, ?_, hlmem'.trans hlmem, hctxs'.trans hctxs, hbut.finish⟩
  have hdll : ((u.setFlag F.CLK_STAT_SYN_LOCK n true).tryLock n).fld F.CLK_STAT_DLL_LOCK n = u.fld F.CLK_STAT_DLL_LOCK n :=
    (State.tryLock_fld _ n rfl).trans (State.fld_setFld_bits _ _ _ _ _ _ (by decide) (by decide))
  exact congrArg (· == 1) (hdll.trans (State.fld_congr (State.reg_congr hregs _)))

theorem exec_dllLock_locks {s : State} {n : Nat} (hn : n < 6) (hon : s.domOn (.bln n) = true)
    (hsyn : s.flag F.CLK_STAT_SYN_LOCK n = true) :
    ∃ t, exec (.dllLock n) s = .next t ∧ t.flag F.CLK_STAT_DLL_LOCK n = true ∧ t.flag F.CLK_STAT_SYN_LOCK n = true ∧
      t.lmem = s.lmem ∧ t.ctxs = s.ctxs ∧
      s.regsBut t [F.CLK_STAT_DLL_LOCK.addr n, F.FAC_STAT_LOCKED.addr n, evtAddr B.FAC n] := by
  obtain ⟨hlock, hbut⟩ := State.tryLock_setFlag (s := s) rfl n (f := F.CLK_STAT_DLL_LOCK) rfl (by decide) rfl
  obtain ⟨hlmem, hctxs, -⟩ := (s.setFlag F.CLK_STAT_DLL_LOCK n true).tryLock_moves n
  refine ⟨_, next_finish (if_pos ⟨hn, hon, hsyn⟩), ?_⟩
  rw [State.finish_flag, State.finish_flag, State.finish_lmem, State.finish_ctxs]
  refine ⟨hlock, ?_, hlmem, hctxs, hbut.finish⟩
  have hkept : ((s.setFlag F.CLK_STAT_DLL_LOCK n true).tryLock n).fld F.CLK_STAT_SYN_LOCK n = s.fld F.CLK_STAT_SYN_LOCK n :=
    (State.tryLock_fld _ n rfl).trans (State.fld_setFld_bits _ _ _ _ _ _ (by decide) (by decide))
  exact (congrArg (· == 1) hkept).trans hsyn

section
variable (s : State) (n : Nat)

theorem State.dropClock_movesRegs : s.movesRegs (s.dropClock n) := by
  have hevent {c : Prop} [Decidable c] {t : State} (h : s.movesRegs t) (k : Nat) :
      s.movesRegs (if c then t.event B.CLK n k else t) := by
    split
    · exact h.trans (State.movesRegs_event _ _ _ _)
    · exact h
  exact ((hevent (hevent (State.movesRegs_refl s) 0) 1).trans (State.movesRegs_setFlag _ _ _ _)).trans
    (State.movesRegs_setFlag _ _ _ _)

theorem State.dropClock_regsBut : s.regsBut (s.dropClock n) [F.CLK_STAT_SYN_LOCK.addr n, evtAddr B.CLK n] := by
  have hevent {c : Prop} [Decidable c] {t : State} (h : s.regsBut t [evtAddr B.CLK n]) (k : Nat) :
      s.regsBut (if c then t.event B.CLK n k else t) [evtAddr B.CLK n] := by
    split
    · exact h.trans (State.regsBut_event _ _ _ _) (fun _ ha => ha) fun _ ha => ha
    · exact h
  exact ((hevent (hevent (fun _ _ => rfl) 0) 1).trans (State.regsBut_setFlag _ F.CLK_STAT_SYN_LOCK _ _) (by simp)
    (by simp)).trans (State.regsBut_setFlag _ F.CLK_STAT_DLL_LOCK _ _) (fun _ ha => ha) (by simp [Field.addr])

theorem State.dropClock_flags : (s.dropClock n).flag F.CLK_STAT_SYN_LOCK n = false ∧
    (s.dropClock n).flag F.CLK_STAT_DLL_LOCK n = false :=
  ⟨(State.flag_setFlag_ne _ _ _ _ _ _ (by decide) (.inr (by decide))).trans
      (State.flag_setFlag_same _ _ _ _ rfl (by decide)),
    State.flag_setFlag_same _ _ _ _ rfl (by decide)⟩

end

theorem State.lockBase_of_synUnlocked {s : State} {n : Nat} (h : s.flag F.CLK_STAT_SYN_LOCK n = false) :
    s.lockBase n = false := by simp [State.lockBase, h]

theorem State.lockBase_of_dllUnlocked {s : State} {n : Nat} (h : s.flag F.CLK_STAT_DLL_LOCK n = false) :
    s.lockBase n = false := by simp [State.lockBase, h]

theorem exec_synUnlock_unlocks {s : State} {n : Nat} (hn : n < 6) (hon : s.domOn (.bln n) = true) :
    ∃ t, exec (.synUnlock n) s = .next t ∧ t.flag F.CLK_STAT_SYN_LOCK n = false ∧ t.flag F.CLK_STAT_DLL_LOCK n = false ∧
      t.flag F.FAC_STAT_LOCKED n = false ∧ (∀ m, m ≠ n → t.stn m = s.stn m) := by
  obtain ⟨hsyn, hdll⟩ := s.dropClock_flags n
  have h := State.checkLock_unlocks hn (State.lockBase_of_synUnlocked hsyn)
  refine ⟨_, next_finish (if_pos ⟨hn, hon⟩), ?_⟩
  simp only [State.finish_flag, State.finish_stn]
  exact ⟨h.syn.trans hsyn, h.dll.trans hdll, h.locked, fun m hm =>
    (h.others m hm).trans (s.stn_congr m (s.dropClock_movesRegs n).stns)⟩

theorem exec_dllUnlock_unlocks {s : State} {n : Nat} (hn : n < 6) (hon : s.domOn (.bln n) = true)
    (hdll : s.flag F.CLK_STAT_DLL_LOCK n = true) :
    ∃ t, exec (.dllUnlock n) s = .next t ∧ t.flag F.CLK_STAT_DLL_LOCK n = false ∧ t.flag F.FAC_STAT_LOCKED n = false ∧
      t.raised B.CLK n 1 = true ∧ (∀ m, m ≠ n → t.stn m = s.stn m) := by
  obtain ⟨v, hv⟩ : ∃ v, v = (s.event B.CLK n 1).setFlag F.CLK_STAT_DLL_LOCK n false := ⟨_, rfl⟩
  have hclear : v.flag F.CLK_STAT_DLL_LOCK n = false := hv ▸ State.flag_setFlag_same _ _ _ _ rfl (by decide)
  have hraised : v.raised B.CLK n 1 = true :=
    hv ▸ (State.raised_setFld_off _ _ _ (by decide)).trans (State.event_bit _ _ _ _ (by decide))
  have hstns : v.stns = s.stns := by rw [hv, State.setFlag_stns, State.event_stns]
  have h := State.checkLock_unlocks hn (State.lockBase_of_dllUnlocked hclear)
  refine ⟨_, next_finish ((if_pos ⟨hn, hon, hdll⟩).trans (congrArg (State.checkLock · n) hv.symm)), ?_⟩
  simp only [State.finish_flag, State.finish_stn, State.finish_raised]
  exact ⟨h.dll.trans hclear, h.locked, h.raised 1 hraised, fun m hm => (h.others m hm).trans (s.stn_congr m hstns)⟩

/-! ### Class changes -/

/-- CLK_STAT and FAC_STAT after a retune: both locks gone, the class as given, and GATED, RETUNE and LOCKED as before. -/
theorem State.retune_shows (s : State) (n : Nat) {c : Nat} (hc : c < 16) :
    (s.retune n c).fld F.CLK_STAT_CLASS n = c ∧ (s.retune n c).fld F.FAC_STAT_CLASS n = c ∧
      (s.retune n c).flag F.CLK_STAT_SYN_LOCK n = false ∧ (s.retune n c).flag F.CLK_STAT_DLL_LOCK n = false := by
  obtain ⟨hsyn, hdll⟩ := s.dropClock_flags n
  unfold State.retune State.flag at *
  simp (disch := decide) only [State.fld_setFld_off, State.fld_setFld_bits, State.fld_setFld_same]
  exact ⟨Nat.mod_eq_of_lt hc, Nat.mod_eq_of_lt hc, hsyn, hdll⟩

/-- What else the two registers show stays. -/
theorem State.retune_keeps (s : State) (n c : Nat) {f : Field}
    (hf : f = F.CLK_STAT_GATED ∨ f = F.FAC_STAT_RETUNE ∨ f = F.FAC_STAT_LOCKED) :
    (s.retune n c).flag f n = s.flag f n := by
  have hevent {d : Prop} [Decidable d] (t : State) (k : Nat) :
      (if d then t.event B.CLK n k else t).fld f n = t.fld f n := by
    split
    · exact t.fld_event_off n k (by rcases hf with rfl | rfl | rfl <;> decide)
    · rfl
  refine congrArg (· == 1) ?_
  unfold State.retune State.dropClock
  rcases hf with rfl | rfl | rfl <;>
    simp (disch := decide) only [State.setFlag, State.fld_setFld_off, State.fld_setFld_bits, hevent]

theorem State.retune_movesRegs (s : State) (n c : Nat) : s.movesRegs (s.retune n c) :=
  ((s.dropClock_movesRegs n).trans (State.movesRegs_setReg _ _ _)).trans (State.movesRegs_setReg _ _ _)

theorem State.retune_regsBut (s : State) (n c : Nat) :
    s.regsBut (s.retune n c) [F.FAC_STAT_LOCKED.addr n, F.CLK_STAT_GATED.addr n, evtAddr B.CLK n] :=
  ((s.dropClock_regsBut n).trans (State.regsBut_setReg _ (F.CLK_STAT_CLASS.addr n) _)
    (cs := [F.CLK_STAT_GATED.addr n, evtAddr B.CLK n]) (by simp [Field.addr]) (by simp [Field.addr])).trans (State.regsBut_setReg _ (F.FAC_STAT_CLASS.addr n) _) (by simp)
    (by simp [Field.addr])

/-- The polygon's generators take new targets, which no register, context or byte of LMEM shows. -/
theorem State.polygonClass_beside (s : State) (n c c' : Nat) : (s.polygonClass n c c').regs = s.regs ∧
    (s.polygonClass n c c').ctxs = s.ctxs ∧ (s.polygonClass n c c').lmem = s.lmem := by
  unfold State.polygonClass
  dsimp only
  split
  · exact ⟨rfl, rfl, rfl⟩
  · refine forAll_keeps (fun t : State => t.regs = s.regs ∧ t.ctxs = s.ctxs ∧ t.lmem = s.lmem) ?_ ⟨rfl, rfl, rfl⟩
    exact fun _ _ _ h => h

/-- The station as its class change begins, before CLK retunes: gated, in RETUNE and not LOCKED. -/
def State.changeBegun (s : State) (n : Nat) : State :=
  ((s.gate n).setFlag F.FAC_STAT_RETUNE n true).setFlag F.FAC_STAT_LOCKED n false

theorem classChangeStart_eq {s : State} {n c : Nat} (hnext : s.nextFrame n = some c) (hlocked : s.locked n = true)
    (howners : (s.stn n).fmt.owners = []) (hcls : (s.ctx c).cls ≠ s.stnClass n) :
    ∃ u : State, classChangeStart n s = u.retune n (s.ctx c).cls ∧ u.regs = (s.changeBegun n).regs ∧ u.ctxs = s.ctxs ∧
      u.lmem = s.lmem := by
  obtain ⟨hregs, hctxs, hlmem⟩ := (s.changeBegun n).polygonClass_beside n ((s.changeBegun n).stnClass n) (s.ctx c).cls
  have hmoves : s.movesRegs (s.changeBegun n) :=
    ((s.gate_movesRegs n).trans (State.movesRegs_setFlag _ _ _ _)).trans (State.movesRegs_setFlag _ _ _ _)
  obtain ⟨q, hrun⟩ : ∃ q, classChangeStart n s =
      (((s.changeBegun n).polygonClass n ((s.changeBegun n).stnClass n) (s.ctx c).cls).setFac n q).retune n
        (s.ctx c).cls := by
    unfold classChangeStart
    rw [hnext]
    dsimp only
    rw [if_pos ⟨hlocked, howners, hcls⟩]
    exact ⟨_, rfl⟩
  exact ⟨_, hrun, (State.setFac_regs ..).trans hregs, (State.setFac_ctxs ..).trans (hctxs.trans hmoves.ctxs),
    (State.setFac_lmem ..).trans (hlmem.trans hmoves.lmem)⟩

theorem State.changeBegun_shows (s : State) (n : Nat) : (s.changeBegun n).flag F.FAC_STAT_RETUNE n = true ∧
    (s.changeBegun n).flag F.FAC_STAT_LOCKED n = false ∧ (s.changeBegun n).flag F.CLK_STAT_GATED n = true := by
  refine ⟨?_, State.flag_setFlag_same _ _ _ _ rfl (by decide), Eq.trans ?_ (s.gate_gated n)⟩
  · exact (State.flag_setFlag_ne _ _ _ _ _ _ (by decide) (.inr (by decide))).trans
      (State.flag_setFlag_same _ _ _ _ rfl (by decide))
  · exact congrArg (· == 1) ((State.fld_setFld_off _ _ _ (by decide)).trans (State.fld_setFld_off _ _ _ (by decide)))

theorem State.changeBegun_regsBut (s : State) (n : Nat) : s.regsBut (s.changeBegun n)
    [F.FAC_STAT_LOCKED.addr n, F.CLK_STAT_GATED.addr n, F.CLK_GATE_CNT.addr n, evtAddr B.CLK n] :=
  ((s.gate_regsBut n).trans (State.regsBut_setFlag _ F.FAC_STAT_RETUNE _ _) (by simp) (by simp [Field.addr])).trans
    (State.regsBut_setFlag _ _ _ _) (fun _ ha => ha) (by simp)

theorem exec_classChangeStart_retunes {s : State} {n c : Nat} (hon : s.stnOn n = true) (hnext : s.nextFrame n = some c)
    (hlocked : s.locked n = true) (howners : (s.stn n).fmt.owners = []) (hcls : (s.ctx c).cls ≠ s.stnClass n)
    (hlt : (s.ctx c).cls < 16) :
    ∃ t, exec (.classChangeStart n) s = .next t ∧ t.flag F.FAC_STAT_RETUNE n = true ∧ t.flag F.FAC_STAT_LOCKED n = false ∧
      t.flag F.CLK_STAT_GATED n = true ∧ t.stnClass n = (s.ctx c).cls ∧ t.fld F.CLK_STAT_CLASS n = (s.ctx c).cls ∧
      t.flag F.CLK_STAT_SYN_LOCK n = false ∧ t.flag F.CLK_STAT_DLL_LOCK n = false ∧ t.ctxs = s.ctxs ∧ t.lmem = s.lmem ∧
      s.regsBut t [F.FAC_STAT_LOCKED.addr n, F.CLK_STAT_GATED.addr n, F.CLK_GATE_CNT.addr n, evtAddr B.CLK n] := by
  obtain ⟨u, hrun, hregs, hctxs, hlmem⟩ := classChangeStart_eq hnext hlocked howners hcls
  obtain ⟨hretune, hunlocked, hgated⟩ := s.changeBegun_shows n
  obtain ⟨hclk, hfac, hsyn, hdll⟩ := u.retune_shows n hlt
  have hmoves := u.retune_movesRegs n (s.ctx c).cls
  have hkeep {f : Field} (hf : f = F.CLK_STAT_GATED ∨ f = F.FAC_STAT_RETUNE ∨ f = F.FAC_STAT_LOCKED) :
      (u.retune n (s.ctx c).cls).flag f n = (s.changeBegun n).flag f n :=
    (u.retune_keeps n _ hf).trans (State.flag_congr (State.reg_congr hregs _))
  have hbegun : s.regsBut u [F.FAC_STAT_LOCKED.addr n, F.CLK_STAT_GATED.addr n, F.CLK_GATE_CNT.addr n, evtAddr B.CLK n] :=
    fun a ha => (State.reg_congr hregs a).trans (s.changeBegun_regsBut n a ha)
  refine ⟨_, next_finish ((if_pos hon).trans hrun), ?_⟩
  rw [State.finish_flag, State.finish_flag, State.finish_flag, State.finish_flag, State.finish_flag, State.finish_fld,
    State.finish_ctxs, State.finish_lmem]
  exact ⟨(hkeep (.inr (.inl rfl))).trans hretune, (hkeep (.inr (.inr rfl))).trans hunlocked, (hkeep (.inl rfl)).trans hgated,
    hfac, hclk, hsyn, hdll, hmoves.ctxs.trans hctxs, hmoves.lmem.trans hlmem,
    (hbegun.trans (u.retune_regsBut n _) (fun _ ha => ha) (by simp)).finish⟩

/-! ### The relock deadline -/

theorem mem_insertBy {key : Nat → Nat} {c d : Nat} {l : List Nat} : d ∈ insertBy key c l ↔ d = c ∨ d ∈ l := by
  induction l with
  | nil => simp [insertBy]
  | cons e l ih =>
    unfold insertBy
    split
    · simp
    · rw [List.mem_cons, ih, List.mem_cons]; tauto

/-- The order of admission lists the contexts it is given. -/
theorem State.mem_byOrder {s : State} {c : Nat} {cs : List Nat} (h : c ∈ cs) : c ∈ s.byOrder cs := by
  have hkeeps (l cs : List Nat) (h : c ∈ l ∨ c ∈ cs) :
      c ∈ cs.foldl (fun l c => insertBy (fun d => (s.ctx d).order) c l) l := by
    induction cs generalizing l with
    | nil => simpa using h
    | cons d cs ih => exact ih _ (by rw [mem_insertBy]; rw [List.mem_cons] at h; tauto)
  exact hkeeps [] cs (.inr h)

theorem Sparse.mem_of_find {α : Type} {m : Sparse α} {a : Nat} {v : α} (h : m.find a = some v) : (a, v) ∈ m := by
  induction m with
  | nil => exact absurd h nofun
  | cons e m ih =>
    unfold Sparse.find at h
    split at h
    next ha => subst ha; exact Option.some.inj h ▸ List.mem_cons_self
    · exact List.mem_cons_of_mem _ (ih h)

/-- A context that is not FREE stands in the list of those that a test holds of. -/
theorem State.mem_ctxsWith {s : State} {c : Nat} {p : Ctx → Bool} (hst : (s.ctx c).st ≠ .free)
    (hp : p (s.ctx c) = true) : c ∈ s.ctxsWith p := by
  have hlisted : (c, s.ctx c) ∈ s.ctxs := by
    cases hfind : s.ctxs.find c with
    | none => exact absurd (congrArg Ctx.st (by simp [State.ctx, Sparse.get, hfind] : s.ctx c = Ctx.init)) hst
    | some x => exact (by simp [State.ctx, Sparse.get, hfind] : s.ctx c = x) ▸ Sparse.mem_of_find hfind
  exact List.mem_map.mpr ⟨_, List.mem_filter.mpr ⟨hlisted, hp⟩, rfl⟩

/-- Context `c` has been revoked for the reason given. -/
def State.revoked (c reason : Nat) (t : State) : Prop :=
  (t.ctx c).st = .staged ∧ (t.ctx c).reason = reason ∧ t.raised B.APR 0 evRevoke = true

theorem State.revoke_notAdmitted {s : State} {c : Nat} (h : (s.ctx c).st ≠ .admitted) (reason arg : Nat) :
    s.revoke c reason arg = s := if_neg h

theorem State.revoke_revoked {s : State} {c : Nat} (h : (s.ctx c).st = .admitted) (reason arg : Nat) :
    (s.revoke c reason arg).revoked c reason := by
  obtain ⟨⟨y, hy, hst, hreason⟩, hraised⟩ := (State.framed.refl framePage c s).revoke h reason arg
  exact ⟨(congrArg Ctx.st hy.own).trans hst, (congrArg Ctx.reason hy.own).trans hreason, hraised⟩

/-- A context revoked stays so as another is, and as it is revoked again. -/
theorem State.revoked.revoke {s : State} {c reason : Nat} (h : s.revoked c reason) (d reason' arg : Nat) :
    (s.revoke d reason' arg).revoked c reason := by
  obtain ⟨hst, hreason, hraised⟩ := h
  by_cases hd : (s.ctx d).st = .admitted
  · obtain ⟨⟨y, hy, -, -⟩, hraised'⟩ := (State.framed.refl framePage d s).revoke hd reason' arg
    have hother := hy.others c fun e => by rw [← e, hst] at hd; exact absurd hd (by decide)
    exact ⟨(congrArg Ctx.st hother).trans hst, (congrArg Ctx.reason hother).trans hreason, hraised'⟩
  · rw [State.revoke_notAdmitted hd]
    exact ⟨hst, hreason, hraised⟩

/-- A context that waits for its turn still does after another's. -/
theorem State.revoke_waits {s : State} {c d : Nat} (hne : c ≠ d) (h : (s.ctx c).st = .admitted) (reason arg : Nat) :
    ((s.revoke d reason arg).ctx c).st = .admitted := by
  by_cases hd : (s.ctx d).st = .admitted
  · obtain ⟨⟨y, hy, -, -⟩, -⟩ := (State.framed.refl framePage d s).revoke hd reason arg
    exact (congrArg Ctx.st (hy.others c hne)).trans h
  · rw [State.revoke_notAdmitted hd]
    exact h

/-- Of contexts revoked in turn one that is ADMITTED is revoked. -/
theorem State.revoked_forAll {c reason arg : Nat} {cs : List Nat} (hc : c ∈ cs) {s : State}
    (hst : (s.ctx c).st = .admitted) : (forAll cs s fun s d => s.revoke d reason arg).revoked c reason := by
  induction cs generalizing s with
  | nil => exact absurd hc List.not_mem_nil
  | cons d cs ih =>
    show (forAll cs (s.revoke d reason arg) fun s d => s.revoke d reason arg).revoked c reason
    by_cases hd : c = d
    · exact forAll_keeps (State.revoked c reason) (fun t e _ h => h.revoke e reason arg)
        (hd ▸ State.revoke_revoked hst reason arg)
    · exact ih ((List.mem_cons.mp hc).resolve_left hd) (State.revoke_waits hd hst reason arg)

/-- The deadline passed without lock: FAC.RELOCK_FAIL, and the station remembers it. -/
def State.relockFailed (s : State) (n : Nat) : State :=
  (s.event B.FAC n 4).setFac n { ((s.event B.FAC n 4).stn n).fac with relockFail := true }

theorem State.relockFailed_ctx (s : State) (n c : Nat) : (s.relockFailed n).ctx c = s.ctx c :=
  s.ctx_congr c ((State.setFac_ctxs ..).trans (State.event_ctxs ..))

/-- The next frame is among those that the deadline revokes, in the order of admission. -/
theorem relockDeadline_eq {s : State} {n c : Nat} (hnext : s.nextFrame n = some c)
    (hretune : s.flag F.FAC_STAT_RETUNE n = true) (hlocked : s.locked n = false) (hst : (s.ctx c).st = .admitted)
    (hbegun : (s.ctx c).begun = 0) :
    ∃ cs, c ∈ cs ∧ relockDeadline n s = forAll cs (s.relockFailed n) fun s d => s.revoke d rRelock n := by
  have hctx := s.relockFailed_ctx n c
  have hrun : relockDeadline n s = forAll ((s.relockFailed n).byOrder ((s.relockFailed n).ctxsWith fun y =>
      y.st = .admitted && decide (((s.relockFailed n).ctx c).order ≤ y.order))) (s.relockFailed n)
        fun s d => s.revoke d rRelock n := by
    unfold relockDeadline
    rw [hnext]
    dsimp only
    rw [if_pos ⟨hretune, by simp [hlocked]⟩]
    exact if_pos ⟨(congrArg Ctx.st hctx).trans hst, (congrArg Ctx.begun hctx).trans hbegun⟩
  refine ⟨_, State.mem_byOrder (State.mem_ctxsWith ?_ ?_), hrun⟩
  · rw [hctx, hst]; decide
  · simp [hctx, hst]

theorem exec_relockDeadline_revokes {s : State} {n c : Nat} (hn : n < 6) (hon : s.stnOn n = true)
    (hnext : s.nextFrame n = some c) (hretune : s.flag F.FAC_STAT_RETUNE n = true) (hlocked : s.locked n = false)
    (hst : (s.ctx c).st = .admitted) (hbegun : (s.ctx c).begun = 0) :
    ∃ t, exec (.relockDeadline n) s = .next t ∧ s.regsOutside t [B.APR, B.FAC, B.SYS] ∧ t.raised B.FAC n 4 = true ∧
      (t.stn n).fac.relockFail = true ∧ (t.ctx c).st = .staged ∧ (t.ctx c).reason = 2 ^ 11 ∧
      t.raised B.APR 0 2 = true := by
  obtain ⟨cs, hc, hrun⟩ := relockDeadline_eq hnext hretune hlocked hst hbegun
  obtain ⟨hstaged, hreason, hraised⟩ :=
    State.revoked_forAll (reason := rRelock) (arg := n) hc ((congrArg Ctx.st (s.relockFailed_ctx n c)).trans hst)
  have hbut : (s.relockFailed n).sparesBut [B.APR, B.SYS] (forAll cs (s.relockFailed n) fun s d => s.revoke d rRelock n) :=
    (State.sparesBut.refl _ _).forAll fun _ _ hu => hu.revoke (by decide) (by decide)
  have hfail : ((s.relockFailed n).stn n).fac.relockFail = true := congrArg Fac.relockFail (State.fac_setFac _ _ _)
  refine ⟨_, next_finish ((if_pos hon).trans hrun), fun a ha => ?_, ?_, ?_, hstaged, hreason, hraised⟩
  · simp only [List.mem_cons, List.not_mem_nil, or_false, not_or] at ha
    obtain ⟨hapr, hfac, hsys⟩ := ha
    have hevt : a ≠ regAddr B.FAC n 0x010 := ne_regAddr_of_blkOf hfac (by decide) (by omega) (by decide)
    exact (hbut.regs a (by simp [hapr, hsys])).trans (State.reg_event_ne _ _ _ _ _ hevt)
  · rw [State.finish_raised, hbut.raised (by decide) (by decide) (by omega)]
    exact State.event_bit _ _ _ _ (by decide)
  · rw [State.finish_stn, State.stn_congr _ n hbut.spares.stns, hfail]

/-- Settles O21: each clause is what its command's lemma says. -/
theorem pixelClock : Obligations.PixelClock := by
  unfold Obligations.PixelClock
  exact ⟨fun s n hn hon hfreq => exec_synLock_locks hn hon hfreq, fun s n hn hon => exec_synUnlock_unlocks hn hon,
    fun s n hn hon hsyn => exec_dllLock_locks hn hon hsyn, fun s n hn hon hdll => exec_dllUnlock_unlocks hn hon hdll,
    fun s n c _ hon hnext hlocked howners hcls hlt => exec_classChangeStart_retunes hon hnext hlocked howners hcls hlt,
    fun s n c hn hon hnext hretune hlocked hst hbegun =>
      exec_relockDeadline_revokes hn hon hnext hretune hlocked hst hbegun⟩

end Sys2Proof.Machine
end

section
/-! PROOFS. Two statements that some state breaks, each by a write held for a station's FAC page (R135): a beam detect of a
station without a pixel clock, and an identity memory read from another scanning unit (R127, R149, R389, R420). -/

namespace Sys2Proof.Machine

/-! ### A beam detect -/

/-- The device in IDLE with every domain on, no pixel clock in force anywhere, and a write of 0 held for station 0's
FAC_STAT. No run reaches it: writes are held of FAC_START and FAC_FACET alone. -/
def statusHeldUnclocked : State :=
  { State.reset with
    sys := { State.reset.sys with mode := .idle, trans := none }
    regs := [(F.PWR_DOM_STAT.addr 0x40, 0x0FC00FFF)]
    stns := [(0, { Stn.init with fac := { Fac.init with held := [(F.FAC_STAT.off, 0)] } })] }

/-- Station 0 takes its first rising edge there. -/
theorem statusHeldUnclocked_takesEdge :
    statusHeldUnclocked.domOn (.bln 0) = true ∧ statusHeldUnclocked.pageEn B.FAC 0 = true ∧
      statusHeldUnclocked.flag F.FAC_CFG_EDGE 0 ≠ true ∧ statusHeldUnclocked.flag F.FAC_STAT_BD_OK 0 = false ∧
      (statusHeldUnclocked.stn 0).fac.ts = 0 := by
  decide +kernel

/-- The edge counts the facet up; with no pixel clock it is the facet boundary too, which applies the held write and puts
the count back to 0. -/
theorem statusHeldUnclocked_pidx :
    (statusHeldUnclocked.fld F.FAC_STAT_PIDX 0 + 1) % statusHeldUnclocked.nFacets 0 = 1 ∧
      (bdEdge 0 0 true 64 statusHeldUnclocked).fld F.FAC_STAT_PIDX 0 = 0 := by
  decide +kernel

/-- Refutes O20, in its clause on the first edge after none: the statement speaks of every state, and in one a write is held
for a register of the FAC page other than those that R135 holds. The edge of a station without a pixel clock is its facet
boundary (R420), at which the write held for FAC_STAT is applied after the facet number has counted. -/
theorem not_beamDetect : ¬ Obligations.BeamDetect := by
  unfold Obligations.BeamDetect
  rintro ⟨hfirst, -⟩
  obtain ⟨hon, hen, hedge, hnone, hts⟩ := statusHeldUnclocked_takesEdge
  obtain ⟨hbefore, hafter⟩ := statusHeldUnclocked_pidx
  obtain ⟨t, he, -, -, -, -, hpidx⟩ :=
    hfirst statusHeldUnclocked 0 0 64 true (by decide) hon hen hedge (by decide) hnone hts
  have hrun : exec (.bdEdge 0 0 true 64) statusHeldUnclocked =
      .next (statusHeldUnclocked.finish (bdEdge 0 0 true 64 statusHeldUnclocked)) :=
    next_finish (if_pos ⟨by decide, hon, hen⟩)
  obtain rfl := Host.Outcome.next.inj (hrun.symm.trans he)
  rw [State.finish_fld, hafter, hbefore] at hpidx
  exact absurd hpidx (by decide)

/-! ### An identity memory -/

/-- The bytes of an identity memory before its CRC: rank 0, and a UNIT_ID of sixteen ones (R149). -/
def identityBody : List Byte :=
  leBytes 4 0x44495A4C ++ leBytes 2 1 ++ leBytes 2 0xC54 ++ List.replicate 16 1 ++ [48] ++ List.replicate 3127 0

def identityMemory : List Byte := identityBody ++ leBytes 4 (crc32c identityBody).toNat

/-- The device in IDLE with every domain on, station 0 in IDREAD with the whole memory read, a FACET record of another unit,
and a write held for the station's FAC page whose offset lies beyond the page, at BLN_STAT. No run reaches it: a held write
lies on the page. -/
def strayHeldIdread : State :=
  { State.reset with
    sys := { State.reset.sys with mode := .idle, trans := none }
    regs := [(F.BLN_STAT.addr 0, 2), (F.PWR_DOM_STAT.addr 0x40, 0x0FC00FFF)]
    cal := { Cal.init with bankA := { epoch := some 0, recs := [CalRec.mk 6 0 0 0 [] [] false] } }
    stns := [(0, { Stn.init with
      fac := { Fac.init with held := [(F.BLN_STAT.addr 0 - regAddr B.FAC 0 0, 0)] }
      bln := { Bln.init with idMem := identityMemory } })] }

set_option maxRecDepth 1000000 in
/-- The read is over, and its memory is good. -/
theorem strayHeldIdread_done :
    strayHeldIdread.domOn (.bln 0) = true ∧ strayHeldIdread.link 0 = 2 ∧ (strayHeldIdread.stn 0).bln.idFailed = false ∧
      idOk (strayHeldIdread.stn 0).bln.idMem = true := by
  decide +kernel

set_option maxRecDepth 1000000 in
/-- The held write clears BLN_STAT, and with it ID_VALID, as the unit's FACET record is dropped. -/
theorem strayHeldIdread_idValid : (idreadDone 0 strayHeldIdread).flag F.BLN_STAT_ID_VALID 0 = false := by
  decide +kernel

/-- What LinkCommands claims of a good memory: ID_VALID reads 1. -/
theorem idValid_of_linkCommands (h : Obligations.LinkCommands) {s : State} {n : Nat} (hn : n < 6)
    (hon : s.domOn (.bln n) = true) (hlink : s.link n = 2) (hrunning : (s.stn n).bln.idFailed = false)
    (hgood : idOk (s.stn n).bln.idMem = true) :
    ∃ t, exec (.idreadDone n) s = .next t ∧ t.flag F.BLN_STAT_ID_VALID n = true := by
  obtain ⟨-, -, -, -, -, -, hdone, -⟩ := h
  obtain ⟨t, he, -, hclaim⟩ := hdone s n hn hon hlink
  rw [if_neg (by simp [hrunning]), if_pos hgood] at hclaim
  obtain ⟨-, hvalid, -⟩ := hclaim
  exact ⟨t, he, hvalid⟩

/-- Refutes O22, in its clause on IDREAD_DONE: the statement speaks of every state, and a write held for a FAC page may lie
off the page in one. As a good memory shows another scanning unit than the FACET record's, the writes held for the station
are applied (R389), and such a write clears the ID_VALID just set. -/
theorem not_linkCommands : ¬ Obligations.LinkCommands := by
  intro h
  obtain ⟨hon, hlink, hrunning, hgood⟩ := strayHeldIdread_done
  obtain ⟨t, he, hvalid⟩ := idValid_of_linkCommands h (by decide) hon hlink hrunning hgood
  have hrun : exec (.idreadDone 0) strayHeldIdread = .next (strayHeldIdread.finish (idreadDone 0 strayHeldIdread)) :=
    next_finish (if_pos ⟨by decide, hon⟩)
  obtain rfl := Host.Outcome.next.inj (hrun.symm.trans he)
  rw [State.finish_flag, strayHeldIdread_idValid] at hvalid
  exact Bool.false_ne_true hvalid

end Sys2Proof.Machine
end

section
/-! SUPPORT. Writes of the keep store: what the words written read, and what stays (R384 to R386, R398). -/

namespace Sys2Proof.Machine

/-! ### What a keep write leaves alone -/

/-- `t` differs from `s` in the keep store, fault sources, registers of KPS, and the record of W1C bits just set,
alone. -/
structure State.keepMoves (s t : State) : Prop where
  shape : ∃ r w f k, t = { s with regs := r, fresh := w, flt := f, keep := k }
  regs : s.regsOutside t [B.KPS]

namespace State.keepMoves

protected theorem refl (s : State) : s.keepMoves s := ⟨⟨_, _, _, _, rfl⟩, fun _ _ => rfl⟩

section
variable {s t u : State} (h : s.keepMoves t)
include h

theorem ite {c : Prop} [Decidable c] (hu : s.keepMoves u) : s.keepMoves (if c then t else u) := by split <;> assumption

theorem att : t.att = s.att := by obtain ⟨r, w, f, k, rfl⟩ := h.shape; rfl
theorem sec : t.sec = s.sec := by obtain ⟨r, w, f, k, rfl⟩ := h.shape; rfl
theorem lmem : t.lmem = s.lmem := by obtain ⟨r, w, f, k, rfl⟩ := h.shape; rfl
theorem ctxs : t.ctxs = s.ctxs := by obtain ⟨r, w, f, k, rfl⟩ := h.shape; rfl
theorem fst : t.fst = s.fst := by obtain ⟨r, w, f, k, rfl⟩ := h.shape; rfl
theorem bundle : t.bundle = s.bundle := by obtain ⟨r, w, f, k, rfl⟩ := h.shape; rfl

theorem withKeep {q : Keep} : s.keepMoves { t with keep := q } := by
  obtain ⟨r, w, f, k, rfl⟩ := h.shape
  exact ⟨⟨r, w, f, q, rfl⟩, h.regs⟩

theorem raiseFault {n : Nat} : s.keepMoves (t.raiseFault n) := by
  obtain ⟨r, w, f, k, rfl⟩ := h.shape
  exact State.keepMoves.ite h ⟨⟨r, w, _, k, rfl⟩, h.regs⟩

theorem event {n : Nat} : s.keepMoves (t.event B.KPS 0 n) := by
  obtain ⟨r, w, f, k, rfl⟩ := h.shape
  exact ⟨⟨_, _, f, k, rfl⟩, fun a ha => (State.reg_event_ne _ _ _ _ _ fun e => ha (by rw [e]; decide)).trans
      (h.regs a ha)⟩

theorem keepLast {x why : Nat} : s.keepMoves (t.keepLast x why) := by
  obtain ⟨r, w, f, k, rfl⟩ := h.shape
  exact ⟨⟨_, w, f, k, rfl⟩, fun a ha => (State.reg_setReg_ne _ _ _ _ fun e => ha (by rw [e]; decide)).trans
      (h.regs a ha)⟩

theorem keepWearUp {x : Nat} : s.keepMoves (t.keepWearUp x) :=
  (h.withKeep.withKeep.event.raiseFault.ite h.withKeep).event.raiseFault.keepLast.ite
    (h.withKeep.withKeep.event.raiseFault.ite h.withKeep)

/-- A block's own write: discarded at a worn word, nothing at an equal value, and otherwise programmed (R385, R386). -/
theorem keepStore {x : Nat} {v : Word} : s.keepMoves (t.keepStore x v) :=
  h.raiseFault.event.ite (h.ite h.withKeep.keepWearUp)

theorem keepStores {x : Nat} {vs : List Word} : s.keepMoves (t.keepStores x vs) :=
  List.foldlRecOn (motive := (s.keepMoves ·)) _ _ h fun _ hu _ _ => hu.keepStore

end
end State.keepMoves

section
variable (s : State) (x : Nat) (v : Word) (vs : List Word)

theorem State.keepStore_moves : s.keepMoves (s.keepStore x v) := (keepMoves.refl s).keepStore
theorem State.keepStores_moves : s.keepMoves (s.keepStores x vs) := (keepMoves.refl s).keepStores

@[simp] theorem State.keepStore_att : (s.keepStore x v).att = s.att := (s.keepStore_moves x v).att
@[simp] theorem State.keepStore_sec : (s.keepStore x v).sec = s.sec := (s.keepStore_moves x v).sec
@[simp] theorem State.keepStore_lmem : (s.keepStore x v).lmem = s.lmem := (s.keepStore_moves x v).lmem
@[simp] theorem State.keepStore_ctxs : (s.keepStore x v).ctxs = s.ctxs := (s.keepStore_moves x v).ctxs
@[simp] theorem State.keepStore_bundle : (s.keepStore x v).bundle = s.bundle := (s.keepStore_moves x v).bundle
@[simp] theorem State.keepStores_att : (s.keepStores x vs).att = s.att := (s.keepStores_moves x vs).att
@[simp] theorem State.keepStores_lmem : (s.keepStores x vs).lmem = s.lmem := (s.keepStores_moves x vs).lmem

end

/-- A keep write among moves that leave the contexts alone. -/
theorem State.moves.keepStore {W : Nat → Prop} {s t : State} (h : s.moves W t) (hkps : ∀ a, blkOf a = B.KPS → W a)
    {x : Nat} {v : Word} : s.moves W (t.keepStore x v) := by
  have hm := t.keepStore_moves x v
  exact h.trans ⟨fun a ha => hm.regs a (by simpa using fun e => ha (hkps a e)), hm.ctxs, congrArg Fst.hits hm.fst⟩

theorem State.moves.keepStores {W : Nat → Prop} {s t : State} (h : s.moves W t) (hkps : ∀ a, blkOf a = B.KPS → W a)
    {x : Nat} {vs : List Word} : s.moves W (t.keepStores x vs) := by
  have hm := t.keepStores_moves x vs
  exact h.trans ⟨fun a ha => hm.regs a (by simpa using fun e => ha (hkps a e)), hm.ctxs, congrArg Fst.hits hm.fst⟩

/-! ### What a word reads after a write -/

theorem State.keepWord_congr {s t : State} (hwords : t.keep.words = s.keep.words) (hbad : t.keep.bad = s.keep.bad)
    (x : Nat) : t.keepWord x = s.keepWord x := by
  unfold State.keepWord
  rw [hwords, hbad]

/-- Counting a wear cycle changes no word. -/
theorem State.keepWearUp_keep (s : State) (x : Nat) : (s.keepWearUp x).keep.words = s.keep.words ∧
    (s.keepWearUp x).keep.bad = s.keep.bad ∧
    (s.keepWearUp x).keep.wear = s.keep.wear.set (fun _ => 0) x (s.keep.wear.get (fun _ => 0) x + 1) := by
  unfold State.keepWearUp State.keepLast
  dsimp only
  split <;> split <;> simp

section
variable (s : State) {x : Nat} (v : Word)

/-- What the three cases of a block's own write leave in the keep store. -/
theorem State.keepStore_cases (x : Nat) :
    (s.keepWorn x = true ∧ (s.keepStore x v).keep = s.keep) ∨
    (s.keepWord x = v ∧ (s.keepStore x v).keep = s.keep) ∨
    ((s.keepStore x v).keep.words = s.keep.words.set keepDefault x v ∧
      (s.keepStore x v).keep.bad = s.keep.bad.filter (· ≠ x) ∧
      (s.keepStore x v).keep.wear = s.keep.wear.set (fun _ => 0) x (s.keep.wear.get (fun _ => 0) x + 1)) := by
  unfold State.keepStore State.keepProgram
  split
  next hworn => exact .inl ⟨hworn, by simp⟩
  next =>
    split
    next hequal =>
      obtain ⟨hvalue, hgood⟩ := hequal
      exact .inr (.inl ⟨by rw [State.keepWord, if_neg hgood, hvalue], rfl⟩)
    next =>
      rw [if_pos rfl]
      exact .inr (.inr (State.keepWearUp_keep _ x))

/-- A word that is not worn reads as it was written. -/
theorem State.keepWord_keepStore_same (h : s.keepWorn x = false) : (s.keepStore x v).keepWord x = v := by
  rcases s.keepStore_cases v x with ⟨hworn, -⟩ | ⟨hvalue, hkeep⟩ | ⟨hwords, hbad, -⟩
  · rw [h] at hworn; cases hworn
  · exact (State.keepWord_congr (by rw [hkeep]) (by rw [hkeep]) x).trans hvalue
  · simp [State.keepWord, hwords, hbad]

/-- Every other word reads as before. -/
theorem State.keepWord_keepStore_ne {y : Nat} (h : y ≠ x) : (s.keepStore x v).keepWord y = s.keepWord y := by
  rcases s.keepStore_cases v x with ⟨-, hkeep⟩ | ⟨-, hkeep⟩ | ⟨hwords, hbad, -⟩
  · exact State.keepWord_congr (by rw [hkeep]) (by rw [hkeep]) y
  · exact State.keepWord_congr (by rw [hkeep]) (by rw [hkeep]) y
  · simp [State.keepWord, hwords, hbad, h, Sparse.get_set_ne]

end

/-! ### Wear -/

/-- No word has been programmed more often than `n` times. -/
def State.wornUpTo (s : State) (n : Nat) : Prop := ∀ x, s.keep.wear.get (fun _ => 0) x ≤ n

namespace State.wornUpTo

theorem of_empty {s : State} (h : s.keep.wear = []) : s.wornUpTo 0 := fun x => by rw [h]; exact Nat.le_refl 0

variable {s : State} {n : Nat} (h : s.wornUpTo n)
include h

theorem keepWorn (hn : n < 200000) (x : Nat) : s.keepWorn x = false := decide_eq_false (by have := h x; omega)

theorem congr {t : State} (hk : t.keep = s.keep) : t.wornUpTo n := fun x => by rw [hk]; exact h x

theorem keepStore (x : Nat) (v : Word) : (s.keepStore x v).wornUpTo (n + 1) := by
  intro y
  rcases s.keepStore_cases v x with ⟨-, hkeep⟩ | ⟨-, hkeep⟩ | ⟨-, -, hwear⟩
  · rw [hkeep]; exact Nat.le_succ_of_le (h y)
  · rw [hkeep]; exact Nat.le_succ_of_le (h y)
  · rw [hwear]
    by_cases hy : y = x
    · rw [hy, Sparse.get_set_same]; exact Nat.succ_le_succ (h x)
    · rw [Sparse.get_set_ne _ _ _ _ _ hy]; exact Nat.le_succ_of_le (h y)

end State.wornUpTo

/-! ### Consecutive words -/

theorem State.keepStores_cons (s : State) (x : Nat) (v : Word) (vs : List Word) :
    s.keepStores x (v :: vs) = (s.keepStore x v).keepStores (x + 1) vs := by
  unfold State.keepStores
  rw [List.zipIdx_cons', List.foldl_cons, List.foldl_map]
  refine congrArg (fun f => List.foldl f _ _) (funext fun t => funext fun e => ?_)
  simp [Nat.add_assoc, Nat.add_comm 1]

theorem State.wornUpTo.keepStores {s : State} {n : Nat} (h : s.wornUpTo n) (x : Nat) (vs : List Word) :
    (s.keepStores x vs).wornUpTo (n + vs.length) := by
  induction vs generalizing s n x with
  | nil => exact h
  | cons v vs ih =>
    rw [State.keepStores_cons, List.length_cons, Nat.add_comm vs.length, ← Nat.add_assoc]
    exact ih (h.keepStore x v) (x + 1)

/-- A word below or above those written reads as before. -/
theorem State.keepWord_keepStores_out {s : State} {x y : Nat} {vs : List Word} (h : y < x ∨ x + vs.length ≤ y) :
    (s.keepStores x vs).keepWord y = s.keepWord y := by
  induction vs generalizing s x with
  | nil => rfl
  | cons v vs ih =>
    rw [List.length_cons] at h
    rw [State.keepStores_cons, ih (by omega), State.keepWord_keepStore_ne _ _ (by omega)]

/-- The words written read as they were written, where none is worn. -/
theorem State.keepWord_keepStores_in {s : State} {n x i : Nat} {vs : List Word} (h : s.wornUpTo n)
    (hn : n + vs.length ≤ 200000) (hi : i < vs.length) : (s.keepStores x vs).keepWord (x + i) = vs[i] := by
  induction vs generalizing s n x i with
  | nil => exact absurd hi (Nat.not_lt_zero _)
  | cons v vs ih =>
    rw [List.length_cons] at hn
    rw [State.keepStores_cons]
    cases i with
    | zero =>
      rw [State.keepWord_keepStores_out (by omega), Nat.add_zero,
        State.keepWord_keepStore_same _ _ (h.keepWorn (by omega) x)]
      rfl
    | succ i =>
      have := ih (x := x + 1) (h.keepStore x v) (by omega) (Nat.lt_of_succ_lt_succ hi)
      rw [Nat.add_right_comm] at this
      exact this

end Sys2Proof.Machine
end

section
/-! SUPPORT. SEC's registers, its DRBG, and how a command of it is refused or done (R166, R175, R176). -/

namespace Sys2Proof.Machine

/-! ### Byte strings in registers -/

theorem State.movesRegs_setRegBytes (s : State) (f : Field) (bs : List Byte) (n : Nat) :
    s.movesRegs (s.setRegBytes f bs n) :=
  forAll_keeps (s.movesRegs ·) (fun _ _ _ hu => hu.trans (State.movesRegs_setReg _ _ _)) s.movesRegs_refl

/-- Only the registers of the string are written. -/
theorem State.reg_setRegBytes_ne (s : State) {f : Field} (bs : List Byte) {n a : Nat}
    (h : ∀ i < n, a ≠ (f.at i).addr 0) : (s.setRegBytes f bs n).reg a = s.reg a :=
  forAll_keeps (fun u : State => u.reg a = s.reg a)
    (fun _ i hi hu => (State.reg_setReg_ne _ _ _ _ (h i (List.mem_range.mp hi))).trans hu) rfl

section
variable {s t : State} (h : s.movesRegs t)
include h

theorem State.movesRegs.keep : t.keep = s.keep := by obtain ⟨r, w, rfl⟩ := h; rfl
theorem State.movesRegs.sec : t.sec = s.sec := by obtain ⟨r, w, rfl⟩ := h; rfl
theorem State.movesRegs.att : t.att = s.att := by obtain ⟨r, w, rfl⟩ := h; rfl
theorem State.movesRegs.flt : t.flt = s.flt := by obtain ⟨r, w, rfl⟩ := h; rfl
theorem State.movesRegs.fst : t.fst = s.fst := by obtain ⟨r, w, rfl⟩ := h; rfl
theorem State.movesRegs.bundle : t.bundle = s.bundle := by obtain ⟨r, w, rfl⟩ := h; rfl

end

section
variable (s : State) (f : Field) (bs : List Byte) (n : Nat)

@[simp] theorem State.setRegBytes_keep : (s.setRegBytes f bs n).keep = s.keep := (s.movesRegs_setRegBytes f bs n).keep
@[simp] theorem State.setRegBytes_sec : (s.setRegBytes f bs n).sec = s.sec := (s.movesRegs_setRegBytes f bs n).sec
@[simp] theorem State.setRegBytes_att : (s.setRegBytes f bs n).att = s.att := (s.movesRegs_setRegBytes f bs n).att
@[simp] theorem State.setRegBytes_ctxs : (s.setRegBytes f bs n).ctxs = s.ctxs := (s.movesRegs_setRegBytes f bs n).ctxs
@[simp] theorem State.setRegBytes_lmem : (s.setRegBytes f bs n).lmem = s.lmem := (s.movesRegs_setRegBytes f bs n).lmem
@[simp] theorem State.setRegBytes_bundle : (s.setRegBytes f bs n).bundle = s.bundle :=
  (s.movesRegs_setRegBytes f bs n).bundle

end

namespace State.moves

variable {W : Nat → Prop} {s t : State} (h : s.moves W t)
include h

theorem withSec {q : Sec} : s.moves W { t with sec := q } := h.beside rfl rfl rfl

theorem setRegBytes {f : Field} {bs : List Byte} {n : Nat} (hW : ∀ i < n, W ((f.at i).addr 0)) :
    s.moves W (t.setRegBytes f bs n) :=
  forAll_keeps (s.moves W ·) (fun _ i hi hu => hu.setReg (hW i (List.mem_range.mp hi))) h

theorem secErr {op : Option SecOp} {err : Nat} (hsec : ∀ a, blkOf a = B.SEC → W a) (hdbg : ∀ a, blkOf a = B.DBG → W a) :
    s.moves W (t.secErr op err) :=
  State.moves.ite (((h.setFld (hsec _ rfl)).event (hsec _ rfl)).event (hdbg _ rfl))
    ((h.setFld (hsec _ rfl)).event (hsec _ rfl))

end State.moves

/-! ### How a command ends (R176) -/

section
variable (s : State) (op : Option SecOp) (err : Nat)

theorem State.secErr_movesRegs : s.movesRegs (s.secErr op err) := by
  have h := (s.movesRegs_setReg _ _).trans (State.movesRegs_event (s.setFld F.SEC_CMD_STAT_ERR 0 err) B.SEC 0 1)
  unfold State.secErr
  dsimp only
  split
  · exact h.trans (State.movesRegs_event _ _ _ _)
  · exact h

/-- A refusal shows its code and raises SEC.ERR. -/
theorem State.secErr_shows (herr : err < 256) :
    (s.secErr op err).fld F.SEC_CMD_STAT_ERR 0 = err ∧ (s.secErr op err).raised B.SEC 0 1 = true := by
  have hfld : ((s.setFld F.SEC_CMD_STAT_ERR 0 err).event B.SEC 0 1).fld F.SEC_CMD_STAT_ERR 0 = err := by
    rw [State.fld_event_ne _ (by decide), State.fld_setFld_same _ _ _ _ (by decide)]
    exact Nat.mod_eq_of_lt herr
  have hraised : ((s.setFld F.SEC_CMD_STAT_ERR 0 err).event B.SEC 0 1).raised B.SEC 0 1 = true :=
    State.event_bit _ _ _ _ (by decide)
  unfold State.secErr
  dsimp only
  split
  · exact ⟨(State.fld_event_ne _ (by decide) _).trans hfld,
      (congrArg (fun w : Word => bit w.toNat 1) (State.reg_event_ne _ _ _ _ _ (by decide))).trans hraised⟩
  · exact ⟨hfld, hraised⟩

/-- It leaves the other fields of SEC_CMD_STAT alone. -/
theorem State.secErr_fld {f : Field} (hf : f = F.SEC_CMD_STAT_FAILS ∨ f = F.SEC_CMD_STAT_BUSY) :
    (s.secErr op err).fld f 0 = s.fld f 0 := by
  have h : ((s.setFld F.SEC_CMD_STAT_ERR 0 err).event B.SEC 0 1).fld f 0 = s.fld f 0 := by
    rcases hf with rfl | rfl <;>
      rw [State.fld_event_ne _ (by decide), State.fld_setFld_bits _ _ _ _ _ _ (by decide) (by decide)]
  unfold State.secErr
  dsimp only
  split
  · refine (State.fld_event_ne _ ?_ _).trans h
    rcases hf with rfl | rfl <;> decide
  · exact h

theorem State.secOk_movesRegs : s.movesRegs s.secOk := (s.movesRegs_setReg _ _).trans (State.movesRegs_event _ _ _ _)

/-- A command done clears ERR, raises SEC.DONE, and leaves BUSY and the events of other bits alone. -/
theorem State.secOk_shows : s.secOk.fld F.SEC_CMD_STAT_ERR 0 = 0 ∧ s.secOk.raised B.SEC 0 0 = true ∧
    s.secOk.flag F.SEC_CMD_STAT_BUSY 0 = s.flag F.SEC_CMD_STAT_BUSY 0 := by
  refine ⟨?_, State.event_bit _ _ _ _ (by decide), ?_⟩
  · exact (State.fld_event_ne _ (by decide) _).trans (State.fld_setFld_same _ _ _ _ (by decide))
  · refine congrArg (· == 1) ?_
    exact (State.fld_event_ne _ (by decide) _).trans (State.fld_setFld_bits _ _ _ _ _ _ (by decide) (by decide))

end

theorem State.moves.secOk {W : Nat → Prop} {s t : State} (h : s.moves W t) (hstat : W (F.SEC_CMD_STAT.addr 0))
    (hevt : W (evtAddr B.SEC 0)) : s.moves W t.secOk :=
  State.moves.event (h.setFld (f := F.SEC_CMD_STAT_ERR) hstat) hevt

end Sys2Proof.Machine
end

section
/-! PROOFS. The lifecycle commands, OPEN, the nonce and a bad operation, as SEC judges them (R166, R167, R171, R174 to
R176). -/

namespace Sys2Proof.Machine

/-! ### A write of SEC_CMD arrives (R24, R172) -/

theorem rowLocked_secCmd : rowLocked B.SEC 0 F.SEC_CMD.off = false := by decide

/-- SEC_CMD is written by the host at its open page, or over the TAP in every mode. -/
theorem State.onSecPage_cmd {s : State} {tap : Bool} (hon : s.domOn .sec = true)
    (hway : tap = true ∨ s.openPage B.SEC 0)
    (f : State → State) : s.onSecPage tap B.SEC 0 F.SEC_CMD.off f = f s := by
  cases tap with
  | true => simp [State.onSecPage, State.tapTakes, tokenReg, hon]
  | false =>
    obtain ⟨hmode, hpage, hpageOn⟩ := hway.resolve_left Bool.false_ne_true
    exact State.onPage_open s _ _ _ f hmode hpage hpageOn rowLocked_secCmd

/-! ### A command that is taken -/

section
variable {s : State} {op : SecOp} {tap : Bool} (h : s.secTakes op tap)
include h

/-- Of a command that is taken, the token or the owner point is what is left to judge. -/
theorem State.secCmd_taken : s.secCmd op tap =
    if s.needsToken op then s.secToken op tap
    else if op = .provision then
      if !ptValid (beNat ((s.regBytes F.SEC_OWNER 24).take 48)) (beNat ((s.regBytes F.SEC_OWNER 24).drop 48)) then
        s.secErr (some op) seBadkey
      else s.secRun op tap
    else s.secRun op tap := by
  obtain ⟨hon, -, hzpend, hcmd, hstate, hmode, hdrbg⟩ := h
  unfold State.secCmd
  simp [hon, hzpend, hcmd, hstate, hmode, hdrbg]

end

/-! ### A command that runs on (R166, R171) -/

/-- ZPEND is committed as OPEN and RETURN begin with a key held. -/
def State.pendZeroize (s : State) (op : SecOp) : State :=
  if s.keyHeld then
    match op with
    | .opn => s.keepStore kwZpend 1
    | .ret => s.keepStore kwZpend 2
    | _ => s
  else s

theorem State.pendZeroize_keepMoves (s : State) (op : SecOp) : s.keepMoves (s.pendZeroize op) := by
  unfold State.pendZeroize
  split
  · cases op
    case opn => exact s.keepStore_moves _ _
    case ret => exact s.keepStore_moves _ _
    all_goals exact State.keepMoves.refl s
  · exact State.keepMoves.refl s

/-- PROVISION commits nothing as it begins. -/
theorem State.pendZeroize_provision (s : State) : s.pendZeroize .provision = s := by
  unfold State.pendZeroize
  split <;> rfl

/-- The command is noted as running, and BUSY shows it. -/
def State.noteRunning (s : State) (op : SecOp) (tap : Bool) : State :=
  { s with sec := { s.sec with cmd := some (op, tap) } }.setFlag F.SEC_CMD_STAT_BUSY 0 true

theorem State.secRun_eq (s : State) (op : SecOp) (tap : Bool) :
    s.secRun op tap = (s.noteRunning op tap).pendZeroize op := by
  cases op <;> rfl

section
variable (s : State) (op : SecOp) (tap : Bool)

theorem State.secRun_sec : (s.secRun op tap).sec = { s.sec with cmd := some (op, tap) } := by
  rw [State.secRun_eq]
  exact ((s.noteRunning op tap).pendZeroize_keepMoves op).sec

theorem State.secRun_lmem : (s.secRun op tap).lmem = s.lmem := by
  rw [State.secRun_eq]
  exact ((s.noteRunning op tap).pendZeroize_keepMoves op).lmem.trans (State.setFlag_lmem ..)

theorem State.secRun_reg {a : Nat} (ha : blkOf a ≠ B.KPS) : (s.secRun op tap).reg a = (s.noteRunning op tap).reg a := by
  rw [State.secRun_eq]
  exact ((s.noteRunning op tap).pendZeroize_keepMoves op).regs a (by simpa using ha)

theorem State.secRun_runs : (s.secRun op tap).secRuns op tap := by
  refine ⟨congrArg Sec.cmd (s.secRun_sec op tap), ?_⟩
  rw [State.flag_congr (s.secRun_reg op tap (by decide))]
  exact State.flag_setFlag_same _ _ _ _ rfl (by decide)

/-- The count of failures stands. -/
theorem State.secRun_fails : (s.secRun op tap).fld F.SEC_CMD_STAT_FAILS 0 = s.fld F.SEC_CMD_STAT_FAILS 0 := by
  rw [State.fld_congr (s.secRun_reg op tap (by decide))]
  exact State.fld_setFld_bits _ _ _ _ _ _ (by decide) (by decide)

end

/-- The pages that a command under way may write, as the statements list them. -/
abbrev secPage (a : Nat) : Prop := blkOf a ∈ [B.DBG, B.HST, B.KPS, B.SEC]

theorem State.moves.secRun {s t : State} (h : s.moves secPage t) {op : SecOp} {tap : Bool} :
    s.moves secPage (t.secRun op tap) := by
  have hnote : s.moves secPage (t.noteRunning op tap) := h.withSec.setFlag (by decide)
  have hm := (t.noteRunning op tap).pendZeroize_keepMoves op
  rw [State.secRun_eq]
  exact hnote.trans ⟨fun a ha => hm.regs a fun hk => ha (by simp_all [secPage]), hm.ctxs, congrArg Fst.hits hm.fst⟩

/-! ### A token judged (R167) -/

/-- The nonce is spent. -/
def State.spendNonce (s : State) : State := { s with sec := { s.sec with nonce := false } }

/-- A failed token is counted, and the command refused with TOKEN. -/
def State.countFailure (s : State) (op : SecOp) : State :=
  (s.spendNonce.setFld F.SEC_CMD_STAT_FAILS 0 (s.fld F.SEC_CMD_STAT_FAILS 0 + 1)).secErr (some op) seToken

theorem State.secToken_judges {s : State} {op : SecOp} (tap : Bool) (hnonce : s.sec.nonce = true)
    (hfails : s.fld F.SEC_CMD_STAT_FAILS 0 < 8) (hdrbg : s.flag F.SEC_STAT_DRBG_OK 0 = true) :
    s.secToken op tap =
      if s.tokenOk op then (s.spendNonce.setFld F.SEC_CMD_STAT_FAILS 0 0).secRun op tap
      else if s.fld F.SEC_CMD_STAT_FAILS 0 + 1 = 8 then (s.countFailure op).raiseFault 339 else s.countFailure op := by
  have hsound : (s.spendNonce.setFld F.SEC_CMD_STAT_FAILS 0 0).flag F.SEC_STAT_DRBG_OK 0 = true :=
    (State.flag_congr (State.reg_setFld_ne _ _ _ _ _ (by decide))).trans hdrbg
  have hsteps : s.secToken op tap =
      if s.fld F.SEC_CMD_STAT_FAILS 0 = 8 then s.secErr (some op) seLocked
      else if !s.sec.nonce then s.secErr (some op) seNononce
      else if s.tokenOk op then
        (if op = .reprovision ∧ ¬ (s.spendNonce.setFld F.SEC_CMD_STAT_FAILS 0 0).flag F.SEC_STAT_DRBG_OK 0 then
          (s.spendNonce.setFld F.SEC_CMD_STAT_FAILS 0 0).secErr (some op) seEntropy
        else (s.spendNonce.setFld F.SEC_CMD_STAT_FAILS 0 0).secRun op tap)
      else if s.fld F.SEC_CMD_STAT_FAILS 0 + 1 = 8 then (s.countFailure op).raiseFault 339 else s.countFailure op := rfl
  have hentropy : ¬ (op = .reprovision ∧
      ¬ (s.spendNonce.setFld F.SEC_CMD_STAT_FAILS 0 0).flag F.SEC_STAT_DRBG_OK 0) := fun h => h.2 hsound
  rw [hsteps, if_neg (by omega), hnonce, if_neg (by decide), if_neg hentropy]

/-- What the judgement of a token shows: the obligations' own term for it, and its frame. -/
theorem State.secToken_judged {s : State} {op : SecOp} (tap : Bool) (hcmd : s.sec.cmd = none)
    (hnonce : s.sec.nonce = true)
    (hfails : s.fld F.SEC_CMD_STAT_FAILS 0 < 8) (hdrbg : s.flag F.SEC_STAT_DRBG_OK 0 = true) :
    s.regsOutside (s.secToken op tap) [B.DBG, B.HST, B.KPS, B.SEC] ∧ s.tokenJudged (s.secToken op tap) op tap ∧
      (s.secToken op tap).lmem = s.lmem := by
  have hspent : s.moves secPage s.spendNonce := (State.moves.refl _ s).withSec
  rw [State.secToken_judges tap hnonce hfails hdrbg]
  by_cases hgood : s.tokenOk op = true
  · rw [if_pos hgood]
    unfold State.tokenJudged
    rw [if_pos hgood]
    refine ⟨((hspent.setFld (by decide)).secRun).regs, ⟨?_, State.secRun_runs _ _ _, ?_⟩, ?_⟩
    · rw [State.secRun_sec]; rfl
    · rw [State.secRun_fails]; exact State.fld_setFld_same _ _ _ _ (by decide)
    · rw [State.secRun_lmem]; rfl
  · obtain ⟨herr, hraised⟩ := (s.spendNonce.setFld F.SEC_CMD_STAT_FAILS 0
      (s.fld F.SEC_CMD_STAT_FAILS 0 + 1)).secErr_shows (some op) seToken (by decide)
    have hcount : (s.countFailure op).fld F.SEC_CMD_STAT_FAILS 0 = s.fld F.SEC_CMD_STAT_FAILS 0 + 1 :=
      (State.secErr_fld _ _ _ (.inl rfl)).trans
        ((State.fld_setFld_same _ _ _ _ (by decide)).trans (Nat.mod_eq_of_lt (by norm_num; omega)))
    have hmoves : (s.spendNonce.setFld F.SEC_CMD_STAT_FAILS 0 (s.fld F.SEC_CMD_STAT_FAILS 0 + 1)).movesRegs
      (s.countFailure op) := State.secErr_movesRegs _ _ _
    have hregs : s.moves secPage (s.countFailure op) :=
      (hspent.setFld (by decide)).secErr (fun a ha => by simp [secPage, ha]) (fun a ha => by simp [secPage, ha])
    rw [if_neg hgood]
    unfold State.tokenJudged
    rw [if_neg hgood]
    split
    next heighth =>
      refine ⟨(hregs.raiseFault 339).regs, ⟨?_, ⟨?_, ?_, ?_⟩, ?_, fun _ => State.raiseFault_mem _ _⟩, ?_⟩
      · rw [State.raiseFault_sec, hmoves.sec]; rfl
      · rw [State.raiseFault_sec, hmoves.sec]; exact hcmd
      · rw [State.raiseFault_fld]; exact herr
      · exact (congrArg (fun w : Word => bit w.toNat 1) (State.raiseFault_reg _ _ _)).trans hraised
      · rw [State.raiseFault_fld]; exact hcount
      · rw [State.raiseFault_lmem, hmoves.lmem]; rfl
    next hfew =>
      refine ⟨hregs.regs, ⟨?_, ⟨?_, herr, hraised⟩, hcount, fun h7 => absurd (by omega) hfew⟩, ?_⟩
      · rw [hmoves.sec]; rfl
      · rw [hmoves.sec]; exact hcmd
      · rw [hmoves.lmem]; rfl

/-! ### The commands -/

/-- COMMISSION, RETURN and REPROVISION always take a token. -/
theorem State.needsToken_of_lifecycle (s : State) {op : SecOp} (h : op = .commission ∨ op = .ret ∨ op = .reprovision) :
    s.needsToken op = true := by
  rcases h with rfl | rfl | rfl <;> simp [State.needsToken]

/-- A command that its token decides. -/
theorem State.onSecPage_secCmd_judged {s : State} {op : SecOp} {tap : Bool} (h : s.secTakes op tap)
    (hneeds : s.needsToken op = true) (hnonce : s.sec.nonce = true) (hfails : s.fld F.SEC_CMD_STAT_FAILS 0 < 8) :
    ∃ t, (s.onSecPage tap B.SEC 0 F.SEC_CMD.off fun s => s.secCmd op tap) = t ∧
      s.regsOutside t [B.DBG, B.HST, B.KPS, B.SEC] ∧ s.tokenJudged t op tap ∧ t.lmem = s.lmem := by
  obtain ⟨hon, hway, -, hcmd, -, -, hdrbg⟩ := id h
  refine ⟨s.secToken op tap, ?_, State.secToken_judged (op := op) tap hcmd hnonce hfails hdrbg⟩
  rw [State.onSecPage_cmd hon hway, State.secCmd_taken h, if_pos hneeds]

theorem exec_secProvision_judges {s : State} {tap : Bool} (h : s.secTakes .provision tap) :
    ∃ t, exec (.secProvision tap) s = .next t ∧
      (if ptValid (beNat ((s.regBytes F.SEC_OWNER 24).take 48)) (beNat ((s.regBytes F.SEC_OWNER 24).drop 48))
          = true then
        t.secRuns .provision tap ∧ s.regsBut t [F.SEC_CMD_STAT_BUSY.addr 0]
      else t.secFails 6 ∧ s.onlyRegs t) ∧ t.lmem = s.lmem := by
  obtain ⟨hon, hway, -, hcmd, -, -, -⟩ := id h
  have hrun : (s.onSecPage tap B.SEC 0 F.SEC_CMD.off fun s => s.secCmd .provision tap) =
      if !ptValid (beNat ((s.regBytes F.SEC_OWNER 24).take 48)) (beNat ((s.regBytes F.SEC_OWNER 24).drop 48)) then
        s.secErr (some .provision) seBadkey
      else s.secRun .provision tap := by
    rw [State.onSecPage_cmd hon hway, State.secCmd_taken h, if_neg (by simp [State.needsToken]), if_pos rfl]
  refine ⟨_, next_finish hrun, ?_⟩
  cases ptValid (beNat ((s.regBytes F.SEC_OWNER 24).take 48)) (beNat ((s.regBytes F.SEC_OWNER 24).drop 48)) with
  | true =>
    have hregs : s.regsBut (s.secRun .provision tap) [F.SEC_CMD_STAT_BUSY.addr 0] := by
      rw [State.secRun_eq, State.pendZeroize_provision]
      exact State.regsBut_setFlag { s with sec := { s.sec with cmd := some (.provision, tap) } } _ _ _
    exact ⟨⟨s.secRun_runs .provision tap, hregs⟩, s.secRun_lmem .provision tap⟩
  | false =>
    have hmoves := s.secErr_movesRegs (some .provision) seBadkey
    obtain ⟨herr, hraised⟩ := s.secErr_shows (some .provision) seBadkey (by decide)
    exact ⟨⟨⟨(congrArg Sec.cmd hmoves.sec).trans hcmd, herr, hraised⟩, hmoves.onlyRegs⟩, hmoves.lmem⟩

theorem exec_secOpen_blank {s : State} {tap : Bool} (h : s.secTakes .opn tap) (hlc : s.lc = 0) :
    ∃ t, exec (.secOpen tap) s = .next t ∧ s.regsOutside t [B.DBG, B.HST, B.KPS, B.SEC] ∧ t.secRuns .opn tap ∧
      t.lmem = s.lmem := by
  obtain ⟨hon, hway, -⟩ := id h
  refine ⟨s.finish (s.secRun .opn tap), next_finish ?_, ((State.moves.refl secPage s).secRun).regs,
    s.secRun_runs .opn tap, s.secRun_lmem .opn tap⟩
  rw [State.onSecPage_cmd hon hway, State.secCmd_taken h, if_neg (by simp [State.needsToken, hlc, lcBlank]),
    if_neg (by decide)]

/-- The nonce is live, and the random source has gone on by its bytes. -/
def State.drawNonce (s : State) : State := { (s.drbg 48).2 with sec := { (s.drbg 48).2.sec with nonce := true } }

theorem State.drawNonce_nonce (s : State) : s.drawNonce.sec.nonce = true := by
  unfold State.drawNonce
  rfl

section
variable {s : State} {tap : Bool} (hon : s.domOn .sec = true) (hway : tap = true ∨ s.openPage B.SEC 0)
  (hzpend : s.zpend = 0) (hcmd : s.sec.cmd = none)
include hon hway hzpend hcmd

theorem exec_secNonce_lives : ∃ t, exec (.secNonce tap) s = .next t ∧ s.regsOutside t [B.DBG, B.SEC] ∧
    t.sec.nonce = true ∧ t.fld F.SEC_CMD_STAT_ERR 0 = 0 ∧ t.raised B.SEC 0 0 = true ∧ t.keep = s.keep ∧
    t.lmem = s.lmem := by
  have hrun : (s.onSecPage tap B.SEC 0 F.SEC_CMD.off fun s => secNonce s) =
      (s.drawNonce.setRegBytes F.SEC_NONCE (s.drbg 48).1 12).secOk := by
    rw [State.onSecPage_cmd hon hway]
    unfold secNonce
    simp only [hon, hzpend, hcmd, State.drawNonce, Bool.not_true, Bool.false_eq_true, if_false, ne_eq,
      not_true_eq_false, Option.isSome_none]
  have hmoves := (s.drawNonce.movesRegs_setRegBytes F.SEC_NONCE (s.drbg 48).1 12).trans (State.secOk_movesRegs _)
  have hnonce : (s.drawNonce.setRegBytes F.SEC_NONCE (s.drbg 48).1 12).secOk.sec.nonce = true := by
    rw [hmoves.sec, State.drawNonce_nonce]
  obtain ⟨herr, hraised, -⟩ := (s.drawNonce.setRegBytes F.SEC_NONCE (s.drbg 48).1 12).secOk_shows
  have hdraw : s.moves (fun a => blkOf a ∈ [B.DBG, B.SEC]) s.drawNonce := (State.moves.refl _ s).beside rfl rfl rfl
  have hpages : s.moves (fun a => blkOf a ∈ [B.DBG, B.SEC])
      (s.drawNonce.setRegBytes F.SEC_NONCE (s.drbg 48).1 12).secOk :=
    (hdraw.setRegBytes (by decide)).secOk (by decide) (by decide)
  have hkeep := hmoves.keep
  have hlmem := hmoves.lmem
  generalize (s.drawNonce.setRegBytes F.SEC_NONCE (s.drbg 48).1 12).secOk = t at *
  exact ⟨_, next_finish hrun, hpages.regs, hnonce, herr, hraised, hkeep, hlmem⟩

theorem exec_secBadop_refused : ∃ t, exec (.secBadop tap) s = .next t ∧ t.fld F.SEC_CMD_STAT_ERR 0 = 1 ∧
    t.raised B.SEC 0 1 = true ∧ s.onlyRegs t ∧ s.regsBut t [F.SEC_CMD_STAT_ERR.addr 0, evtAddr B.SEC 0] := by
  have hrun : (s.onSecPage tap B.SEC 0 F.SEC_CMD.off fun s => secBadop s) = s.secErr none seBadop := by
    rw [State.onSecPage_cmd hon hway]
    unfold secBadop
    simp [hon, hzpend, hcmd]
  obtain ⟨herr, hraised⟩ := s.secErr_shows none seBadop (by decide)
  exact ⟨_, next_finish hrun, herr, hraised, (s.secErr_movesRegs none seBadop).onlyRegs,
    (((State.moves.refl (· ∈ [F.SEC_CMD_STAT_ERR.addr 0, evtAddr B.SEC 0]) s).setFld (f := F.SEC_CMD_STAT_ERR)
      (by decide)).event (b := B.SEC) (by decide)).regs⟩

end

theorem exec_nonceExpire_ends (s : State) : ∃ t, exec .nonceExpire s = .next t ∧
    t.sec = { s.sec with nonce := false } ∧ t.regs = s.regs ∧ t.keep = s.keep ∧ t.lmem = s.lmem :=
  ⟨s.finish s.spendNonce, next_finish rfl, rfl, rfl, rfl, rfl⟩

/-- Settles O29: a command taken is judged by its token or its owner point, or runs on, as the lemmas above say. -/
theorem securityCommands : Obligations.SecurityCommands := by
  unfold Obligations.SecurityCommands
  refine ⟨fun s tap h => exec_secProvision_judges h, fun s tap h hnonce hfails => ?_, fun s tap h hnonce hfails => ?_,
    fun s tap h hnonce hfails => ?_, fun s tap h hlc hnonce hfails => ?_, fun s tap h hlc => exec_secOpen_blank h hlc,
    fun s tap hon hway hzpend hcmd => exec_secNonce_lives hon hway hzpend hcmd,
    fun s tap hon hway hzpend hcmd => exec_secBadop_refused hon hway hzpend hcmd,
    fun s => exec_nonceExpire_ends s⟩
  · obtain ⟨t, ht, hjudged⟩ := State.onSecPage_secCmd_judged h (s.needsToken_of_lifecycle (.inl rfl)) hnonce hfails
    exact ⟨s.finish t, next_finish ht, hjudged⟩
  · obtain ⟨t, ht, hjudged⟩ := State.onSecPage_secCmd_judged h
      (s.needsToken_of_lifecycle (.inr (.inl rfl))) hnonce hfails
    exact ⟨s.finish t, next_finish ht, hjudged⟩
  · obtain ⟨t, ht, hjudged⟩ := State.onSecPage_secCmd_judged h
      (s.needsToken_of_lifecycle (.inr (.inr rfl))) hnonce hfails
    exact ⟨s.finish t, next_finish ht, hjudged⟩
  · obtain ⟨t, ht, hjudged⟩ := State.onSecPage_secCmd_judged h (by simp [State.needsToken, lcBlank, hlc]) hnonce hfails
    exact ⟨s.finish t, next_finish ht, hjudged⟩

end Sys2Proof.Machine
end

section
/-! PROOFS. How the running SEC command and a checkpoint commit end (R162, R163, R166, R171, R178). -/

namespace Sys2Proof.Machine

/-! ### What the sequence of a command leaves alone -/

/-- The registers that a command's sequence may write: pages ATT, DBG, KPS and SEC, SEC_CMD_STAT apart. -/
abbrev seqReg (a : Nat) : Prop := blkOf a ∈ [B.ATT, B.DBG, B.KPS, B.SEC] ∧ a ≠ F.SEC_CMD_STAT_ERR.addr 0

/-- `t` differs from `s` as the sequence of a command may: registers of its pages, the keep store and state beside LMEM
and the command under way. -/
structure State.seqMoves (s t : State) : Prop where
  moves : s.moves seqReg t
  lmem : t.lmem = s.lmem
  cmd : t.sec.cmd = s.sec.cmd

namespace State.seqMoves

protected theorem refl (s : State) : s.seqMoves s := ⟨State.moves.refl _ s, rfl, rfl⟩

section
variable {s t u : State} (h : s.seqMoves t)
include h

theorem ite {c : Prop} [Decidable c] (hu : s.seqMoves u) : s.seqMoves (if c then t else u) := by split <;> assumption

theorem setFld {f : Field} {i v : Nat} (ha : seqReg (f.addr i)) : s.seqMoves (t.setFld f i v) :=
  ⟨h.moves.setFld ha, (State.setFld_lmem ..).trans h.lmem, (congrArg Sec.cmd (State.setFld_sec ..)).trans h.cmd⟩
theorem setFlag {f : Field} {i : Nat} {x : Bool} (ha : seqReg (f.addr i)) : s.seqMoves (t.setFlag f i x) := h.setFld ha
theorem event {b i n : Nat} (ha : seqReg (evtAddr b i)) : s.seqMoves (t.event b i n) :=
  ⟨h.moves.event ha, (State.event_lmem ..).trans h.lmem, (congrArg Sec.cmd (State.event_sec ..)).trans h.cmd⟩
theorem raiseFault {n : Nat} : s.seqMoves (t.raiseFault n) :=
  ⟨h.moves.raiseFault n, (State.raiseFault_lmem ..).trans h.lmem,
   (congrArg Sec.cmd (State.raiseFault_sec ..)).trans h.cmd⟩
theorem withAtt {q : Att} : s.seqMoves { t with att := q } := ⟨h.moves.withAtt, h.lmem, h.cmd⟩
theorem setRegBytes {f : Field} {bs : List Byte} {n : Nat} (ha : ∀ i < n, seqReg ((f.at i).addr 0)) :
    s.seqMoves (t.setRegBytes f bs n) :=
  ⟨h.moves.setRegBytes ha, (State.setRegBytes_lmem ..).trans h.lmem,
   (congrArg Sec.cmd (State.setRegBytes_sec ..)).trans h.cmd⟩

theorem keepStore {x : Nat} {v : Word} : s.seqMoves (t.keepStore x v) :=
  ⟨h.moves.keepStore fun a ha => ⟨by rw [ha]; decide, fun e => absurd (congrArg blkOf e) (by rw [ha]; decide)⟩,
    (State.keepStore_lmem ..).trans h.lmem, (congrArg Sec.cmd (State.keepStore_sec ..)).trans h.cmd⟩
theorem keepStores {x : Nat} {vs : List Word} : s.seqMoves (t.keepStores x vs) :=
  List.foldlRecOn (motive := (s.seqMoves ·)) _ _ h fun _ hu _ _ => hu.keepStore

/-- A draw from the random source. -/
theorem draw : s.seqMoves t.drbgScalar.2 := ⟨h.moves.withSec, h.lmem, h.cmd⟩

theorem secFollow : s.seqMoves t.secFollow := (h.setFlag (by decide)).setFlag (by decide)
theorem startCkpt {k : Ckpt} : s.seqMoves (t.startCkpt k) := h.withAtt.setFlag (by decide)
theorem restartChain : s.seqMoves t.restartChain := h.withAtt.startCkpt

end
end State.seqMoves

/-! ### PROVISION and REPROVISION (R162, R166) -/

@[simp] theorem wordsOf_length (bs : List Byte) (n : Nat) : (wordsOf bs n).length = n := by simp [wordsOf]

/-- IDK with its public half, BEK and, where `owner`, OWNER are stored. -/
def State.storeKeys (s : State) (d : Nat) (owner : Bool) : State :=
  let bek := s.regBytes F.SEC_BEK 8
  let s := (s.keepStores (kwIdk 0) (wordsOf (beBytes 48 d) 12)).keepStores (kwIdpub 0) (wordsOf (ecPublic d) 24)
  let s := (s.keepStores (kwBek 0) (wordsOf bek 8)).keepStore kwBekSet (if bek.all (· == 0) then 0 else 1)
  if owner then (s.keepStores (kwOwner 0) (wordsOf (s.regBytes F.SEC_OWNER 24) 24)).keepStore kwOwnerSet 1 else s

/-- EPOCH goes one up, KEY is VALID and the lifecycle PROVISIONED. -/
def State.markProvisioned (s : State) : State :=
  let s := s.keepStore kwEpoch (BitVec.ofNat 32 ((s.epoch + 1) % 65536))
  ((s.keepStore kwKey 1).keepStore kwGen (if s.keepWord kwGen = 0 then 1 else s.keepWord kwGen)).keepStore kwLc 1

/-- The next receipt takes the genesis link. -/
def State.takeGenesis (s : State) : State := { s with att := { s.att with genNext := true } }

theorem State.takeGenesis_keep (s : State) : s.takeGenesis.keep = s.keep := rfl
theorem State.takeGenesis_genNext (s : State) : s.takeGenesis.att.genNext = true := rfl

theorem State.provision_eq (s : State) (owner : Bool) :
    s.provision owner = (s.drbgScalar.2.storeKeys s.drbgScalar.1 owner).markProvisioned.takeGenesis.secFollow := by
  unfold State.provision
  generalize s.drbgScalar = p
  obtain ⟨d, u⟩ := p
  refine congrArg (fun v : State => v.takeGenesis.secFollow) (?_ : _ = (u.storeKeys d owner).markProvisioned)
  unfold State.markProvisioned State.storeKeys
  dsimp only

theorem State.seqMoves.provision {s t : State} (h : s.seqMoves t) (owner : Bool) : s.seqMoves (t.provision owner) := by
  have hkeys : s.seqMoves (t.drbgScalar.2.storeKeys t.drbgScalar.1 owner) :=
    h.draw.keepStores.keepStores.keepStores.keepStore.keepStores.keepStore.ite
      h.draw.keepStores.keepStores.keepStores.keepStore
  have hmarked : s.seqMoves (t.drbgScalar.2.storeKeys t.drbgScalar.1 owner).markProvisioned :=
    hkeys.keepStore.keepStore.keepStore.keepStore
  rw [State.provision_eq]
  exact hmarked.withAtt.secFollow

theorem State.wornUpTo.storeKeys {s : State} (h : s.wornUpTo 0) (d : Nat) : (s.storeKeys d true).wornUpTo 70 := by
  have hbek := ((h.keepStores (kwIdk 0) (wordsOf (beBytes 48 d) 12)).keepStores (kwIdpub 0)
    (wordsOf (ecPublic d) 24)).keepStores (kwBek 0) (wordsOf (s.regBytes F.SEC_BEK 8) 8)
  simp only [wordsOf_length] at hbek
  have hset := hbek.keepStore kwBekSet (if (s.regBytes F.SEC_BEK 8).all (· == 0) then 0 else 1)
  have howner (bs : List Byte) := (hset.keepStores (kwOwner 0) (wordsOf bs 24)).keepStore kwOwnerSet 1
  simp only [wordsOf_length] at howner
  unfold State.storeKeys
  rw [if_pos rfl]
  exact howner _

/-- EPOCH stands apart from the keys. -/
theorem State.epoch_storeKeys (s : State) (d : Nat) : (s.storeKeys d true).epoch = s.epoch := by
  unfold State.epoch State.storeKeys
  rw [if_pos rfl, State.keepWord_keepStore_ne _ _ (by decide),
    State.keepWord_keepStores_out (.inr (by rw [wordsOf_length]; decide)), State.keepWord_keepStore_ne _ _ (by decide),
    State.keepWord_keepStores_out (.inr (by rw [wordsOf_length]; decide)),
    State.keepWord_keepStores_out (.inl (by decide)),
    State.keepWord_keepStores_out (.inr (by rw [wordsOf_length]; decide))]

theorem State.lc_keepStore {s : State} (h : s.keepWorn kwLc = false) (v : Word) :
    (s.keepStore kwLc v).lc = v.toNat % 4 := by
  rw [State.lc, State.keepWord_keepStore_same _ _ h]

theorem State.markProvisioned_shows {s : State} {n : Nat} (h : s.wornUpTo n) (hn : n < 1000) :
    s.markProvisioned.lc = 1 ∧ s.markProvisioned.secKey = 1 ∧ s.markProvisioned.epoch = (s.epoch + 1) % 65536 := by
  have hepoch := h.keepStore kwEpoch (BitVec.ofNat 32 ((s.epoch + 1) % 65536))
  have hkey := hepoch.keepStore kwKey 1
  unfold State.markProvisioned
  refine ⟨State.lc_keepStore ((hkey.keepStore kwGen _).keepWorn (by omega) _) 1, ?_, ?_⟩
  · unfold State.secKey
    rw [State.keepWord_keepStore_ne _ _ (by decide), State.keepWord_keepStore_ne _ _ (by decide),
      State.keepWord_keepStore_same _ _ (hepoch.keepWorn (by omega) _)]
    rfl
  · rw [State.epoch, State.keepWord_keepStore_ne _ _ (by decide), State.keepWord_keepStore_ne _ _ (by decide),
      State.keepWord_keepStore_ne _ _ (by decide), State.keepWord_keepStore_same _ _ (h.keepWorn (by omega) _),
      BitVec.toNat_ofNat]
    omega

/-- States with one keep store show one lifecycle, key, epoch and zeroization. -/
theorem State.keepShown_congr {s t : State} (h : t.keep = s.keep) :
    t.lc = s.lc ∧ t.secKey = s.secKey ∧ t.epoch = s.epoch ∧ t.zpend = s.zpend := by
  have hw := State.keepWord_congr (congrArg Keep.words h) (congrArg Keep.bad h)
  exact ⟨by rw [State.lc, hw, State.lc], by rw [State.secKey, hw, State.secKey], by rw [State.epoch, hw, State.epoch],
    by rw [State.zpend, hw, State.zpend]⟩

theorem State.secFollow_keep (s : State) : s.secFollow.keep = s.keep :=
    (State.setFlag_keep ..).trans (State.setFlag_keep ..)

theorem State.secFollow_att (s : State) : s.secFollow.att = s.att := (State.setFlag_att ..).trans (State.setFlag_att ..)

theorem State.provision_shows {s : State} (h : s.keep.wear = []) :
    (s.provision true).lc = 1 ∧ (s.provision true).secKey = 1 ∧ (s.provision true).epoch = (s.epoch + 1) % 65536 ∧
      (s.provision true).att.genNext = true := by
  have hkeep : s.drbgScalar.2.keep = s.keep := rfl
  rw [State.provision_eq]
  generalize s.drbgScalar = p at hkeep ⊢
  obtain ⟨hlc, hkey, hepoch⟩ :=
    State.markProvisioned_shows ((State.wornUpTo.of_empty (hkeep ▸ h)).storeKeys p.1) (by decide)
  obtain ⟨-, -, hsame, -⟩ := State.keepShown_congr hkeep
  obtain ⟨hlc', hkey', hepoch', -⟩ := State.keepShown_congr
    ((State.secFollow_keep _).trans (p.2.storeKeys p.1 true).markProvisioned.takeGenesis_keep)
  rw [hlc', hkey', hepoch', State.secFollow_att]
  exact ⟨hlc, hkey, by rw [← hsame, ← p.2.epoch_storeKeys p.1]; exact hepoch, State.takeGenesis_genNext _⟩

/-! ### RETURN's zeroization (R171) -/

/-- IDK, BEK and both chain heads are overwritten. -/
def State.eraseHeads (s : State) : State :=
  ((((s.keepStores (kwIdk 0) (List.replicate 12 0)).keepStores (kwBek 0) (List.replicate 8 0)).keepStore kwBekSet
    0).keepStores (kwCkpt 0 0) (List.replicate 12 0)).keepStores (kwCkpt 1 0) (List.replicate 12 0)

/-- A VALID key becomes ZEROIZED. -/
def State.eraseKeys (s : State) : State :=
  if s.eraseHeads.secKey = 1 then s.eraseHeads.keepStore kwKey 2 else s.eraseHeads

/-- Nothing is signed, and the genesis link is due. -/
def State.dueGenesis (s : State) : State := (s.setFlag F.SEC_STAT_SIGN_OK 0 false).keepStore kwGen 2

/-- The genesis link is due, the lifecycle is RETURNED where `ret`, and ZPEND clears. -/
def State.eraseDone (s : State) (ret : Bool) : State :=
  (if ret then s.dueGenesis.keepStore kwLc 3 else s.dueGenesis).keepStore kwZpend 0

/-- The receipt chain begins anew. -/
def State.forgetChain (s : State) : State :=
  { s with att := { s.att with ckpts := [], prev := List.replicate 48 0, written := [],
                               consumed := (s.ckptCtr, List.replicate 48 0) } }

theorem State.forgetChain_reg (s : State) (a : Nat) : s.forgetChain.reg a = s.reg a := rfl
theorem State.forgetChain_keep (s : State) : s.forgetChain.keep = s.keep := rfl

theorem State.zeroize_eq (s : State) (ret : Bool) : s.zeroize ret =
    ((((s.eraseKeys.eraseDone ret).setRegBytes F.ATT_HEAD [] 12).event B.SEC 0 4).forgetChain.setFlag
      F.ATT_STAT_CKPT_BUSY 0 false).secFollow := rfl

theorem State.seqMoves.zeroize {s t : State} (h : s.seqMoves t) (ret : Bool) : s.seqMoves (t.zeroize ret) := by
  have hheads : s.seqMoves t.eraseHeads := h.keepStores.keepStores.keepStore.keepStores.keepStores
  have hkeys : s.seqMoves t.eraseKeys := hheads.keepStore.ite hheads
  have hgen : s.seqMoves t.eraseKeys.dueGenesis :=
    (hkeys.setFlag (by decide)).keepStore
  have hdone : s.seqMoves (t.eraseKeys.eraseDone ret) := (hgen.keepStore.ite hgen).keepStore
  have hhead : s.seqMoves ((t.eraseKeys.eraseDone ret).setRegBytes F.ATT_HEAD [] 12) := hdone.setRegBytes (by decide)
  rw [State.zeroize_eq]
  exact ((hhead.event (by decide)).withAtt.setFlag (by decide)).secFollow

theorem State.zeroize_keep (s : State) (ret : Bool) : (s.zeroize ret).keep = (s.eraseKeys.eraseDone ret).keep := by
  rw [State.zeroize_eq, State.secFollow_keep, State.setFlag_keep, State.forgetChain_keep, State.event_keep,
    State.setRegBytes_keep]

section
variable {s : State} (h : s.wornUpTo 0)
include h

theorem State.wornUpTo.eraseHeads : s.eraseHeads.wornUpTo 45 := by
  have hall := ((((h.keepStores (kwIdk 0) (List.replicate 12 0)).keepStores (kwBek 0) (List.replicate 8 0)).keepStore
    kwBekSet 0).keepStores (kwCkpt 0 0) (List.replicate 12 0)).keepStores (kwCkpt 1 0) (List.replicate 12 0)
  simp only [List.length_replicate] at hall
  exact hall

theorem State.wornUpTo.eraseKeys : s.eraseKeys.wornUpTo 46 := by
  have hheads := h.eraseHeads
  unfold State.eraseKeys
  split
  · exact hheads.keepStore kwKey 2
  · exact fun x => (hheads x).trans (by decide)

theorem State.keepWord_eraseHeads_idk {i : Nat} (hi : i < 12) : s.eraseHeads.keepWord (kwIdk i) = 0 := by
  have hw := State.keepWord_keepStores_in (vs := List.replicate 12 (0 : Word)) (x := kwIdk 0) (i := i) h (by simp)
      (by simpa)
  unfold State.eraseHeads
  rw [State.keepWord_keepStores_out (.inl (by simp only [kwIdk, kwCkpt]; omega)),
    State.keepWord_keepStores_out (.inl (by simp only [kwIdk, kwCkpt]; omega)),
    State.keepWord_keepStore_ne _ _ (by simp only [kwIdk, kwBekSet]; omega),
    State.keepWord_keepStores_out (.inl (by simp only [kwIdk, kwBek]; omega))]
  exact hw.trans (List.getElem_replicate _)

theorem State.keepWord_eraseKeys_idk {i : Nat} (hi : i < 12) : s.eraseKeys.keepWord (kwIdk i) = 0 := by
  have hheads := State.keepWord_eraseHeads_idk h hi
  unfold State.eraseKeys
  split
  · rw [State.keepWord_keepStore_ne _ _ (by simp only [kwIdk, kwKey]; omega), hheads]
  · exact hheads

/-- No key is VALID after the erasure. -/
theorem State.secKey_eraseKeys : s.eraseKeys.secKey ≠ 1 := by
  unfold State.eraseKeys
  split
  · rw [State.secKey, State.keepWord_keepStore_same _ _ (h.eraseHeads.keepWorn (by decide) _)]
    decide
  · assumption

end

theorem State.keepWord_setFlag (s : State) (f : Field) (i : Nat) (b : Bool) (x : Nat) :
    (s.setFlag f i b).keepWord x = s.keepWord x :=
  State.keepWord_congr (congrArg Keep.words (State.setFlag_keep ..)) (congrArg Keep.bad (State.setFlag_keep ..)) x

/-- What the last words of RETURN's zeroization say, and that no other word changes. -/
theorem State.eraseDone_shows {s : State} {n : Nat} (h : s.wornUpTo n) (hn : n < 1000) :
    (s.eraseDone true).lc = 3 ∧ (s.eraseDone true).zpend = 0 ∧
      ∀ x, x ≠ kwGen → x ≠ kwLc → x ≠ kwZpend → (s.eraseDone true).keepWord x = s.keepWord x := by
  have hgen : s.dueGenesis.wornUpTo (n + 1) := (h.congr (State.setFlag_keep ..)).keepStore kwGen 2
  unfold State.eraseDone
  simp only [if_true]
  refine ⟨?_, ?_, fun x hgen hlc hzpend => ?_⟩
  · rw [State.lc, State.keepWord_keepStore_ne _ _ (by decide),
      State.keepWord_keepStore_same _ _ (hgen.keepWorn (by omega) _)]
    rfl
  · rw [State.zpend, State.keepWord_keepStore_same _ _ ((hgen.keepStore kwLc 3).keepWorn (by omega) _)]
    rfl
  · rw [State.keepWord_keepStore_ne _ _ hzpend, State.keepWord_keepStore_ne _ _ hlc,
      State.dueGenesis, State.keepWord_keepStore_ne _ _ hgen, State.keepWord_setFlag]

theorem State.secFollow_reg_ne (s : State) {a : Nat} (h : a ≠ F.SEC_STAT_SIGN_OK.addr 0) :
    s.secFollow.reg a = s.reg a :=
  (State.reg_setFlag_ne _ _ _ _ _ h).trans (State.reg_setFlag_ne _ _ _ _ _ h)

theorem State.restartChain_reg_ne (s : State) {a : Nat} (h : a ≠ F.ATT_STAT_CKPT_BUSY.addr 0) :
    s.restartChain.reg a = s.reg a := State.reg_setFlag_ne _ _ _ _ _ h

theorem State.restartChain_keep (s : State) : s.restartChain.keep = s.keep := State.setFlag_keep ..
theorem State.restartChain_genNext (s : State) : s.restartChain.att.genNext = true := rfl

theorem State.zeroized_shows {s : State} (h : s.keep.wear = []) :
    (s.zeroize true).restartChain.lc = 3 ∧ (s.zeroize true).restartChain.secKey ≠ 1 ∧
      (s.zeroize true).restartChain.zpend = 0 ∧
      ∀ i, i < 12 → (s.zeroize true).restartChain.keepWord (kwIdk i) = 0 := by
  have hworn := State.wornUpTo.of_empty h
  have hkeep := (s.zeroize true).restartChain_keep.trans (s.zeroize_keep true)
  obtain ⟨hlc, hkey, -, hzpend⟩ := State.keepShown_congr hkeep
  obtain ⟨hlc3, hzpend0, hwords⟩ := State.eraseDone_shows hworn.eraseKeys (by decide)
  refine ⟨hlc.trans hlc3, ?_, hzpend.trans hzpend0, fun i hi => ?_⟩
  · rw [hkey, State.secKey, hwords kwKey (by decide) (by decide) (by decide)]
    exact State.secKey_eraseKeys hworn
  · rw [State.keepWord_congr (congrArg Keep.words hkeep) (congrArg Keep.bad hkeep),
      hwords (kwIdk i) (by simp only [kwIdk, kwGen]; omega) (by simp only [kwIdk, kwLc]; omega)
        (by simp only [kwIdk, kwZpend]; omega)]
    exact State.keepWord_eraseKeys_idk hworn hi

/-- Twelve words of zero are 48 bytes of zero. -/
theorem State.keepBytes_of_zero {s : State} {w : Nat} (h : ∀ i, i < 12 → s.keepWord (w + i) = 0) :
    s.keepBytes w 12 = List.replicate 48 0 := by
  have hwords : s.keepWords w 12 = List.replicate 12 0 :=
    List.eq_replicate_iff.mpr ⟨by simp [State.keepWords], by simpa [State.keepWords] using h⟩
  rw [State.keepBytes, hwords]
  decide

theorem State.raised_congr {s t : State} {blk i n : Nat} (h : t.reg (evtAddr blk i) = s.reg (evtAddr blk i)) :
    t.raised blk i n = s.raised blk i n := by
  rw [State.raised, h, State.raised]

/-- The zeroization raises SEC.ZEROIZED, and the chain's restart leaves it. -/
theorem State.zeroized_raised (s : State) : (s.zeroize true).restartChain.raised B.SEC 0 4 = true := by
  have hevent : (((s.eraseKeys.eraseDone true).setRegBytes F.ATT_HEAD [] 12).event B.SEC 0 4).raised B.SEC 0 4 = true :=
    State.event_bit _ _ _ _ (by decide)
  refine Eq.trans (State.raised_congr ?_) hevent
  rw [State.restartChain_reg_ne _ (by decide), State.zeroize_eq, State.secFollow_reg_ne _ (by decide),
    State.reg_setFlag_ne _ _ _ _ _ (by decide), State.forgetChain_reg]

/-! ### The running command ends (R166, R171, R178) -/

/-- The command is no longer running, and BUSY shows it. -/
def State.endCommand (s : State) : State :=
  { s with sec := { s.sec with cmd := none } }.setFlag F.SEC_CMD_STAT_BUSY 0 false

/-- The Eyepiece is open, over the TAP or from the host. -/
def State.openEyepiece (s : State) (tap : Bool) : State :=
  (((s.setFlag F.DBG_STAT_OPEN 0 true).setFld F.DBG_STAT_VIA 0
      (if tap then 2 else 1)).setFlag F.SEC_STAT_DBG 0 true).event
    B.DBG 0 0 |>.raiseFault 338

/-- The keep-store sequence of a command, a zeroization pending or not. -/
def State.secSequence (s : State) (op : SecOp) (tap pending : Bool) : State :=
  match op with
  | .provision => s.provision true
  | .reprovision => s.provision false
  | .commission => (s.keepStore kwLc 2).secFollow
  | .ret => if pending then (s.zeroize true).restartChain else (s.keepStore kwLc 3).secFollow
  | .opn => (if pending then (s.zeroize false).restartChain else s).openEyepiece tap

theorem secCmdDone_eq {s : State} {op : SecOp} {tap : Bool} (hcmd : s.sec.cmd = some (op, tap)) (ok : Bool) :
    secCmdDone ok s = if ok then (s.endCommand.secSequence op tap (decide (s.zpend ≠ 0))).secOk
      else s.endCommand.secErr (some op) seKeep := by
  unfold secCmdDone
  rw [hcmd]
  cases ok with
  | false => rfl
  | true =>
    cases op <;> by_cases hz : s.zpend ≠ 0 <;> simp [State.secSequence, State.endCommand, State.openEyepiece, hz]

theorem State.seqMoves.openEyepiece {s t : State} (h : s.seqMoves t) (tap : Bool) :
    s.seqMoves (t.openEyepiece tap) := by
  have hopen : s.seqMoves (((t.setFlag F.DBG_STAT_OPEN 0 true).setFld F.DBG_STAT_VIA 0 (if tap then 2 else 1)).setFlag
      F.SEC_STAT_DBG 0 true) := ((h.setFlag (by decide)).setFld (by decide)).setFlag (by decide)
  exact (hopen.event (by decide)).raiseFault

theorem State.seqMoves.secSequence {s t : State} (h : s.seqMoves t) (op : SecOp) (tap pending : Bool) :
    s.seqMoves (t.secSequence op tap pending) := by
  cases op with
  | provision => exact h.provision true
  | reprovision => exact h.provision false
  | commission => exact h.keepStore.secFollow
  | ret => exact (h.zeroize true).restartChain.ite h.keepStore.secFollow
  | opn => exact ((h.zeroize false).restartChain.ite h).openEyepiece tap

/-- The pages of a command's end. -/
abbrev endPage (a : Nat) : Prop := blkOf a ∈ [B.ATT, B.DBG, B.KPS, B.SEC]

theorem State.endCommand_moves (s : State) : s.moves endPage s.endCommand :=
  ((State.moves.refl _ s).withSec).setFlag (by decide)

theorem State.endCommand_keep (s : State) : s.endCommand.keep = s.keep := State.setFlag_keep ..
theorem State.endCommand_wear {s : State} (h : s.keep.wear = []) : s.endCommand.keep.wear = [] :=
  (congrArg Keep.wear s.endCommand_keep).trans h
theorem State.endCommand_lmem (s : State) : s.endCommand.lmem = s.lmem := State.setFlag_lmem ..
theorem State.endCommand_idle (s : State) : s.endCommand.sec.cmd = none := congrArg Sec.cmd (State.setFlag_sec ..)
theorem State.endCommand_busy (s : State) : s.endCommand.flag F.SEC_CMD_STAT_BUSY 0 = false :=
  State.flag_setFlag_same _ _ _ _ rfl (by decide)

/-- What every command shows whose sequence has ended well. -/
theorem State.secOk_ends {s u : State} (h : s.endCommand.seqMoves u) :
    u.secOk.sec.cmd = none ∧ u.secOk.flag F.SEC_CMD_STAT_BUSY 0 = false ∧ u.secOk.lmem = s.lmem ∧
      s.regsOutside u.secOk [B.ATT, B.DBG, B.KPS, B.SEC] ∧ u.secOk.fld F.SEC_CMD_STAT_ERR 0 = 0 ∧
      u.secOk.raised B.SEC 0 0 = true := by
  obtain ⟨herr, hraised, hbusy⟩ := u.secOk_shows
  have hmoves := u.secOk_movesRegs
  have hpages : s.moves endPage u :=
    s.endCommand_moves.trans ⟨fun a ha => h.moves.regs a fun hseq => ha hseq.1, h.moves.ctxs, h.moves.hits⟩
  have hbusy' : u.flag F.SEC_CMD_STAT_BUSY 0 = s.endCommand.flag F.SEC_CMD_STAT_BUSY 0 :=
    State.flag_congr (h.moves.regs _ (by decide))
  exact ⟨(congrArg Sec.cmd hmoves.sec).trans (h.cmd.trans s.endCommand_idle),
    hbusy.trans (hbusy'.trans s.endCommand_busy), hmoves.lmem.trans (h.lmem.trans s.endCommand_lmem),
    (hpages.secOk (by decide) (by decide)).regs, herr, hraised⟩

/-- Where the keep store failed, the command is refused with KEEP and nothing else moves. -/
theorem State.secErr_ends (s : State) (op : SecOp) :
    (s.endCommand.secErr (some op) seKeep).secFails 8 ∧ s.regsOutside (s.endCommand.secErr (some op) seKeep)
      [B.ATT, B.DBG, B.KPS, B.SEC] ∧ (s.endCommand.secErr (some op) seKeep).flag F.SEC_CMD_STAT_BUSY 0 = false := by
  obtain ⟨herr, hraised⟩ := s.endCommand.secErr_shows (some op) seKeep (by decide)
  have hmoves := s.endCommand.secErr_movesRegs (some op) seKeep
  have hbusy := congrArg (· == 1) (s.endCommand.secErr_fld (some op) seKeep (f := F.SEC_CMD_STAT_BUSY) (.inr rfl))
  exact ⟨⟨(congrArg Sec.cmd hmoves.sec).trans s.endCommand_idle, herr, hraised⟩,
    (s.endCommand_moves.secErr (fun a ha => by simp [endPage, ha]) (fun a ha => by simp [endPage, ha])).regs,
    hbusy.trans s.endCommand_busy⟩

theorem exec_secCmdDone_ends {s : State} {op : SecOp} {tap : Bool} (ok : Bool) (hcmd : s.sec.cmd = some (op, tap)) :
    ∃ t, exec (.secCmdDone ok) s = .next t ∧ t.sec.cmd = none ∧ t.flag F.SEC_CMD_STAT_BUSY 0 = false ∧ t.lmem = s.lmem ∧
      s.regsOutside t [B.ATT, B.DBG, B.KPS, B.SEC] ∧
      (if ok = true then t.fld F.SEC_CMD_STAT_ERR 0 = 0 ∧ t.raised B.SEC 0 0 = true
      else t.secFails 8 ∧ t.keep = s.keep) := by
  refine ⟨_, next_finish (secCmdDone_eq hcmd ok), ?_⟩
  cases ok with
  | true =>
    obtain ⟨hidle, hbusy, hlmem, hregs, herr, hraised⟩ := State.secOk_ends
      ((State.seqMoves.refl s.endCommand).secSequence op tap (decide (s.zpend ≠ 0)))
    generalize (s.endCommand.secSequence op tap (decide (s.zpend ≠ 0))).secOk = t at *
    exact ⟨hidle, hbusy, hlmem, hregs, herr, hraised⟩
  | false =>
    obtain ⟨hfails, hregs, hbusy⟩ := s.secErr_ends op
    have hmoves := s.endCommand.secErr_movesRegs (some op) seKeep
    obtain ⟨hidle, -⟩ := id hfails
    exact ⟨hidle, hbusy, hmoves.lmem.trans s.endCommand_lmem, hregs, hfails, hmoves.keep.trans s.endCommand_keep⟩

/-- What the sequence leaves in the keep store and to the receipts stands when the command has ended. -/
theorem exec_secCmdDone_done {s u : State} {op : SecOp} {tap : Bool} (hcmd : s.sec.cmd = some (op, tap))
    (hseq : s.endCommand.secSequence op tap (decide (s.zpend ≠ 0)) = u) :
    ∃ t, exec (.secCmdDone true) s = .next t ∧ t.sec.cmd = none ∧ t.raised B.SEC 0 0 = true ∧
      t.flag F.SEC_CMD_STAT_BUSY 0 = false ∧ t.lmem = s.lmem ∧ t.keep = u.keep ∧ t.att = u.att ∧ t.flt = u.flt ∧
      (∀ a, a ≠ F.SEC_CMD_STAT_ERR.addr 0 → a ≠ evtAddr B.SEC 0 → t.reg a = u.reg a) ∧
      ∀ n, u.raised B.SEC 0 n = true → t.raised B.SEC 0 n = true := by
  have hmoved : s.endCommand.seqMoves u := hseq ▸ (State.seqMoves.refl s.endCommand).secSequence op tap _
  obtain ⟨hidle, hbusy, hlmem, -, -, hraised⟩ := State.secOk_ends hmoved
  have hmoves := u.secOk_movesRegs
  have hrun := secCmdDone_eq hcmd true
  rw [hseq, if_pos rfl] at hrun
  refine ⟨s.finish u.secOk, next_finish hrun, hidle, hraised, hbusy, hlmem, hmoves.keep, hmoves.att, hmoves.flt,
    fun a hstat hevt => ?_, fun n hn => ?_⟩
  · exact (State.reg_event_ne _ _ _ _ _ hevt).trans (State.reg_setFld_ne _ _ _ _ _ hstat)
  · exact State.raised_event_keeps _ ((State.raised_congr (State.reg_setFld_ne _ _ _ _ _ (by decide))).trans hn)

/-- The sequence runs from a keep store not yet touched. -/
theorem State.endCommand_shown (s : State) : s.endCommand.lc = s.lc ∧ s.endCommand.secKey = s.secKey ∧
    s.endCommand.epoch = s.epoch ∧ s.endCommand.zpend = s.zpend := State.keepShown_congr s.endCommand_keep

section
variable {s : State} {tap : Bool}

theorem exec_secCmdDone_provision (hcmd : s.sec.cmd = some (.provision, tap)) (hwear : s.keep.wear = []) :
    ∃ t, exec (.secCmdDone true) s = .next t ∧ t.sec.cmd = none ∧ t.lc = 1 ∧ t.secKey = 1 ∧
      t.epoch = (s.epoch + 1) % 65536 ∧ t.att.genNext = true ∧ t.raised B.SEC 0 0 = true ∧
      t.flag F.SEC_CMD_STAT_BUSY 0 = false ∧ t.lmem = s.lmem := by
  obtain ⟨t, ht, hidle, hraised, hbusy, hlmem, hkeep, hatt, -⟩ :=
    exec_secCmdDone_done (u := s.endCommand.provision true) hcmd rfl
  obtain ⟨hlc, hkey, hepoch, -⟩ := State.keepShown_congr hkeep
  obtain ⟨hlc1, hkey1, hepoch1, hgen⟩ := State.provision_shows (s := s.endCommand) (State.endCommand_wear hwear)
  obtain ⟨-, -, hsame, -⟩ := s.endCommand_shown
  exact ⟨t, ht, hidle, hlc.trans hlc1, hkey.trans hkey1, by rw [hepoch, hepoch1, hsame],
    (congrArg Att.genNext hatt).trans hgen, hraised, hbusy, hlmem⟩

theorem exec_secCmdDone_commission (hcmd : s.sec.cmd = some (.commission, tap)) (hwear : s.keep.wear = []) :
    ∃ t, exec (.secCmdDone true) s = .next t ∧ t.sec.cmd = none ∧ t.lc = 2 ∧ t.secKey = s.secKey ∧
      t.epoch = s.epoch ∧ t.raised B.SEC 0 0 = true ∧ t.lmem = s.lmem := by
  obtain ⟨t, ht, hidle, hraised, -, hlmem, hkeep, -⟩ :=
    exec_secCmdDone_done (u := (s.endCommand.keepStore kwLc 2).secFollow) hcmd rfl
  obtain ⟨hlc, hkey, hepoch, -⟩ := State.keepShown_congr (hkeep.trans (State.secFollow_keep _))
  have hworn := State.wornUpTo.of_empty (s := s.endCommand) (State.endCommand_wear hwear)
  obtain ⟨-, hsameKey, hsame, -⟩ := s.endCommand_shown
  refine ⟨t, ht, hidle, hlc.trans (State.lc_keepStore (hworn.keepWorn (by decide) _) 2), ?_, ?_, hraised, hlmem⟩
  · rw [hkey, ← hsameKey, State.secKey, State.keepWord_keepStore_ne _ _ (by decide), State.secKey]
  · rw [hepoch, ← hsame, State.epoch, State.keepWord_keepStore_ne _ _ (by decide), State.epoch]

theorem exec_secCmdDone_return (hcmd : s.sec.cmd = some (.ret, tap)) (hzpend : s.zpend = 2) (hwear : s.keep.wear = []) :
    ∃ t, exec (.secCmdDone true) s = .next t ∧ t.sec.cmd = none ∧ t.lc = 3 ∧ t.secKey ≠ 1 ∧ t.zpend = 0 ∧
      t.keepBytes (kwIdk 0) 12 = List.replicate 48 0 ∧ t.att.genNext = true ∧ t.raised B.SEC 0 4 = true ∧
      t.lmem = s.lmem := by
  obtain ⟨t, ht, hidle, -, -, hlmem, hkeep, hatt, -, -, hraised⟩ :=
    exec_secCmdDone_done (u := (s.endCommand.zeroize true).restartChain) hcmd (by rw [hzpend]; rfl)
  obtain ⟨hlc, hkey, -, hz⟩ := State.keepShown_congr hkeep
  obtain ⟨hlc3, hkeyGone, hz0, hidk⟩ := State.zeroized_shows (s := s.endCommand) (State.endCommand_wear hwear)
  refine ⟨t, ht, hidle, hlc.trans hlc3, fun h1 => hkeyGone (hkey.symm.trans h1), hz.trans hz0,
    State.keepBytes_of_zero fun i hi => ?_, (congrArg Att.genNext hatt).trans (State.restartChain_genNext _),
    hraised 4 (State.zeroized_raised _), hlmem⟩
  exact (State.keepWord_congr (congrArg Keep.words hkeep) (congrArg Keep.bad hkeep) _).trans
      ((congrArg _ (by simp [kwIdk])).trans (hidk i hi))

theorem State.openEyepiece_shows (s : State) (tap : Bool) : (s.openEyepiece tap).dbgOpen = true ∧
    (s.openEyepiece tap).fld F.DBG_STAT_VIA 0 = (if tap = true then 2 else 1) ∧
    (s.openEyepiece tap).raised B.DBG 0 0 = true ∧ 338 ∈ (s.openEyepiece tap).flt.pair ∧
    (s.openEyepiece tap).keep = s.keep := by
  have hstat : (s.openEyepiece tap).reg (F.DBG_STAT_VIA.addr 0) =
      ((s.setFlag F.DBG_STAT_OPEN 0 true).setFld F.DBG_STAT_VIA 0 (if tap then 2 else 1)).reg (F.DBG_STAT_VIA.addr 0) :=
    (State.raiseFault_reg ..).trans
      ((State.reg_event_ne _ _ _ _ _ (by decide)).trans (State.reg_setFlag_ne _ _ _ _ _ (by decide)))
  refine ⟨(State.flag_congr (f := F.DBG_STAT_OPEN) (i := 0) hstat).trans ?_, (State.fld_congr hstat).trans ?_, ?_,
      State.raiseFault_mem _ _, ?_⟩
  · have hopen := (s.setFlag F.DBG_STAT_OPEN 0 true).fld_setFld_bits F.DBG_STAT_VIA F.DBG_STAT_OPEN 0 0
      (if tap then 2 else 1) (by decide) (by decide)
    exact (congrArg (· == 1) hopen).trans (State.flag_setFlag_same _ _ _ _ rfl (by decide))
  · rw [State.fld_setFld_same _ _ _ _ (by decide)]
    cases tap <;> rfl
  · exact (State.raised_congr (State.raiseFault_reg ..)).trans (State.event_bit _ _ _ _ (by decide))
  · unfold State.openEyepiece
    rw [State.raiseFault_keep, State.event_keep, State.setFlag_keep, State.setFld_keep, State.setFlag_keep]

theorem exec_secCmdDone_open (hcmd : s.sec.cmd = some (.opn, tap)) (hzpend : s.zpend = 0) :
    ∃ t, exec (.secCmdDone true) s = .next t ∧ t.sec.cmd = none ∧ t.dbgOpen = true ∧
      t.fld F.DBG_STAT_VIA 0 = (if tap = true then 2 else 1) ∧ 338 ∈ t.flt.pair ∧ t.raised B.DBG 0 0 = true ∧
      t.raised B.SEC 0 0 = true ∧ t.keep = s.keep ∧ t.lmem = s.lmem := by
  obtain ⟨t, ht, hidle, hraised, -, hlmem, hkeep, -, hflt, hregs, -⟩ :=
    exec_secCmdDone_done (u := s.endCommand.openEyepiece tap) hcmd (by rw [hzpend]; rfl)
  obtain ⟨hopen, hvia, hevent, hfault, hkept⟩ := s.endCommand.openEyepiece_shows tap
  exact ⟨t, ht, hidle, (State.flag_congr (hregs _ (by decide) (by decide))).trans hopen,
    (State.fld_congr (hregs _ (by decide) (by decide))).trans hvia, hflt ▸ hfault,
    (State.raised_congr (hregs _ (by decide) (by decide))).trans hevent, hraised,
    hkeep.trans (hkept.trans s.endCommand_keep), hlmem⟩

end

/-! ### A checkpoint commit ends (R162, R163) -/

/-- The oldest commit is off the line. -/
def State.dropCommit (s : State) (rest : List Ckpt) : State :=
  { s with att := { s.att with ckpts := rest } }.setFlag F.ATT_STAT_CKPT_BUSY 0 (!rest.isEmpty)

/-- A word of the commit's record, or the selector, is worn. -/
def State.commitWorn (s : State) : Bool :=
  s.keepWorn kwSel || (List.range 17).any fun i => s.keepWorn (kwCkpt (1 - s.ckptSel) i)

/-- A commit that could not be written. -/
def State.failCommit (s : State) : State :=
  ({ s with att := { s.att with ckptFailed := true } }.event B.ATT 0 2
      |>.raiseFault 337).setFlag F.SEC_STAT_SIGN_OK 0 false

/-- The seventeen words of the record a commit writes. -/
def State.commitRecord (s : State) (k : Ckpt) : List Word :=
  ckptWords (k.head.getD (s.ckptCtr, s.ckptHead)).2 (k.head.getD (s.ckptCtr, s.ckptHead)).1 (k.ceil.getD s.ckptCeil) ++
    [if k.clean then 1 else 0]

/-- The record `b` is written, and then the selector points to it. -/
def State.writeCommit (s : State) (k : Ckpt) (b : Nat) : State :=
  ((s.keepStores (kwCkpt b 0) (s.commitRecord k)).keepStore kwSel (BitVec.ofNat 32 b)).event B.ATT 0 1

theorem ckptDone_eq {s : State} {k : Ckpt} {rest : List Ckpt} (h : s.att.ckpts = k :: rest) (ok : Bool) :
    ckptDone ok s = if !ok || s.commitWorn then
        (if s.commitWorn then (s.dropCommit rest).raiseFault 376 else s.dropCommit rest).failCommit
      else (s.dropCommit rest).writeCommit k (1 - s.ckptSel) := by
  unfold ckptDone
  rw [h]
  rfl

theorem State.commitWorn_of_unworn {s : State} (h : s.keep.wear = []) : s.commitWorn = false := by
  have hworn := (State.wornUpTo.of_empty h).keepWorn (by decide)
  simp [State.commitWorn, hworn]

theorem State.dropCommit_keep (s : State) (rest : List Ckpt) : (s.dropCommit rest).keep = s.keep :=
    State.setFlag_keep ..

/-- What a failed commit shows, and what it leaves alone. -/
theorem State.failCommit_shows (s : State) : s.failCommit.att.ckpts = s.att.ckpts ∧ s.failCommit.att.ckptFailed = true ∧
    s.failCommit.raised B.ATT 0 2 = true ∧ 337 ∈ s.failCommit.flt.pair ∧
    s.failCommit.flag F.SEC_STAT_SIGN_OK 0 = false ∧
    s.failCommit.keep = s.keep ∧ s.failCommit.lmem = s.lmem ∧
    ∀ a, a ≠ evtAddr B.ATT 0 → a ≠ F.SEC_STAT_SIGN_OK.addr 0 → s.failCommit.reg a = s.reg a := by
  unfold State.failCommit
  refine ⟨?_, ?_, ?_, ?_, State.flag_setFlag_same _ _ _ _ rfl (by decide), ?_, ?_, fun a hevt hsign => ?_⟩
  · rw [State.setFlag_att, State.raiseFault_att, State.event_att]
  · rw [State.setFlag_att, State.raiseFault_att, State.event_att]
  · refine (State.raised_congr ((State.reg_setFlag_ne _ _ _ _ _ (by decide)).trans (State.raiseFault_reg ..))).trans ?_
    exact State.event_bit _ _ _ _ (by decide)
  · rw [State.setFlag_flt]
    exact State.raiseFault_mem _ _
  · rw [State.setFlag_keep, State.raiseFault_keep, State.event_keep]
  · rw [State.setFlag_lmem, State.raiseFault_lmem, State.event_lmem]
  · exact (State.reg_setFlag_ne _ _ _ _ _ hsign).trans
      ((State.raiseFault_reg ..).trans (State.reg_event_ne _ _ _ _ _ hevt))

theorem State.commitRecord_length (s : State) (k : Ckpt) : (s.commitRecord k).length = 17 := by
  simp [State.commitRecord, ckptWords]

theorem State.ckptSel_le (s : State) : s.ckptSel ≤ 1 := Nat.le_of_lt_succ (Nat.mod_lt _ (by decide))

section
variable {s : State} {k : Ckpt} {b : Nat}

theorem State.keepWord_event (s : State) (blk i n x : Nat) : (s.event blk i n).keepWord x = s.keepWord x :=
  State.keepWord_congr (congrArg Keep.words (State.event_keep ..)) (congrArg Keep.bad (State.event_keep ..)) x

theorem State.writeCommit_att (s : State) (k : Ckpt) (b : Nat) : (s.writeCommit k b).att = s.att := by
  rw [State.writeCommit, State.event_att, State.keepStore_att, State.keepStores_att]

theorem State.writeCommit_lmem (s : State) (k : Ckpt) (b : Nat) : (s.writeCommit k b).lmem = s.lmem := by
  rw [State.writeCommit, State.event_lmem, State.keepStore_lmem, State.keepStores_lmem]

theorem State.ckptSel_writeCommit (h : s.wornUpTo 0) (hb : b ≤ 1) : (s.writeCommit k b).ckptSel = b := by
  have hworn := h.keepStores (kwCkpt b 0) (s.commitRecord k)
  rw [State.commitRecord_length] at hworn
  rw [State.ckptSel, State.writeCommit, State.keepWord_event,
    State.keepWord_keepStore_same _ _ (hworn.keepWorn (by decide) _), BitVec.toNat_ofNat]
  omega

/-- The record written reads as the commit has it. -/
theorem State.keepWord_writeCommit (h : s.wornUpTo 0) (hb : b ≤ 1) {i : Nat} (hi : i < 17) :
    (s.writeCommit k b).keepWord (kwCkpt b i) = (s.commitRecord k)[i]'(s.commitRecord_length k ▸ hi) := by
  rw [State.writeCommit, State.keepWord_event, State.keepWord_keepStore_ne _ _ (by simp only [kwCkpt, kwSel]; omega)]
  exact State.keepWord_keepStores_in (x := kwCkpt b 0) h (by rw [State.commitRecord_length]; decide) _

/-- The other record stays. -/
theorem State.keepWord_writeCommit_other (hb : b ≤ 1) {i : Nat} (hi : i < 17) :
    (s.writeCommit k (1 - b)).keepWord (kwCkpt b i) = s.keepWord (kwCkpt b i) := by
  rw [State.writeCommit, State.keepWord_event, State.keepWord_keepStore_ne _ _ (by simp only [kwCkpt, kwSel]; omega),
    State.keepWord_keepStores_out]
  rw [State.commitRecord_length]
  simp only [kwCkpt]
  omega

/-- A number of 64 bits, from its two words. -/
theorem two_words_toNat {n : Nat} (h : n < 2 ^ 64) :
    (BitVec.ofNat 32 n).toNat + 2 ^ 32 * (BitVec.ofNat 32 (n / 2 ^ 32)).toNat = n := by
  simp only [BitVec.toNat_ofNat]
  omega

theorem State.writeCommit_shows (h : s.wornUpTo 0) (hb : b ≤ 1)
    (hctr : (k.head.getD (s.ckptCtr, s.ckptHead)).1 < 2 ^ 64) (hceil : k.ceil.getD s.ckptCeil < 2 ^ 64) :
    (s.writeCommit k b).ckptCtr = (k.head.getD (s.ckptCtr, s.ckptHead)).1 ∧
      (s.writeCommit k b).ckptCeil = k.ceil.getD s.ckptCeil ∧ (s.writeCommit k b).ckptClean = k.clean := by
  have hword {i : Nat} (hi : i < 17) := State.keepWord_writeCommit (k := k) h hb hi
  have hsel := State.ckptSel_writeCommit (k := k) h hb
  refine ⟨?_, ?_, ?_⟩
  · rw [State.ckptCtr, hsel, hword (by decide), hword (by decide)]
    exact two_words_toNat hctr
  · rw [State.ckptCeil, hsel, hword (by decide), hword (by decide)]
    exact two_words_toNat hceil
  · rw [State.ckptClean, hsel, hword (by decide)]
    show ((if k.clean then 1 else 0 : Word) == 1) = k.clean
    cases k.clean <;> rfl

end

/-- States with one keep store show one checkpoint. -/
theorem State.ckptShown_congr {s t : State} (h : t.keep = s.keep) : t.ckptSel = s.ckptSel ∧ t.ckptCtr = s.ckptCtr ∧
    t.ckptHead = s.ckptHead ∧ t.ckptCeil = s.ckptCeil := by
  have hw := State.keepWord_congr (congrArg Keep.words h) (congrArg Keep.bad h)
  have hsel : t.ckptSel = s.ckptSel := by rw [State.ckptSel, hw, State.ckptSel]
  refine ⟨hsel, ?_, ?_, ?_⟩
  · rw [State.ckptCtr, hsel, hw, hw, State.ckptCtr]
  · simp only [State.ckptHead, State.keepWords, hsel, hw]
  · rw [State.ckptCeil, hsel, hw, hw, State.ckptCeil]

/-- The pages of a commit's end. -/
abbrev commitPage (a : Nat) : Prop := blkOf a ∈ [B.ATT, B.KPS, B.SEC]

theorem State.dropCommit_shows (s : State) (rest : List Ckpt) : s.moves commitPage (s.dropCommit rest) ∧
    (s.dropCommit rest).att.ckpts = rest ∧ (s.dropCommit rest).flag F.ATT_STAT_CKPT_BUSY 0 = !rest.isEmpty ∧
    (s.dropCommit rest).lmem = s.lmem :=
  ⟨((State.moves.refl _ s).withAtt).setFlag (by decide), congrArg Att.ckpts (State.setFlag_att ..),
    State.flag_setFlag_same _ _ _ _ rfl (by decide), State.setFlag_lmem ..⟩

section
variable {s : State} {k : Ckpt} {rest : List Ckpt} (h : s.att.ckpts = k :: rest) (hwear : s.keep.wear = [])
include h hwear

theorem exec_ckptDone_failed : ∃ t, exec (.ckptDone false) s = .next t ∧ t.att.ckpts = rest ∧
    t.flag F.ATT_STAT_CKPT_BUSY 0 = !rest.isEmpty ∧ t.lmem = s.lmem ∧ s.regsOutside t [B.ATT, B.KPS, B.SEC] ∧
    t.keep = s.keep ∧ 337 ∈ t.flt.pair ∧ t.raised B.ATT 0 2 = true ∧ t.flag F.SEC_STAT_SIGN_OK 0 = false := by
  have hrun : ckptDone false s = (s.dropCommit rest).failCommit := by
    rw [ckptDone_eq h false, State.commitWorn_of_unworn hwear]
    rfl
  obtain ⟨hpages, hckpts, hbusy, hlmem⟩ := s.dropCommit_shows rest
  obtain ⟨hatt, -, hraised, hfault, hsign, hkeep, hlmem', hregs⟩ := (s.dropCommit rest).failCommit_shows
  have hline := hatt.trans hckpts
  have hbusy' := (State.flag_congr (hregs _ (by decide) (by decide))).trans hbusy
  have hlmemKept := hlmem'.trans hlmem
  have hkept := hkeep.trans (s.dropCommit_keep rest)
  have houtside (a : Nat) (ha : blkOf a ∉ [B.ATT, B.KPS, B.SEC]) := (hregs a (fun e => ha (by rw [e]; decide))
    (fun e => ha (by rw [e]; decide))).trans (hpages.regs a ha)
  obtain ⟨u, hu⟩ : ∃ u, (s.dropCommit rest).failCommit = u := ⟨_, rfl⟩
  rw [hu] at hrun hline hbusy' hlmemKept hkept hfault hraised hsign
  simp only [hu] at houtside
  exact ⟨s.finish u, next_finish hrun, hline, hbusy', hlmemKept, houtside, hkept, hfault, hraised, hsign⟩

theorem exec_ckptDone_written (hctr : (k.head.getD (s.ckptCtr, s.ckptHead)).1 < 2 ^ 64)
    (hceil : k.ceil.getD s.ckptCeil < 2 ^ 64) : ∃ t, exec (.ckptDone true) s = .next t ∧ t.att.ckpts = rest ∧
    t.flag F.ATT_STAT_CKPT_BUSY 0 = !rest.isEmpty ∧ t.lmem = s.lmem ∧ s.regsOutside t [B.ATT, B.KPS, B.SEC] ∧
    t.ckptSel = 1 - s.ckptSel ∧ t.ckptCtr = (k.head.getD (s.ckptCtr, s.ckptHead)).1 ∧
    t.ckptCeil = k.ceil.getD s.ckptCeil ∧ t.ckptClean = k.clean ∧ t.raised B.ATT 0 1 = true ∧
    ∀ i, i < 17 → t.keepWord (kwCkpt s.ckptSel i) = s.keepWord (kwCkpt s.ckptSel i) := by
  have hrun := ckptDone_eq h true
  rw [State.commitWorn_of_unworn hwear, if_neg (by decide)] at hrun
  obtain ⟨hpages, hckpts, hbusy, hlmem⟩ := s.dropCommit_shows rest
  have hkeep := s.dropCommit_keep rest
  have hworn : (s.dropCommit rest).wornUpTo 0 := (State.wornUpTo.of_empty hwear).congr hkeep
  obtain ⟨-, hctrSame, hheadSame, hceilSame⟩ := State.ckptShown_congr hkeep
  have hb : 1 - s.ckptSel ≤ 1 := Nat.sub_le _ _
  rw [← hctrSame, ← hheadSame] at hctr ⊢
  rw [← hceilSame] at hceil ⊢
  obtain ⟨hctr', hceil', hclean⟩ := State.writeCommit_shows hworn hb hctr hceil
  have hsel := State.ckptSel_writeCommit (k := k) hworn hb
  have hevent : ((s.dropCommit rest).writeCommit k (1 - s.ckptSel)).raised B.ATT 0 1 = true :=
    State.event_bit _ _ _ _ (by decide)
  have hother {i : Nat} (hi : i < 17) := State.keepWord_writeCommit_other (s := s.dropCommit rest)
      (k := k) s.ckptSel_le hi
  have hkps (a : Nat) (ha : blkOf a = B.KPS) : commitPage a := by rw [commitPage, ha]; decide
  have hstores := (State.moves.refl (fun a => blkOf a = B.KPS) (s.dropCommit rest)).keepStores (fun _ ha => ha)
    (x := kwCkpt (1 - s.ckptSel) 0) (vs := (s.dropCommit rest).commitRecord k) |>.keepStore (fun _ ha => ha)
    (x := kwSel)
    (v := BitVec.ofNat 32 (1 - s.ckptSel))
  have hregs (a : Nat) (hblk : blkOf a ≠ B.KPS) (hevt : a ≠ evtAddr B.ATT 0) :
      ((s.dropCommit rest).writeCommit k (1 - s.ckptSel)).reg a = (s.dropCommit rest).reg a :=
    (State.reg_event_ne _ _ _ _ _ hevt).trans (hstores.regs a hblk)
  have hline := (congrArg Att.ckpts ((s.dropCommit rest).writeCommit_att k (1 - s.ckptSel))).trans hckpts
  have hbusy' := (State.flag_congr (hregs _ (by decide) (by decide))).trans hbusy
  have hlmemKept := ((s.dropCommit rest).writeCommit_lmem k (1 - s.ckptSel)).trans hlmem
  have houtside (a : Nat) (ha : blkOf a ∉ [B.ATT, B.KPS, B.SEC]) := (hregs a (fun hk => ha (hkps a hk))
    (fun e => ha (by rw [e]; decide))).trans (hpages.regs a ha)
  have hkept {i : Nat} (hi : i < 17) := (hother hi).trans
    (State.keepWord_congr (congrArg Keep.words hkeep) (congrArg Keep.bad hkeep) (kwCkpt s.ckptSel i))
  generalize (s.dropCommit rest).writeCommit k (1 - s.ckptSel) = u at *
  exact ⟨s.finish u, next_finish hrun, hline, hbusy', hlmemKept, houtside, hsel, hctr', hceil', hclean, hevent,
    fun i hi => hkept hi⟩

end

/-- Settles O30: every command's end by the moves of its sequence, and the words it leaves by the keep writes of it. -/
theorem securityCompletions : Obligations.SecurityCompletions := by
  unfold Obligations.SecurityCompletions
  refine ⟨fun s tap hcmd hwear => exec_secCmdDone_provision hcmd hwear,
    fun s tap hcmd hwear => exec_secCmdDone_commission hcmd hwear, fun s tap hcmd hz => exec_secCmdDone_open hcmd hz,
    fun s tap hcmd hz hwear => exec_secCmdDone_return hcmd hz hwear,
    fun s op tap ok hcmd => exec_secCmdDone_ends ok hcmd, fun s k rest ok h hwear hctr hceil => ?_⟩
  cases ok with
  | true => exact exec_ckptDone_written h hwear hctr hceil
  | false => exact exec_ckptDone_failed h hwear

end Sys2Proof.Machine
end

section
/-! PROOFS. The TAP's instructions and the debug window (R172, R174, R178, R411). -/

namespace Sys2Proof.Machine

/-! ### Instructions loaded -/

section
variable {s : State} (hon : s.tapOn = true)
include hon

theorem State.extest_loads (ir : Nat) : s.extest ir = { s with sec := { s.sec with tap :=
    if s.extestOk = true then { ir := ir, safe := decide (s.lc ≠ 0) } else { ir := 0xFF, safe := false } } } := by
  unfold State.extest
  rw [hon, if_neg (by decide)]
  cases s.extestOk with
  | true => rfl
  | false => rfl

theorem exec_scan_loads : ∃ t, exec .scan s = .next t ∧ t.sec.tap.ir = (if s.dbgOpen = true then 0x20 else 0xFF) ∧
    t.regs = s.regs ∧ t.keep = s.keep ∧ t.lmem = s.lmem := by
  refine ⟨_, next_finish (if_neg (by rw [hon]; decide)), ?_⟩
  cases s.dbgOpen with
  | true => exact ⟨rfl, rfl, rfl, rfl⟩
  | false => exact ⟨rfl, rfl, rfl, rfl⟩

end

/-! ### The debug window (R178) -/

/-- A window that is on works with SEC on and the Eyepiece open. -/
theorem State.winOn_iff (s : State) : s.winOn = true ↔
    s.domOn .sec = true ∧ s.dbgOpen = true ∧ s.flag F.DBG_WIN_CTRL_EN 0 = true := by
  simp [State.winOn, and_assoc]

theorem State.pair64_setPair64_winAddr (s : State) (v : Nat) :
    (s.setPair64 F.DBG_WIN_ADDR_LO 0 v).winAddr = v % 2 ^ 64 := by
  have hhigh : (s.setPair64 F.DBG_WIN_ADDR_LO 0 v).reg (F.DBG_WIN_ADDR_LO.addr 0 + 4) = BitVec.ofNat 32 (v / 2 ^ 32) :=
    State.reg_setReg_same _ _ _
  have hlow : (s.setPair64 F.DBG_WIN_ADDR_LO 0 v).reg (F.DBG_WIN_ADDR_LO.addr 0) = BitVec.ofNat 32 v :=
    (State.reg_setReg_ne _ _ _ _ (by decide)).trans (State.reg_setReg_same _ _ _)
  rw [State.winAddr, State.pair64, hhigh, hlow, BitVec.toNat_ofNat, BitVec.toNat_ofNat]
  omega

/-- The advance moves the address alone, by 4 where INC is set. -/
theorem State.winStep_shows (s : State) :
    s.winStep.winAddr = (if s.flag F.DBG_WIN_CTRL_INC 0 = true then (s.winAddr + 4) % 2 ^ 64 else s.winAddr) ∧
      s.regsBut s.winStep [F.DBG_WIN_ADDR_LO.addr 0, F.DBG_WIN_ADDR_HI.addr 0] ∧ s.movesRegs s.winStep := by
  unfold State.winStep
  split
  · exact ⟨s.pair64_setPair64_winAddr _, ((State.moves.refl (· ∈ [F.DBG_WIN_ADDR_LO.addr 0, F.DBG_WIN_ADDR_HI.addr 0])
      s).setPair64 (by decide) (by decide)).regs, State.movesRegs_setPair64 _ _ _ _⟩
  · exact ⟨rfl, fun _ _ => rfl, s.movesRegs_refl⟩

/-- The word at the window's address, answered: the one stored, or a free one. -/
def State.winAnswer (s : State) : State :=
  match s.sec.win.get (fun _ => none) s.winAddr with
  | some w => s.answer w
  | none => s.draw.2.answer (BitVec.ofNat 32 s.draw.1)

theorem State.winRead_on {s : State} (h : s.winOn = true) : s.winRead = s.winAnswer.winStep := by
  unfold State.winRead State.winAnswer
  rw [h, if_neg (by decide)]
  cases s.sec.win.get (fun _ => none) s.winAddr with
  | some w => rfl
  | none => rfl

theorem State.winAnswer_shows (s : State) : s.winAnswer.regs = s.regs ∧ s.winAnswer.lmem = s.lmem ∧
    s.winAnswer.sec = s.sec ∧ s.winAnswer.keep = s.keep ∧ ((s.sec.win.get (fun _ => none) s.winAddr).isSome = true →
      s.winAnswer.reply.word = (s.sec.win.get (fun _ => none) s.winAddr).getD 0) := by
  unfold State.winAnswer
  cases s.sec.win.get (fun _ => none) s.winAddr with
  | some w => exact ⟨rfl, rfl, rfl, rfl, fun _ => rfl⟩
  | none => exact ⟨rfl, rfl, rfl, rfl, fun h => absurd h (by decide)⟩

theorem State.winRead_off {s : State} (h : s.winOn = false) : s.winRead = s.answer 0 := by
  unfold State.winRead
  rw [h, Bool.not_false, if_pos rfl]

/-- The window's address and INC stand in registers. -/
theorem State.winShown_congr {s t : State} (h : t.regs = s.regs) :
    t.winAddr = s.winAddr ∧ t.flag F.DBG_WIN_CTRL_INC 0 = s.flag F.DBG_WIN_CTRL_INC 0 :=
  ⟨by rw [State.winAddr, State.pair64, State.reg_congr h, State.reg_congr h]; rfl,
   State.flag_congr (State.reg_congr h _)⟩

theorem exec_dbgWinRead_on {s : State} (hon : s.winOn = true) : ∃ t, exec .dbgWinRead s = .next t ∧
    ((s.sec.win.get (fun _ => none) s.winAddr).isSome = true →
      t.reply.word = (s.sec.win.get (fun _ => none) s.winAddr).getD 0) ∧ t.sec.win = s.sec.win ∧
    t.winAddr = (if s.flag F.DBG_WIN_CTRL_INC 0 = true then (s.winAddr + 4) % 2 ^ 64 else s.winAddr) ∧
    s.regsBut t [F.DBG_WIN_ADDR_LO.addr 0, F.DBG_WIN_ADDR_HI.addr 0] ∧ t.lmem = s.lmem := by
  obtain ⟨hregs, hlmem, hsec, -, hword⟩ := s.winAnswer_shows
  obtain ⟨haddr, hregs', hmoves⟩ := s.winAnswer.winStep_shows
  obtain ⟨haddrSame, hincSame⟩ := State.winShown_congr hregs
  rw [haddrSame, hincSame] at haddr
  have hreply : s.winAnswer.winStep.reply = s.winAnswer.reply := by obtain ⟨r, w, hr⟩ := hmoves; rw [hr]
  exact ⟨s.finish s.winAnswer.winStep, next_finish (State.winRead_on hon),
    fun h => (congrArg Reply.word hreply).trans (hword h), congrArg Sec.win (hmoves.sec.trans hsec), haddr,
    fun a ha => (hregs' a ha).trans (State.reg_congr hregs a), hmoves.lmem.trans hlmem⟩

theorem exec_dbgWinRead_off {s : State} (hoff : s.winOn = false) : ∃ t, exec .dbgWinRead s = .next t ∧
    t.lmem = s.lmem ∧ t.reply.word = 0 ∧ t.regs = s.regs ∧ t.sec = s.sec :=
  ⟨_, next_finish (State.winRead_off hoff), rfl, rfl, rfl, rfl⟩

/-- The word stored where the window points. -/
def State.winStore (s : State) (v : Word) : State :=
  { s with sec := { s.sec with win := s.sec.win.set (fun _ => none) s.winAddr (some v) } }

theorem State.winWrite_on {s : State} (h : s.winOn = true) (v : Word) : s.winWrite v = (s.winStore v).winStep := by
  unfold State.winWrite
  rw [h, if_neg (by decide)]
  rfl

/-- A write of DBG_WIN_DATA arrives from the host at the open page, and over the TAP outside LOCKDOWN. -/
theorem State.onSecPage_winData {s : State} {tap : Bool} (hon : s.domOn .sec = true)
    (hway : if tap = true then s.sys.mode ≠ .lockdown else s.openPage B.DBG 0) (f : State → State) :
    s.onSecPage tap B.DBG 0 F.DBG_WIN_DATA.off f = f s := by
  cases tap with
  | true =>
    rw [if_pos rfl] at hway
    simp [State.onSecPage, State.tapTakes, hon, hway]
  | false =>
    rw [if_neg Bool.false_ne_true] at hway
    obtain ⟨hmode, hpage, hpageOn⟩ := hway
    exact State.onPage_open s _ _ _ f hmode hpage hpageOn (by decide)

theorem exec_dbgWinWrite_on {s : State} {tap : Bool} (v : Word) (hon : s.winOn = true)
    (hway : if tap = true then s.sys.mode ≠ .lockdown else s.openPage B.DBG 0) :
    ∃ t, exec (.dbgWinWrite v tap) s = .next t ∧ t.sec.win.get (fun _ => none) s.winAddr = some v ∧
      t.winAddr = (if s.flag F.DBG_WIN_CTRL_INC 0 = true then (s.winAddr + 4) % 2 ^ 64 else s.winAddr) ∧
      s.regsBut t [F.DBG_WIN_ADDR_LO.addr 0, F.DBG_WIN_ADDR_HI.addr 0] ∧ t.lmem = s.lmem := by
  obtain ⟨hsec, -, -⟩ := s.winOn_iff.mp hon
  obtain ⟨haddr, hregs, hmoves⟩ := (s.winStore v).winStep_shows
  have hwin : (s.winStore v).winStep.sec.win = s.sec.win.set (fun _ => none) s.winAddr (some v) :=
    congrArg Sec.win hmoves.sec
  exact ⟨s.finish (s.winStore v).winStep,
    next_finish ((State.onSecPage_winData hsec hway _).trans (State.winWrite_on hon v)),
    (congrArg (·.get (fun _ => none) s.winAddr) hwin).trans (Sparse.get_set_same _ _ _ _), haddr, hregs, hmoves.lmem⟩

/-! ### SECACC (R172) -/

/-- SECACC is the TAP's instruction. -/
def State.loadSecacc (s : State) : State := s.tapLoad 0x10 false

section
variable {s : State} (htap : s.tapOn = true)
include htap

/-- Outside the SEC and DBG pages an access reads 0 and writes nothing. -/
theorem secacc_elsewhere {a : Nat} (ha : a < 2 ^ 27) (h : (blkOf a ≠ B.SEC ∧ blkOf a ≠ B.DBG) ∨ instOf a ≠ 0)
    (write : Bool)
    (v : Word) : secacc write a v s = if write then s.loadSecacc else s.loadSecacc.answer 0 := by
  unfold secacc bar0Size
  rw [Nat.mod_eq_of_lt ha]
  dsimp only
  rw [blkOf_word, instOf_word, htap, if_neg (by decide), if_pos h]
  rfl

/-- Within them a read is one of the register there. -/
theorem secacc_read {a : Nat} (ha : a < 2 ^ 27) (h : ¬ ((blkOf a ≠ B.SEC ∧ blkOf a ≠ B.DBG) ∨ instOf a ≠ 0))
    (v : Word) :
    secacc false a v s = s.loadSecacc.readAddr .eyepiece (a / 4 * 4) := by
  unfold secacc bar0Size
  rw [Nat.mod_eq_of_lt ha]
  dsimp only
  rw [blkOf_word, instOf_word, htap, if_neg (by decide), if_neg h]
  rfl

end

/-- `t` has the keep store, LMEM and TAP of `s`. -/
abbrev State.readKeeps (s t : State) : Prop := t.keep = s.keep ∧ t.lmem = s.lmem ∧ t.sec.tap = s.sec.tap

theorem State.winRead_keeps (s : State) : s.readKeeps s.winRead := by
  cases hon : s.winOn with
  | true =>
    obtain ⟨-, hlmem, hsec, hkeep, -⟩ := s.winAnswer_shows
    obtain ⟨-, -, hmoves⟩ := s.winAnswer.winStep_shows
    rw [State.winRead_on hon]
    exact ⟨hmoves.keep.trans hkeep, hmoves.lmem.trans hlmem, congrArg Sec.tap (hmoves.sec.trans hsec)⟩
  | false =>
    rw [State.winRead_off hon]
    exact ⟨rfl, rfl, rfl⟩

/-- A read of a register of SEC or DBG. -/
theorem State.readPage_secKeeps (s : State) (path : Path) {blk : Nat} (hint : blk ≠ B.INT) (hkps : blk ≠ B.KPS)
    (i off : Nat) :
    s.readKeeps (s.readPage path blk i off) := by
  unfold State.readPage
  rw [if_neg (c := blk = B.INT ∧ _) (fun h => hint h.1), if_neg (c := blk = B.KPS ∧ _) (fun h => hkps h.1)]
  split
  · exact ⟨rfl, rfl, rfl⟩
  split
  · exact ⟨rfl, rfl, rfl⟩
  split
  · exact s.winRead_keeps
  · exact ⟨rfl, rfl, rfl⟩

theorem State.readAddr_secKeeps (s : State) (path : Path) {a : Nat} (hblk : blkOf a = B.SEC ∨ blkOf a = B.DBG)
    (hinst : instOf a = 0) (ha : a < 2 ^ 27) : s.readKeeps (s.readAddr path (a / 4 * 4)) := by
  have hpage : pageExists (blkOf a) 0 = true := by rcases hblk with h | h <;> rw [h] <;> decide
  have hmsix : blkOf a ≠ 0x7F := by rcases hblk with h | h <;> rw [h] <;> decide
  have hint : blkOf a ≠ B.INT := by rcases hblk with h | h <;> rw [h] <;> decide
  have hkps : blkOf a ≠ B.KPS := by rcases hblk with h | h <;> rw [h] <;> decide
  have hword : a / 4 * 4 % 2 ^ 27 / 4 * 4 = a / 4 * 4 := by omega
  unfold State.readAddr
  dsimp only
  rw [hword, blkOf_word, instOf_word, hinst, if_neg hmsix, if_neg (by decide), if_pos hpage]
  split
  · exact s.readPage_secKeeps path hint hkps _ _
  · exact ⟨rfl, rfl, rfl⟩

theorem exec_secacc_accesses {s : State} (write : Bool) {a : Nat} (v : Word) (htap : s.tapOn = true) (ha : a < 2 ^ 27) :
    ∃ t, exec (.secacc write a v) s = .next t ∧
      (write = false → t.sec.tap.ir = 0x10 ∧ t.lmem = s.lmem ∧ t.keep = s.keep) ∧
      ((blkOf a ≠ B.SEC ∧ blkOf a ≠ B.DBG) ∨ instOf a ≠ 0 →
        t.sec.tap.ir = 0x10 ∧ t.regs = s.regs ∧ t.lmem = s.lmem ∧ (write = false → t.reply.word = 0)) := by
  by_cases h : (blkOf a ≠ B.SEC ∧ blkOf a ≠ B.DBG) ∨ instOf a ≠ 0
  · refine ⟨_, next_finish (secacc_elsewhere htap ha h write v), ?_⟩
    cases write with
    | true => exact ⟨fun hw => absurd hw (by decide), fun _ => ⟨rfl, rfl, rfl, fun hw => absurd hw (by decide)⟩⟩
    | false => exact ⟨fun _ => ⟨rfl, rfl, rfl⟩, fun _ => ⟨rfl, rfl, rfl, fun _ => rfl⟩⟩
  · cases write with
    | true => exact ⟨_, rfl, fun hw => absurd hw (by decide), fun hout => absurd hout h⟩
    | false =>
      have hpage : (blkOf a = B.SEC ∨ blkOf a = B.DBG) ∧ instOf a = 0 := by
        simpa only [not_or, not_and_or, not_not, ne_eq] using h
      obtain ⟨hkeep, hlmem, htapKept⟩ := s.loadSecacc.readAddr_secKeeps .eyepiece hpage.1 hpage.2 ha
      exact ⟨_, next_finish (secacc_read htap ha h v), fun _ => ⟨congrArg Tap.ir htapKept, hlmem, hkeep⟩,
        fun hout => absurd hout h⟩

/-- SEC_STAT shows the SEC page's state. -/
theorem State.showPage_secStat (s : State) : s.showPage B.SEC 0 F.SEC_STAT.off = BitVec.ofNat 32 s.secStat := by
  have hrow : ∃ r, rowAt B.SEC 0 F.SEC_STAT.off = some (r, 0) ∧ r.off = F.SEC_STAT.off := ⟨_, rfl, rfl⟩
  obtain ⟨r, hrow, hoff⟩ := hrow
  unfold State.showPage
  rw [if_neg (by decide), if_neg (by decide), if_neg (by decide), if_neg (by decide), hrow]
  unfold State.showReg
  have hview : s.viewFrames B.SEC r.off 0 = some (BitVec.ofNat 32 s.secStat) := by
    rw [hoff]
    rfl
  simp only [hview, B.SEC, B.APR]
  rfl

/-- A read of SEC_STAT has no effect but its answer. -/
theorem State.readAddr_secStat {s : State} (path : Path) (hon : s.domOn .sec = true) :
    s.readAddr path (F.SEC_STAT.addr 0 / 4 * 4) = s.answer (BitVec.ofNat 32 s.secStat) := by
  have haddr : F.SEC_STAT.addr 0 / 4 * 4 = regAddr B.SEC 0 F.SEC_STAT.off := by decide
  have hpage : s.pageOn B.SEC 0 = true := hon
  rw [haddr, State.readAddr_page s path _ _ _ (by decide) hpage (by decide) (by decide)]
  unfold State.readPage
  rw [if_neg (by decide), if_neg (by decide), if_neg (by decide), if_neg (by decide), if_neg (by decide)]
  exact congrArg s.answer s.showPage_secStat

/-- SEC_STAT stands in registers and the keep store. -/
theorem State.secStat_congr {s t : State} (hregs : t.regs = s.regs) (hkeep : t.keep = s.keep) :
    t.secStat = s.secStat := by
  have hw := State.keepWord_congr (congrArg Keep.words hkeep) (congrArg Keep.bad hkeep)
  obtain ⟨hlc, hkey, -, hzpend⟩ := State.keepShown_congr hkeep
  have hopen : t.dbgOpen = s.dbgOpen := State.flag_congr (State.reg_congr hregs _)
  rw [State.secStat, State.reg_congr hregs, hw, hw, hlc, hkey, hzpend, hopen, State.secStat]

theorem State.loadSecacc_domOn (s : State) (d : Dom) : s.loadSecacc.domOn d = s.domOn d := State.domOn_congr rfl d

theorem secacc_secStat {s : State} (v : Word) (htap : s.tapOn = true) (hon : s.domOn .sec = true) :
    secacc false (F.SEC_STAT.addr 0) v s = s.loadSecacc.answer (BitVec.ofNat 32 s.secStat) := by
  rw [secacc_read htap (by decide) (by decide), State.readAddr_secStat .eyepiece ((s.loadSecacc_domOn .sec).trans hon),
    State.secStat_congr (s := s) (t := s.loadSecacc) rfl rfl]

theorem State.answer_shows (s : State) (w : Word) : (s.answer w).reply.word = w ∧ (s.answer w).sec = s.sec ∧
    (s.answer w).regs = s.regs ∧ (s.answer w).lmem = s.lmem := ⟨rfl, rfl, rfl, rfl⟩

/-- SEC_STAT over the TAP. -/
theorem exec_secacc_secStat {s : State} (v : Word) (htap : s.tapOn = true) (hon : s.domOn .sec = true) :
    ∃ t, exec (.secacc false (F.SEC_STAT.addr 0) v) s = .next t ∧ t.reply.word = BitVec.ofNat 32 s.secStat ∧
      t.sec.tap.ir = 0x10 ∧ t.regs = s.regs ∧ t.lmem = s.lmem := by
  obtain ⟨hword, hsec, hregs, hlmem⟩ := s.loadSecacc.answer_shows (BitVec.ofNat 32 s.secStat)
  exact ⟨s.finish (s.loadSecacc.answer (BitVec.ofNat 32 s.secStat)), next_finish (secacc_secStat v htap hon), hword,
    congrArg (·.tap.ir) hsec, hregs, hlmem⟩

/-! ### A write of DBG_WIN_CTRL over the TAP -/

/-- EN and INC are the register's RW bits. -/
theorem rowAt_winCtrl : ∃ r, rowAt B.DBG 0 F.DBG_WIN_CTRL.off = some (r, 0) ∧ r.off = F.DBG_WIN_CTRL.off ∧ r.rw = 3 ∧
    r.lock = false := ⟨_, rfl, rfl, rfl, rfl⟩

theorem State.writePage_winCtrl {s : State} (hopen : s.dbgOpen = true) (v : Word) : ∃ r : RegRow, r.rw = 3 ∧
    s.writePage true B.DBG 0 F.DBG_WIN_CTRL.off v = s.plain (F.DBG_WIN_CTRL.addr 0) r v := by
  obtain ⟨r, hrow, hoff, hrw, hlock⟩ := rowAt_winCtrl
  refine ⟨r, hrw, ?_⟩
  have hwrite : s.writePage true B.DBG 0 F.DBG_WIN_CTRL.off v = s.writeRow true B.DBG 0 r 0
      (F.DBG_WIN_CTRL.addr 0) v := by
    unfold State.writePage
    rw [hrow]
    rfl
  rw [hwrite]
  unfold State.writeRow
  rw [if_neg (fun h => absurd h.1 (by decide)), if_neg (fun h => absurd h.1 (by decide)), hlock,
    if_neg (fun h => absurd h.1 (by decide))]
  show s.wDbg r (F.DBG_WIN_CTRL.addr 0) v = _
  unfold State.wDbg
  rw [hopen, hoff, if_neg (by decide), if_neg (by decide)]

/-- A bit of a register that is RW reads as written. -/
theorem State.plain_bit (s : State) {a : Nat} {r : RegRow} (v : Word) {f : Field} (hf : f.addr 0 = a) (hlen : f.len = 1)
    (hbit : (BitVec.ofNat 32 r.rw).getLsbD f.lo = true) : (s.plain a r v).flag f 0 = bit v.toNat f.lo := by
  have hreg : (s.plain a r v).reg (f.addr 0) = (s.w1c a (v &&& BitVec.ofNat 32 r.w1c) &&& ~~~ BitVec.ofNat 32 r.rw) |||
      (v &&& BitVec.ofNat 32 r.rw) := by
    rw [hf]
    exact State.reg_setReg_same _ _ _
  have hflag : (s.plain a r v).flag f 0 = bit ((s.plain a r v).reg (f.addr 0)).toNat f.lo := by
    rw [State.flag, State.fld, hlen, bit]
  rw [hflag, hreg, bit_eq_testBit, bit_eq_testBit, BitVec.testBit_toNat, BitVec.testBit_toNat]
  simp [hbit]

/-- Over the TAP a write within the pages takes effect where the TAP may write. -/
theorem secacc_write {s : State} (htap : s.tapOn = true) {a : Nat} (ha : a < 2 ^ 27)
    (h : ¬ ((blkOf a ≠ B.SEC ∧ blkOf a ≠ B.DBG) ∨ instOf a ≠ 0))
    (htakes : s.loadSecacc.tapTakes (blkOf a) (offOf (a / 4 * 4)))
    (v : Word) : secacc true a v s = s.loadSecacc.writeAddr true (a / 4 * 4) v fun s _ => s := by
  unfold secacc bar0Size
  rw [Nat.mod_eq_of_lt ha]
  dsimp only
  rw [blkOf_word, instOf_word, htap, if_neg (by decide), if_neg h, if_neg (by decide)]
  exact if_neg (by rw [show s.tapLoad 0x10 false = s.loadSecacc from rfl, htakes]; decide)

theorem secacc_winCtrl {s : State} (v : Word) (htap : s.tapOn = true) (hpage : s.openPage B.DBG 0) :
    secacc true (F.DBG_WIN_CTRL.addr 0) v s = s.loadSecacc.writePage true B.DBG 0 F.DBG_WIN_CTRL.off v := by
  obtain ⟨hmode, hexists, hon⟩ := hpage
  have hpageOn : s.loadSecacc.pageOn B.DBG 0 = true := (State.pageOn_congr rfl _ _).trans hon
  have hsec : s.loadSecacc.domOn .sec = true := hpageOn
  have hnoLockdown : s.loadSecacc.sys.mode ≠ .lockdown := hmode
  have haddr : F.DBG_WIN_CTRL.addr 0 / 4 * 4 = regAddr B.DBG 0 F.DBG_WIN_CTRL.off := by decide
  rw [secacc_write htap (by decide) (by decide) (by simp [State.tapTakes, hsec, hnoLockdown]), haddr,
    State.writeAddr_page _ _ _ _ _ _ _ hexists hpageOn (by decide) (by decide)]

theorem exec_secacc_winCtrl {s : State} (v : Word) (htap : s.tapOn = true) (hpage : s.openPage B.DBG 0)
    (hopen : s.dbgOpen = true) :
    ∃ t, exec (.secacc true (F.DBG_WIN_CTRL.addr 0) v) s = .next t ∧ t.flag F.DBG_WIN_CTRL_EN 0 = bit v.toNat 0 ∧
      t.flag F.DBG_WIN_CTRL_INC 0 = bit v.toNat 1 ∧ s.regsBut t [F.DBG_WIN_CTRL.addr 0] ∧ t.lmem = s.lmem := by
  have hopen' : s.loadSecacc.dbgOpen = true := (State.flag_congr (s := s) rfl).trans hopen
  obtain ⟨r, hrw, hwrite⟩ := State.writePage_winCtrl hopen' v
  have hregs : s.moves (· ∈ [F.DBG_WIN_CTRL.addr 0]) (s.loadSecacc.plain (F.DBG_WIN_CTRL.addr 0) r v) :=
    ((State.moves.refl _ s).withSec).setReg (by decide)
  exact ⟨s.finish (s.loadSecacc.plain (F.DBG_WIN_CTRL.addr 0) r v),
    next_finish ((secacc_winCtrl v htap hpage).trans hwrite),
    State.plain_bit _ v (f := F.DBG_WIN_CTRL_EN) rfl rfl (by rw [hrw]; decide),
    State.plain_bit _ v (f := F.DBG_WIN_CTRL_INC) rfl rfl (by rw [hrw]; decide), hregs.regs, rfl⟩

/-- Settles O31: every TAP instruction by its own branch, SECACC by the page it reaches, the window by its address. -/
theorem tapInstructions : Obligations.TapInstructions := by
  unfold Obligations.TapInstructions
  refine ⟨fun s hon => ⟨_, next_finish (if_pos hon), rfl, rfl, rfl⟩,
    fun s hon => ⟨_, next_finish (if_pos hon), rfl, rfl, rfl⟩,
    fun s hon => ⟨_, next_finish (if_pos hon), rfl, rfl, rfl, rfl, rfl⟩,
    fun s hon => ⟨_, next_finish (if_pos hon), rfl, rfl, rfl, rfl⟩,
    fun s hon => ⟨_, next_finish (State.extest_loads hon 0), rfl, rfl, rfl⟩,
    fun s hon => ⟨_, next_finish (State.extest_loads hon 4), rfl, rfl, rfl⟩,
    fun s hon => ⟨_, next_finish (State.extest_loads hon 5), rfl, rfl, rfl⟩,
    fun s hon => exec_scan_loads hon, fun s v htap hon => exec_secacc_secStat v htap hon,
    fun s write a v htap ha => exec_secacc_accesses write v htap ha,
    fun s v htap hpage hopen _ => exec_secacc_winCtrl v htap hpage hopen, fun s hon => exec_dbgWinRead_on hon,
    fun s hoff => exec_dbgWinRead_off hoff, fun s v tap hon hway => exec_dbgWinWrite_on v hon hway⟩

end Sys2Proof.Machine
end

section
/-! PROOFS. Station roots, receipts, their failures, and a commit that could not be written (R157, R158, R160, R163,
R175). -/

namespace Sys2Proof.Machine

/-! ### What leaves ATT alone -/

/-- `t` has the receipts, the chain and the commits of `s`. -/
def State.keepsAtt (s t : State) : Prop := t.att = s.att

namespace State.keepsAtt

section
variable {s t u : State} (h : s.keepsAtt t)
include h

theorem ite {c : Prop} [Decidable c] (hu : s.keepsAtt u) : s.keepsAtt (if c then t else u) := by split <;> assumption

theorem forAll {xs : List Nat} {f : State → Nat → State} (hf : ∀ u x, s.keepsAtt u → s.keepsAtt (f u x)) :
    s.keepsAtt (forAll xs t f) := forAll_keeps (s.keepsAtt ·) (fun u x _ => hf u x) h

end

section
variable {s t : State} (h : s.keepsAtt t) {a b c i n r v : Nat} {w : Word} {f : Field} {x : Bool} {bs : List Byte}
include h

theorem setReg : s.keepsAtt (t.setReg a w) := h
theorem setFld : s.keepsAtt (t.setFld f i v) := h.setReg
theorem event : s.keepsAtt (t.event a i n) := (State.event_att ..).trans h
theorem bump : s.keepsAtt (t.bump f i) := h.setFld.ite h
theorem withRingq {q : RingQ} : s.keepsAtt { t with ringq := q } := h
theorem withFst {q : Fst} : s.keepsAtt { t with fst := q } := h
theorem withSys {q : Sys} : s.keepsAtt { t with sys := q } := h
theorem setCtx {q : Ctx} : s.keepsAtt (t.setCtx c q) := h
theorem storeHost : s.keepsAtt (t.storeHost a bs) := h
theorem storeLmem : s.keepsAtt (t.storeLmem a bs) := h

/-! Rings -/

theorem ringDrop : s.keepsAtt (t.ringDrop r) := h.bump.event
theorem setTail : s.keepsAtt (t.setTail r n) := h.setFld.storeHost.ite h.setFld
theorem ringPut : s.keepsAtt (t.ringPut r bs) := (h.storeHost.ite h.storeLmem).setTail
theorem putUnreserved : s.keepsAtt (t.putUnreserved r bs) := h.ringDrop.ite (h.ringPut.ite (h.withRingq.ite h.ringDrop))
theorem putReserved : s.keepsAtt (t.putReserved r bs) := h.setFld.ringPut.ite h.setFld.withRingq
theorem sendTo {p : Packet} : s.keepsAtt (t.sendTo p) := by
  obtain ⟨_, _, _, hp⟩ := (State.movesPackets.refl t).sendTo (p := p)
  rw [hp]
  exact h
theorem forwardEvent : s.keepsAtt (t.forwardEvent r bs) := (h.putUnreserved.ite h.sendTo).ite h
theorem writeEvent {e : EvRec} : s.keepsAtt (t.writeEvent r x e) := (h.putReserved.ite h.putUnreserved).forwardEvent

/-! Frames -/

theorem frameEvent : s.keepsAtt (t.frameEvent c a v r n x) := (h.setCtx.ite h).event.writeEvent
theorem deviceMode {m : Mode} : s.keepsAtt (t.deviceMode m) := by
  unfold State.deviceMode
  split
  · exact h.withSys
  · exact h.withSys.withSys.event.withSys.ite h
theorem printCheck : s.keepsAtt t.printCheck := h.ite (h.deviceMode.ite (h.deviceMode.ite h))
theorem fstStat : s.keepsAtt t.fstStat := h.setFld.setFld.setFld
theorem freeRecs : s.keepsAtt (t.freeRecs c) := 
  (h.forAll fun _ _ hu => State.keepsAtt.fstStat hu.withFst).withFst.fstStat
theorem tryRetire : s.keepsAtt (t.tryRetire c) := h.freeRecs.setFld.setCtx.setCtx.printCheck.ite h
theorem lose : s.keepsAtt (t.lose c v) :=
  h.ite (h.setCtx.frameEvent.tryRetire.printCheck.ite (h.setCtx.ite h))

end
end State.keepsAtt

/-! ### A receipt is written (R156, R157, R160, R163) -/

/-- A receipt is off the line and written: `digest` is its chain link and `entry` its place in the audit ring. -/
def State.fileReceipt (s : State) (rest : List Nat) (digest : List Byte) (entry : Nat × Nat × Nat × List Byte) :
    State :=
  { s with att := { s.att with queue := rest, prev := digest, firstDone := true, written := s.att.written ++ [entry] } }

/-- What the registers of ATT and the frame's context show of it. -/
def State.showReceipt (s : State) (c pend ctr slot : Nat) (digest : List Byte) (genesis : Bool) : State :=
  let s := s.setCtx c { s.ctx c with rcpt := some slot }
  let s := if genesis then s.keepStore kwGen 0 else s
  (((s.setFld F.ATT_STAT_PEND 0 pend).setPair64 F.ATT_CTR_LO 0 ctr).setRegBytes F.ATT_HEAD digest 12).event B.ATT 0 0

/-- The receipt in the audit ring, with its evidence in LMEM. -/
def State.storeReceipt (s : State) (a r : Nat) (evid bs : List Byte) : State :=
  (s.storeLmem a evid).drbgScalar.2.putReserved r bs

theorem State.writeReceipt_eq {s : State} {c : Nat} {rest : List Nat} (hq : s.att.queue = c :: rest)
    (hrooted : (s.ctx c).rooted = true) (hmode : s.receiptMode = true)
    (hwaits : s.ctrWaits ((s.ctx c).counter.getD 0) = false) (noK : Bool) :
    ∃ a evid bs digest entry slot first, ∀ t,
      t = ((((s.storeReceipt a (s.ctx c).audRing evid bs).fileReceipt rest digest entry).showReceipt c rest.length
        ((s.ctx c).counter.getD 0) slot digest (s.ctx c).genesis).ckptAfter ((s.ctx c).counter.getD 0) digest first) →
      s.writeReceipt noK = match (s.ctx c).lostPend with
        | some cause => t.lose c cause
        | none => t := by
  unfold State.writeReceipt
  rw [hq]
  dsimp only
  rw [hrooted, hmode, hwaits, if_neg (by decide)]
  exact ⟨_, _, _, _, _, _, _, fun t ht => by rw [ht]; rfl⟩

/-! ### What a written receipt shows -/

theorem State.storeReceipt_att (s : State) (a r : Nat) (evid bs : List Byte) :
    (s.storeReceipt a r evid bs).att = s.att :=
  State.keepsAtt.putReserved (s := s) (t := (s.storeLmem a evid).drbgScalar.2) rfl

section
variable (s : State) (c pend ctr slot : Nat) (digest : List Byte) (genesis : Bool)

/-- The genesis link is no longer owed where `genesis`. -/
def State.consumeGenesis : State := if genesis then s.keepStore kwGen 0 else s

theorem State.consumeGenesis_shows : (s.consumeGenesis genesis).att = s.att ∧
    (s.consumeGenesis genesis).ctxs = s.ctxs := by
  cases genesis with
  | true => exact ⟨s.keepStore_att _ _, s.keepStore_ctxs _ _⟩
  | false => exact ⟨rfl, rfl⟩

theorem State.showReceipt_eq : s.showReceipt c pend ctr slot digest genesis =
    (((((s.setCtx c { s.ctx c with rcpt := some slot }).consumeGenesis genesis).setFld F.ATT_STAT_PEND 0 pend).setPair64
      F.ATT_CTR_LO 0 ctr).setRegBytes F.ATT_HEAD digest 12).event B.ATT 0 0 := rfl

theorem State.showReceipt_att : (s.showReceipt c pend ctr slot digest genesis).att = s.att := by
  rw [State.showReceipt_eq, State.event_att, State.setRegBytes_att, State.setPair64_att, State.setFld_att,
    (State.consumeGenesis_shows _ genesis).1]
  rfl

theorem State.showReceipt_rcpt : ((s.showReceipt c pend ctr slot digest genesis).ctx c).rcpt = some slot := by
  have hctxs : (s.showReceipt c pend ctr slot digest genesis).ctxs =
      (s.setCtx c { s.ctx c with rcpt := some slot }).ctxs := by
    rw [State.showReceipt_eq, State.event_ctxs, State.setRegBytes_ctxs, State.setPair64_ctxs, State.setFld_ctxs,
      (State.consumeGenesis_shows _ genesis).2]
  rw [State.ctx_congr _ _ hctxs, State.ctx_setCtx_same]

theorem State.showReceipt_raised : (s.showReceipt c pend ctr slot digest genesis).raised B.ATT 0 0 = true :=
  State.event_bit _ _ _ _ (by decide)

theorem State.showReceipt_ctr (hctr : ctr < 2 ^ 64) :
    (s.showReceipt c pend ctr slot digest genesis).pair64 F.ATT_CTR_LO 0 = ctr := by
  have hreg (a : Nat) (hhead : ∀ i < 12, a ≠ (F.ATT_HEAD.at i).addr 0) (hevt : a ≠ evtAddr B.ATT 0) (u : State) :
      ((u.setRegBytes F.ATT_HEAD digest 12).event B.ATT 0 0).reg a = u.reg a :=
    (State.reg_event_ne _ _ _ _ _ hevt).trans (State.reg_setRegBytes_ne _ _ hhead)
  rw [State.showReceipt_eq, State.pair64, hreg _ (by decide) (by decide), hreg _ (by decide) (by decide)]
  unfold State.setPair64
  rw [State.reg_setReg_same, State.reg_setReg_ne _ _ _ _ (by decide), State.reg_setReg_same, Nat.mul_comm]
  exact two_words_toNat hctr

end

/-- The commits that follow a receipt. -/
theorem State.ckptAfter_shows (s : State) (ctr : Nat) (digest : List Byte) (first : Bool) :
    (∃ ks, (s.ckptAfter ctr digest first).att = { s.att with ckpts := ks }) ∧
      (s.ckptAfter ctr digest first).ctxs = s.ctxs ∧
      ∀ a, a ≠ F.ATT_STAT_CKPT_BUSY.addr 0 → (s.ckptAfter ctr digest first).reg a = s.reg a := by
  have hstart (k : Ckpt) : (∃ ks, (s.startCkpt k).att = { s.att with ckpts := ks }) ∧ (s.startCkpt k).ctxs = s.ctxs ∧
      ∀ a, a ≠ F.ATT_STAT_CKPT_BUSY.addr 0 → (s.startCkpt k).reg a = s.reg a :=
    ⟨⟨_, State.setFlag_att ..⟩, State.setFlag_ctxs .., fun a ha => State.reg_setFlag_ne _ _ _ _ _ ha⟩
  unfold State.ckptAfter
  split
  · exact hstart _
  split
  · exact hstart _
  · exact ⟨⟨s.att.ckpts, rfl⟩, rfl, fun _ _ => rfl⟩

/-- A receipt written, before a loss that was waiting for it is noted. -/
theorem State.writeReceipt_shows {s : State} {c : Nat} {rest : List Nat} (hq : s.att.queue = c :: rest)
    (hrooted : (s.ctx c).rooted = true) (hmode : s.receiptMode = true)
    (hwaits : s.ctrWaits ((s.ctx c).counter.getD 0) = false) (noK : Bool) :
    ∃ t : State, (s.writeReceipt noK = match (s.ctx c).lostPend with
        | some cause => t.lose c cause
        | none => t) ∧
      t.att.queue = rest ∧ t.att.firstDone = true ∧ t.att.retrying = s.att.retrying ∧ (t.ctx c).rcpt.isSome = true ∧
      t.raised B.ATT 0 0 = true ∧
      ((s.ctx c).counter.getD 0 < 2 ^ 64 → t.pair64 F.ATT_CTR_LO 0 = (s.ctx c).counter.getD 0) := by
  obtain ⟨a, evid, bs, digest, entry, slot, first, hrun⟩ := State.writeReceipt_eq hq hrooted hmode hwaits noK
  obtain ⟨u, hu⟩ : ∃ u, ((s.storeReceipt a (s.ctx c).audRing evid bs).fileReceipt rest digest entry).showReceipt c
    rest.length ((s.ctx c).counter.getD 0) slot digest (s.ctx c).genesis = u := ⟨_, rfl⟩
  have hatt : u.att = ((s.storeReceipt a (s.ctx c).audRing evid bs).fileReceipt rest digest entry).att := by
    rw [← hu, State.showReceipt_att]
  have hstored := s.storeReceipt_att a (s.ctx c).audRing evid bs
  rw [State.fileReceipt, hstored] at hatt
  have hrcpt : (u.ctx c).rcpt = some slot := by rw [← hu, State.showReceipt_rcpt]
  have hraised : u.raised B.ATT 0 0 = true := by rw [← hu, State.showReceipt_raised]
  have hctr (h : (s.ctx c).counter.getD 0 < 2 ^ 64) : u.pair64 F.ATT_CTR_LO 0 = (s.ctx c).counter.getD 0 := by
    rw [← hu, State.showReceipt_ctr _ _ _ _ _ _ _ h]
  rw [hu] at hrun
  obtain ⟨⟨ks, hatt'⟩, hctxs, hregs⟩ := u.ckptAfter_shows ((s.ctx c).counter.getD 0) digest first
  rw [hatt] at hatt'
  refine ⟨_, hrun _ rfl, ?_, ?_, ?_, ?_, ?_, fun h => ?_⟩
  · rw [hatt']
  · rw [hatt']
  · rw [hatt']
  · rw [State.ctx_congr _ _ hctxs, hrcpt]
    rfl
  · rw [State.raised_congr (hregs _ (by decide)), hraised]
  · rw [State.pair64, hregs _ (by decide), hregs _ (by decide), ← State.pair64, hctr h]

/-- A receipt written, or held back, leaves SEC's retries as they are. -/
theorem State.writeReceipt_retrying (s : State) (noK : Bool) : (s.writeReceipt noK).att.retrying = s.att.retrying := by
  cases hq : s.att.queue with
  | nil => rw [State.writeReceipt, hq]
  | cons c rest =>
    by_cases hwrites : (!(s.ctx c).rooted || !s.receiptMode || s.ctrWaits ((s.ctx c).counter.getD 0)) = true
    · unfold State.writeReceipt
      rw [hq]
      dsimp only
      rw [if_pos hwrites]
    · simp only [Bool.or_eq_true, Bool.not_eq_true', not_or, Bool.not_eq_false, Bool.not_eq_true] at hwrites
      obtain ⟨⟨hrooted, hmode⟩, hwaits⟩ := hwrites
      obtain ⟨t, hrun, -, -, hretrying, -⟩ := State.writeReceipt_shows hq hrooted hmode hwaits noK
      rw [hrun]
      cases (s.ctx c).lostPend with
      | none => exact hretrying
      | some cause => exact (congrArg Att.retrying (State.keepsAtt.lose (s := t) rfl)).trans hretrying

/-! ### RECEIPT_WRITE -/

/-- Whether receipts are written, and whether a counter waits, stand in these parts of the state. -/
theorem State.receiptGates_congr {s t : State} (hdom : t.domOn .sec = s.domOn .sec) (hsys : t.sys = s.sys)
    (haon : t.aon = s.aon) (hkeep : t.keep = s.keep) (hckpts : t.att.ckpts = s.att.ckpts) :
    t.receiptMode = s.receiptMode ∧ ∀ ctr, t.ctrWaits ctr = s.ctrWaits ctr := by
  obtain ⟨-, -, -, hceil⟩ := State.ckptShown_congr hkeep
  exact ⟨by rw [State.receiptMode, hdom, hsys, haon, State.receiptMode],
    fun ctr => by rw [State.ctrWaits, State.raising, hceil, hckpts, State.ctrWaits, State.raising]⟩

/-- A sound k leaves the line, the frames and the gates of a receipt alone. -/
theorem State.drbgSound_shows (s : State) : s.drbgSound.att.queue = s.att.queue ∧ s.drbgSound.ctxs = s.ctxs ∧
    s.drbgSound.receiptMode = s.receiptMode ∧ ∀ ctr, s.drbgSound.ctrWaits ctr = s.ctrWaits ctr := by
  have hatt : s.drbgSound.att = { s.att with retrying := false } :=
    (State.dropFault_att ..).trans (State.setFlag_att ..)
  have hdom : s.drbgSound.domOn .sec = s.domOn .sec :=
    State.domOn_congr ((State.dropFault_reg ..).trans (State.reg_setFlag_ne _ _ _ _ _ (by decide))) _
  have hgates := State.receiptGates_congr hdom ((State.dropFault_sys ..).trans (State.setFlag_sys ..))
    ((State.dropFault_aon ..).trans (State.setFlag_aon ..)) ((State.dropFault_keep ..).trans (State.setFlag_keep ..))
    (by rw [hatt])
  exact ⟨by rw [hatt], (State.dropFault_ctxs ..).trans (State.setFlag_ctxs ..), hgates⟩

theorem exec_receiptWrite_writes {s : State} {c : Nat} {rest : List Nat} (hq : s.att.queue = c :: rest)
    (hrooted : (s.ctx c).rooted = true) (hmode : s.receiptMode = true)
    (hwaits : s.ctrWaits ((s.ctx c).counter.getD 0) = false) (hlost : (s.ctx c).lostPend = none)
    (hctr : (s.ctx c).counter.getD 0 < 2 ^ 64) :
    ∃ t, exec .receiptWrite s = .next t ∧ t.att.queue = rest ∧ t.raised B.ATT 0 0 = true ∧
      t.pair64 F.ATT_CTR_LO 0 = (s.ctx c).counter.getD 0 ∧ (t.ctx c).rcpt.isSome = true ∧ t.att.firstDone = true := by
  obtain ⟨u, hu, hqueue, hctxs, hmodeSame, hwaitsSame⟩ : ∃ u : State, receiptWrite s = u.writeReceipt false ∧
      u.att.queue = s.att.queue ∧ u.ctxs = s.ctxs ∧ u.receiptMode = s.receiptMode ∧
      ∀ ctr, u.ctrWaits ctr = s.ctrWaits ctr := by
    refine ⟨_, rfl, ?_⟩
    split
    · exact s.drbgSound_shows
    · exact ⟨rfl, rfl, rfl, fun _ => rfl⟩
  have hctx : u.ctx c = s.ctx c := State.ctx_congr _ _ hctxs
  rw [← hqueue] at hq
  rw [← hctx] at hrooted hwaits hlost hctr ⊢
  obtain ⟨t, hrun, hrest, hfirst, -, hrcpt, hraised, hshown⟩ :=
    State.writeReceipt_shows hq hrooted (hmodeSame.trans hmode) ((hwaitsSame _).trans hwaits) false
  rw [hlost] at hrun
  exact ⟨s.finish t, next_finish (hu.trans hrun), hrest, hraised, hshown hctr, hrcpt, hfirst⟩

/-! ### Timeouts and retries (R175) -/

theorem exec_receiptTimeout_raises {s : State} (hq : s.att.queue ≠ []) : ∃ t, exec .receiptTimeout s = .next t ∧
    341 ∈ t.flt.pair ∧ s.onlyRegsAndFaults t ∧ t.regs = s.regs := by
  have hempty : s.att.queue.isEmpty = false := by simpa using hq
  refine ⟨s.finish (s.raiseFault 341), next_finish (by rw [hempty, if_neg Bool.false_ne_true]),
      State.raiseFault_mem _ _,
    (s.movesRegs_refl.raiseFault 341).onlyRegsAndFaults, State.raiseFault_regs ..⟩

/-- The source has failed its tests: DRBG_OK is clear and SEC reseeds, to retry where a receipt waits. -/
def State.drbgUnsound (s : State) : State :=
  { (s.setFlag F.SEC_STAT_DRBG_OK 0 false).drbgSeed false with att := { s.att with retrying := !s.att.queue.isEmpty } }

theorem State.drbgSeed_regs (s : State) (fresh : Bool) : (s.drbgSeed fresh).regs = s.regs := rfl
theorem State.drbgSeed_lmem (s : State) (fresh : Bool) : (s.drbgSeed fresh).lmem = s.lmem := rfl

theorem State.drbgUnsound_shows (s : State) : s.drbgUnsound.regs = (s.setFlag F.SEC_STAT_DRBG_OK 0 false).regs ∧
    s.drbgUnsound.lmem = s.lmem ∧ s.drbgUnsound.att.retrying = !s.att.queue.isEmpty := by
  obtain ⟨u, hu⟩ : ∃ u, (s.setFlag F.SEC_STAT_DRBG_OK 0 false).drbgSeed false = u := ⟨_, rfl⟩
  have hregs := (s.setFlag F.SEC_STAT_DRBG_OK 0 false).drbgSeed_regs false
  have hlmem := ((s.setFlag F.SEC_STAT_DRBG_OK 0 false).drbgSeed_lmem false).trans (State.setFlag_lmem ..)
  rw [hu] at hregs hlmem
  rw [State.drbgUnsound, hu]
  exact ⟨hregs, hlmem, rfl⟩

theorem drbgHealthFail_eq {s : State} (hon : s.domOn .sec = true) :
    drbgHealthFail s = s.drbgUnsound.raiseFault 336 := by
  rw [drbgHealthFail, if_pos hon, State.drbgUnsound]

theorem drbgHealthFail_shows {s : State} (hon : s.domOn .sec = true) : (drbgHealthFail s).lmem = s.lmem ∧
    (drbgHealthFail s).flag F.SEC_STAT_DRBG_OK 0 = false ∧ 336 ∈ (drbgHealthFail s).flt.pair ∧
    (drbgHealthFail s).att.retrying = (!s.att.queue.isEmpty) ∧
    s.regsBut (drbgHealthFail s) [F.SEC_STAT_DRBG_OK.addr 0] := by
  obtain ⟨hregs, hlmem, hretrying⟩ := s.drbgUnsound_shows
  have hreg (a : Nat) : (s.drbgUnsound.raiseFault 336).reg a = (s.setFlag F.SEC_STAT_DRBG_OK 0 false).reg a := by
    rw [State.raiseFault_reg, State.reg_congr hregs]
  have hbut := State.regsBut_setFlag s F.SEC_STAT_DRBG_OK 0 false
  rw [drbgHealthFail_eq hon]
  refine ⟨?_, ?_, State.raiseFault_mem _ _, ?_, fun a ha => (hreg a).trans (hbut a ha)⟩
  · rw [State.raiseFault_lmem, hlmem]
  · rw [State.flag_congr (hreg _), State.flag_setFlag_same _ _ _ _ rfl (by decide)]
  · rw [State.raiseFault_att, hretrying]

/-- The retries have ended without a sound k. -/
def State.endRetries (s : State) : State := { s with att := { s.att with retrying := false } }

theorem exec_signRetryTimeout_fails {s : State} (hretrying : s.att.retrying = true) :
    ∃ t, exec .signRetryTimeout s = .next t ∧ t.att.retrying = false ∧ t.flag F.SEC_STAT_SIGN_OK 0 = false ∧
      t.raised B.SEC 0 5 = true := by
  have hrun : signRetryTimeout s =
      ((s.endRetries.writeReceipt true).setFlag F.SEC_STAT_SIGN_OK 0 false).event B.SEC 0 5 := if_pos hretrying
  have hended : (s.endRetries.writeReceipt true).att.retrying = false := (State.writeReceipt_retrying _ _).trans rfl
  obtain ⟨u, hu⟩ : ∃ u, s.endRetries.writeReceipt true = u := ⟨_, rfl⟩
  rw [hu] at hrun hended
  have hatt : ((u.setFlag F.SEC_STAT_SIGN_OK 0 false).event B.SEC 0 5).att = u.att :=
    (State.event_att ..).trans (State.setFlag_att ..)
  have hsign : ((u.setFlag F.SEC_STAT_SIGN_OK 0 false).event B.SEC 0 5).flag F.SEC_STAT_SIGN_OK 0 = false :=
    (State.flag_congr (State.reg_event_ne _ _ _ _ _ (by decide))).trans
    (State.flag_setFlag_same _ _ _ _ rfl (by decide))
  have hraised : ((u.setFlag F.SEC_STAT_SIGN_OK 0 false).event B.SEC 0 5).raised B.SEC 0 5 = true :=
    State.event_bit _ _ _ _ (by decide)
  rw [← hatt] at hended
  obtain ⟨v, hv⟩ : ∃ v, (u.setFlag F.SEC_STAT_SIGN_OK 0 false).event B.SEC 0 5 = v := ⟨_, rfl⟩
  rw [hv] at hrun hended hsign hraised
  exact ⟨s.finish v, next_finish hrun, hended, hsign, hraised⟩

/-! ### A commit that could not be written (R163) -/

theorem exec_ckptDone_unwritten {s : State} {k : Ckpt} {rest : List Ckpt} (h : s.att.ckpts = k :: rest) :
    ∃ t, exec (.ckptDone false) s = .next t ∧ t.att.ckptFailed = true ∧ t.raised B.ATT 0 2 = true ∧
    337 ∈ t.flt.pair := by
  obtain ⟨u, hu⟩ : ∃ u : State, ckptDone false s = u.failCommit :=
    ⟨_, (ckptDone_eq h false).trans (if_pos (by simp))⟩
  obtain ⟨-, hfailed, hraised, hfault, -⟩ := u.failCommit_shows
  obtain ⟨v, hv⟩ : ∃ v, u.failCommit = v := ⟨_, rfl⟩
  rw [hv] at hu hfailed hraised hfault
  exact ⟨s.finish v, next_finish hu, hfailed, hraised, hfault⟩

/-! ### A station's root closes (R157, R158) -/

/-- The frame with the next counter. -/
def State.takeCounter (s : State) (c : Nat) : State :=
  s.setCtx c { s.ctx c with counter := some s.att.next, gap := s.att.gapNext, genesis := s.att.genNext }

/-- A counter assigned leaves a frame's state, its parts at the stations and every other frame. -/
theorem State.assignCounter_shows (s : State) (c : Nat) : ((s.assignCounter c).ctx c).expo = (s.ctx c).expo ∧
    ((s.assignCounter c).ctx c).st = (s.ctx c).st ∧ ∀ d, d ≠ c → (s.assignCounter c).ctx d = s.ctx d := by
  by_cases hhas : (s.ctx c).counter.isSome = true
  · have hsame : s.assignCounter c = s := if_pos hhas
    rw [hsame]
    exact ⟨rfl, rfl, fun _ _ => rfl⟩
  · obtain ⟨q, n, hnew⟩ : ∃ (q : Att) (n : Nat),
        s.assignCounter c = { s.takeCounter c with att := q }.setFld F.ATT_STAT_PEND 0 n := by
      unfold State.assignCounter
      dsimp only
      rw [if_neg hhas]
      exact ⟨_, _, rfl⟩
    have hctx (d : Nat) : (s.assignCounter c).ctx d = (s.takeCounter c).ctx d := by
      rw [hnew]
      exact State.ctx_congr _ _ (State.setFld_ctxs ..)
    refine ⟨?_, ?_, fun d hd => ?_⟩
    · rw [hctx, State.takeCounter, State.ctx_setCtx_same]
    · rw [hctx, State.takeCounter, State.ctx_setCtx_same]
    · rw [hctx, State.takeCounter, State.ctx_setCtx_ne _ _ _ _ hd]

/-- The frame with its root at a station closed. -/
def Ctx.closeRoot (x : Ctx) (n : Nat) : Ctx :=
  x.setAt n { x.at n with root := some (stationRoot n x.width x.facets (x.at n).digs), digs := [] }

theorem exec_stationRootFinal_closes {s : State} {c n : Nat} (hc : c < 160) (huses : (s.ctx c).uses n = true)
    (hroot : ((s.ctx c).at n).root = none) (hdone : bit (s.ctx c).done n = true) :
    ∃ t, exec (.stationRootFinal c n) s = .next t ∧
      ((t.ctx c).at n).root = some (stationRoot n (s.ctx c).width (s.ctx c).facets ((s.ctx c).at n).digs) ∧
      (t.ctx c).st = (s.ctx c).st ∧ (∀ d, d ≠ c → t.ctx d = s.ctx d) := by
  have hrun : stationRootFinal c n s = s.setCtx c ((s.ctx c).closeRoot n) ∨
      stationRootFinal c n s = (s.setCtx c ((s.ctx c).closeRoot n)).assignCounter c := by
    unfold stationRootFinal
    rw [if_neg (by simp [hc, huses, hroot, hdone])]
    dsimp only
    rw [if_pos hdone]
    split
    · exact .inr rfl
    · exact .inl rfl
  obtain ⟨hexpo, hst, hothers⟩ : ((stationRootFinal c n s).ctx c).expo = ((s.ctx c).closeRoot n).expo ∧
      ((stationRootFinal c n s).ctx c).st = (s.ctx c).st ∧ ∀ d, d ≠ c → (stationRootFinal c n s).ctx d = s.ctx d := by
    rcases hrun with h | h
    · rw [h, State.ctx_setCtx_same]
      exact ⟨rfl, rfl, fun d hd => State.ctx_setCtx_ne _ _ _ _ hd⟩
    · obtain ⟨hexpo, hst, hothers⟩ := (s.setCtx c ((s.ctx c).closeRoot n)).assignCounter_shows c
      rw [State.ctx_setCtx_same] at hexpo hst
      rw [h]
      exact ⟨hexpo, hst, fun d hd => (hothers d hd).trans (State.ctx_setCtx_ne _ _ _ _ hd)⟩
  refine ⟨_, next_finish rfl, ?_, hst, hothers⟩
  have hat : ((stationRootFinal c n s).ctx c).at n = ((s.ctx c).closeRoot n).at n := by rw [Ctx.at, hexpo, Ctx.at]
  exact (congrArg Expo.root hat).trans (congrArg Expo.root (Sparse.get_set_same _ _ _ _))

/-- Settles O12: each command by what its own steps show. -/
theorem receiptCommands : Obligations.ReceiptCommands := by
  unfold Obligations.ReceiptCommands
  exact ⟨fun s c n hc _ huses hroot hdone => exec_stationRootFinal_closes hc huses hroot hdone,
    fun s c rest hq hrooted hmode hwaits hlost hctr => exec_receiptWrite_writes hq hrooted hmode hwaits hlost hctr,
    fun s hq => exec_receiptTimeout_raises hq,
    fun s hon => ⟨s.finish (drbgHealthFail s), next_finish rfl, drbgHealthFail_shows hon⟩,
    fun s hretrying _ => exec_signRetryTimeout_fails hretrying, fun s k rest h => exec_ckptDone_unwritten h⟩

end Sys2Proof.Machine
end

section
/-! PROOFS. Bundle loads: pushed, refused, judged and failed (R168 to R170, R175, R176). -/

namespace Sys2Proof.Machine

/-! ### BUNDLE_PUSH -/

/-- A write of SEC_BUNDLE_CTRL arrives at the open page. -/
theorem State.onPage_bundleCtrl {s : State} (hpage : s.openPage B.SEC 0) (hon : s.domOn .sec = true) :
    (s.onPage B.SEC 0 F.SEC_BUNDLE_CTRL.off fun s => if s.domOn .sec then bundlePush s else s) = bundlePush s := by
  obtain ⟨hmode, hexists, hpageOn⟩ := hpage
  rw [State.onPage_open s _ _ _ _ hmode hexists hpageOn (by decide), if_pos hon]

/-- The load that a push starts. -/
def State.startLoad (s : State) : State :=
  { s with bundle := { s.bundle with loading := some (some (s.pair64 F.SEC_BUNDLE_ADDR_LO 0)) } }

theorem bundlePush_starts {s : State} (hmode : s.sys.mode = .config) (hok : s.bundle.ok = false)
    (hloading : s.bundle.loading = none) : bundlePush s =
      (((s.startLoad.setFlag F.SEC_BUNDLE_CTRL_PUSH 0 true).setFlag F.SEC_BUNDLE_STAT_BUSY 0 true).setFld
        F.SEC_BUNDLE_STAT_ERR 0 0).setFld F.SEC_BUNDLE_STAT_SRC 0 2 := by
  unfold bundlePush
  rw [if_neg (by simp [hmode, hok]), if_neg (by simp [hloading])]
  rfl

/-- What ERR and SRC show of a load that starts, and what they leave. -/
theorem State.showPush (u : State) :
    ((u.setFld F.SEC_BUNDLE_STAT_ERR 0 0).setFld F.SEC_BUNDLE_STAT_SRC 0 2).flag F.SEC_BUNDLE_STAT_BUSY 0 =
      u.flag F.SEC_BUNDLE_STAT_BUSY 0 ∧
    ((u.setFld F.SEC_BUNDLE_STAT_ERR 0 0).setFld F.SEC_BUNDLE_STAT_SRC 0 2).fld F.SEC_BUNDLE_STAT_ERR 0 = 0 ∧
    ((u.setFld F.SEC_BUNDLE_STAT_ERR 0 0).setFld F.SEC_BUNDLE_STAT_SRC 0 2).fld F.SEC_BUNDLE_STAT_SRC 0 = 2 := by
  refine ⟨congrArg (· == 1) ?_, ?_, State.fld_setFld_same _ _ _ _ (by decide)⟩
  · exact (State.fld_setFld_bits _ _ F.SEC_BUNDLE_STAT_BUSY _ _ _ (by decide) (by decide)).trans
      (State.fld_setFld_bits _ _ F.SEC_BUNDLE_STAT_BUSY _ _ _ (by decide) (by decide))
  · exact (State.fld_setFld_bits _ _ F.SEC_BUNDLE_STAT_ERR _ _ _ (by decide) (by decide)).trans
      (State.fld_setFld_same _ _ _ _ (by decide))

theorem bundlePush_shows {s : State} (hmode : s.sys.mode = .config) (hok : s.bundle.ok = false)
    (hloading : s.bundle.loading = none) :
    (bundlePush s).bundle = { s.bundle with loading := some (some (s.pair64 F.SEC_BUNDLE_ADDR_LO 0)) } ∧
      (bundlePush s).flag F.SEC_BUNDLE_STAT_BUSY 0 = true ∧ (bundlePush s).fld F.SEC_BUNDLE_STAT_ERR 0 = 0 ∧
      (bundlePush s).fld F.SEC_BUNDLE_STAT_SRC 0 = 2 ∧
      s.regsBut (bundlePush s) [F.SEC_BUNDLE_CTRL.addr 0, F.SEC_BUNDLE_STAT.addr 0] ∧ (bundlePush s).lmem = s.lmem := by
  have hstart : s.moves (· ∈ [F.SEC_BUNDLE_CTRL.addr 0, F.SEC_BUNDLE_STAT.addr 0]) s.startLoad :=
    (State.moves.refl _ s).beside rfl rfl rfl
  obtain ⟨hbusy, herr, hsrc⟩ := ((s.startLoad.setFlag F.SEC_BUNDLE_CTRL_PUSH 0 true).setFlag F.SEC_BUNDLE_STAT_BUSY 0
    true).showPush
  rw [bundlePush_starts hmode hok hloading]
  refine ⟨?_, hbusy.trans (State.flag_setFlag_same _ _ _ _ rfl (by decide)), herr, hsrc,
    ((((hstart.setFlag (by decide)).setFlag (by decide)).setFld (by decide)).setFld (by decide)).regs, ?_⟩
  · rw [State.setFld_bundle, State.setFld_bundle, State.setFlag_bundle, State.setFlag_bundle]
    rfl
  · rw [State.setFld_lmem, State.setFld_lmem, State.setFlag_lmem, State.setFlag_lmem]
    rfl

theorem exec_bundlePush {s : State} (hpage : s.openPage B.SEC 0) (hon : s.domOn .sec = true) :
    exec .bundlePush s = .next (s.finish (bundlePush s)) := next_finish (State.onPage_bundleCtrl hpage hon)

theorem bundlePush_refused {s : State} (hbad : s.sys.mode ≠ .config ∨ s.bundle.ok = true) :
    (bundlePush s).fld F.SEC_BUNDLE_STAT_ERR 0 = 8 ∧ (bundlePush s).raised B.SEC 0 3 = true ∧
      s.regsBut (bundlePush s) [F.SEC_BUNDLE_STAT.addr 0, evtAddr B.SEC 0] ∧ s.movesRegs (bundlePush s) := by
  have hrun : bundlePush s = (s.setFld F.SEC_BUNDLE_STAT_ERR 0 8).event B.SEC 0 3 := if_pos hbad
  have hmoves : s.moves (· ∈ [F.SEC_BUNDLE_STAT.addr 0, evtAddr B.SEC 0])
      ((s.setFld F.SEC_BUNDLE_STAT_ERR 0 8).event B.SEC 0 3) :=
    ((State.moves.refl _ s).setFld (by decide)).event (by decide)
  rw [hrun]
  refine ⟨?_, State.event_bit _ _ _ _ (by decide), hmoves.regs,
    (s.movesRegs_setReg _ _).trans (State.movesRegs_event _ _ _ _)⟩
  rw [State.fld_event_ne _ (by decide), State.fld_setFld_same _ _ _ _ (by decide)]
  rfl

/-! ### An image is judged (R169) -/

/-- The checks rest on the image and the keep store. -/
theorem State.verifyBundle_congr {s t : State} (h : t.keep = s.keep) (img : List Byte) :
    t.verifyBundle img = s.verifyBundle img := by
  have hw := State.keepWord_congr (congrArg Keep.words h) (congrArg Keep.bad h)
  have hbytes (w n : Nat) : t.keepBytes w n = s.keepBytes w n := by simp only [State.keepBytes, State.keepWords, hw]
  obtain ⟨hlc, -⟩ := State.keepShown_congr h
  have hsigner : t.signerOk img = s.signerOk img := by rw [State.signerOk, hlc, hbytes, State.signerOk]
  have hplain : t.plainImage img = s.plainImage img := by simp only [State.plainImage, hw, hbytes]
  unfold State.verifyBundle
  simp only [hsigner, hplain, hw]

/-- An image rejected carries one of the codes 1 to 6, which ERR holds. -/
theorem State.verifyBundle_error {s : State} {img : List Byte} {e : Nat} (h : s.verifyBundle img = .inr e) :
    e < 256 := by
  unfold State.verifyBundle at h
  dsimp only at h
  split at h
  · cases h; decide
  split at h
  · cases h; decide
  split at h
  · cases h; decide
  split at h
  · cases h; decide
  split at h
  · cases h; decide
  split at h
  · cases h; decide
  split at h
  · cases h; decide
  split at h
  · cases h; decide
  · cases h

/-! ### An image is read (R170, R304) -/

theorem cleanRead_find {errs : List CwErr} {a n c : Nat} (h : cleanRead errs a n) (hc : c ∈ cwsOf a n) :
    errs.find? (·.addr = c) = none :=
  List.find?_eq_none.mpr fun e he hec => h e he (by rw [of_decide_eq_true hec]; exact hc)

/-- A read without errors reads nothing but the marks of failed reads anew. -/
theorem State.demand_clean (s : State) {errs : List CwErr} {a n : Nat} (h : cleanRead errs a n) :
    s.demand a n errs = s.taken := by
  have hbad : (errs.filter fun e => e.parity && decide (e.addr ∈ cwsOf a n)) = [] :=
    List.filter_eq_nil_iff.mpr fun e he => by simp [h e he]
  unfold State.demand
  rw [hbad]
  refine forAll_keeps (· = s.taken) (fun u c hc hu => ?_) rfl
  unfold State.readCw
  rw [cleanRead_find h (List.mem_of_mem_filter hc), hu]

/-- Words that a state did not read as poisoned it does not once no read has failed. -/
theorem State.taken_poisoned {s : State} {a n : Nat} (h : s.poisoned a n = false) : s.taken.poisoned a n = false := by
  simp only [State.poisoned, List.any_eq_false, decide_eq_true_eq, not_or] at h ⊢
  exact fun c hc => ⟨(h c hc).1, List.not_mem_nil⟩

theorem State.taken_taken (s : State) : s.taken.taken = s.taken := rfl
theorem State.taken_lmemBytes (s : State) (a n : Nat) : s.taken.lmemBytes a n = s.lmemBytes a n := rfl

section
variable {s : State} {a : Nat} {errs : List CwErr} (hloading : s.bundle.loading = some (some a))
  (hclean : cleanRead errs a 0x140) (hgood : s.poisoned a 0x140 = false)
include hloading hclean hgood

theorem State.readBundle_badHeader (flash : Option (List Byte)) (hheader : headerLayout (s.lmemBytes a 0x140) = false) :
    s.readBundle flash errs = (s.taken, .inr beLayout) := by
  unfold State.readBundle
  rw [hloading]
  dsimp only
  rw [State.demand_clean s hclean, State.taken_poisoned hgood, State.taken_lmemBytes, hheader]
  rfl

theorem State.readBundle_image (flash : Option (List Byte)) (hheader : headerLayout (s.lmemBytes a 0x140) = true)
    (hcleanAll : cleanRead errs a (bhTotal (s.lmemBytes a 0x140)))
    (hgoodAll : s.poisoned a (bhTotal (s.lmemBytes a 0x140)) = false) :
    s.readBundle flash errs = (s.taken, .inl (s.lmemBytes a (bhTotal (s.lmemBytes a 0x140)))) := by
  unfold State.readBundle
  rw [hloading]
  dsimp only
  rw [State.demand_clean s hclean, State.taken_poisoned hgood, State.taken_lmemBytes, hheader,
    State.demand_clean s.taken hcleanAll, State.taken_taken, State.taken_poisoned hgoodAll, State.taken_lmemBytes]
  rfl

end

/-- The delay that BOOT has found. -/
def State.foundDelay (s : State) (sfdp : BitVec 16) : State :=
    { s with bundle := { s.bundle with delay := flashDelay sfdp } }

/-- BOOT's load reads flash, or ends with FLASH. -/
theorem State.readBundle_flash {s : State} (hloading : s.bundle.loading = some none) (sfdp : BitVec 16)
    (flash : Option (List Byte)) (errs : List CwErr) : (s.foundDelay sfdp).readBundle flash errs =
      (s.foundDelay sfdp, match s.flashRead sfdp flash with | some img => .inl img | none => .inr beFlash) := by
  have hnone : (s.foundDelay sfdp).bundle.loading = some none := hloading
  unfold State.readBundle State.flashRead
  rw [hnone]
  have hthere : (s.foundDelay sfdp).lmemThere = s.lmemThere := rfl
  have hdelay : (s.foundDelay sfdp).bundle.delay = flashDelay sfdp := rfl
  dsimp only
  rw [hthere, hdelay]
  by_cases hcan : s.lmemThere = true ∧ (flashDelay sfdp).isSome = true
  · rw [if_pos hcan]
    cases flash with
    | none => rfl
    | some img => exact congrArg _ (if_pos hcan)
  · rw [if_neg hcan]
    cases flash with
    | none => rfl
    | some img => exact congrArg _ (if_neg hcan)

/-! ### A load ends -/

/-- PUSH and BUSY clear. -/
def State.stopLoad (s : State) : State :=
  (s.setFlag F.SEC_BUNDLE_CTRL_PUSH 0 false).setFlag F.SEC_BUNDLE_STAT_BUSY 0 false

/-- What is read is judged. -/
def State.judgeImage (s : State) (r : List Byte ⊕ Nat) : List Byte ⊕ Nat :=
  match r with
  | .inr e => .inr e
  | .inl img => s.verifyBundle img

/-- The load ends with an error. -/
def State.failLoad (s : State) (e : Nat) : State :=
  let t := ({ s with bundle := { s.bundle with loading := none } }.setFld F.SEC_BUNDLE_STAT_ERR 0 e).event B.SEC 0 3
  if s.bundle.loading == some none then t.raiseFault 340 else t

/-- The load ends as what was read is judged. -/
def State.settleLoad (s : State) (r : List Byte ⊕ Nat) : State :=
  match s.judgeImage r with
  | .inl img => (s.setFld F.SEC_BUNDLE_STAT_ERR 0 0).acceptBundle img
  | .inr e => s.failLoad e

theorem bundleLoadDone_eq {s u : State} {r : List Byte ⊕ Nat} {l : Option Nat} {sfdp : BitVec 16}
    {flash : Option (List Byte)} {errs : List CwErr} (hon : s.domOn .sec = true) (hloading : s.bundle.loading = some l)
    (hread : (if s.bundle.loading = some none then s.foundDelay sfdp else s).readBundle flash errs = (u, r)) :
    bundleLoadDone sfdp flash errs s = u.stopLoad.settleLoad r := by
  have hruns : ¬ ((!s.domOn .sec) = true ∨ s.bundle.loading.isNone = true) := by simp [hon, hloading]
  unfold bundleLoadDone
  rw [if_neg hruns]
  unfold State.foundDelay at hread
  dsimp only
  rw [hread]
  cases r with
  | inr e => rfl
  | inl img =>
    show (match u.stopLoad.verifyBundle img with | .inl b => _ | .inr e => _) = _
    unfold State.settleLoad State.judgeImage
    rfl

/-! ### A load fails -/

/-- The load is over, and what it found is in ERR and SEC.BUNDLE_ERR. -/
def State.noteFailure (s : State) (e : Nat) : State :=
  ({ s with bundle := { s.bundle with loading := none } }.setFld F.SEC_BUNDLE_STAT_ERR 0 e).event B.SEC 0 3

theorem State.failLoad_eq (s : State) (e : Nat) :
    s.failLoad e = if s.bundle.loading == some none then (s.noteFailure e).raiseFault 340 else s.noteFailure e := rfl

/-- The pages of a load that fails. -/
abbrev loadPage (a : Nat) : Prop := blkOf a ∈ [B.SEC]

section
variable (s : State) {e : Nat}

theorem State.noteFailure_bundle : (s.noteFailure e).bundle = { s.bundle with loading := none } := by
  rw [State.noteFailure, State.event_bundle, State.setFld_bundle]

theorem State.noteFailure_keep : (s.noteFailure e).keep = s.keep := by
  rw [State.noteFailure, State.event_keep, State.setFld_keep]

theorem State.noteFailure_lmem : (s.noteFailure e).lmem = s.lmem := by
  rw [State.noteFailure, State.event_lmem, State.setFld_lmem]

theorem State.noteFailure_err (he : e < 256) : (s.noteFailure e).fld F.SEC_BUNDLE_STAT_ERR 0 = e := by
  rw [State.noteFailure, State.fld_event_ne _ (by decide), State.fld_setFld_same _ _ _ _ (by decide)]
  exact Nat.mod_eq_of_lt he

theorem State.noteFailure_raised : (s.noteFailure e).raised B.SEC 0 3 = true := State.event_bit _ _ _ _ (by decide)

theorem State.noteFailure_busy : (s.noteFailure e).flag F.SEC_BUNDLE_STAT_BUSY 0 = s.flag F.SEC_BUNDLE_STAT_BUSY 0 := by
  refine congrArg (· == 1) ?_
  exact (State.fld_event_ne _ (by decide) _).trans (State.fld_setFld_bits _ _ _ _ _ _ (by decide) (by decide))

theorem State.noteFailure_moves : s.moves loadPage (s.noteFailure e) :=
  (((State.moves.refl loadPage s).beside (u := { s with bundle := { s.bundle with loading := none } }) rfl rfl
    rfl).setFld (by decide)).event (by decide)

/-- What a load that fails shows, and what it leaves. -/
theorem State.failLoad_shows (he : e < 256) : (s.failLoad e).bundle = { s.bundle with loading := none } ∧
    (s.failLoad e).fld F.SEC_BUNDLE_STAT_ERR 0 = e ∧ (s.failLoad e).raised B.SEC 0 3 = true ∧
    (s.failLoad e).flag F.SEC_BUNDLE_STAT_BUSY 0 = s.flag F.SEC_BUNDLE_STAT_BUSY 0 ∧
    s.moves loadPage (s.failLoad e) ∧ (s.failLoad e).keep = s.keep ∧ (s.failLoad e).lmem = s.lmem ∧
    (s.bundle.loading = some none → 340 ∈ (s.failLoad e).flt.pair) := by
  rw [State.failLoad_eq]
  by_cases hboot : (s.bundle.loading == some none) = true
  · rw [if_pos hboot]
    refine ⟨?_, ?_, ?_, ?_, s.noteFailure_moves.raiseFault 340, ?_, ?_, fun _ => State.raiseFault_mem _ _⟩
    · rw [State.raiseFault_bundle, State.noteFailure_bundle]
    · rw [State.raiseFault_fld, s.noteFailure_err he]
    · rw [State.raised_congr (State.raiseFault_reg ..), State.noteFailure_raised]
    · rw [State.flag_congr (State.raiseFault_reg ..), State.noteFailure_busy]
    · rw [State.raiseFault_keep, State.noteFailure_keep]
    · rw [State.raiseFault_lmem, State.noteFailure_lmem]
  · rw [if_neg hboot]
    exact ⟨s.noteFailure_bundle, s.noteFailure_err he, s.noteFailure_raised, s.noteFailure_busy, s.noteFailure_moves,
      s.noteFailure_keep, s.noteFailure_lmem, fun h => absurd (beq_iff_eq.mpr h) hboot⟩

theorem State.stopLoad_shows : s.stopLoad.bundle = s.bundle ∧ s.stopLoad.keep = s.keep ∧ s.stopLoad.lmem = s.lmem ∧
    s.stopLoad.flag F.SEC_BUNDLE_STAT_BUSY 0 = false ∧ s.moves loadPage s.stopLoad :=
  ⟨(State.setFlag_bundle ..).trans (State.setFlag_bundle ..), (State.setFlag_keep ..).trans (State.setFlag_keep ..),
    (State.setFlag_lmem ..).trans (State.setFlag_lmem ..), State.flag_setFlag_same _ _ _ _ rfl (by decide),
    ((State.moves.refl _ s).setFlag (by decide)).setFlag (by decide)⟩

end

/-! ### What applying a bundle leaves of the bundle held -/

/-- `t` holds the bundle of `s`, but for the pairs deferred. -/
def State.keepsBundle (s t : State) : Prop := ∃ ps, t.bundle = { s.bundle with deferred := ps }

namespace State.keepsBundle

protected theorem refl (s : State) : s.keepsBundle s := ⟨_, rfl⟩

section
variable {s t u : State} (h : s.keepsBundle t)
include h

/-- Whatever leaves the bundle alone. -/
theorem of_eq (hu : u.bundle = t.bundle) : s.keepsBundle u := by
  obtain ⟨ps, ht⟩ := h
  exact ⟨ps, hu.trans ht⟩

theorem ite {c : Prop} [Decidable c] (hu : s.keepsBundle u) : s.keepsBundle (if c then t else u) := by
  split <;> assumption

theorem forAll {xs : List Nat} {f : State → Nat → State} (hf : ∀ u x, s.keepsBundle u → s.keepsBundle (f u x)) :
    s.keepsBundle (forAll xs t f) := forAll_keeps (s.keepsBundle ·) (fun u x _ => hf u x) h

theorem withDeferred {ps : List (Nat × Word)} :
    s.keepsBundle { t with bundle := { t.bundle with deferred := ps } } := by
  obtain ⟨qs, ht⟩ := h
  exact ⟨ps, by rw [ht]⟩

end

section
variable {s t : State} (h : s.keepsBundle t) {a i n v : Nat} {w : Word} {f : Field} {x : Bool} {bs : List Byte}
include h

theorem setReg : s.keepsBundle (t.setReg a w) := h
theorem setFld : s.keepsBundle (t.setFld f i v) := h.setReg
theorem setFlag : s.keepsBundle (t.setFlag f i x) := h.setFld
theorem event : s.keepsBundle (t.event a i n) := h.of_eq (State.event_bundle ..)
theorem keepStore : s.keepsBundle (t.keepStore a w) := h.of_eq (State.keepStore_bundle ..)
theorem setRegBytes : s.keepsBundle (t.setRegBytes f bs n) := h.of_eq (State.setRegBytes_bundle ..)
theorem withFlt {q : Flt} : s.keepsBundle { t with flt := q } := h

/-! The sections (R235, R284, R340, R394, R270) -/

theorem seqStore : s.keepsBundle (t.seqStore a v) := h.ite h.keepStore

theorem loadSeqprog : s.keepsBundle (t.loadSeqprog bs) := by
  have hsteps := h.forAll (xs := List.range 256) (f := fun u i => u.seqStore (kwStep i) (seqWord bs (4 * i)))
    fun _ _ hu => hu.seqStore
  have hrails := hsteps.forAll (xs := List.range 48) (f := fun u r => Machine.forAll (List.range 3) u fun u k =>
    u.seqStore (kwRail r k) (seqWord bs (0x400 + 16 * r + 4 * k))) fun _ _ hu => hu.forAll fun _ _ hv => hv.seqStore
  have hentries := hrails.forAll (xs := List.range 4) 
    (f := fun u sc => u.seqStore (kwEntry sc) (seqWord bs (0x700 + 4 * sc))) fun _ _ hu => hu.seqStore
  exact (hentries.seqStore (a := kwSeqCfg) (v := seqWord bs 0x710)).forAll
    fun _ _ hu => hu.forAll fun _ _ hv => hv.seqStore

theorem moDemand {z : Int} : s.keepsBundle (t.moDemand n z) :=
  h.forAll fun _ _ hu => (State.keepsBundle.ite hu.event hu).setFlag
theorem hvDemand {z : Int} : s.keepsBundle (t.hvDemand n z) := h.forAll fun _ _ hu => hu.setFld.setFlag
theorem ctlDisable : s.keepsBundle (Machine.ctlDisable n t) := h.setFlag.setFlag.setFld.moDemand.hvDemand.ite h

theorem loadLaw : s.keepsBundle (t.loadLaw n bs) := by
  have hregs := h.ctlDisable (n := n) |>.setFlag (f := F.CTL_STAT_ACTIVE) (i := n) (x := false)
    |>.setFlag (f := F.CTL_STAT_PEND) (i := n) (x := false)
  exact hregs.setReg.setReg.setReg.setReg.setReg.setReg.forAll fun _ _ hu => hu.setReg.setReg

theorem writeXin : s.keepsBundle (t.writeXin n w) := h.setReg.withFlt.ite (h.setReg.ite h.setReg.withFlt)

theorem loadFaultPol : s.keepsBundle (t.loadFaultPol bs) :=
  ((h.forAll fun _ _ hu => State.keepsBundle.setReg (State.keepsBundle.setReg hu)).forAll
      fun _ _ hu => hu.writeXin).setReg

theorem loadCallim : s.keepsBundle (t.loadCallim bs) :=
  ((h.forAll fun _ _ hu => hu.setReg).forAll fun _ _ hu => hu.setReg).setFlag

theorem loadPeriods : s.keepsBundle (t.loadPeriods bs) := h.ite (h.forAll fun _ _ hu => hu.setReg)

end
end State.keepsBundle

/-- The bundle of `img` is held, and no load runs. -/
def State.holdsBundle (t : State) (img : List Byte) (delay : Option Nat) : Prop :=
  t.bundle.ok = true ∧ t.bundle.loading = none ∧ t.bundle.digest = bundleDigest img ∧
    t.bundle.sections = sectionTable img ∧ t.bundle.delay = delay

/-- Without a REGS section there is no pair to apply. -/
theorem regsPairs_of_noRegs {img : List Byte} (h : (sectionTable img).all (fun x => x.typ ≠ 1) = true) :
    ((sectionTable img).filter fun x => x.typ == 1) = [] :=
  List.filter_eq_nil_iff.mpr fun x hx => by simpa using List.all_eq_true.mp h x hx

theorem State.acceptBundle_holds (s : State) {img : List Byte}
    (h : (sectionTable img).all (fun x => x.typ ≠ 1) = true) :
    (s.acceptBundle img).holdsBundle img s.bundle.delay := by
  unfold State.acceptBundle
  extract_lets sections ofType only speed stored old placed seqprog laws faultPol callim pairs now periods held
      applied shown minver
  have hpairs : pairs = [] := by
    simp only [pairs, ofType, sections, regsPairs_of_noRegs h, List.map_nil, List.flatMap_nil]
  have hnow : now = [] := by simp only [now, hpairs, List.takeWhile_nil, ite_self]
  have hplaced := State.keepsBundle.refl placed
  have hseqprog : placed.keepsBundle seqprog := hplaced.ite hplaced.loadSeqprog
  have hlaws : placed.keepsBundle laws :=
    List.foldlRecOn (motive := (placed.keepsBundle ·)) _ _ hseqprog fun _ hu _ _ => hu.loadLaw
  have hfaultPol : placed.keepsBundle faultPol := hlaws.ite hlaws.loadFaultPol
  have hcallim : placed.keepsBundle callim := hfaultPol.ite hfaultPol.loadCallim
  have hperiods : placed.keepsBundle periods := hcallim.loadPeriods.ite hcallim
  have happlied : placed.keepsBundle applied := by
    simp only [applied, hnow, List.foldl_nil]
    exact hperiods.withDeferred
  have hshown : placed.keepsBundle shown := happlied.setReg.setRegBytes
  obtain ⟨ps, hb⟩ : placed.keepsBundle (minver.event B.SEC 0 2) := (hshown.keepStore.ite hshown).event
  unfold State.holdsBundle
  rw [hb]
  exact ⟨rfl, rfl, rfl, rfl, rfl⟩

/-! ### A load ends as its image is judged -/

section
variable {s u : State} {r : List Byte ⊕ Nat} {l : Option Nat} {sfdp : BitVec 16} {flash : Option (List Byte)}
  {errs : List CwErr} (hon : s.domOn .sec = true) (hloading : s.bundle.loading = some l)
  (hread : (if s.bundle.loading = some none then s.foundDelay sfdp else s).readBundle flash errs = (u, r))
include hon hloading hread

/-- A load that has read `r`, up to the state `u`, and fails with `e`. -/
theorem bundleLoadDone_fails {e : Nat} (hregs : u.regs = s.regs) (hkeep : u.keep = s.keep) (hlmem : u.lmem = s.lmem)
    (hjudge : u.stopLoad.judgeImage r = .inr e) (he : e < 256) :
    (bundleLoadDone sfdp flash errs s).bundle = { u.bundle with loading := none } ∧
      (bundleLoadDone sfdp flash errs s).fld F.SEC_BUNDLE_STAT_ERR 0 = e ∧
      (bundleLoadDone sfdp flash errs s).raised B.SEC 0 3 = true ∧
      (bundleLoadDone sfdp flash errs s).flag F.SEC_BUNDLE_STAT_BUSY 0 = false ∧
      s.regsOutside (bundleLoadDone sfdp flash errs s) [B.SEC] ∧ (bundleLoadDone sfdp flash errs s).keep = s.keep ∧
      (bundleLoadDone sfdp flash errs s).lmem = s.lmem ∧
      (u.bundle.loading = some none → 340 ∈ (bundleLoadDone sfdp flash errs s).flt.pair) := by
  obtain ⟨hbundle', hkeep', hlmem', hbusy', hmoves'⟩ := u.stopLoad_shows
  obtain ⟨hbundle, herr, hraised, hbusy, hmoves, hkept, hlmemKept, hfault⟩ := u.stopLoad.failLoad_shows he
  rw [hbundle'] at hbundle hfault
  rw [bundleLoadDone_eq hon hloading hread, State.settleLoad, hjudge]
  exact ⟨hbundle, herr, hraised, hbusy.trans hbusy',
    fun a ha => ((hmoves'.trans hmoves).regs a ha).trans (State.reg_congr hregs a), hkept.trans (hkeep'.trans hkeep),
    hlmemKept.trans (hlmem'.trans hlmem), hfault⟩

/-- One whose image passes, and holds no REGS section. -/
theorem bundleLoadDone_accepts {img : List Byte} (hjudge : u.stopLoad.judgeImage r = .inl img)
    (hnoRegs : (sectionTable img).all (fun x => x.typ ≠ 1) = true) :
    (bundleLoadDone sfdp flash errs s).holdsBundle img u.bundle.delay := by
  have hholds := (u.stopLoad.setFld F.SEC_BUNDLE_STAT_ERR 0 0).acceptBundle_holds hnoRegs
  rw [State.setFld_bundle, u.stopLoad_shows.1] at hholds
  rw [bundleLoadDone_eq hon hloading hread, State.settleLoad, hjudge]
  exact hholds

end

/-- The load's end, as a state of its own. -/
theorem exec_bundleLoadDone (s : State) (sfdp : BitVec 16) (flash : Option (List Byte)) (errs : List CwErr) :
    ∃ t, bundleLoadDone sfdp flash errs s = t ∧ exec (.bundleLoadDone flash errs sfdp) s = .next (s.finish t) :=
  ⟨_, rfl, rfl⟩

/-- An image that was read is judged by the keep store, which no read changes. -/
theorem State.judgeImage_read {s u : State} (hkeep : u.keep = s.keep) (img : List Byte) :
    u.stopLoad.judgeImage (.inl img) = s.verifyBundle img :=
  State.verifyBundle_congr (u.stopLoad_shows.2.1.trans hkeep) img

theorem State.loadError_of_error {s : State} {img : List Byte} {e : Nat} (h : s.verifyBundle img = .inr e) :
    s.loadError img = some e := by rw [State.loadError, h]; rfl

theorem State.load_of_image {s : State} {img pt : List Byte} (h : s.verifyBundle img = .inl pt) :
    s.loadError img = none ∧ s.loadImage img = pt := by rw [State.loadError, State.loadImage, h]; exact ⟨rfl, rfl⟩

/-! ### BUNDLE_LOAD_DONE of a pushed image -/

section
variable {s : State} {a : Nat} {errs : List CwErr} (sfdp : BitVec 16) (flash : Option (List Byte))
  (hon : s.domOn .sec = true) (hloading : s.bundle.loading = some (some a)) (hclean : cleanRead errs a 0x140)
  (hgood : s.poisoned a 0x140 = false)
include hon hloading hclean hgood

theorem exec_bundleLoadDone_badHeader (hheader : headerLayout (s.lmemBytes a 0x140) = false) :
    ∃ t, exec (.bundleLoadDone flash errs sfdp) s = .next t ∧ t.bundle = { s.bundle with loading := none } ∧
      t.fld F.SEC_BUNDLE_STAT_ERR 0 = 1 ∧ t.raised B.SEC 0 3 = true ∧ t.flag F.SEC_BUNDLE_STAT_BUSY 0 = false ∧
      s.regsOutside t [B.SEC] ∧ t.keep = s.keep ∧ t.lmem = s.lmem := by
  have hread : (if s.bundle.loading = some none then s.foundDelay sfdp else s).readBundle flash errs =
      (s.taken, .inr beLayout) := by
    rw [if_neg (by simp [hloading]), State.readBundle_badHeader hloading hclean hgood flash hheader]
  obtain ⟨hbundle, herr, hraised, hbusy, hregs, hkeep, hlmem, -⟩ :=
    bundleLoadDone_fails hon hloading hread rfl rfl rfl rfl (by decide)
  obtain ⟨t, ht, hexec⟩ := exec_bundleLoadDone s sfdp flash errs
  rw [ht] at hbundle herr hraised hbusy hregs hkeep hlmem
  exact ⟨s.finish t, hexec, hbundle, herr, hraised, hbusy, hregs, hkeep, hlmem⟩

theorem exec_bundleLoadDone_judged (hheader : headerLayout (s.lmemBytes a 0x140) = true) {img : List Byte}
    (himg : img = s.lmemBytes a (bhTotal (s.lmemBytes a 0x140)))
    (hcleanAll : cleanRead errs a (bhTotal (s.lmemBytes a 0x140)))
    (hgoodAll : s.poisoned a (bhTotal (s.lmemBytes a 0x140)) = false) :
    ∃ t, exec (.bundleLoadDone flash errs sfdp) s = .next t ∧
      (if (s.loadError img).isSome = true then
        t.bundle = { s.bundle with loading := none } ∧ t.fld F.SEC_BUNDLE_STAT_ERR 0 = (s.loadError img).getD 0 ∧
        t.raised B.SEC 0 3 = true ∧ t.flag F.SEC_BUNDLE_STAT_BUSY 0 = false ∧ s.regsOutside t [B.SEC] ∧
        t.keep = s.keep ∧
        t.lmem = s.lmem
      else (sectionTable (s.loadImage img)).all (fun x => x.typ ≠ 1) = true → t.bundle.ok = true ∧
      t.bundle.loading = none ∧
        t.bundle.digest = bundleDigest (s.loadImage img) ∧ t.bundle.sections = sectionTable (s.loadImage img)) := by
  have hread : (if s.bundle.loading = some none then s.foundDelay sfdp else s).readBundle flash errs =
      (s.taken, .inl img) := by
    rw [if_neg (by simp [hloading]), himg,
      State.readBundle_image hloading hclean hgood flash hheader hcleanAll hgoodAll]
  have hjudge := State.judgeImage_read (s := s) (u := s.taken) rfl img
  obtain ⟨t, ht, hexec⟩ := exec_bundleLoadDone s sfdp flash errs
  refine ⟨s.finish t, hexec, ?_⟩
  cases hverify : s.verifyBundle img with
  | inr e =>
    obtain ⟨hbundle, herr, hraised, hbusy, hregs, hkeep, hlmem, -⟩ :=
      bundleLoadDone_fails hon hloading hread rfl rfl rfl (hjudge.trans hverify) (State.verifyBundle_error hverify)
    rw [ht] at hbundle herr hraised hbusy hregs hkeep hlmem
    rw [State.loadError_of_error hverify]
    exact ⟨hbundle, herr, hraised, hbusy, hregs, hkeep, hlmem⟩
  | inl pt =>
    obtain ⟨herror, hpt⟩ := State.load_of_image hverify
    rw [herror, if_neg (by decide), hpt]
    intro hnoRegs
    obtain ⟨hok, hnone, hdigest, hsections, -⟩ :=
      bundleLoadDone_accepts hon hloading hread (hjudge.trans hverify) hnoRegs
    rw [ht] at hok hnone hdigest hsections
    exact ⟨hok, hnone, hdigest, hsections⟩

end

/-! ### BUNDLE_LOAD_DONE of BOOT's load (R170, R410) -/

theorem exec_bundleLoadDone_boot {s : State} (sfdp : BitVec 16) (flash : Option (List Byte)) (errs : List CwErr)
    {img : List Byte} (hon : s.domOn .sec = true) (hloading : s.bundle.loading = some none)
    (himg : img = (s.flashRead sfdp flash).getD []) :
    ∃ t, exec (.bundleLoadDone flash errs sfdp) s = .next t ∧
      (if s.flashRead sfdp flash = none ∨ (s.loadError img).isSome = true then
        t.bundle = { s.bundle with loading := none, delay := flashDelay sfdp } ∧
        t.fld F.SEC_BUNDLE_STAT_ERR 0 = (if s.flashRead sfdp flash = none then 7 else (s.loadError img).getD 0) ∧
        t.raised B.SEC 0 3 = true ∧ 340 ∈ t.flt.pair ∧ s.regsOutside t [B.SEC] ∧ t.keep = s.keep ∧ t.lmem = s.lmem
      else (sectionTable (s.loadImage img)).all (fun x => x.typ ≠ 1) = true → t.bundle.ok = true ∧
      t.bundle.loading = none ∧
        t.bundle.delay = flashDelay sfdp ∧ t.bundle.sections = sectionTable (s.loadImage img)) := by
  have hread : (if s.bundle.loading = some none then s.foundDelay sfdp else s).readBundle flash errs =
      (s.foundDelay sfdp, match s.flashRead sfdp flash with | some img => .inl img | none => .inr beFlash) := by
    rw [if_pos hloading, State.readBundle_flash hloading]
  obtain ⟨t, ht, hexec⟩ := exec_bundleLoadDone s sfdp flash errs
  refine ⟨s.finish t, hexec, ?_⟩
  cases hflash : s.flashRead sfdp flash with
  | none =>
    rw [hflash] at hread
    obtain ⟨hbundle, herr, hraised, -, hregs, hkeep, hlmem, hfault⟩ :=
      bundleLoadDone_fails hon hloading hread rfl rfl rfl rfl (by decide)
    rw [ht] at hbundle herr hraised hregs hkeep hlmem hfault
    rw [if_pos (.inl rfl), if_pos rfl]
    exact ⟨hbundle, herr, hraised, hfault hloading, hregs, hkeep, hlmem⟩
  | some found =>
    obtain rfl : img = found := by rw [himg, hflash]; rfl
    rw [hflash] at hread
    have hjudge := State.judgeImage_read (s := s) (u := s.foundDelay sfdp) rfl img
    cases hverify : s.verifyBundle img with
    | inr e =>
      obtain ⟨hbundle, herr, hraised, -, hregs, hkeep, hlmem, hfault⟩ :=
        bundleLoadDone_fails hon hloading hread rfl rfl rfl (hjudge.trans hverify) (State.verifyBundle_error hverify)
      rw [ht] at hbundle herr hraised hregs hkeep hlmem hfault
      rw [State.loadError_of_error hverify, if_pos (.inr rfl), if_neg (by simp)]
      exact ⟨hbundle, herr, hraised, hfault hloading, hregs, hkeep, hlmem⟩
    | inl pt =>
      obtain ⟨herror, hpt⟩ := State.load_of_image hverify
      rw [herror, if_neg (by simp), hpt]
      intro hnoRegs
      obtain ⟨hok, hnone, -, hsections, hdelay⟩ :=
        bundleLoadDone_accepts hon hloading hread (hjudge.trans hverify) hnoRegs
      rw [ht] at hok hnone hdelay hsections
      exact ⟨hok, hnone, hdelay, hsections⟩

/-- Settles O32: pushes by their branches, a load's end by what it read and how that is judged. -/
theorem bundleLoads : Obligations.BundleLoads := by
  unfold Obligations.BundleLoads
  refine ⟨fun s hpage hon hmode hok hloading => ?_, fun s hpage hon hbad => ?_,
    fun s a sfdp flash errs hon hloading hclean hgood hheader =>
      exec_bundleLoadDone_badHeader sfdp flash hon hloading hclean hgood hheader,
    fun s a sfdp flash errs img hon hloading hclean hgood hheader himg hcleanAll hgoodAll =>
      exec_bundleLoadDone_judged sfdp flash hon hloading hclean hgood hheader himg hcleanAll hgoodAll,
    fun s sfdp flash errs img hon hloading himg => exec_bundleLoadDone_boot sfdp flash errs hon hloading himg⟩
  · obtain ⟨hbundle, hbusy, herr, hsrc, hregs, hlmem⟩ := bundlePush_shows hmode hok hloading
    exact ⟨_, exec_bundlePush hpage hon, hbundle, hbusy, herr, hsrc, hregs, hlmem⟩
  · obtain ⟨herr, hraised, hregs, hmoves⟩ := bundlePush_refused hbad
    exact ⟨_, exec_bundlePush hpage hon, herr, hraised, hregs, hmoves.onlyRegs⟩

end Sys2Proof.Machine
end

section
/-! SUPPORT. Frames stopped, spoiled and lost: that leaves the generators alone, and every register outside the pages of SYS,
APR, FST and ATT (R48 to R54). A proof follows the operation's own steps and branches. -/

namespace Sys2Proof.Machine

/-! ### Generators beside the rings, the modes and the plane records -/

section
variable (s : State) {r n c : Nat} {bs : List Byte} {x : Bool}

theorem State.setTail_pgns : (s.setTail r n).pgns = s.pgns := by unfold State.setTail; dsimp only; split <;> rfl
theorem State.ringPut_pgns : (s.ringPut r bs).pgns = s.pgns := by
  refine (State.setTail_pgns _).trans ?_
  split <;> rfl
theorem State.putUnreserved_pgns : (s.putUnreserved r bs).pgns = s.pgns := by
  unfold State.putUnreserved State.ringDrop
  split_ifs
  · simp
  · exact s.ringPut_pgns
  · rfl
  · simp
theorem State.putReserved_pgns : (s.putReserved r bs).pgns = s.pgns := by
  unfold State.putReserved
  split
  · exact State.ringPut_pgns _
  · rfl
theorem State.forwardEvent_pgns : (s.forwardEvent r bs).pgns = s.pgns := by
  unfold State.forwardEvent
  split_ifs
  · exact s.putUnreserved_pgns
  · obtain ⟨_, _, _, hsent⟩ := (State.movesPackets.refl s).sendTo (p := s.mkPacket 0x09 s.headId 0 (takeAt bs 0 24))
    rw [hsent]
  · rfl
theorem State.writeEvent_pgns {e : EvRec} : (s.writeEvent r x e).pgns = s.pgns := by
  refine (State.forwardEvent_pgns _).trans ?_
  split
  · exact s.putReserved_pgns
  · exact s.putUnreserved_pgns

theorem State.deviceMode_pgns (m : Mode) : (s.deviceMode m).pgns = s.pgns := by
  unfold State.deviceMode
  split
  · rfl
  · split <;> rfl
theorem State.printCheck_pgns : s.printCheck.pgns = s.pgns := by
  unfold State.printCheck
  dsimp only
  split_ifs
  · rfl
  · exact s.deviceMode_pgns _
  · exact s.deviceMode_pgns _
  · exact s.deviceMode_pgns _
  · rfl

theorem State.fstStat_pgns : s.fstStat.pgns = s.pgns := by simp [State.fstStat]
theorem State.setRec_pgns {q : Option PlaneRec} : (s.setRec n q).pgns = s.pgns := State.fstStat_pgns _
theorem State.freeRecs_pgns : (s.freeRecs c).pgns = s.pgns := by
  refine (State.fstStat_pgns _).trans ?_
  exact forAll_keeps (fun t : State => t.pgns = s.pgns) (fun t _ _ ht => t.setRec_pgns.trans ht) rfl

end

/-! ### The course of a frame -/

/-- Outside the pages of SYS, APR, FST and ATT no register of `t` differs from that of `s`; nor does a generator. -/
structure State.besideFrames (s t : State) : Prop where
  regs : s.regsOutside t [B.SYS, B.APR, B.FST, B.ATT]
  pgns : t.pgns = s.pgns

namespace State.besideFrames

protected theorem refl (s : State) : s.besideFrames s := ⟨fun _ _ => rfl, rfl⟩

theorem frameReg_ring : ∀ a, ringReg a → blkOf a ∈ [B.SYS, B.APR, B.FST, B.ATT] := fun _ ⟨hblk, _⟩ => by simp [hblk]

section
variable {s t u : State} (h : s.besideFrames t)
include h

theorem ite {c : Prop} [Decidable c] (hu : s.besideFrames u) : s.besideFrames (if c then t else u) := by
  split <;> assumption

theorem forAll {xs : List Nat} {f : State → Nat → State} (hf : ∀ u x, s.besideFrames u → s.besideFrames (f u x)) :
    s.besideFrames (forAll xs t f) :=
  forAll_keeps (s.besideFrames ·) (fun u x _ => hf u x) h

/-- A register of a generator's page. -/
theorem pgnReg {g off : Nat} (hg : g < 32) (ho : off < 4096) : t.reg (regAddr B.PGN g off) = s.reg (regAddr B.PGN g off) :=
  h.regs _ (blkOf_page_notMem (by decide) (by decide) (by omega) ho)

/-- Updates of which both halves are known. -/
theorem moved (hm : t.moves (fun a => blkOf a ∈ [B.SYS, B.APR, B.FST, B.ATT]) u) (hp : u.pgns = t.pgns) :
    s.besideFrames u :=
  ⟨fun a ha => (hm.regs a ha).trans (h.regs a ha), hp.trans h.pgns⟩

end

section
variable {s t : State} (h : s.besideFrames t) {c a v r n src stns : Nat} {x : Bool}
include h

theorem setCtx {x : Ctx} : s.besideFrames (t.setCtx c x) := ⟨h.regs, h.pgns⟩
theorem frameEvent : s.besideFrames (t.frameEvent c a v r n x) :=
  have hrecord : ∀ {u : State}, s.besideFrames u → ∀ {b e}, s.besideFrames
      ((u.event B.APR 0 a).writeEvent (t.ctx c).evRing b e) := fun {_} hu {_ _} =>
    hu.moved (((State.moves.refl _ _).event (by decide)).writeEvent frameReg_ring (t.ctx c).evRing_lt)
      ((State.writeEvent_pgns _).trans (State.event_pgns ..))
  hrecord (h.setCtx.ite h)
theorem returnSlots : s.besideFrames (t.returnSlots c) :=
  (h.moved ((State.moves.refl _ _).ringRelease frameReg_ring (t.ctx c).evRing_lt) rfl).setCtx
theorem printCheck : s.besideFrames t.printCheck :=
  h.moved ((State.moves.refl _ _).printCheck (by decide)) t.printCheck_pgns
theorem assignCounter : s.besideFrames (t.assignCounter c) :=
  have hcount : ∀ {u : State}, s.besideFrames u → ∀ {q k}, s.besideFrames
      (({ u with att := q } : State).setFld F.ATT_STAT_PEND 0 k) := fun {_} hu {_ _} =>
    hu.moved ((State.moves.refl _ _).withAtt.setFld (f := F.ATT_STAT_PEND) (by decide)) rfl
  h.ite (hcount h.setCtx)
theorem clockStart : s.besideFrames (t.clockStart c) :=
  (h.setCtx.assignCounter.ite h.setCtx.assignCounter.returnSlots).ite h
theorem spoilWith : s.besideFrames (t.spoilWith x c v src) :=
  ((h.setCtx.frameEvent.clockStart.ite h.setCtx.frameEvent).printCheck).ite
    (((h.setCtx.ite h).ite (h.setCtx.ite h).frameEvent).ite h)
theorem spoil : s.besideFrames (t.spoil c v src) := h.spoilWith
theorem spoilAt : s.besideFrames (t.spoilAt n v src x) := h.forAll fun _ _ hu => (hu.setCtx.ite hu).spoil
theorem outOfService : s.besideFrames (t.outOfService n v src) := h.forAll fun _ _ hu => hu.setCtx.spoil
theorem freeRecs : s.besideFrames (t.freeRecs c) :=
  h.moved ((State.moves.refl _ _).freeRecs (by decide)) t.freeRecs_pgns
theorem tryRetire : s.besideFrames (t.tryRetire c) := h.freeRecs.returnSlots.setCtx.printCheck.ite h
theorem lose : s.besideFrames (t.lose c v) :=
  h.ite (h.setCtx.frameEvent.tryRetire.printCheck.ite (h.setCtx.ite h))
theorem stopFrame : s.besideFrames (t.stopFrame c) := h.clockStart.ite h
theorem transportStops : s.besideFrames (t.transportStops v) :=
  (h.forAll fun _ _ hu => hu.stopFrame).forAll fun _ _ hu => hu.lose
theorem cutFacet : s.besideFrames (t.cutFacet n v) := by
  obtain ⟨_, _, hcut, -⟩ := t.cutFacet_eq n v
  rw [hcut]
  exact ⟨h.regs, h.pgns⟩
theorem motorFail : s.besideFrames (t.motorFail stns x src) :=
  have hstations := h.forAll fun _ _ hu => hu.spoilAt.cutFacet.ite hu.spoilAt
  hstations.transportStops.ite hstations

end
end State.besideFrames

end Sys2Proof.Machine
end

section
/-! SUPPORT. What the operations on a generator write, and how it reads afterwards (R198, R199, R206, R212). -/

namespace Sys2Proof.Machine

/-! ### Registers and fields -/

section
variable (s : State) (g v : Nat)

theorem blkOf_pgn {g off : Nat} (hg : g < 32) (ho : off < 4096) : blkOf (regAddr B.PGN g off) = B.PGN :=
  blkOf_regAddr _ _ _ (by decide) (by omega) ho

/-- PAGE_LOCK guards neither PGN_CTRL nor PGN_VTGT (R212). -/
theorem rowLocked_pgn {g : Nat} (hg : g < 32) :
    rowLocked B.PGN g F.PGN_CTRL.off = false ∧ rowLocked B.PGN g F.PGN_VTGT.off = false :=
  (by decide : ∀ g < 32, rowLocked B.PGN g F.PGN_CTRL.off = false ∧ rowLocked B.PGN g F.PGN_VTGT.off = false) g hg

theorem State.setPgn_pgState (x : Pgn) (k : Nat) : (s.setPgn g x).pgState k = s.pgState k := rfl
theorem State.setPgn_fld (x : Pgn) (f : Field) (i : Nat) : (s.setPgn g x).fld f i = s.fld f i := rfl
theorem State.pgn_setPgn_same (x : Pgn) : (s.setPgn g x).pgn g = x := Sparse.get_set_same _ _ _ _

theorem State.pgn_congr {t : State} (h : t.pgns = s.pgns) : t.pgn g = s.pgn g := by unfold State.pgn; rw [h]

theorem State.pgState_setPgState {v : Nat} (h : v < 16) : (s.setPgState g v).pgState g = v :=
  (State.fld_setFld_same _ _ _ _ (by decide)).trans (Nat.mod_eq_of_lt h)

theorem State.pgState_congr {t : State} (h : t.reg (F.PGN_STAT.addr g) = s.reg (F.PGN_STAT.addr g)) :
    t.pgState g = s.pgState g := State.fld_congr h

/-- STATE and the flags of PGN_STAT stand in bits of their own. -/
theorem State.pgState_setFlag {f : Field} (hf : 4 ≤ f.lo ∧ f.lo + f.len ≤ 32) (b : Bool) :
    (s.setFlag f g b).pgState g = s.pgState g :=
  State.fld_setFld_bits _ _ _ _ _ _ hf.2 (.inl hf.1)

theorem State.flag_setPgState {f : Field} (hf : 4 ≤ f.lo) : (s.setPgState g v).flag f g = s.flag f g :=
  congrArg (· == 1) (State.fld_setFld_bits _ _ _ _ _ _ (by decide) (.inr hf))

/-- A 64-bit pair read back (R7). -/
theorem State.pair64_setPair64_same {f : Field} (hv : v < 2 ^ 64) : (s.setPair64 f g v).pair64 f g = v := by
  have hlow : (s.setPair64 f g v).reg (f.addr g) = BitVec.ofNat 32 v :=
    (State.reg_setReg_ne _ _ _ _ (by omega)).trans (State.reg_setReg_same _ _ _)
  have hhigh : (s.setPair64 f g v).reg (f.addr g + 4) = BitVec.ofNat 32 (v / 2 ^ 32) := State.reg_setReg_same _ _ _
  rw [State.pair64, hlow, hhigh, BitVec.toNat_ofNat, BitVec.toNat_ofNat]
  omega

/-- A pair reads what its two registers hold. -/
theorem State.pair64_congr {t : State} {f : Field} (h : ∀ off, off = f.off ∨ off = f.off + 4 →
    t.reg (regAddr f.blk g off) = s.reg (regAddr f.blk g off)) : t.pair64 f g = s.pair64 f g := by
  have hhigh : f.addr g + 4 = regAddr f.blk g (f.off + 4) := Nat.add_assoc ..
  rw [State.pair64, hhigh, h _ (.inr rfl), show t.reg (f.addr g) = s.reg (f.addr g) from h _ (.inl rfl), ← hhigh,
    State.pair64]

/-- An event, and a flag of another register, leave a pair of the page alone. -/
theorem State.pair64_event_off {f : Field} {blk : Nat} (n : Nat)
    (hlow : f.blk * 0x100000 + f.off ≠ blk * 0x100000 + 0x010)
    (hhigh : f.blk * 0x100000 + (f.off + 4) ≠ blk * 0x100000 + 0x010) :
    (s.event blk g n).pair64 f g = s.pair64 f g :=
  State.pair64_congr _ _ fun _ ho => State.reg_event_ne _ _ _ _ _ (regAddr_ne g (by rcases ho with rfl | rfl <;> assumption))

theorem State.pair64_setFlag_off {f f' : Field} (b : Bool) (hlow : f.blk * 0x100000 + f.off ≠ f'.blk * 0x100000 + f'.off)
    (hhigh : f.blk * 0x100000 + (f.off + 4) ≠ f'.blk * 0x100000 + f'.off) :
    (s.setFlag f' g b).pair64 f g = s.pair64 f g :=
  State.pair64_congr _ _ fun _ ho =>
    State.reg_setFlag_ne _ f' _ _ _ (regAddr_ne g (by rcases ho with rfl | rfl <;> assumption))

theorem unsign_lt (x : Int) (len : Nat) : unsign x len < 2 ^ len := by
  have hpos : (0 : Int) < (2 ^ len : Nat) := by positivity
  have := Int.emod_lt_of_pos x hpos
  have := Int.emod_nonneg x hpos.ne'
  unfold unsign; omega

end

section
variable (s : State) (g : Nat) (x : Int)

theorem State.pgStart_state : (s.pgStart g x).pgState g = pgRamp := State.pgState_setPgState _ _ (by decide)
theorem State.pgStart_pgn : (s.pgStart g x).pgn g = { s.pgn g with target := x } := s.pgn_setPgn_same g _

theorem State.pgStart_flag {f : Field} (hf : 4 ≤ f.lo) : (s.pgStart g x).flag f g = s.flag f g :=
  State.flag_setPgState (s.setPgn g { s.pgn g with target := x }) g pgRamp hf

/-- A register of the page other than PGN_STAT. -/
theorem State.pgStart_reg {f : Field} (hf : f.blk * 0x100000 + f.off ≠ B.PGN * 0x100000 + 0x074) :
    (s.pgStart g x).reg (f.addr g) = s.reg (f.addr g) :=
  State.reg_setFld_ne (s.setPgn g { s.pgn g with target := x }) F.PGN_STAT_STATE g pgRamp _ (regAddr_ne g hf)

theorem State.pgn_setPgPosQ : (s.setPgPosQ g x).pgn g = s.pgn g := State.pgn_congr _ _ (State.setPair64_pgns ..)

theorem State.pair64_setPgPosQ : (s.setPgPosQ g x).pair64 F.PGN_POS_LO g = unsign x 64 :=
  State.pair64_setPair64_same _ _ _ (unsign_lt _ _)

end

/-! ### Updates of registers and generators alone -/

/-- `t` differs from `s` in generators, in registers, and in the record of W1C bits just set, alone; and in no register
outside `W`. -/
structure State.pgMoves (W : Nat → Prop) (s t : State) : Prop where
  shape : ∃ r w p, t = { s with regs := r, fresh := w, pgns := p }
  regs : ∀ a, ¬ W a → t.reg a = s.reg a

namespace State.pgMoves

variable {W : Nat → Prop} {s t u : State}

protected theorem refl (W : Nat → Prop) (s : State) : s.pgMoves W s := ⟨⟨_, _, _, rfl⟩, fun _ _ => rfl⟩

section
variable (h : s.pgMoves W t) {a g i n v blk : Nat} {w : Word} {f : Field} {b : Bool} {x : Int}
include h

theorem lmem : t.lmem = s.lmem := by obtain ⟨_, _, _, rfl⟩ := h.shape; rfl
theorem ctxs : t.ctxs = s.ctxs := by obtain ⟨_, _, _, rfl⟩ := h.shape; rfl
theorem sys : t.sys = s.sys := by obtain ⟨_, _, _, rfl⟩ := h.shape; rfl

theorem ite {c : Prop} [Decidable c] (hu : s.pgMoves W u) : s.pgMoves W (if c then t else u) := by split <;> assumption

theorem forAll {xs : List Nat} {f : State → Nat → State}
    (hf : ∀ u x, x ∈ xs → s.pgMoves W u → s.pgMoves W (f u x)) : s.pgMoves W (forAll xs t f) :=
  forAll_keeps (s.pgMoves W ·) hf h

theorem isTransport (hW : ¬ W (F.APR_XPORT_SRC.addr 0)) : t.isTransport g = s.isTransport g := by
  unfold State.isTransport
  rw [State.fld_congr (h.regs _ hW)]

theorem trans (h' : t.pgMoves W u) : s.pgMoves W u := by
  refine ⟨?_, fun a ha => (h'.regs a ha).trans (h.regs a ha)⟩
  obtain ⟨_, _, _, rfl⟩ := h.shape
  obtain ⟨r, w, p, rfl⟩ := h'.shape
  exact ⟨r, w, p, rfl⟩

theorem mono {W' : Nat → Prop} (hW : ∀ a, W a → W' a) : s.pgMoves W' t :=
  ⟨h.shape, fun a ha => h.regs a fun hw => ha (hW a hw)⟩

theorem setPgn {x : Pgn} : s.pgMoves W (t.setPgn g x) := by
  obtain ⟨r, w, p, rfl⟩ := h.shape
  exact ⟨⟨r, w, _, rfl⟩, h.regs⟩

/-- Registers moved besides. -/
theorem movesRegs (hm : t.movesRegs u) (hr : ∀ a, ¬ W a → u.reg a = t.reg a) : s.pgMoves W u := by
  refine ⟨?_, fun a ha => (hr a ha).trans (h.regs a ha)⟩
  obtain ⟨_, _, p, rfl⟩ := h.shape
  obtain ⟨r, w, rfl⟩ := hm
  exact ⟨r, w, p, rfl⟩

theorem setReg (ha : W a) : s.pgMoves W (t.setReg a w) :=
  h.movesRegs (State.movesRegs_setReg _ _ _) fun _ hb => State.reg_setReg_ne _ _ _ _ fun e => hb (by rwa [e])
theorem setFld (ha : W (f.addr i)) : s.pgMoves W (t.setFld f i v) := h.setReg ha
theorem setFlag (ha : W (f.addr i)) : s.pgMoves W (t.setFlag f i b) := h.setFld ha
theorem setPgState (ha : W (F.PGN_STAT.addr g)) : s.pgMoves W (t.setPgState g v) := h.setFld ha
theorem pgStart (ha : W (F.PGN_STAT.addr g)) : s.pgMoves W (t.pgStart g x) := h.setPgn.setPgState ha
theorem setPair64 (hlow : W (f.addr i)) (hhigh : W (f.addr i + 4)) : s.pgMoves W (t.setPair64 f i v) :=
  (h.setReg hlow).setReg hhigh
theorem setPgPosQ (hlow : W (F.PGN_POS_LO.addr g)) (hhigh : W (F.PGN_POS_HI.addr g)) : s.pgMoves W (t.setPgPosQ g x) :=
  h.setPair64 hlow hhigh

theorem event (ha : W (evtAddr blk i)) : s.pgMoves W (t.event blk i n) :=
  h.movesRegs (State.movesRegs_event _ _ _ _) fun _ hb => State.reg_event_ne _ _ _ _ _ fun e => hb (by rw [e]; exact ha)

omit h in
/-- Moves of listed registers, all of a generator's page. -/
theorem onPage {as : List Nat} (h : s.pgMoves (· ∈ as) t) (has : ∀ a ∈ as, blkOf a = B.PGN) :
    s.pgMoves (blkOf · = B.PGN) t := h.mono has

omit h in
/-- They leave the steppers' pages alone. -/
theorem stpReg (h : s.pgMoves (blkOf · = B.PGN) t) {m off : Nat} (hm : m < 16) (ho : off < 4096) :
    t.reg (regAddr B.STP m off) = s.reg (regAddr B.STP m off) :=
  h.regs _ fun e => absurd ((blkOf_regAddr _ _ _ (by decide) (by omega) ho).symm.trans e) (by decide)

end
end State.pgMoves

end Sys2Proof.Machine
end

section
/-! PROOFS. The commands to a generator, and its capture (R197, R199, R200, R202, R212). -/

namespace Sys2Proof.Machine

/-! ### A command arrives -/

section
variable {s : State} {g : Nat} (hg : g < 32)
include hg

theorem State.pgOn_of_domOn (hon : s.domOn .ctl = true) : s.pgOn g = true := by simp [State.pgOn, hg, hon]

/-- A write of a page register that PAGE_LOCK does not guard has its effect at a generator that is there. -/
theorem State.onPage_pgn (hpage : s.openPage B.PGN g) (hon : s.domOn .ctl = true) {off : Nat}
    (hlock : rowLocked B.PGN g off = false) (f : State → State) :
    (s.onPage B.PGN g off fun s => if s.pgOn g then f s else s) = f s := by
  obtain ⟨hmode, hexists, hpageOn⟩ := hpage
  rw [State.onPage_open _ _ _ _ _ hmode hexists hpageOn hlock, if_pos (State.pgOn_of_domOn hg hon)]

theorem exec_pgnGo (hpage : s.openPage B.PGN g) (hon : s.domOn .ctl = true) :
    exec (.pgnGo g) s = .next (s.finish (pgnGo g s)) :=
  next_finish (State.onPage_pgn hg hpage hon (rowLocked_pgn hg).1 _)
theorem exec_pgnStop (hpage : s.openPage B.PGN g) (hon : s.domOn .ctl = true) :
    exec (.pgnStop g) s = .next (s.finish (pgnStop g s)) :=
  next_finish (State.onPage_pgn hg hpage hon (rowLocked_pgn hg).1 _)
theorem exec_pgnPreset (hpage : s.openPage B.PGN g) (hon : s.domOn .ctl = true) :
    exec (.pgnPreset g) s = .next (s.finish (pgnPreset g s)) :=
  next_finish (State.onPage_pgn hg hpage hon (rowLocked_pgn hg).1 _)
theorem exec_pgnVtgtWrite (v : Word) (hpage : s.openPage B.PGN g) (hon : s.domOn .ctl = true) :
    exec (.pgnVtgtWrite g v) s = .next (s.finish (s.writeVtgt g v)) :=
  next_finish (State.onPage_pgn hg hpage hon (rowLocked_pgn hg).2 (·.writeVtgt g v))

end

section
variable (s t : State) (g : Nat)

theorem State.finish_pgState : (s.finish t).pgState g = t.pgState g := rfl
theorem State.finish_pgn : (s.finish t).pgn g = t.pgn g := rfl
theorem State.finish_pair64 (f : Field) : (s.finish t).pair64 f g = t.pair64 f g := rfl

end

section
variable {s : State} {g : Nat}

/-! ### GO (R199) -/

theorem State.pgnGo_position (hen : s.pageEn B.PGN g = true) (hmoves : s.sys.mode.moves = true)
    (hpos : s.pgVelMode g = false) : pgnGo g s =
      if s.pgState g = pgIdle then s.pgStart g (s.clampTarget g (signed (s.pair64 F.PGN_TGT_LO g) 64))
      else if s.flag F.PGN_STAT_QUEUED g = true then s.event B.PGN g 2
      else (s.setPgn g { s.pgn g with queued := s.clampTarget g (signed (s.pair64 F.PGN_TGT_LO g) 64) }).setFlag
        F.PGN_STAT_QUEUED g true := by
  unfold pgnGo
  rw [if_neg (by simp [hen, hmoves]), if_neg (by simp [hpos])]

theorem State.pgnGo_velocity (hen : s.pageEn B.PGN g = true) (hmoves : s.sys.mode.moves = true)
    (hvel : s.pgVelMode g = true) : pgnGo g s = s.setPgn g { s.pgn g with held := false } := by
  unfold pgnGo
  rw [if_neg (by simp [hen, hmoves]), if_pos hvel]

theorem State.pgnGo_moves : s.pgMoves (· ∈ [F.PGN_STAT.addr g, evtAddr B.PGN g]) (pgnGo g s) := by
  have hrefl := State.pgMoves.refl (· ∈ [F.PGN_STAT.addr g, evtAddr B.PGN g]) s
  exact hrefl.ite (hrefl.setPgn.ite ((hrefl.pgStart (.head _)).ite
    ((hrefl.event (.tail _ (.head _))).ite (hrefl.setPgn.setFlag (.head _)))))

theorem exec_pgnGo_position (hg : g < 32) (hpage : s.openPage B.PGN g) (hon : s.domOn .ctl = true)
    (hen : s.pageEn B.PGN g = true) (hmoves : s.sys.mode.moves = true) (hpos : s.pgVelMode g = false) :
    ∃ t, exec (.pgnGo g) s = .next t ∧
      (if s.pgState g = pgIdle then
        t.pgState g = pgRamp ∧ (t.pgn g).target = s.clampTarget g (signed (s.pair64 F.PGN_TGT_LO g) 64)
      else if s.flag F.PGN_STAT_QUEUED g = true then t.raised B.PGN g 2 = true ∧ t.pgns = s.pgns
      else t.flag F.PGN_STAT_QUEUED g = true ∧
        (t.pgn g).queued = s.clampTarget g (signed (s.pair64 F.PGN_TGT_LO g) 64)) ∧
      s.regsBut t [F.PGN_STAT.addr g, evtAddr B.PGN g] ∧ t.lmem = s.lmem := by
  refine ⟨_, exec_pgnGo hg hpage hon, ?_, s.pgnGo_moves.regs, s.pgnGo_moves.lmem⟩
  rw [State.finish_pgState, State.finish_pgn, State.finish_raised, State.finish_flag, State.finish_pgns,
    State.pgnGo_position hen hmoves hpos]
  generalize s.clampTarget g (signed (s.pair64 F.PGN_TGT_LO g) 64) = x
  by_cases hidle : s.pgState g = pgIdle
  · rw [if_pos hidle, if_pos hidle]
    exact ⟨s.pgStart_state g x, congrArg Pgn.target (s.pgStart_pgn g x)⟩
  · by_cases hqueued : s.flag F.PGN_STAT_QUEUED g = true
    · simp only [if_neg hidle, if_pos hqueued]
      exact ⟨State.event_bit _ _ _ _ (by decide), State.event_pgns ..⟩
    · simp only [if_neg hidle, if_neg hqueued]
      exact ⟨State.flag_setFlag_same _ _ _ _ rfl (by decide), congrArg Pgn.queued (s.pgn_setPgn_same g _)⟩

theorem exec_pgnGo_velocity (hg : g < 32) (hpage : s.openPage B.PGN g) (hon : s.domOn .ctl = true)
    (hen : s.pageEn B.PGN g = true) (hmoves : s.sys.mode.moves = true) (hvel : s.pgVelMode g = true) :
    ∃ t, exec (.pgnGo g) s = .next t ∧ t.pgn g = { s.pgn g with held := false } ∧ t.regs = s.regs ∧
      t.lmem = s.lmem := by
  refine ⟨_, exec_pgnGo hg hpage hon, ?_⟩
  rw [State.pgnGo_velocity hen hmoves hvel]
  exact ⟨s.pgn_setPgn_same g _, rfl, rfl⟩

/-! ### STOP (R48, R199) -/

theorem State.pgStop_moves : s.pgMoves (· ∈ [F.PGN_STAT.addr g]) (s.pgStop g) := by
  have hclear := ((State.pgMoves.refl (· ∈ [F.PGN_STAT.addr g]) s).setPgn (g := g)
    (x := { s.pgn g with held := true, drive := none })).setFlag (f := F.PGN_STAT_QUEUED) (b := false) (.head _)
  exact hclear.ite (hclear.setPgState (.head _))

/-- STOP clears the queue and decelerates to rest. -/
theorem State.pgStop_shows : (s.pgStop g).pgState g = (if s.pgState g = pgIdle then pgIdle else pgStopping) ∧
    (s.pgStop g).flag F.PGN_STAT_QUEUED g = false ∧ ((s.pgStop g).pgn g).held = true := by
  obtain ⟨u, hu⟩ : ∃ u, u = (s.setPgn g { s.pgn g with held := true, drive := none }).setFlag F.PGN_STAT_QUEUED g false :=
    ⟨_, rfl⟩
  have hstate : u.pgState g = s.pgState g := by rw [hu]; exact State.pgState_setFlag _ _ (by decide) _
  have hqueue : u.flag F.PGN_STAT_QUEUED g = false := by rw [hu]; exact State.flag_setFlag_same _ _ _ _ rfl (by decide)
  have hheld : (u.pgn g).held = true := by rw [hu]; exact congrArg Pgn.held (s.pgn_setPgn_same g _)
  have hstop : s.pgStop g = if u.pgState g = pgIdle then u else u.setPgState g pgStopping := by rw [hu]; rfl
  rw [hstop, hstate]
  split
  · next hidle => exact ⟨hstate.trans hidle, hqueue, hheld⟩
  · exact ⟨State.pgState_setPgState _ _ (by decide), (State.flag_setPgState _ _ _ (by decide)).trans hqueue, hheld⟩

/-- On the transport generator it takes the frames in flight out of service, and nothing else besides. -/
theorem State.pgnStop_beside : (s.pgStop g).besideFrames (pgnStop g s) := by
  have hrefl := State.besideFrames.refl (s.pgStop g)
  exact ((hrefl.forAll fun _ _ hu => hu.outOfService).motorFail).ite hrefl

theorem State.pgnStop_noFrames (h : s.isTransport g = false ∨ s.flight = []) : pgnStop g s = s.pgStop g := by
  have hmoves := s.pgStop_moves (g := g)
  have htransport : (s.pgStop g).isTransport g = s.isTransport g :=
    hmoves.isTransport (by simp only [List.mem_singleton, Field.addr, regAddr]; omega)
  have hflight : (s.pgStop g).flight = s.flight := by
    unfold State.flight State.byOrder State.ctxsWith State.ctx
    rw [hmoves.ctxs]
  refine if_neg ?_
  rw [htransport, hflight]
  rcases h with h | h <;> simp [h]

theorem exec_pgnStop_stops (hg : g < 32) (hpage : s.openPage B.PGN g) (hon : s.domOn .ctl = true) :
    ∃ t, exec (.pgnStop g) s = .next t ∧ t.pgState g = (if s.pgState g = pgIdle then pgIdle else pgStopping) ∧
      t.flag F.PGN_STAT_QUEUED g = false ∧ (t.pgn g).held = true ∧
      (s.isTransport g = false ∨ s.flight = [] → s.regsBut t [F.PGN_STAT.addr g] ∧ t.lmem = s.lmem) := by
  obtain ⟨hstate, hqueue, hheld⟩ := s.pgStop_shows (g := g)
  have hbeside := s.pgnStop_beside (g := g)
  have hstat : (pgnStop g s).reg (F.PGN_STAT.addr g) = (s.pgStop g).reg (F.PGN_STAT.addr g) :=
    hbeside.pgnReg hg (by decide)
  refine ⟨_, exec_pgnStop hg hpage hon, ?_, ?_, ?_, fun hnone => ?_⟩
  · rw [State.finish_pgState, State.pgState_congr _ _ hstat, hstate]
  · rw [State.finish_flag, State.flag_congr (f := F.PGN_STAT_QUEUED) hstat, hqueue]
  · rw [State.finish_pgn, State.pgn_congr _ _ hbeside.pgns, hheld]
  · rw [State.pgnStop_noFrames hnone]
    exact ⟨s.pgStop_moves.regs, s.pgStop_moves.lmem⟩

/-! ### PRESET (R199) -/

theorem State.pgnPreset_rest (hidle : s.pgState g = pgIdle) (hnone : s.isTransport g = false ∨ s.flight = []) :
    pgnPreset g s =
      (s.setPgn g { s.pgn g with rem := 0 }).setPgPosQ g (signed (s.pair64 F.PGN_TGT_LO g) 64 * 65536) := by
  refine if_neg ?_
  rcases hnone with h | h <;> simp [hidle, h]

theorem exec_pgnPreset_rest (hg : g < 32) (hpage : s.openPage B.PGN g) (hon : s.domOn .ctl = true)
    (hidle : s.pgState g = pgIdle) (hnone : s.isTransport g = false ∨ s.flight = []) :
    ∃ t, exec (.pgnPreset g) s = .next t ∧
      t.pair64 F.PGN_POS_LO g = unsign (signed (s.pair64 F.PGN_TGT_LO g) 64 * 65536) 64 ∧ (t.pgn g).rem = 0 ∧
      s.regsBut t [F.PGN_POS_LO.addr g, F.PGN_POS_HI.addr g] ∧ t.lmem = s.lmem := by
  have hpreset := State.pgnPreset_rest hidle hnone
  have hmoves : s.pgMoves (· ∈ [F.PGN_POS_LO.addr g, F.PGN_POS_HI.addr g]) (pgnPreset g s) := by
    rw [hpreset]
    exact (State.pgMoves.refl _ s).setPgn.setPgPosQ (.head _) (.tail _ (.head _))
  refine ⟨_, exec_pgnPreset hg hpage hon, ?_, ?_, hmoves.regs, hmoves.lmem⟩
  · rw [hpreset, State.finish_pair64, State.pair64_setPgPosQ]
  · rw [hpreset, State.finish_pgn, State.pgn_setPgPosQ, State.pgn_setPgn_same]

theorem exec_pgnPreset_moving (hg : g < 32) (hpage : s.openPage B.PGN g) (hon : s.domOn .ctl = true)
    (hmoving : s.pgState g ≠ pgIdle ∨ (s.isTransport g = true ∧ s.flight ≠ [])) :
    ∃ t, exec (.pgnPreset g) s = .next t ∧
      t.raised B.PGN g 2 = true ∧ s.regsBut t [evtAddr B.PGN g] ∧ s.onlyRegs t := by
  have hpreset : pgnPreset g s = s.event B.PGN g 2 := by
    unfold pgnPreset
    exact if_pos (by simpa using hmoving)
  refine ⟨_, exec_pgnPreset hg hpage hon, ?_⟩
  rw [hpreset]
  exact ⟨State.event_bit _ _ _ _ (by decide), State.regsBut_event _ _ _ _, (State.movesRegs_event _ _ _ _).onlyRegs⟩

/-! ### PGN_VTGT (R199, R200) -/

/-- PGN_VTGT takes the velocity; where that is against the motion, LIMITED is raised. -/
theorem State.writeVtgt_cases (v : Word) : ∃ x : Pgn, s.writeVtgt g v =
    if s.pgVelMode g = true ∧ signed v.toNat 32 * (s.pgn g).vel < 0 then
      ((s.setReg (F.PGN_VTGT.addr g) v).setPgn g x).event B.PGN g 1
    else (s.setReg (F.PGN_VTGT.addr g) v).setPgn g x := by
  have hmode : ∀ x, ((s.setReg (F.PGN_VTGT.addr g) v).setPgn g x).pgVelMode g = s.pgVelMode g := fun x =>
    congrArg (· == 1) (State.fld_congr (s := s) (f := F.PGN_CFG_MODE)
      (State.reg_setReg_ne _ _ _ _ (regAddr_ne g (by decide))))
  refine ⟨{ s.pgn g with held := (s.pgn g).held && !s.pageEn B.PGN g, classV := none }, ?_⟩
  unfold State.writeVtgt
  dsimp only
  rw [hmode, State.pgn_setPgn_same]
  exact if_congr (and_congr_right fun _ => by rw [mul_neg_iff, or_comm, and_comm (a := _ < (0 : Int))]) rfl rfl

theorem exec_pgnVtgtWrite_takes (hg : g < 32) (v : Word) (hpage : s.openPage B.PGN g) (hon : s.domOn .ctl = true) :
    ∃ t, exec (.pgnVtgtWrite g v) s = .next t ∧ t.reg (F.PGN_VTGT.addr g) = v ∧
      (s.pgVelMode g = true → signed v.toNat 32 * (s.pgn g).vel < 0 → t.raised B.PGN g 1 = true) ∧
      s.regsBut t [F.PGN_VTGT.addr g, evtAddr B.PGN g] ∧ t.lmem = s.lmem := by
  obtain ⟨x, hcases⟩ := s.writeVtgt_cases (g := g) v
  have htaken := ((State.pgMoves.refl (· ∈ [F.PGN_VTGT.addr g, evtAddr B.PGN g]) s).setReg (w := v) (.head _)).setPgn
    (g := g) (x := x)
  have hreg : ((s.setReg (F.PGN_VTGT.addr g) v).setPgn g x).reg (F.PGN_VTGT.addr g) = v := State.reg_setReg_same _ _ _
  refine ⟨_, exec_pgnVtgtWrite hg v hpage hon, ?_⟩
  rw [State.finish_reg, State.finish_raised, hcases]
  split
  · have hlimited := htaken.event (blk := B.PGN) (i := g) (n := 1) (.tail _ (.head _))
    exact ⟨(State.reg_event_ne _ _ _ _ _ (regAddr_ne g (by decide))).trans hreg,
      fun _ _ => State.event_bit _ _ _ _ (by decide), hlimited.regs, hlimited.lmem⟩
  · next hwith => exact ⟨hreg, fun hmode hagainst => absurd ⟨hmode, hagainst⟩ hwith, htaken.regs, htaken.lmem⟩

/-! ### Capture (R197, R212) -/

theorem pgnCapture_selected {ago : Nat} {rising : Bool} (hen : s.flag F.PGN_CAP_CFG_EN g = true)
    (hedge : 2 ≤ s.fld F.PGN_CAP_CFG_EDGE g ∨ s.fld F.PGN_CAP_CFG_EDGE g = (if rising = true then 0 else 1)) :
    pgnCapture g rising ago s = (s.setPair64 F.PGN_CAP_LO g (unsign ((if s.flag F.PGN_CAP_CFG_WHAT g = true then
      (s.posAt (-(ago : Int))).getD 0 else s.pgPosAgo g ago) / 65536) 64)).event B.PGN g 3 := by
  refine if_pos ⟨hen, ?_⟩
  cases rising <;> simpa using hedge

theorem exec_pgnCapture_latches {ago : Nat} {rising : Bool} (hg : g < 32) (hon : s.domOn .ctl = true)
    (hen : s.flag F.PGN_CAP_CFG_EN g = true)
    (hedge : 2 ≤ s.fld F.PGN_CAP_CFG_EDGE g ∨ s.fld F.PGN_CAP_CFG_EDGE g = (if rising = true then 0 else 1)) :
    ∃ t, exec (.pgnCapture g rising ago) s = .next t ∧ t.raised B.PGN g 3 = true ∧
      t.pair64 F.PGN_CAP_LO g = unsign ((if s.flag F.PGN_CAP_CFG_WHAT g = true then (s.posAt (-(ago : Int))).getD 0
        else s.pgPosAgo g ago) / 65536) 64 ∧
      s.regsBut t [F.PGN_CAP_LO.addr g, F.PGN_CAP_HI.addr g, evtAddr B.PGN g] ∧ s.onlyRegs t := by
  have hcapture := pgnCapture_selected (ago := ago) hen hedge
  generalize (if s.flag F.PGN_CAP_CFG_WHAT g = true then (s.posAt (-(ago : Int))).getD 0 else s.pgPosAgo g ago) / 65536 = x
    at hcapture ⊢
  have hregs : s.movesRegs (pgnCapture g rising ago s) := by
    rw [hcapture]
    exact (State.movesRegs_setPair64 _ _ _ _).trans (State.movesRegs_event _ _ _ _)
  have hmoves : s.pgMoves (· ∈ [F.PGN_CAP_LO.addr g, F.PGN_CAP_HI.addr g, evtAddr B.PGN g])
      (pgnCapture g rising ago s) := by
    rw [hcapture]
    exact ((State.pgMoves.refl _ s).setPair64 (.head _) (.tail _ (.head _))).event (.tail _ (.tail _ (.head _)))
  refine ⟨_, next_finish (if_pos (State.pgOn_of_domOn hg hon)), ?_, ?_, hmoves.regs, hregs.onlyRegs⟩
  · rw [hcapture, State.finish_raised]
    exact State.event_bit _ _ _ _ (by decide)
  · rw [hcapture, State.finish_pair64, State.pair64_event_off _ _ _ (by decide) (by decide)]
    exact State.pair64_setPair64_same _ _ _ (unsign_lt _ _)

end

end Sys2Proof.Machine
end

section
/-! PROOFS. The ends of a generator's moves (R198, R199, R208). -/

namespace Sys2Proof.Machine

/-! ### Rest -/

section
variable (s : State) (g : Nat)

/-- The generator at rest, before a queued move starts. -/
def State.pgStill : State :=
  (((s.setPgn g { s.pgn g with vel := 0, acc := 0, seek := false }).setPgState g pgIdle).setReg (F.PGN_VEL.addr g) 0).setReg
    (F.PGN_ACC.addr g) 0

theorem State.pgStill_stat :
    (s.pgStill g).reg (F.PGN_STAT.addr g) = (s.setPgState g pgIdle).reg (F.PGN_STAT.addr g) :=
  (State.reg_setReg_ne _ _ _ _ (regAddr_ne g (by decide))).trans
    (State.reg_setReg_ne _ _ _ _ (regAddr_ne g (by decide)))

theorem State.pgStill_state : (s.pgStill g).pgState g = pgIdle :=
  (State.pgState_congr _ _ (s.pgStill_stat g)).trans (State.pgState_setPgState _ _ (by decide))

theorem State.pgStill_flag {f : Field} (haddr : f.addr g = F.PGN_STAT.addr g) (hf : 4 ≤ f.lo) :
    (s.pgStill g).flag f g = s.flag f g := by
  rw [State.flag_congr (s := s.setPgState g pgIdle) (by rw [haddr, s.pgStill_stat]), State.flag_setPgState _ _ _ hf]

theorem State.pgStill_pgn : (s.pgStill g).pgn g = { s.pgn g with vel := 0, acc := 0, seek := false } :=
  (State.pgn_congr _ _ rfl).trans (s.pgn_setPgn_same g _)

/-- At rest a queued move starts (R199). -/
theorem State.pgRest_eq : s.pgRest g = if s.flag F.PGN_STAT_QUEUED g = true then
    ((s.pgStill g).setFlag F.PGN_STAT_QUEUED g false).pgStart g (s.pgn g).queued else s.pgStill g := by
  have hqueue : (s.pgStill g).flag F.PGN_STAT_QUEUED g = s.flag F.PGN_STAT_QUEUED g :=
    s.pgStill_flag g rfl (by decide)
  have hqueued : ((s.pgStill g).pgn g).queued = (s.pgn g).queued := by rw [s.pgStill_pgn]
  rw [← hqueue, ← hqueued]
  rfl

/-- What a generator shows as it comes to rest in `t`. -/
structure State.rested (t : State) : Prop where
  state : t.pgState g = if s.flag F.PGN_STAT_QUEUED g = true then pgRamp else pgIdle
  queue : t.flag F.PGN_STAT_QUEUED g = false
  target : s.flag F.PGN_STAT_QUEUED g = true → (t.pgn g).target = (s.pgn g).queued
  vel : t.reg (F.PGN_VEL.addr g) = 0
  acc : t.reg (F.PGN_ACC.addr g) = 0
  overshoot : t.flag F.PGN_STAT_OVERSHOOT g = s.flag F.PGN_STAT_OVERSHOOT g
  moves : s.pgMoves (· ∈ [F.PGN_STAT.addr g, F.PGN_VEL.addr g, F.PGN_ACC.addr g]) t

theorem State.rested.onPage {s t : State} {g : Nat} (h : s.rested g t) (hg : g < 32) : s.pgMoves (blkOf · = B.PGN) t :=
  h.moves.onPage fun a ha => by
    simp only [List.mem_cons, List.not_mem_nil, or_false] at ha
    rcases ha with rfl | rfl | rfl <;> exact blkOf_pgn hg (by decide)

/-- The position and the events of a generator at rest stay. -/
theorem State.rested.page {s t : State} {g : Nat} (h : s.rested g t) :
    t.pair64 F.PGN_POS_LO g = s.pair64 F.PGN_POS_LO g ∧ ∀ n, t.raised B.PGN g n = s.raised B.PGN g n :=
  ⟨State.pair64_congr _ _ fun off ho => h.moves.regs _ (by rcases ho with rfl | rfl <;> simp [Field.addr, regAddr]),
    fun _ => State.raised_congr (h.moves.regs _ (by simp [Field.addr, evtAddr, regAddr, B.PGN]))⟩

theorem State.pgRest_rested : s.rested g (s.pgRest g) := by
  have hvel : (s.pgStill g).reg (F.PGN_VEL.addr g) = 0 :=
    (State.reg_setReg_ne _ _ _ _ (regAddr_ne g (by decide))).trans (State.reg_setReg_same _ _ _)
  have hacc : (s.pgStill g).reg (F.PGN_ACC.addr g) = 0 := State.reg_setReg_same _ _ _
  have hqueue := s.pgStill_flag (f := F.PGN_STAT_QUEUED) g rfl (by decide)
  have hover := s.pgStill_flag (f := F.PGN_STAT_OVERSHOOT) g rfl (by decide)
  have hstill : s.pgMoves (· ∈ [F.PGN_STAT.addr g, F.PGN_VEL.addr g, F.PGN_ACC.addr g]) (s.pgStill g) :=
    (((State.pgMoves.refl _ s).setPgn.setPgState (.head _)).setReg (.tail _ (.head _))).setReg (.tail _ (.tail _ (.head _)))
  rw [State.pgRest_eq]
  by_cases hqueued : s.flag F.PGN_STAT_QUEUED g = true
  · rw [if_pos hqueued]
    have hclear (f : Field) (hf : f.blk * 0x100000 + f.off ≠ B.PGN * 0x100000 + 0x074) :
        ((s.pgStill g).setFlag F.PGN_STAT_QUEUED g false).reg (f.addr g) = (s.pgStill g).reg (f.addr g) :=
      State.reg_setFlag_ne _ F.PGN_STAT_QUEUED _ _ _ (regAddr_ne g hf)
    have hcleared : ((s.pgStill g).setFlag F.PGN_STAT_QUEUED g false).flag F.PGN_STAT_QUEUED g = false :=
      State.flag_setFlag_same _ _ _ _ rfl (by decide)
    have hkept : ((s.pgStill g).setFlag F.PGN_STAT_QUEUED g false).flag F.PGN_STAT_OVERSHOOT g =
        (s.pgStill g).flag F.PGN_STAT_OVERSHOOT g := State.flag_setFlag_ne _ _ _ _ _ _ (by decide) (.inr (by decide))
    have hmoved := hstill.setFlag (f := F.PGN_STAT_QUEUED) (b := false) (.head _)
    generalize (s.pgStill g).setFlag F.PGN_STAT_QUEUED g false = u at hclear hcleared hkept hmoved ⊢
    exact
      { state := (u.pgStart_state g _).trans (if_pos hqueued).symm
        queue := (u.pgStart_flag g _ (by decide)).trans hcleared
        target := fun _ => congrArg Pgn.target (u.pgStart_pgn g _)
        vel := ((u.pgStart_reg g _ (by decide)).trans (hclear F.PGN_VEL (by decide))).trans hvel
        acc := ((u.pgStart_reg g _ (by decide)).trans (hclear F.PGN_ACC (by decide))).trans hacc
        overshoot := ((u.pgStart_flag g _ (by decide)).trans hkept).trans hover
        moves := hmoved.pgStart (.head _) }
  · rw [if_neg hqueued]
    exact
      { state := (s.pgStill_state g).trans (if_neg hqueued).symm
        queue := hqueue.trans (Bool.eq_false_of_not_eq_true hqueued)
        target := fun h => absurd h hqueued
        vel := hvel
        acc := hacc
        overshoot := hover
        moves := hstill }

end

/-! ### The steppers stand (R181) -/

/-- What a step of a loop makes hold for its number, and every other step keeps, holds of all of them after the loop. -/
theorem forAll_shows {σ : Type} {f : σ → Nat → σ} (I : σ → Prop) (Q : Nat → σ → Prop) (hI : ∀ t x, I t → I (f t x))
    (hmakes : ∀ t x, I t → Q x (f t x)) (hkeeps : ∀ t x y, I t → Q x t → Q x (f t y)) (xs : List Nat) {s : σ} (hs : I s) :
    ∀ x ∈ xs, Q x (forAll xs s f) := by
  induction xs generalizing s with
  | nil => nofun
  | cons y ys ih =>
    intro x hx
    rcases List.mem_cons.mp hx with rfl | hx
    · exact (forAll_keeps (xs := ys) (fun t => I t ∧ Q x t) (fun t z _ ht => ⟨hI t z ht.1, hkeeps t x z ht.1 ht.2⟩)
        ⟨hI s x hs, hmakes s x hs⟩).2
    · exact ih (hI s y hs) x hx

section
variable (s : State) (g m : Nat)

/-- Steppers that stand as the generator comes to rest: those that follow it and do not home. -/
def State.standing : List Nat := (s.steppersOf g).filter fun m => s.fld F.STP_STAT_STATE m != 3

/-- A stepper stands: it is released in IDLE, and holds at IHOLD in SAFEHOLD. -/
def State.stepperStands : State :=
  if s.sys.mode = .idle then (s.setFld F.STP_STAT_STATE m 0).setFlag F.STP_STAT_HOMED m false
  else
    let s := s.setFld F.STP_STAT_STATE m 1
    if s.sys.mode = .safehold ∨ (s.sys.trans.any fun t => t.target == .safehold) then s.setFlag F.STP_STAT_STILL m true else s

theorem State.pgStands_eq : s.pgStands g =
    forAll ((if s.isTransport g ∧ s.pgState g = pgIdle then s.transportStops cMotor else s).standing g)
      (if s.isTransport g ∧ s.pgState g = pgIdle then s.transportStops cMotor else s) State.stepperStands := rfl

variable {s g m}

theorem State.mem_steppersOf : m ∈ s.steppersOf g ↔
    m < 16 ∧ s.fld F.STP_CFG_PG m = g ∧ 1 ≤ s.stState m ∧ s.stState m ≤ 3 := by
  simp [State.steppersOf, State.stState]

theorem State.mem_standing : m ∈ s.standing g ↔ m ∈ s.steppersOf g ∧ s.stState m ≠ stHoming := by
  simp [State.standing, State.stState, stHoming]

theorem State.mem_homers : m ∈ s.homers g ↔ m < 16 ∧ s.fld F.STP_CFG_PG m = g ∧ s.stState m = stHoming := by
  simp [State.homers, State.stState, stHoming]

/-- Which steppers follow a generator, and which of them home, the steppers' registers say. -/
theorem State.steppers_congr {t : State} (h : ∀ m off, m < 16 → off < 4096 →
    t.reg (regAddr B.STP m off) = s.reg (regAddr B.STP m off)) :
    t.steppersOf g = s.steppersOf g ∧ t.standing g = s.standing g ∧ t.homers g = s.homers g := by
  have hcfg (m : Nat) (hm : m < 16) : t.fld F.STP_CFG_PG m = s.fld F.STP_CFG_PG m :=
    State.fld_congr (h m 0x044 hm (by decide))
  have hstat (m : Nat) (hm : m < 16) : t.fld F.STP_STAT_STATE m = s.fld F.STP_STAT_STATE m :=
    State.fld_congr (h m 0x068 hm (by decide))
  have hof : t.steppersOf g = s.steppersOf g := List.filter_congr fun m hm => by
    rw [hcfg m (List.mem_range.mp hm), hstat m (List.mem_range.mp hm)]
  refine ⟨hof, ?_, List.filter_congr fun m hm => by rw [hcfg m (List.mem_range.mp hm), hstat m (List.mem_range.mp hm)]⟩
  unfold State.standing
  rw [hof]
  exact List.filter_congr fun m hm => by rw [hstat m (State.mem_steppersOf.mp hm).1]

theorem State.stepperStands_moves : s.pgMoves (· = F.STP_STAT.addr m) (s.stepperStands m) := by
  have hset (v : Nat) := (State.pgMoves.refl (· = F.STP_STAT.addr m) s).setFld (f := F.STP_STAT_STATE) (v := v) rfl
  exact ((hset 0).setFlag (f := F.STP_STAT_HOMED) rfl).ite (((hset 1).setFlag (f := F.STP_STAT_STILL) rfl).ite (hset 1))

theorem State.stepperStands_idle (h : s.sys.mode = .idle) : (s.stepperStands m).stState m = stOff := by
  unfold State.stepperStands
  rw [if_pos h]
  exact (State.fld_setFld_bits _ F.STP_STAT_HOMED F.STP_STAT_STATE _ _ _ (by decide) (.inl (by decide))).trans
    (State.fld_setFld_same _ _ _ _ (by decide))

/-- The frames aside, which end only with the transport, no register moves but STP_STAT of the steppers that stand. -/
theorem State.pgStands_shape : ∃ u, s.besideFrames u ∧ u.sys.mode = s.sys.mode ∧
    (s.isTransport g = false ∨ s.pgState g ≠ pgIdle → u = s) ∧ s.pgStands g = forAll (s.standing g) u State.stepperStands := by
  have hrefl := State.besideFrames.refl s
  have hbeside : s.besideFrames (if s.isTransport g ∧ s.pgState g = pgIdle then s.transportStops cMotor else s) :=
    hrefl.transportStops.ite hrefl
  have hlist : (if s.isTransport g ∧ s.pgState g = pgIdle then s.transportStops cMotor else s).standing g = s.standing g :=
    (State.steppers_congr fun m off hm ho =>
      hbeside.regs _ (blkOf_page_notMem (by decide) (by decide) (by omega) ho)).2.1
  refine ⟨_, hbeside, ?_, fun h => if_neg ?_, ?_⟩
  · have hclock := State.keepsClock.refl s
    exact (hclock.transportStops.ite hclock).1
  · rcases h with h | h <;> simp [h]
  · rw [State.pgStands_eq, hlist]

theorem State.stands_moves (u : State) : u.pgMoves (fun a => ∃ m ∈ s.standing g, a = F.STP_STAT.addr m)
    (forAll (s.standing g) u State.stepperStands) :=
  (State.pgMoves.refl _ u).forAll fun t m hm ht => ht.trans (t.stepperStands_moves.mono fun _ ha => ⟨m, hm, ha⟩)

/-- `t` is `u` with the steppers of a generator standing: the generator reads as before, and where the transport does not
stop with it, STP_STAT of those steppers is all that moves. -/
structure State.standsAs (u t : State) (g : Nat) : Prop where
  page : ∀ off, off < 4096 → t.reg (regAddr B.PGN g off) = u.reg (regAddr B.PGN g off)
  pgn : t.pgn g = u.pgn g
  moves : u.isTransport g = false ∨ u.pgState g ≠ pgIdle →
    u.pgMoves (fun a => ∃ m ∈ u.standing g, a = F.STP_STAT.addr m) t

namespace State.standsAs

variable {u t : State} (h : u.standsAs t g)
include h

theorem pgState : t.pgState g = u.pgState g := State.pgState_congr _ _ (h.page 0x074 (by decide))
theorem flag {f : Field} (hf : f.addr g = F.PGN_STAT.addr g) : t.flag f g = u.flag f g :=
  State.flag_congr (by rw [hf]; exact h.page 0x074 (by decide))
theorem pair64 : t.pair64 F.PGN_POS_LO g = u.pair64 F.PGN_POS_LO g :=
  State.pair64_congr _ _ fun off ho => h.page off (by rcases ho with rfl | rfl <;> decide)
theorem raised {n : Nat} : t.raised B.PGN g n = u.raised B.PGN g n := State.raised_congr (h.page 0x010 (by decide))
theorem vel : t.reg (F.PGN_VEL.addr g) = u.reg (F.PGN_VEL.addr g) := h.page 0x06C (by decide)
theorem acc : t.reg (F.PGN_ACC.addr g) = u.reg (F.PGN_ACC.addr g) := h.page 0x070 (by decide)

theorem onPages (hnone : u.isTransport g = false ∨ u.pgState g ≠ pgIdle) :
    u.pgMoves (fun a => blkOf a ∈ [B.PGN, B.STP]) t :=
  (h.moves hnone).mono fun a ⟨m, hm, ha⟩ => by
    have hlt := (State.mem_steppersOf.mp (State.mem_standing.mp hm).1).1
    have hblk : blkOf a = B.STP := by rw [ha]; exact blkOf_regAddr _ _ _ (by decide) (by omega) (by decide)
    simp [hblk]

/-- A stepper that homes does not stand. -/
theorem homing (hnone : u.isTransport g = false ∨ u.pgState g ≠ pgIdle) {m : Nat} (hm : u.stState m = stHoming) :
    t.reg (F.STP_STAT.addr m) = u.reg (F.STP_STAT.addr m) :=
  (h.moves hnone).regs _ fun ⟨k, hk, e⟩ => by
    obtain rfl : m = k := by simp only [Field.addr, regAddr] at e; omega
    exact (State.mem_standing.mp hk).2 hm

end State.standsAs

theorem State.pgStands_standsAs (hg : g < 32) (u : State) : u.standsAs (u.pgStands g) g := by
  obtain ⟨v, hbeside, -, hsame, hstands⟩ := u.pgStands_shape (g := g)
  have hmoves := u.stands_moves v (g := g)
  have hpgns : (forAll (u.standing g) v State.stepperStands).pgns = v.pgns :=
    forAll_keeps (fun t : State => t.pgns = v.pgns) (fun t m _ ht => by
      unfold State.stepperStands
      dsimp only
      split_ifs <;> simpa using ht) rfl
  rw [hstands]
  refine ⟨fun off ho => (hmoves.regs _ ?_).trans (hbeside.pgnReg hg ho),
    State.pgn_congr _ _ (hpgns.trans hbeside.pgns), fun hnone => ?_⟩
  · rintro ⟨m, hm, hpage⟩
    have hlt := (State.mem_steppersOf.mp (State.mem_standing.mp hm).1).1
    exact absurd (regAddr_inj (by omega) ho (by omega) (by decide) hpage).1 (by decide)
  · obtain rfl := hsame hnone
    exact hmoves

/-- In IDLE the steppers that stand release. -/
theorem State.pgStands_releases (hidle : s.sys.mode = .idle) (hm : m ∈ s.standing g) :
    (s.pgStands g).stState m = stOff := by
  obtain ⟨v, -, hmode, -, hstands⟩ := s.pgStands_shape (g := g)
  rw [hstands]
  refine forAll_shows (fun t : State => t.sys.mode = .idle) (fun m t => t.stState m = stOff)
    (fun t m ht => (congrArg Sys.mode t.stepperStands_moves.sys).trans ht) (fun t m ht => t.stepperStands_idle ht)
    (fun t m k ht hoff => ?_) _ (hmode.trans hidle) m hm
  by_cases hk : k = m
  · rw [hk]
    exact t.stepperStands_idle ht
  · refine (State.fld_congr (t.stepperStands_moves.regs _ fun e => hk ?_)).trans hoff
    simp only [Field.addr, regAddr] at e
    omega

/-! ### A motion ends -/

/-- The generator at rest, where a phase of homing may go on to the next. -/
def State.pgHomed (s : State) (g : Nat) : State := forAll (s.homers g) (s.pgRest g) fun s m => s.homeNext m g

theorem State.pgHomed_none (h : s.homers g = []) : s.pgHomed g = s.pgRest g := by
  unfold State.pgHomed
  rw [h]
  rfl

theorem State.pgHomed_one (h : s.homers g = [m]) : s.pgHomed g = (s.pgRest g).homeNext m g := by
  unfold State.pgHomed
  rw [h]
  rfl

theorem State.pgEnd_standsAs (hg : g < 32) : (s.pgHomed g).standsAs (s.pgEnd g) g := by
  unfold State.pgEnd
  dsimp only
  split
  · exact ⟨fun _ _ => rfl, rfl, fun _ => State.pgMoves.refl _ _⟩
  · exact State.pgStands_standsAs hg _

theorem State.pgEnd_moving (h : (s.pgn g).vel ≠ 0) : s.pgEnd g = (s.pgHomed g).pgStands g := if_neg fun hc => h hc.1

end

/-! ### PGN_MOVE_DONE (R198) -/

section
variable (s : State) (g : Nat)

/-- The generator exactly at its target, with DONE, as its motion ends. -/
def State.pgLanded : State :=
  (((s.setPgPosQ g ((s.pgn g).target * 65536)).setPgn g { s.pgn g with rem := 0 }).setFlag F.PGN_STAT_OVERSHOOT g
    false).event B.PGN g 0

theorem State.pgDone_eq : s.pgDone g = (s.pgLanded g).pgEnd g := by
  unfold State.pgDone State.pgLanded
  rfl

/-- What a generator shows as it lands. -/
structure State.landed (t : State) : Prop where
  pos : t.pair64 F.PGN_POS_LO g = unsign ((s.pgn g).target * 65536) 64
  done : t.raised B.PGN g 0 = true
  overshoot : t.flag F.PGN_STAT_OVERSHOOT g = false
  queue : t.flag F.PGN_STAT_QUEUED g = s.flag F.PGN_STAT_QUEUED g
  pgn : t.pgn g = { s.pgn g with rem := 0 }
  moves : s.pgMoves (· ∈ [F.PGN_POS_LO.addr g, F.PGN_POS_HI.addr g, F.PGN_STAT.addr g, evtAddr B.PGN g]) t

theorem State.landed.onPage {s t : State} {g : Nat} (h : s.landed g t) (hg : g < 32) : s.pgMoves (blkOf · = B.PGN) t :=
  h.moves.onPage fun a ha => by
    simp only [List.mem_cons, List.not_mem_nil, or_false] at ha
    rcases ha with rfl | rfl | rfl | rfl <;> exact blkOf_pgn hg (by decide)

theorem State.pgLanded_landed : s.landed g (s.pgLanded g) := by
  have hpos := s.pair64_setPgPosQ g ((s.pgn g).target * 65536)
  have hmoves : s.pgMoves (· ∈ [F.PGN_POS_LO.addr g, F.PGN_POS_HI.addr g]) (s.setPgPosQ g ((s.pgn g).target * 65536)) :=
    (State.pgMoves.refl _ s).setPgPosQ (.head _) (.tail _ (.head _))
  have hqueue : (s.setPgPosQ g ((s.pgn g).target * 65536)).flag F.PGN_STAT_QUEUED g = s.flag F.PGN_STAT_QUEUED g :=
    State.flag_congr (f := F.PGN_STAT_QUEUED) (hmoves.regs _ (by simp [Field.addr, regAddr]))
  unfold State.pgLanded
  generalize s.setPgPosQ g ((s.pgn g).target * 65536) = u at *
  have hstat {f : Field} (hf : f.addr g = F.PGN_STAT.addr g) (v : State) :
      (v.event B.PGN g 0).flag f g = v.flag f g :=
    State.flag_congr (State.reg_event_ne _ _ _ _ _ (by rw [hf]; exact regAddr_ne g (by decide)))
  exact
    { pos := (State.pair64_event_off _ _ _ (by decide) (by decide)).trans
        ((State.pair64_setFlag_off _ _ _ (by decide) (by decide)).trans hpos)
      done := State.event_bit _ _ _ _ (by decide)
      overshoot := (hstat (f := F.PGN_STAT_OVERSHOOT) rfl _).trans (State.flag_setFlag_same _ _ _ _ rfl (by decide))
      queue := ((hstat (f := F.PGN_STAT_QUEUED) rfl _).trans
        (State.flag_setFlag_ne _ _ _ _ _ _ (by decide) (.inr (by decide)))).trans hqueue
      pgn := u.pgn_setPgn_same g _
      moves := ((hmoves.mono fun _ ha => by
        rcases List.mem_pair.mp ha with rfl | rfl <;> simp).setPgn.setFlag (.tail _ (.tail _ (.head _)))).event
          (.tail _ (.tail _ (.tail _ (.head _)))) }

end

/-- After the back-off homing goes on to the creep (R208). -/
structure State.creeps (s t : State) (m g : Nat) : Prop where
  state : t.pgState g = pgRamp
  drive : (t.pgn g).drive = some (s.homeDir m * 16 * s.fld F.STP_HOME_CREEP m)
  step : t.fld F.STP_STAT_HSTEP m = 4
  homing : t.stState m = s.stState m
  pos : t.pair64 F.PGN_POS_LO g = s.pair64 F.PGN_POS_LO g
  moves : s.pgMoves (· ∈ [F.STP_STAT.addr m, F.PGN_STAT.addr g]) t

theorem State.homeNext_creeps {s : State} {m g : Nat} (hm : m < 16) (hstep : s.fld F.STP_STAT_HSTEP m = 3) :
    s.creeps (s.homeNext m g) m g := by
  have hne {off : Nat} (h : off < 4096) (h' : off ≠ 0x074) : regAddr B.STP m off ≠ F.PGN_STAT_STATE.addr g := by
    simp only [Field.addr, regAddr]; omega
  have hother {f : Field} (hblk : f.blk = B.STP) (ho : f.off < 4096) (ho' : f.off ≠ 0x074) (u : State) :
      (u.setPgState g pgRamp).fld f m = u.fld f m :=
    State.fld_setFld_addr _ F.PGN_STAT_STATE _ _ _ _ (by unfold Field.addr; rw [hblk]; exact hne ho ho')
  have hcreep := (hother (f := F.STP_HOME_CREEP) rfl (by decide) (by decide) (s.setFld F.STP_STAT_HSTEP m 4)).trans
    (State.fld_setFld_off _ _ _ (by decide))
  have hmoves : s.pgMoves (· ∈ [F.STP_STAT.addr m, F.PGN_STAT.addr g])
      ((s.setFld F.STP_STAT_HSTEP m 4).setPgState g pgRamp) :=
    ((State.pgMoves.refl _ s).setFld (.head _)).setPgState (.tail _ (.head _))
  have hshape : s.homeNext m g = ((s.setFld F.STP_STAT_HSTEP m 4).setPgState g pgRamp).setPgn g { s.pgn g with
      drive := some (s.homeDir m * 16 * s.fld F.STP_HOME_CREEP m) } := by
    unfold State.homeNext
    rw [hstep, ← hcreep]
    rfl
  rw [hshape]
  exact
    { state := (State.setPgn_pgState _ _ _ _).trans (State.pgState_setPgState _ _ (by decide))
      drive := congrArg Pgn.drive (State.pgn_setPgn_same _ _ _)
      step := ((State.setPgn_fld _ _ _ _ _).trans (hother rfl (by decide) (by decide) _)).trans
        (State.fld_setFld_same _ _ _ _ (by decide))
      homing := ((State.setPgn_fld _ _ _ _ _).trans (hother rfl (by decide) (by decide) _)).trans
        (State.fld_setFld_bits _ _ _ _ _ _ (by decide) (.inl (by decide)))
      pos := State.pair64_congr _ _ fun off ho => hmoves.regs _ (by
        rcases ho with rfl | rfl <;> simp only [List.mem_pair, Field.addr, regAddr] <;> omega)
      moves := hmoves.setPgn }

section
variable {s : State} {g : Nat} (hg : g < 32)
include hg

theorem exec_pgnMoveDone (hon : s.domOn .ctl = true) (hseeks : s.pgSeeks g = true) (hidle : s.pgState g ≠ pgIdle)
    (hstop : s.pgState g ≠ pgStopping) (hland : s.pgCanLand g = true) :
    exec (.pgnMoveDone g) s = .next (s.finish ((s.pgLanded g).pgEnd g)) := by
  have hdone : pgnMoveDone g s = s.pgDone g := by
    unfold pgnMoveDone
    exact if_neg (by simp [hseeks, hidle, hstop, hland])
  refine (next_finish (if_pos (State.pgOn_of_domOn hg hon))).trans ?_
  rw [hdone, State.pgDone_eq]

/-- A position move ends at its target, with DONE, and a queued one starts. -/
theorem exec_pgnMoveDone_ends (hon : s.domOn .ctl = true) (hseeks : s.pgSeeks g = true) (hidle : s.pgState g ≠ pgIdle)
    (hstop : s.pgState g ≠ pgStopping) (hland : s.pgCanLand g = true) (hhomers : s.homers g = []) :
    ∃ t, exec (.pgnMoveDone g) s = .next t ∧ t.pair64 F.PGN_POS_LO g = unsign ((s.pgn g).target * 65536) 64 ∧
      t.raised B.PGN g 0 = true ∧ t.flag F.PGN_STAT_OVERSHOOT g = false ∧ t.reg (F.PGN_VEL.addr g) = 0 ∧
      t.pgState g = (if s.flag F.PGN_STAT_QUEUED g = true then pgRamp else pgIdle) ∧
      (s.flag F.PGN_STAT_QUEUED g = true → (t.pgn g).target = (s.pgn g).queued) ∧
      t.flag F.PGN_STAT_QUEUED g = false ∧
      (s.isTransport g = false → s.regsOutside t [B.PGN, B.STP] ∧ t.lmem = s.lmem) := by
  have hexec := exec_pgnMoveDone hg hon hseeks hidle hstop hland
  have hlanded := s.pgLanded_landed g
  generalize s.pgLanded g = v at hexec hlanded
  have hv := hlanded.onPage hg
  have hnone : v.homers g = [] := (State.steppers_congr fun _ _ hm ho => hv.stpReg hm ho).2.2.trans hhomers
  have hrested := v.pgRest_rested g
  have hstands : (v.pgHomed g).standsAs (v.pgEnd g) g := State.pgEnd_standsAs hg
  rw [State.pgHomed_none hnone] at hstands
  generalize v.pgRest g = u at hrested hstands
  generalize v.pgEnd g = t at hexec hstands
  have hu := hrested.onPage hg
  obtain ⟨hpos, hevents⟩ := hrested.page
  refine ⟨_, hexec, hstands.pair64.trans (hpos.trans hlanded.pos), hstands.raised.trans ((hevents 0).trans hlanded.done),
    (hstands.flag (f := F.PGN_STAT_OVERSHOOT) rfl).trans (hrested.overshoot.trans hlanded.overshoot),
    hstands.vel.trans hrested.vel, ?_, fun hqueued => ?_, (hstands.flag (f := F.PGN_STAT_QUEUED) rfl).trans hrested.queue,
    fun htransport => ?_⟩
  · rw [State.finish_pgState, hstands.pgState, hrested.state, hlanded.queue]
  · rw [State.finish_pgn, hstands.pgn, hrested.target (hlanded.queue.trans hqueued), hlanded.pgn]
  · have hsource : u.isTransport g = false :=
      (hu.isTransport (by decide)).trans ((hv.isTransport (by decide)).trans htransport)
    have hall := ((hv.trans hu).mono fun _ ha => by simp [ha]).trans (hstands.onPages (.inl hsource))
    exact ⟨hall.regs, hall.lmem⟩

/-- Homing's back-off ends at its target, and the stepper creeps on. -/
theorem exec_pgnMoveDone_homing {m : Nat} (hon : s.domOn .ctl = true) (hseeks : s.pgSeeks g = true)
    (hidle : s.pgState g ≠ pgIdle) (hstop : s.pgState g ≠ pgStopping) (hland : s.pgCanLand g = true)
    (hhomers : s.homers g = [m]) (hstep : s.fld F.STP_STAT_HSTEP m = 3) :
    ∃ t, exec (.pgnMoveDone g) s = .next t ∧ t.pair64 F.PGN_POS_LO g = unsign ((s.pgn g).target * 65536) 64 ∧
      t.fld F.STP_STAT_HSTEP m = 4 ∧ t.stState m = stHoming ∧ t.pgState g = pgRamp ∧
      (t.pgn g).drive = some (s.homeDir m * 16 * s.fld F.STP_HOME_CREEP m) ∧
      s.regsOutside t [B.PGN, B.STP] ∧ t.lmem = s.lmem := by
  have hexec := exec_pgnMoveDone hg hon hseeks hidle hstop hland
  have hlanded := s.pgLanded_landed g
  generalize s.pgLanded g = v at hexec hlanded
  have hv := hlanded.onPage hg
  have hone : v.homers g = [m] := (State.steppers_congr fun _ _ hm ho => hv.stpReg hm ho).2.2.trans hhomers
  obtain ⟨hm, -, hhoming⟩ := State.mem_homers.mp (show m ∈ s.homers g by simp [hhomers])
  have hrested := v.pgRest_rested g
  have hstands : (v.pgHomed g).standsAs (v.pgEnd g) g := State.pgEnd_standsAs hg
  rw [State.pgHomed_one hone] at hstands
  generalize v.pgRest g = u at hrested hstands
  generalize v.pgEnd g = t at hexec hstands
  have hu := hv.trans (hrested.onPage hg)
  obtain ⟨hpos, -⟩ := hrested.page
  have hfld {f : Field} (hblk : f.blk = B.STP) (ho : f.off < 4096) : u.fld f m = s.fld f m :=
    State.fld_congr (by unfold Field.addr; rw [hblk]; exact hu.stpReg hm ho)
  have hcreeps := State.homeNext_creeps (g := g) hm ((hfld rfl (by decide)).trans hstep)
  generalize u.homeNext m g = w at hcreeps hstands
  have hhome : w.stState m = stHoming := hcreeps.homing.trans ((hfld rfl (by decide)).trans hhoming)
  have hramp : w.isTransport g = false ∨ w.pgState g ≠ pgIdle := .inr (by rw [hcreeps.state]; decide)
  have hstat := hstands.homing hramp hhome
  have hdir : u.homeDir m = s.homeDir m := by
    unfold State.homeDir State.homeSw
    rw [hfld rfl (by decide), State.flag, hfld rfl (by decide), State.flag]
  have hall : s.pgMoves (fun a => blkOf a ∈ [B.PGN, B.STP]) t := by
    refine ((hu.mono fun _ ha => by simp [ha]).trans (hcreeps.moves.mono fun a ha => ?_)).trans (hstands.onPages hramp)
    rcases List.mem_pair.mp ha with rfl | rfl
    · simp [Field.addr, blkOf_regAddr B.STP m 0x068 (by decide) (by omega) (by decide)]
    · simp [Field.addr, blkOf_pgn hg (off := 0x074) (by decide)]
  refine ⟨_, hexec, hstands.pair64.trans (hcreeps.pos.trans (hpos.trans hlanded.pos)),
    (State.fld_congr (f := F.STP_STAT_HSTEP) hstat).trans hcreeps.step,
    (State.fld_congr (f := F.STP_STAT_STATE) hstat).trans hhome, hstands.pgState.trans hcreeps.state, ?_,
    hall.regs, hall.lmem⟩
  rw [State.finish_pgn, hstands.pgn, hcreeps.drive, hdir, hfld rfl (by decide)]

/-! ### PGN_STOPPED (R181, R199) -/

/-- A generator that has decelerated stands, without DONE; in IDLE the steppers that moved with it release. -/
theorem exec_pgnStopped_stands (hon : s.domOn .ctl = true)
    (hstops : s.pgState g = pgStopping ∨ (s.pgn g).drive = some 0) (hrest : s.pgCanRest g = true)
    (hqueue : s.flag F.PGN_STAT_QUEUED g = false) (hhomers : s.homers g = []) :
    ∃ t, exec (.pgnStopped g) s = .next t ∧ t.pgState g = pgIdle ∧
      t.pair64 F.PGN_POS_LO g = s.pair64 F.PGN_POS_LO g ∧ t.reg (F.PGN_VEL.addr g) = 0 ∧ t.reg (F.PGN_ACC.addr g) = 0 ∧
      (s.sys.mode = .idle → (s.pgn g).vel ≠ 0 → (s.steppersOf g).all (fun m => t.stState m == stOff) = true) ∧
      (s.isTransport g = false → s.regsOutside t [B.PGN, B.STP] ∧ t.lmem = s.lmem) := by
  have hexec : exec (.pgnStopped g) s = .next (s.finish (s.pgEnd g)) :=
    next_finish ((if_pos (State.pgOn_of_domOn hg hon)).trans (if_pos ⟨hstops, hrest⟩))
  have hrested := s.pgRest_rested g
  have hstands : (s.pgHomed g).standsAs (s.pgEnd g) g := State.pgEnd_standsAs hg
  have hmoving := s.pgEnd_moving (g := g)
  rw [State.pgHomed_none hhomers] at hstands hmoving
  generalize s.pgRest g = u at hrested hstands hmoving
  generalize s.pgEnd g = t at hexec hstands hmoving
  have hu := hrested.onPage hg
  refine ⟨_, hexec, ?_, hstands.pair64.trans hrested.page.1, hstands.vel.trans hrested.vel, hstands.acc.trans hrested.acc,
    fun hidle hvel => List.all_eq_true.mpr fun m hm => beq_iff_eq.mpr ?_, fun htransport => ?_⟩
  · rw [State.finish_pgState, hstands.pgState, hrested.state, hqueue]
    rfl
  · obtain ⟨hlt, hfollows, -, -⟩ := State.mem_steppersOf.mp hm
    have hnothome : s.stState m ≠ stHoming := fun h => by
      simpa [hhomers] using State.mem_homers.mpr ⟨hlt, hfollows, h⟩
    have hstanding : m ∈ u.standing g := by
      rw [(State.steppers_congr fun _ _ hk ho => hu.stpReg hk ho).2.1]
      exact State.mem_standing.mpr ⟨hm, hnothome⟩
    rw [hmoving hvel]
    exact State.pgStands_releases ((congrArg Sys.mode hu.sys).trans hidle) hstanding
  · have hsource : u.isTransport g = false := (hu.isTransport (by decide)).trans htransport
    have hall := (hu.mono fun _ ha => by simp [ha]).trans (hstands.onPages (.inl hsource))
    exact ⟨hall.regs, hall.lmem⟩

end

/-- Settles O36: the commands by their branches; the ends of a move by what the generator shows at rest, and by which
registers the steppers that stand with it move. -/
theorem generators : Obligations.Generators := by
  unfold Obligations.Generators
  refine ⟨fun s g hg hpage hon hen hmoves hpos => exec_pgnGo_position hg hpage hon hen hmoves hpos,
    fun s g hg hpage hon hen hmoves hvel => exec_pgnGo_velocity hg hpage hon hen hmoves hvel,
    fun s g hg hpage hon => exec_pgnStop_stops hg hpage hon,
    fun s g hg hpage hon hidle hnone => exec_pgnPreset_rest hg hpage hon hidle hnone,
    fun s g hg hpage hon hmoving => exec_pgnPreset_moving hg hpage hon hmoving,
    fun s g v hg hpage hon => exec_pgnVtgtWrite_takes hg v hpage hon,
    fun s g hg hon hseeks hidle hstop hland hhomers => exec_pgnMoveDone_ends hg hon hseeks hidle hstop hland hhomers,
    fun s g m hg hon hseeks hidle hstop hland hhomers hstep =>
      exec_pgnMoveDone_homing hg hon hseeks hidle hstop hland hhomers hstep,
    fun s g hg hon hstops hrest hqueue hhomers => exec_pgnStopped_stands hg hon hstops hrest hqueue hhomers,
    fun s g ago rising hg hon hen hedge => exec_pgnCapture_latches hg hon hen hedge⟩

end Sys2Proof.Machine
end

section
/-! PROOFS. A statement that some state breaks: HOME of a stepper while a station holds the speed for a class that no frame
has (R201, R208). -/

namespace Sys2Proof.Machine

/-- READY with every domain on; stepper 0 stands idle on generator 0, the transport source, its lower switch assigned and
open; and station 0 holds the speed for a frame of class 0x43FFF2, whose facet period would lie at STP_STAT of stepper 0. No
run reaches it: the class of a descriptor is a byte. -/
def strayHoldClass : State :=
  { State.reset with
    sys := { State.reset.sys with mode := .ready, trans := none }
    regs := [(F.APR_XPORT_SRC.addr 0, 0), (F.FMT_HOLD_SPEED_HOLD.addr 0, 1), (F.STP_SW.addr 0, 0x80),
      (F.STP_STAT.addr 0, 0x401), (F.PGN_VMAX.addr 0, 0x7FFFFFFF), (F.PWR_DOM_STAT.addr 0x40, 0x0FC00FFF)]
    stns := [(0, { Stn.init with fmt := { Fmt.init with
      holdClass := (F.STP_STAT.addr 0 - F.APR_SC_PERIOD.addr 0) / 4 } })] }

/-- HOME of stepper 0 finds its switch open there. -/
theorem strayHoldClass_homes :
    strayHoldClass.openPage B.STP 0 ∧ strayHoldClass.domOn .ctl = true ∧ strayHoldClass.pageEn B.STP 0 = true ∧
      strayHoldClass.sys.mode.moves = true ∧ strayHoldClass.swEn 0 (strayHoldClass.homeSw 0) = true ∧
      strayHoldClass.stState 0 < stHoming ∧ strayHoldClass.swActive 0 (strayHoldClass.homeSw 0) = false := by
  decide +kernel

/-- Before HOME the class caps the generator at 48,000,000,000 / 1,025 lines/s; once STP_STAT shows the search the cap lies
above VMAX, at which the search then runs. -/
theorem strayHoldClass_drive :
    strayHoldClass.homeDir 0 * strayHoldClass.pgVmax (strayHoldClass.stPg 0) = -46829268 ∧
      ((stpHome 0 strayHoldClass).pgn (strayHoldClass.stPg 0)).drive = some (-2147483647) := by
  decide +kernel

/-- HOME arrives at a stepper that is there and enabled. -/
theorem exec_stpHome {s : State} {m : Nat} (hm : m < 16) (hpage : s.openPage B.STP m) (hon : s.domOn .ctl = true)
    (hen : s.pageEn B.STP m = true) : exec (.stpHome m) s = .next (s.finish (stpHome m s)) := by
  obtain ⟨hmode, hexists, hpageOn⟩ := hpage
  have hlock : rowLocked B.STP m F.STP_CTRL.off = false :=
    (by decide : ∀ m < 16, rowLocked B.STP m F.STP_CTRL.off = false) m hm
  have hcommand : s.stCommand m 2 (stpHome m) = stpHome m s := by
    unfold State.stCommand
    rw [if_neg (by simp [State.stOn, hm, hon]), if_pos hen]
  exact next_finish ((State.onPage_open _ _ _ _ _ hmode hexists hpageOn hlock).trans hcommand)

/-- Refutes O35, in its clause on a HOME that searches: the statement speaks of every state, and in one a station holds the
speed for a class whose facet period would lie outside the table of classes, at the stepper's own STP_STAT. HOME writes
STP_STAT before it takes the velocity limit of the search, so the limit is not the one that stood before the command. -/
theorem not_stepperChannels : ¬ Obligations.StepperChannels := by
  unfold Obligations.StepperChannels
  rintro ⟨-, -, hsearch, -⟩
  obtain ⟨hpage, hon, hen, hmoves, hassigned, hstate, hopen⟩ := strayHoldClass_homes
  obtain ⟨hlimit, htaken⟩ := strayHoldClass_drive
  obtain ⟨t, he, -, -, -, hdrive, -⟩ :=
    hsearch strayHoldClass 0 (by decide) hpage hon hen hmoves hassigned hstate hopen
  obtain rfl := Host.Outcome.next.inj ((exec_stpHome (by decide) hpage hon hen).symm.trans he)
  rw [State.finish_pgn, htaken, hlimit] at hdrive
  exact absurd hdrive (by decide)

end Sys2Proof.Machine
end
